-- ==== Sys2Proof/Word.lean ====
section
/-! DEFINITION. The plain types every other file uses: bytes, the four ports, and one value for each port. -/

namespace Sys2Proof

/-- One byte of a frame. -/
abbrev Byte := BitVec 8

/-- The ports are numbered 0 to 3 (00_scope section 6). -/
abbrev Port := Fin 4

/-- The four ports in ascending order. -/
def allPorts : List Port := [0, 1, 2, 3]

/-- One value for each of the four ports (blocks marked "per port" in 00_scope section 3). -/
structure Four (α : Type) where
  p0 : α
  p1 : α
  p2 : α
  p3 : α
  deriving DecidableEq, Repr

/-- The value of one port. -/
def Four.get {α : Type} (f : Four α) (p : Port) : α :=
  match p with
  | 0 => f.p0
  | 1 => f.p1
  | 2 => f.p2
  | 3 => f.p3

/-- The same value at every port but one. -/
def Four.set {α : Type} (f : Four α) (p : Port) (a : α) : Four α :=
  match p with
  | 0 => { f with p0 := a }
  | 1 => { f with p1 := a }
  | 2 => { f with p2 := a }
  | 3 => { f with p3 := a }

/-- One value at all four ports. -/
def Four.const {α : Type} (a : α) : Four α := ⟨a, a, a, a⟩

/-- Apply one function at all four ports. -/
def Four.map {α β : Type} (g : α → β) (f : Four α) : Four β := ⟨g f.p0, g f.p1, g f.p2, g f.p3⟩

end Sys2Proof
end

