-- ==== Sys2Proof/Syntax.lean ====
section
/-! DEFINITION. The commands of the part: one constructor for each row of spec/opcode_table.json, in the table's order.
A command is what happens to the part from outside or at one of its timers; the system-link commands (IDENTIFY to
RESTART) carry no operand of their own, because the frame they are taken from stands in the receive buffer (R172). -/

namespace Sys2Proof

/-- A talk-line frame as received, without its kind: the header's spare bits, the branch and length fields, the
payload bytes that arrived and the received check (R19, R194). The kind is the row's own, or stands beside it. `begins`
marks the row as the moment this frame begins on the line (R34), before its arrival (log entry 16). -/
structure RawFrame where
  spare : BitVec 2
  branch : BitVec 3
  length : BitVec 5
  payload : List Byte
  check : BitVec 16
  begins : Bool := false
  deriving DecidableEq, Repr

/-- The five part-only kinds (talk-line section 2.1), 0x09 to 0x0D. -/
inductive PartOnlyKind
  | probe
  | claim
  | release
  | supply
  | cut
  deriving DecidableEq, Repr

/-- The 68 rows of spec/opcode_table.json. -/
inductive Instr
  /-- POWER_ON_RESET (R187): RESETN goes low or the supply rises. -/
  | powerOnReset
  /-- RESET_END (R187): reset ends; the levels of STRAP7..0, of PRESENCE3..0 and of UHOLD at that moment. -/
  | resetEnd (straps : BitVec 8) (presence : BitVec 4) (uhold : Bool)
  /-- PRESENCE_RISE (R2) -/
  | presenceRise (p : Port)
  /-- PRESENCE_FALL (R3) -/
  | presenceFall (p : Port)
  /-- DEBOUNCE_RISE_EXPIRY (R2) -/
  | debounceRiseExpiry (p : Port)
  /-- SENSING_FALL_EXPIRY (R2) -/
  | sensingFallExpiry (p : Port)
  /-- DETACH (R17) -/
  | detach (p : Port)
  /-- PROBE_TIMER_EXPIRY (R5) -/
  | probeTimerExpiry (p : Port)
  /-- COOL_OFF_EXPIRY (R12) -/
  | coolOffExpiry (p : Port)
  /-- BAD_FRAME (R20): a frame of any kind that fails its check or length test. -/
  | badFrame (p : Port) (kind : BitVec 6) (f : RawFrame)
  /-- ANNOUNCE (R6, R7) -/
  | announce (p : Port) (f : RawFrame)
  /-- OFFER (R45) -/
  | offer (p : Port) (f : RawFrame)
  /-- GRANT (R121) -/
  | grant (p : Port) (f : RawFrame)
  /-- DENY (R121) -/
  | deny (p : Port) (f : RawFrame)
  /-- READY (R122) -/
  | ready (p : Port) (f : RawFrame)
  /-- HOLD (R31) -/
  | hold (p : Port) (f : RawFrame)
  /-- DEMAND (R156) -/
  | demand (p : Port) (f : RawFrame)
  /-- RETIRE (R162) -/
  | retire (p : Port) (f : RawFrame)
  /-- OTHER_KIND_FRAME (R25): the kind lies outside 0x01..0x0D. -/
  | otherKindFrame (p : Port) (kind : BitVec 6) (f : RawFrame)
  /-- TALK_FRAME_SENT (R34) -/
  | talkFrameSent (p : Port)
  /-- ANSWER_TIMER_EXPIRY (R30) -/
  | answerTimerExpiry (p : Port)
  /-- RESEND_TIMER_EXPIRY (R31) -/
  | resendTimerExpiry (p : Port)
  /-- REFERENCE_CONVERSION_END (R59): the 256th edge of a reference conversion comes at this timebase value (µs). -/
  | referenceConversionEnd (period : BitVec 16)
  /-- PORT_CONVERSION_END (R62): the 256th edge of a port conversion comes at this timebase value (µs). -/
  | portConversionEnd (period : BitVec 16)
  /-- CONVERSION_OPEN (R56) -/
  | conversionOpen
  /-- TAKE_DEMAND (R115) -/
  | takeDemand
  /-- CLAIM_SETTLED (R123) -/
  | claimSettled (p : Port)
  /-- SETTLE_TIMER_EXPIRY (R123) -/
  | settleTimerExpiry (p : Port)
  /-- READY_TIMER_EXPIRY (R122) -/
  | readyTimerExpiry (p : Port)
  /-- BREAK_INTERVAL_EXPIRY (R124) -/
  | breakIntervalExpiry
  /-- RAIL_SAMPLE (R142): the 1 ms sample of one port's rail voltage (mV) and current (mA). -/
  | railSample (p : Port) (mv : Nat) (ma : Nat)
  /-- RAIL_LOST (R144) -/
  | railLost (p : Port)
  /-- OVERVOLTAGE (R145) -/
  | overvoltage (p : Port)
  /-- SAG_TRIM (R147) -/
  | sagTrim (p : Port)
  /-- OVERDRAW_TRIM (R148) -/
  | overdrawTrim (p : Port)
  /-- DESCENT_TIMER_EXPIRY (R143) -/
  | descentTimerExpiry (p : Port)
  /-- RECOVERY_TIMER_EXPIRY (R150) -/
  | recoveryTimerExpiry
  /-- LIMIT_PERIOD (R141) -/
  | limitPeriod
  /-- DOWNLINK_FRAME_STORED (R170): bytes arrive on the downlink, in order; each reception that ends is tested. -/
  | downlinkFrameStored (bytes : List Byte)
  /-- BYTE_GAP_TIMEOUT (R170) -/
  | byteGapTimeout
  /-- UHOLD_CHANGE (R174): the new level of UHOLD. -/
  | uholdChange (high : Bool)
  /-- UPLINK_FRAME_END (R174) -/
  | uplinkFrameEnd
  /-- UNKNOWN_COMMAND (R173) -/
  | unknownCommand
  /-- IDENTIFY (R175) -/
  | identify
  /-- READ_PORT (R175) -/
  | readPort
  /-- READ_BOOK (R175) -/
  | readBook
  /-- READ_CONTRACT (R175) -/
  | readContract
  /-- READ_PARTNER (R175) -/
  | readPartner
  /-- READ_LIMIT (R175) -/
  | readLimit
  /-- READ_SUPPLY (R175) -/
  | readSupply
  /-- READ_METER (R70) -/
  | readMeter
  /-- MEASURE (R70) -/
  | measure
  /-- OPEN_POLICY (R79) -/
  | openPolicy
  /-- WRITE_RULE (R80) -/
  | writeRule
  /-- WRITE_HEADS (R81) -/
  | writeHeads
  /-- WRITE_RATING (R81) -/
  | writeRating
  /-- WRITE_PARAMS (R82) -/
  | writeParams
  /-- READ_POLICY (R83) -/
  | readPolicy
  /-- APPLY (R84) -/
  | applyPolicy
  /-- SET_PLATFORM (R177) -/
  | setPlatform
  /-- BAR_PORT (R13) -/
  | barPort
  /-- SET_FRAME_CLASS (R176) -/
  | setFrameClass
  /-- RELEASE_CAPTURE (R179) -/
  | releaseCapture
  /-- TAKE_NOTICE (R181) -/
  | takeNotice
  /-- RELAY_DOWN (R178) -/
  | relayDown
  /-- RESTART (R183) -/
  | restart
  /-- SILENCE_TIMER_EXPIRY (R190) -/
  | silenceTimerExpiry
  /-- PART_ONLY_KIND_FRAME (R22) -/
  | partOnlyKindFrame (p : Port) (kind : PartOnlyKind) (f : RawFrame)
  deriving DecidableEq, Repr

end Sys2Proof
end

