-- ==== Sys2Proof/Config.lean ====
section
/-! DEFINITION. What is fixed for the part: the constants the manual states, and the values the manual leaves open
(opaque constants: nothing in Lean can compute them, so a statement holds for every value of them). -/

namespace Sys2Proof.Config

/-! ### Values the manual leaves open -/

/-- A choice the manual leaves open (an order "in no particular order"), read with the state's own counter.
DESIGN CHOICE (log entry 3): a free value, never a chosen one. -/
opaque freeChoice : Nat → Nat

/-- The part code IDENTIFY returns (R175 gives no value; log entry 4). -/
opaque partCode : Nat

/-- The revision IDENTIFY returns (R175 gives no value; log entry 4). -/
opaque revision : Nat

/-- The byte a REPLY copies from a byte the answered frame does not have: a COMMAND of fewer than two payload
bytes has no tag or no command code to copy (R169, R195 give none; log entry 5). -/
opaque absentByte : Nat → Byte

/-- Which refusal READ POLICY gives when both apply: an index out of range and a closed PENDING bank
(R83 orders neither before the other; log entry 6). -/
opaque readPolicyIndexFirst : Bool

/-- The number bytes 2 and 3 of a FAULT snapshot hold for a rail sample above 65,535 mV, which does not fit them (R197
says nothing of it; log entry 37). -/
opaque wideSample : Nat → Nat

/-! ### Times (milliseconds) -/

/-- R2: a rise of presence is confirmed after 20 ms. -/
def riseTime : Nat := 20
/-- R2, R3: a fall of presence is confirmed after 2 ms. -/
def fallTime : Nat := 2
/-- R5: spacing of PROBE frames. -/
def probeTime : Nat := 150
/-- R12: length of a cool-off. -/
def coolOffTime : Nat := 2000
/-- R30: an exchange ends as no answer after 30 ms. -/
def answerTime : Nat := 30
/-- R31: a held exchange is sent again after 50 ms. -/
def resendTime : Nat := 50
/-- R56: the conversion timer. -/
def conversionTime : Nat := 70
/-- R56: the whole milliseconds of a conversion before its timebase can stand at 65,535 µs. -/
def timebaseTime : Nat := 65
/-- R122: READY is awaited 50 ms past the granted ready time. -/
def readyMargin : Nat := 50
/-- R121: the longest ready time taken from a GRANT. -/
def readyMax : Nat := 500
/-- R124: the break interval. -/
def breakTime : Nat := 5
/-- R143: the descent timer. -/
def descentTime : Nat := 500
/-- R150: the recovery timer. -/
def recoveryTime : Nat := 2000
/-- R170: the longest gap between two bytes of a downlink frame. -/
def gapTime : Nat := 2
/-- R184: the silence period after power-on reset. -/
def silenceDefault : Nat := 2000

/-! ### Sizes -/

/-- R14: pooled partner records. -/
def poolSize : Nat := 12
/-- R158: wait-list entries. -/
def waitSize : Nat := 8
/-- R35: relay frames that wait at a port. -/
def relaySize : Nat := 2
/-- R36: answers that wait in an engine list. -/
def answerSize : Nat := 3
/-- R168: downlink frames in the receive buffer. -/
def receiveSize : Nat := 4
/-- R174: uplink frames in the upstream queue. -/
def upstreamSize : Nat := 16
/-- R173, R74: the rule link and head value that means END. -/
def linkEnd : Nat := 63

/-! ### Levels (mV, mA) -/

/-- 00_scope section 8: base level voltage, and the supply voltage (R153). -/
def baseVoltage : Nat := 5000
/-- 00_scope section 8: base level current; also the least current granted or claimed. -/
def baseCurrent : Nat := 500
/-- R45: the clamp of an offered current. -/
def currentMax : Nat := 6000
/-- R4, R109: lowest rail voltage of a base draw. -/
def baseRailMin : Nat := 4500
/-- R4, R109: highest rail voltage of a base draw. -/
def baseRailMax : Nat := 20500

end Sys2Proof.Config
end

