-- ==== Sys2Proof/Machine/Types.lean ====
section
/-! DEFINITION. The records the part's blocks hold, with the manual's names for states, classes and codes. -/

namespace Sys2Proof.Machine

open Sys2Proof

/-! ### Port Monitor (01) -/

/-- Attachment state of a port, in the order of the Port Monitor's state table (01 section 1.1, coded by R197). -/
inductive Attach
  | empty
  | sensing
  | probing
  | measuring
  | talking
  | legacy
  | mute
  deriving DecidableEq, Repr

/-- Class in a branch-0 partner record (R14). -/
inductive PartnerClass
  | none
  | supplier
  | dock
  | accessory
  deriving DecidableEq, Repr

/-- Class view of a port (R10), in the order of its number codes (R197). -/
inductive ClassView
  | none
  | supplier
  | dock
  | accessory
  | legacy
  deriving DecidableEq, Repr

/-- The Port Monitor of one port. A timer that is stopped is `none`; a timer that runs holds its elapsed ms. -/
structure Monitor where
  state : Attach
  /-- level of the presence input -/
  presence : Bool
  debounce : Option Nat
  probeCount : Nat
  probeTimer : Option Nat
  coolOff : Option Nat
  /-- failure count 0..3; 3 means shunned (R10) -/
  failures : Nat
  barred : Bool
  deriving DecidableEq, Repr

/-! ### Partner Table (R14) -/

/-- A supply grant: granted current and order number (R14) with the requested current the Supply Unit keeps
beside them (R153), in mA. -/
structure Grant where
  current : Nat
  requested : Nat
  order : Nat
  deriving DecidableEq, Repr

/-- The grant field of a partner record: granted current in mA and grant order number (R14). -/
structure GrantField where
  current : Nat
  order : Nat
  deriving DecidableEq, Repr

/-- The part of a grant that stands in the partner record (R14, R153). -/
def Grant.field (g : Grant) : GrantField := { current := g.current, order := g.order }

/-- The branch-0 record of a port. -/
structure PartnerRecord where
  cls : PartnerClass
  branchCount : Nat
  supplyPresent : Bool
  /-- vendor code; absent before an ANNOUNCE -/
  vendor : Option Nat
  /-- model code; absent before an ANNOUNCE -/
  model : Option Nat
  grant : Option Grant
  deriving DecidableEq, Repr

/-- A pooled record, allocated to one (port, branch) pair with branch 1..6. -/
structure PooledRecord where
  port : Port
  branch : Nat
  grant : Option Grant
  deriving DecidableEq, Repr

/-- The Partner Table: the branch-0 record of each port while in use, and the pooled records in use. -/
structure PartnerTable where
  own : Four (Option PartnerRecord)
  pool : List PooledRecord
  deriving DecidableEq, Repr

/-! ### Talk Line Framer (02) -/

/-- The four fields a CLAIM carries (R28): generation, point index, voltage (mV), current (mA). -/
structure ClaimFields where
  generation : BitVec 4
  point : Nat
  voltage : Nat
  current : Nat
  deriving DecidableEq, Repr

/-- Kind of an exchange (section 2.5). -/
inductive ExchangeKind
  | probe
  | claim (c : ClaimFields)
  deriving DecidableEq, Repr

/-- Condition of an exchange; answer-due and held carry their timer's elapsed ms. -/
inductive ExchangeCondition
  | queued
  | answerDue (elapsed : Nat)
  | held (elapsed : Nat)
  deriving DecidableEq, Repr

/-- A port's exchange. `withdrawn` is set on a CLAIM withdrawn while it is being sent (R32, second row). -/
structure Exchange where
  kind : ExchangeKind
  condition : ExchangeCondition
  holds : Nat
  withdrawn : Bool
  deriving DecidableEq, Repr

/-- Reasons of a DENY sent by the part (section 2.1). -/
inductive DenyReason
  | unavailable
  | badBranch
  | badRequest
  | full
  deriving DecidableEq, Repr

/-- A frame of the engine list (R33). -/
inductive EngineFrame
  | exchange (k : ExchangeKind)
  | release
  | supply (branch : Nat) (current : Nat)
  | cut (branch : Nat)
  | deny (branch : Nat) (reason : DenyReason)
  | hold (branch : Nat)
  deriving DecidableEq, Repr

/-- A frame the controller sends to a partner (R35). -/
structure RelayFrame where
  kind : BitVec 6
  branch : BitVec 3
  payload : List Byte
  deriving DecidableEq, Repr

/-- The frame on the talk line that the part is sending. -/
inductive TalkTx
  | engine (f : EngineFrame)
  | relay (f : RelayFrame)
  deriving DecidableEq, Repr

/-- A captured frame (R27). -/
structure Captured where
  branch : BitVec 3
  kind : BitVec 6
  payload : List Byte
  deriving DecidableEq, Repr

/-- The partner's frame on a talk line, if one is known to be on it (R34): one that is being received, or one that
overlapped a frame of the part and is lost. -/
inductive Incoming
  | quiet
  | receiving
  | lost
  deriving DecidableEq, Repr

/-- The Talk Line Framer of one port. -/
structure Framer where
  /-- soundness view: set means UNSOUND (R20) -/
  unsound : Bool
  badCount : Nat
  latchedUnsound : Bool
  exchange : Option Exchange
  /-- exchange requests that wait, in the order of asking (R28) -/
  waiting : List ExchangeKind
  engine : List EngineFrame
  relay : List RelayFrame
  capture : Option Captured
  /-- the frame being sent; `none` while the transmitter is idle (R34) -/
  sending : Option TalkTx
  /-- the partner's frame on the line (R34) -/
  incoming : Incoming
  deriving DecidableEq, Repr

/-- Class of a kind in the frame class table (R25). -/
inductive FrameClass
  | forward
  | discard
  | capture
  deriving DecidableEq, Repr

/-! ### Offer Book (03) -/

inductive PointForm
  | fixed
  | span
  deriving DecidableEq, Repr

/-- Usable mark of a point (R44). -/
inductive UsableMark
  | usable
  | range
  | order
  | lowCurrent
  deriving DecidableEq, Repr

/-- A point record (R41); voltages in mV, current in mA. -/
structure OfferPoint where
  form : PointForm
  minVoltage : Nat
  maxVoltage : Nat
  maxCurrent : Nat
  shared : Bool
  mark : UsableMark
  clamped : Bool
  deriving DecidableEq, Repr

/-- How a book was last filled (R41). -/
inductive BookSource
  | none
  | talk
  | legacy
  deriving DecidableEq, Repr

/-- The Offer Book of one port (R41). -/
structure Book where
  source : BookSource
  generation : BitVec 4
  points : List OfferPoint
  ratingEntry : Option Nat
  stamp : BitVec 32
  firstBook : Bool
  deriving DecidableEq, Repr

/-! ### ID Meter (04) -/

/-- The six channels of the meter. -/
inductive Channel
  | id (p : Port)
  | refLo
  | refHi
  deriving DecidableEq, Repr

/-- The conversion in flight (R55, R56): its channel, the elapsed ms of its conversion timer, the microsecond
timebase and the edge count. -/
structure Conversion where
  channel : Channel
  elapsed : Nat
  timebase : Nat
  edges : Nat
  deriving DecidableEq, Repr

inductive RefStatus
  | none
  | valid
  | openCircuit
  | short
  | faulted
  deriving DecidableEq, Repr

/-- The record of a reference channel (R55). -/
structure RefRecord where
  status : RefStatus
  period : Option Nat
  measureFlag : Bool
  deriving DecidableEq, Repr

inductive MeasurePhase
  | idle
  | queued
  | converting
  | unresolved
  deriving DecidableEq, Repr

inductive MeasureResult
  | none
  | rated
  | unrated
  deriving DecidableEq, Repr

/-- Why a result is UNRATED (R55). -/
inductive UnratedCode
  | openCircuit
  | short
  | unstable
  | reference
  | mismatch
  | noMatch
  deriving DecidableEq, Repr

/-- A port measurement record (R55). -/
structure PortMeasure where
  phase : MeasurePhase
  attempts : Nat
  previous : Option Nat
  lastPeriod : Option Nat
  heldPeriod : Option Nat
  measureFlag : Bool
  result : MeasureResult
  code : Option UnratedCode
  resistance : Option Nat
  entry : Option Nat
  deriving DecidableEq, Repr

/-- The ID Meter (R55). -/
structure Meter where
  queue : List Channel
  inFlight : Option Conversion
  refLo : RefRecord
  refHi : RefRecord
  refreshCount : Nat
  port : Four PortMeasure
  deriving DecidableEq, Repr

/-! ### Policy Store (05) -/

/-- Shared condition of a rule as stored; code 3 is the invalid code kept as written (12 section 12.2). -/
inductive SharedCondition
  | any
  | unsharedOnly
  | sharedOnly
  | invalid
  deriving DecidableEq, Repr

/-- Action of a rule as stored; codes 2 and 3 are the invalid codes kept as written. -/
inductive RuleAction
  | reject
  | accept
  | invalid2
  | invalid3
  deriving DecidableEq, Repr

/-- A rule (R73); voltages in mV, currents in mA, derate in percent, settle time in ms. -/
structure Rule where
  minVoltage : Nat
  maxVoltage : Nat
  minCurrent : Nat
  shared : SharedCondition
  action : RuleAction
  weight : Nat
  cap : Nat
  derate : Nat
  settle : Nat
  next : Nat
  deriving DecidableEq, Repr

/-- A rating entry (R75). -/
structure Rating where
  used : Bool
  minResistance : Nat
  maxResistance : Nat
  voltage : Nat
  current : Nat
  deriving DecidableEq, Repr

/-- A complete policy image (section 5.2): 48 rules, three heads, twelve rating entries, fifteen parameters
indexed by identifier (R76). -/
structure PolicyImage where
  rules : Vector Rule 48
  supplierHead : Nat
  dockHead : Nat
  legacyHead : Nat
  ratings : Vector Rating 12
  params : Vector Nat 15
  deriving DecidableEq, Repr

inductive PolicyOrigin
  | fallback
  | loaded
  deriving DecidableEq, Repr

/-- The Policy Store (R72). -/
structure PolicyStore where
  active : PolicyImage
  pendingBank : PolicyImage
  pendingOpen : Bool
  origin : PolicyOrigin
  deriving DecidableEq, Repr

/-- Part of the image a refused APPLY names (R84). -/
inductive ImagePart
  | params
  | rule
  | head
  | chain
  | rating
  deriving DecidableEq, Repr

/-- The failing item of a refused APPLY: part, index and detail code (R84, coded by R196). -/
structure ImageFault where
  part : ImagePart
  index : Nat
  detail : Nat
  deriving DecidableEq, Repr

/-! ### Selection (06) -/

/-- Role of a contract or plan entry (R112). -/
inductive Role
  | none
  | primary
  | secondary
  deriving DecidableEq, Repr

/-- Source of a contract or plan entry (R94). -/
inductive TermSource
  | talk
  | legacy
  deriving DecidableEq, Repr

/-- Established terms of a contract (R112). -/
structure Terms where
  point : Nat
  generation : BitVec 4
  voltage : Nat
  granted : Nat
  derate : Nat
  weight : Nat
  settle : Nat
  source : TermSource
  deriving DecidableEq, Repr

/-- Action of a plan entry (R105); KEEP carries the established terms it keeps (R94). -/
inductive EntryAction
  | claim
  | keep (terms : Terms)
  deriving DecidableEq, Repr

/-- A primary or secondary entry (R94). -/
structure PlanEntry where
  role : Role
  port : Port
  source : TermSource
  point : Nat
  generation : BitVec 4
  rule : Nat
  voltage : Nat
  usable : Nat
  derated : Nat
  score : Nat
  requested : Nat
  weight : Nat
  cap : Nat
  derate : Nat
  settle : Nat
  action : EntryAction
  deriving DecidableEq, Repr

/-- A base entry (R94, R110). -/
structure BaseEntry where
  port : Port
  voltage : Nat
  allowance : Nat
  deriving DecidableEq, Repr

/-- A draw plan (R94). -/
inductive Plan
  | draw (primary : PlanEntry) (secondary : Option PlanEntry)
  | base (entry : BaseEntry)
  | empty
  deriving DecidableEq, Repr

/-- Demand classes in priority order (section 7.2). -/
inductive DemandClass
  | loss
  | revise
  | attach
  | review
  deriving DecidableEq, Repr

/-- Kind of a plan (R94). -/
inductive PlanKind
  | draw
  | base
  | empty
  deriving DecidableEq, Repr

/-- The last plan record once a run has taken place (R93). -/
structure LastPlan where
  plan : Plan
  cls : DemandClass
  port : Port
  ms : BitVec 32
  deriving DecidableEq, Repr

/-! ### Path Sequencer (07) -/

/-- Contract states in the order of R113. -/
inductive ContractState
  | idle
  | base
  | claiming
  | awaiting
  | settling
  | active
  deriving DecidableEq, Repr

/-- Last outcome of a contract record (R112), coded by R197. -/
inductive ContractOutcome
  | none
  | settled
  | dropped
  | held
  | stale
  | denied
  | noAnswer
  | noReady
  | noSettle
  | aborted
  deriving DecidableEq, Repr

/-- Pending terms of a claim (R112, R120). -/
structure PendingTerms where
  point : Nat
  generation : BitVec 4
  voltage : Nat
  requested : Nat
  rule : Nat
  weight : Nat
  cap : Nat
  derate : Nat
  settle : Nat
  source : TermSource
  deriving DecidableEq, Repr

/-- Grant details (R112); a LEGACY claim has no ready time. -/
structure GrantDetails where
  current : Nat
  ready : Option Nat
  deriving DecidableEq, Repr

/-- A contract record (R112) with the two claim timers of R122 and R123. -/
structure Contract where
  state : ContractState
  role : Role
  established : Option Terms
  base : Option Nat
  pending : Option PendingTerms
  details : Option GrantDetails
  drawClosed : Bool
  settleCount : Nat
  lastOutcome : ContractOutcome
  readyTimer : Option Nat
  settleTimer : Option Nat
  deriving DecidableEq, Repr

/-- A port's pending set (R114). -/
structure DemandSet where
  loss : Bool
  revise : Bool
  attach : Bool
  review : Bool
  deriving DecidableEq, Repr

/-- Where the transition in service waits (R117): at a claim, or in the break interval with its elapsed ms. -/
inductive Stage
  | start
  | claimPrimary
  | claimSecondary
  | breaking (elapsed : Nat)
  deriving DecidableEq, Repr

/-- The transition in service (R117): its plan, the ports it named joining and leaving when it began, the ports that
stepped out, and where it waits. -/
structure Transition where
  plan : Plan
  joining : List Port
  leaving : List Port
  steppedOut : List Port
  stage : Stage
  deriving DecidableEq, Repr

/-- The Path Sequencer's shared state (R114, R115). -/
structure Sequencer where
  demands : Four DemandSet
  inService : Option Port
  rotation : Port
  transition : Option Transition
  deriving DecidableEq, Repr

/-! ### Limit Unit (08) -/

/-- A port's draw-monitor record (R136). -/
structure DrawMonitor where
  railLost : Nat
  overvoltage : Nat
  sag : Nat
  overdraw : Nat
  descent : Option Nat
  deriving DecidableEq, Repr

/-- The Limit Unit's shared state (R136). -/
structure LimitUnit where
  allowanceSum : Nat
  trimBound : Nat
  trim : Nat
  raw : Nat
  ceiling : Option Nat
  published : Nat
  nextDuty : Nat
  duty : Nat
  recovery : Option Nat
  deriving DecidableEq, Repr

/-- The latest 1 ms sample of a port's rail voltage (mV) and current (mA). -/
structure RailReading where
  mv : Nat
  ma : Nat
  deriving DecidableEq, Repr

/-! ### Supply Unit (09) -/

/-- A wait-list entry (R158). -/
structure WaitEntry where
  port : Port
  branch : Nat
  requested : Nat
  deriving DecidableEq, Repr

/-- The Supply Unit (R153); the grants stand in the Partner Table's records. -/
structure SupplyUnit where
  budget : Nat
  orderCounter : Nat
  waitList : List WaitEntry
  switchClosed : Four Bool
  deriving DecidableEq, Repr

/-! ### Link Interface (10) -/

/-- A downlink frame as stored (R169): its start byte, length field and check have been tested and dropped. -/
structure LinkFrame where
  kind : Byte
  port : Byte
  branch : Byte
  payload : List Byte
  deriving DecidableEq, Repr

/-- A downlink frame in reception: the bytes after the start byte, and the ms since the last of them. -/
structure Reception where
  bytes : List Byte
  gap : Nat
  deriving DecidableEq, Repr

/-- Refusal reasons, in the order of their codes (R196). -/
inductive RefusalReason
  | unknown
  | length
  | badIndex
  | notOpen
  | invalid
  | powerKind
  | notAttached
  | badBranch
  | range
  | noRecord
  | empty
  deriving DecidableEq, Repr

/-- A notice as held by a set flag (R180); the snapshot is the four bytes of R197, byte 0 the most significant. -/
structure Notice where
  code : Byte
  snapshot : BitVec 32
  ms : BitVec 32
  posts : Nat
  deriving DecidableEq, Repr

/-- The twenty notice flags (R180). -/
structure NoticeSet where
  silence : Option Notice
  fault : Four (Option Notice)
  contract : Four (Option Notice)
  partner : Four (Option Notice)
  supply : Option Notice
  capture : Four (Option Notice)
  meter : Option Notice
  link : Option Notice
  deriving DecidableEq, Repr

/-- One flag of the notice set. -/
inductive NoticeFlag
  | silence
  | fault (p : Port)
  | contract (p : Port)
  | partner (p : Port)
  | supply
  | capture (p : Port)
  | meter
  | link
  deriving DecidableEq, Repr

/-- A notice with the flag it was taken from. -/
structure TakenNotice where
  flag : NoticeFlag
  notice : Notice
  deriving DecidableEq, Repr

/-- What READ METER returns with either record (R70). -/
structure MeterStatus where
  loStatus : RefStatus
  loPeriod : Option Nat
  hiStatus : RefStatus
  hiPeriod : Option Nat
  refreshCount : Nat
  inFlight : Option Channel
  queue : List Channel
  deriving DecidableEq, Repr

/-- A supply grant with the pair that holds it. -/
structure GrantView where
  port : Port
  branch : Nat
  grant : Grant
  deriving DecidableEq, Repr

/-- An item of a policy bank, as READ POLICY returns it (R83). -/
inductive PolicyItem
  | rule (r : Rule)
  | heads (supplier dock legacy : Nat)
  | rating (r : Rating)
  | param (identifier v : Nat)
  | storeStatus (pendingOpen : Bool) (origin : PolicyOrigin)
  deriving DecidableEq, Repr

/-- The data of a DATA reply, as the items the manual names (R175, R179, R181). Their coded form and their bytes are
those of Replies.lean. -/
inductive ReplyData
  | identify (partCode revision : Nat) (straps : BitVec 8) (populated : Nat) (autonomous : Bool)
  | port (state : Attach) (view : ClassView) (presence : Bool) (probeCount failures : Nat) (coolOff : Option Nat)
      (barred unsound : Bool) (badCount : Nat) (latchedUnsound : Bool) (rail : RailReading)
  | bookHeader (source : BookSource) (generation : BitVec 4) (count : Nat) (entry : Option Nat) (stamp : BitVec 32)
      (firstBook : Bool) (now : BitVec 32)
  | bookPoint (p : OfferPoint)
  | contractState (state : ContractState) (role : Role) (drawClosed : Bool) (base : Option Nat) (settleCount : Nat)
      (last : ContractOutcome)
  | contractTerms (terms : Option Terms)
  | contractPending (terms : Option PendingTerms) (details : Option GrantDetails)
  | partner (port : Port) (branch : Nat) (own : Option PartnerRecord) (grant : Option GrantField)
  | limits (raw : Nat) (ceiling : Option Nat) (trim trimBound published nextDuty duty : Nat) (drawSet : List Port)
      (recovery : Option Nat)
  /-- `none` stands for the plan kind NONE, before any run (R93) -/
  | planHeader (last : Option (PlanKind × DemandClass × Port × BitVec 32))
  | planPrimary (entry : Option PlanEntry) (base : Option BaseEntry)
  | planSecondary (entry : Option PlanEntry)
  | supplySummary (budget reserved orderCounter : Nat) (switches : Four Bool) (grants waiting : Nat)
  | supplyGrant (g : GrantView)
  | supplyWait (w : WaitEntry)
  | meterPort (r : PortMeasure) (status : MeterStatus)
  | meterReference (r : RefRecord) (status : MeterStatus)
  | policy (item : PolicyItem)
  | capture (c : Captured)
  | notice (n : Option TakenNotice)
  deriving DecidableEq, Repr

/-- Status and body of a REPLY (R173). -/
inductive ReplyBody
  | ok
  | data (d : ReplyData)
  | applied
  | busy
  | refused (r : RefusalReason)
  | invalid (f : ImageFault)
  deriving DecidableEq, Repr

/-- An uplink frame (R169). -/
inductive UplinkFrame
  | reply (port branch tag code : Byte) (body : ReplyBody)
  | relayUp (port : Port) (branch : BitVec 3) (kind : BitVec 6) (payload : List Byte)
  deriving DecidableEq, Repr

/-- The Link Interface (R168). -/
structure LinkUnit where
  receive : List LinkFrame
  reception : Option Reception
  upstream : List UplinkFrame
  uplink : Option UplinkFrame
  /-- level of the UHOLD input -/
  uhold : Bool
  frameClass : Vector FrameClass 32
  notices : NoticeSet
  deriving DecidableEq, Repr

/-! ### Supervisor (11) -/

/-- The Supervisor (R184); the decoded straps are read from the eight levels (R185). -/
structure Supervisor where
  straps : BitVec 8
  demand : Nat
  batteryPresent : Bool
  silencePeriod : Nat
  silenceTimer : Option Nat
  autonomous : Bool
  deriving DecidableEq, Repr

end Sys2Proof.Machine
end

