-- ==== Sys2Proof/Machine/Fallback.lean ====
section
/-! DEFINITION. What the part reads from its straps (R185) and the built-in fallback image they shape (R77, R78). -/

namespace Sys2Proof.Machine

open Sys2Proof

/-! ### Decoded straps (R185) -/

/-- Populated ports: STRAP1, STRAP0 low, low: 4; low, high: 3; high, low: 2; high, high: 1. -/
def strapPopulated (straps : BitVec 8) : Nat := 4 - (straps.toNat % 4)

/-- Port 0 connector: STRAP2 high means 6 A. -/
def strapSixAmp (straps : BitVec 8) : Bool := straps.getLsbD 2

/-- Fallback power class (mW): STRAP4, STRAP3. -/
def strapPowerClass (straps : BitVec 8) : Nat :=
  match straps.getLsbD 4, straps.getLsbD 3 with
  | false, false => 15000
  | false, true => 27000
  | true, false => 45000
  | true, true => 65000

/-- Battery-present default: STRAP5. -/
def strapBattery (straps : BitVec 8) : Bool := straps.getLsbD 5

/-- Source budget default (mW): STRAP6. -/
def strapBudget (straps : BitVec 8) : Nat := if straps.getLsbD 6 then 7500 else 0

/-! ### The fallback image (R77) -/

def fallbackRule0 : Rule :=
  { minVoltage := 4500, maxVoltage := 20500, minCurrent := 500, shared := .any, action := .accept, weight := 1,
    cap := 3000, derate := 10, settle := 250, next := Config.linkEnd }

def fallbackOtherRule : Rule :=
  { minVoltage := 0, maxVoltage := 0, minCurrent := 0, shared := .any, action := .reject, weight := 1,
    cap := 500, derate := 0, settle := 20, next := Config.linkEnd }

def unusedRating : Rating :=
  { used := false, minResistance := 0, maxResistance := 0, voltage := 0, current := 0 }

def fallbackRatings : Vector Rating 12 :=
  #v[{ used := true, minResistance := 8200, maxResistance := 9800, voltage := 19500, current := 2310 },
     { used := true, minResistance := 22000, maxResistance := 26000, voltage := 19500, current := 3340 },
     { used := true, minResistance := 44000, maxResistance := 52000, voltage := 19500, current := 4620 },
     unusedRating, unusedRating, unusedRating, unusedRating, unusedRating, unusedRating, unusedRating,
     unusedRating, unusedRating]

/-- R77 and R78, by identifier: connector limits 0..3, charger window, switch margin, shared-draw enable, path
reserve, limit full scale, sag threshold, reference resistances, source port limit, legacy tolerance. -/
def fallbackParams (sixAmp : Bool) : Vector Nat 15 :=
  #v[if sixAmp then 6000 else 3000, 3000, 3000, 3000, 9000, 20000, 10, 0, 100, 10000, 5, 10000, 100000, 1500, 8]

/-- The built-in fallback image, shaped by the port-0 connector strap (R77, R78). -/
def fallbackImage (sixAmp : Bool) : PolicyImage :=
  { rules := (Vector.replicate 48 fallbackOtherRule).set 0 fallbackRule0
    supplierHead := 0
    dockHead := 0
    legacyHead := 0
    ratings := fallbackRatings
    params := fallbackParams sixAmp }

/-- The default frame class table (R25): kinds 0x10..0x1F FORWARD, 0x20..0x2F CAPTURE. -/
def defaultFrameClass : Vector FrameClass 32 :=
  Vector.ofFn fun i : Fin 32 => if i.val < 16 then .forward else .capture

end Sys2Proof.Machine
end

