-- ==== Sys2Proof/Machine/State.lean ====
section
/-! DEFINITION. The state of the part: every block's state as the manual gives it, the queue of waiting commands, and
the state right after power-on reset has put every block at its power-on values. -/

namespace Sys2Proof.Machine

open Sys2Proof

/-- Reasons a command stops the machine with a fault. The manual describes no event that stops the part, and no
meaning of this model raises a fault, so there is none. -/
inductive Fault
  deriving DecidableEq, Repr

/-- Reasons a command has no meaning. -/
inductive Refusal
  /-- Raised by an arm of Dispatch.lean for a command the model does not give a meaning yet (safe: the machine
  stops). No arm raises it. -/
  | notModelled (mnemonic : String)
  deriving DecidableEq, Repr

/-- The state of the part. -/
structure State where
  /-- the MODEL's own: the commands that wait, first in, first out -/
  pending : List Instr
  /-- the MODEL's own: how many free choices have been taken (log entry 3) -/
  freeCount : Nat
  /-- power-on reset is being held (R187) -/
  inReset : Bool
  /-- the part's millisecond count (R41) -/
  msCount : BitVec 32
  /-- latest 1 ms sample of each port's rail voltage and current (R142) -/
  rail : Four RailReading
  monitor : Four Monitor
  table : PartnerTable
  framer : Four Framer
  book : Four Book
  meter : Meter
  policy : PolicyStore
  /-- the last plan record; `none` is the plan kind NONE, with no demand class, port or count yet (R93, log entry 2) -/
  lastPlan : Option LastPlan
  contract : Four Contract
  sequencer : Sequencer
  limit : LimitUnit
  drawMonitor : Four DrawMonitor
  supply : SupplyUnit
  link : LinkUnit
  supervisor : Supervisor
  deriving DecidableEq, Repr

/-! ### Power-on values of each block -/

/-- R18. -/
def Monitor.reset : Monitor :=
  { state := .empty, presence := false, debounce := none, probeCount := 0, probeTimer := none, coolOff := none,
    failures := 0, barred := false }

/-- R37. -/
def Framer.reset : Framer :=
  { unsound := false, badCount := 0, latchedUnsound := false, exchange := none, waiting := [], engine := [],
    relay := [], capture := none, sending := none, incoming := .quiet }

/-- R54. -/
def Book.reset : Book :=
  { source := .none, generation := 0, points := [], ratingEntry := none, stamp := 0, firstBook := false }

/-- R55. -/
def PortMeasure.reset : PortMeasure :=
  { phase := .idle, attempts := 0, previous := none, lastPeriod := none, heldPeriod := none, measureFlag := false,
    result := .none, code := none, resistance := none, entry := none }

/-- R55. -/
def RefRecord.reset : RefRecord := { status := .none, period := none, measureFlag := false }

/-- R55; the reference pair is queued when the reset ends (R60, R187 step 5). -/
def Meter.reset : Meter :=
  { queue := [], inFlight := none, refLo := RefRecord.reset, refHi := RefRecord.reset, refreshCount := 0,
    port := Four.const PortMeasure.reset }

/-- R72, R77; the PENDING bank is unreachable until OPEN POLICY fills it. -/
def PolicyStore.reset (straps : BitVec 8) : PolicyStore :=
  { active := fallbackImage (strapSixAmp straps), pendingBank := fallbackImage (strapSixAmp straps),
    pendingOpen := false, origin := .fallback }

/-- R135. -/
def Contract.reset : Contract :=
  { state := .idle, role := .none, established := none, base := none, pending := none, details := none,
    drawClosed := false, settleCount := 0, lastOutcome := .none, readyTimer := none, settleTimer := none }

/-- R135. -/
def DemandSet.none : DemandSet := { loss := false, revise := false, attach := false, review := false }

/-- R135. -/
def Sequencer.reset : Sequencer :=
  { demands := Four.const DemandSet.none, inService := none, rotation := 3, transition := none }

/-- R136. -/
def LimitUnit.reset : LimitUnit :=
  { allowanceSum := 0, trimBound := 0, trim := 0, raw := 0, ceiling := none, published := 0, nextDuty := 0,
    duty := 0, recovery := none }

/-- R136. -/
def DrawMonitor.reset : DrawMonitor := { railLost := 0, overvoltage := 0, sag := 0, overdraw := 0, descent := none }

/-- R167. -/
def SupplyUnit.reset (straps : BitVec 8) : SupplyUnit :=
  { budget := strapBudget straps, orderCounter := 0, waitList := [], switchClosed := Four.const false }

/-- R180, R168: all flags clear. -/
def NoticeSet.clear : NoticeSet :=
  { silence := none, fault := Four.const none, contract := Four.const none, partner := Four.const none,
    supply := none, capture := Four.const none, meter := none, link := none }

/-- R168. -/
def LinkUnit.reset : LinkUnit :=
  { receive := [], reception := none, upstream := [], uplink := none, uhold := false,
    frameClass := defaultFrameClass, notices := NoticeSet.clear }

/-- R184, R186. -/
def Supervisor.reset (straps : BitVec 8) : Supervisor :=
  { straps := straps, demand := strapPowerClass straps, batteryPresent := strapBattery straps,
    silencePeriod := Config.silenceDefault, silenceTimer := some 0, autonomous := false }

/-- Every block at its power-on values, with the straps reading as given. -/
def State.powerOn (straps : BitVec 8) : State :=
  { pending := []
    freeCount := 0
    inReset := true
    msCount := 0
    rail := Four.const { mv := 0, ma := 0 }
    monitor := Four.const Monitor.reset
    table := { own := Four.const none, pool := [] }
    framer := Four.const Framer.reset
    book := Four.const Book.reset
    meter := Meter.reset
    policy := PolicyStore.reset straps
    lastPlan := none
    contract := Four.const Contract.reset
    sequencer := Sequencer.reset
    limit := LimitUnit.reset
    drawMonitor := Four.const DrawMonitor.reset
    supply := SupplyUnit.reset straps
    link := LinkUnit.reset
    supervisor := Supervisor.reset straps }

/-- The part while power-on reset is held: every block at its power-on values (R187), the straps not sampled yet
(they stand as all low until RESET_END samples them: DESIGN CHOICE, log entry 1). -/
def State.reset : State := State.powerOn 0

end Sys2Proof.Machine
end

