-- ==== Sys2Proof/Machine/Ops.lean ====
section
/-! DEFINITION. The named operations over the state that every block uses: reading and changing one port's records,
the attachment conditions, the millisecond count, the raising of demands and the taking of a free choice. -/

namespace Sys2Proof.Machine

open Sys2Proof

/-! ### One port's records -/

def State.modMonitor (s : State) (p : Port) (f : Monitor → Monitor) : State :=
  { s with monitor := s.monitor.set p (f (s.monitor.get p)) }

def State.modFramer (s : State) (p : Port) (f : Framer → Framer) : State :=
  { s with framer := s.framer.set p (f (s.framer.get p)) }

def State.modBook (s : State) (p : Port) (f : Book → Book) : State :=
  { s with book := s.book.set p (f (s.book.get p)) }

def State.modContract (s : State) (p : Port) (f : Contract → Contract) : State :=
  { s with contract := s.contract.set p (f (s.contract.get p)) }

def State.modDrawMonitor (s : State) (p : Port) (f : DrawMonitor → DrawMonitor) : State :=
  { s with drawMonitor := s.drawMonitor.set p (f (s.drawMonitor.get p)) }

def State.setOwn (s : State) (p : Port) (r : Option PartnerRecord) : State :=
  { s with table := { s.table with own := s.table.own.set p r } }

def State.setPool (s : State) (pool : List PooledRecord) : State :=
  { s with table := { s.table with pool := pool } }

def State.modMeter (s : State) (f : Meter → Meter) : State := { s with meter := f s.meter }

def State.modPortMeasure (s : State) (p : Port) (f : PortMeasure → PortMeasure) : State :=
  s.modMeter fun m => { m with port := m.port.set p (f (m.port.get p)) }

def State.modSequencer (s : State) (f : Sequencer → Sequencer) : State := { s with sequencer := f s.sequencer }

def State.modLimit (s : State) (f : LimitUnit → LimitUnit) : State := { s with limit := f s.limit }

def State.modSupply (s : State) (f : SupplyUnit → SupplyUnit) : State := { s with supply := f s.supply }

def State.modLink (s : State) (f : LinkUnit → LinkUnit) : State := { s with link := f s.link }

def State.modSupervisor (s : State) (f : Supervisor → Supervisor) : State :=
  { s with supervisor := f s.supervisor }

def State.modPolicy (s : State) (f : PolicyStore → PolicyStore) : State := { s with policy := f s.policy }

/-! ### Conditions of a port -/

/-- R10: attached while PROBING, MEASURING, TALKING, LEGACY or MUTE. -/
def Attach.attached : Attach → Bool
  | .empty | .sensing => false
  | .probing | .measuring | .talking | .legacy | .mute => true

def State.attached (s : State) (p : Port) : Bool := (s.monitor.get p).state.attached

/-- R1: ports numbered from the populated count upward are unpopulated. -/
def State.populated (s : State) (p : Port) : Bool := p.val < strapPopulated s.supervisor.straps

/-- R10: the recorded class while TALKING, LEGACY while LEGACY, NONE otherwise. -/
def State.classView (s : State) (p : Port) : ClassView :=
  match (s.monitor.get p).state with
  | .talking =>
    match s.table.own.get p with
    | some r =>
      match r.cls with
      | .none => .none
      | .supplier => .supplier
      | .dock => .dock
      | .accessory => .accessory
    | none => .none
  | .legacy => .legacy
  | _ => .none

/-- The branch count recorded for the port; 0 where no branch-0 record is in use. -/
def State.branchCount (s : State) (p : Port) : Nat :=
  match s.table.own.get p with
  | some r => r.branchCount
  | none => 0

/-- R7: a SUPPLIER supplies, and so does a DOCK with supply-present 1. -/
def PartnerRecord.supplies (r : PartnerRecord) : Bool :=
  match r.cls with
  | .supplier => true
  | .dock => r.supplyPresent
  | .none | .accessory => false

/-- The supply test of R7, R42 and R95 on the port's branch-0 record. -/
def State.supplies (s : State) (p : Port) : Bool :=
  match s.table.own.get p with
  | some r => r.supplies
  | none => false

/-- The draw set: the ports whose draw switches are closed, in ascending order. -/
def State.drawSet (s : State) : List Port := allPorts.filter fun p => (s.contract.get p).drawClosed

/-- DRDY (R171): high while the receive buffer holds fewer than 4 frames; low while reset is held (R187). -/
def State.drdy (s : State) : Bool := !s.inReset && s.link.receive.length < Config.receiveSize

/-! ### Platform parameters by name (R76) -/

def PolicyImage.connectorLimit (i : PolicyImage) (p : Port) : Nat :=
  match p with
  | 0 => i.params[0]
  | 1 => i.params[1]
  | 2 => i.params[2]
  | 3 => i.params[3]

def PolicyImage.windowMin (i : PolicyImage) : Nat := i.params[4]
def PolicyImage.windowMax (i : PolicyImage) : Nat := i.params[5]
def PolicyImage.switchMargin (i : PolicyImage) : Nat := i.params[6]
def PolicyImage.sharedDraw (i : PolicyImage) : Nat := i.params[7]
def PolicyImage.pathReserve (i : PolicyImage) : Nat := i.params[8]
def PolicyImage.fullScale (i : PolicyImage) : Nat := i.params[9]
def PolicyImage.sagThreshold (i : PolicyImage) : Nat := i.params[10]
def PolicyImage.lowReference (i : PolicyImage) : Nat := i.params[11]
def PolicyImage.highReference (i : PolicyImage) : Nat := i.params[12]
def PolicyImage.sourcePortLimit (i : PolicyImage) : Nat := i.params[13]
def PolicyImage.legacyTolerance (i : PolicyImage) : Nat := i.params[14]

/-! ### Demands (R114) -/

def DemandSet.add (d : DemandSet) (c : DemandClass) : DemandSet :=
  match c with
  | .loss => { d with loss := true }
  | .revise => { d with revise := true }
  | .attach => { d with attach := true }
  | .review => { d with review := true }

def DemandSet.has (d : DemandSet) (c : DemandClass) : Bool :=
  match c with
  | .loss => d.loss
  | .revise => d.revise
  | .attach => d.attach
  | .review => d.review

/-- Raise a demand of a class for a port; one already there absorbs it. -/
def raiseDemand (c : DemandClass) (p : Port) (s : State) : State :=
  s.modSequencer fun q => { q with demands := q.demands.set p ((q.demands.get p).add c) }

/-- Raise REVIEW on every port attached at that moment. -/
def reviewAttached (s : State) : State :=
  allPorts.foldl (fun t p => if s.attached p then raiseDemand .review p t else t) s

/-! ### Timers that have run out

The row of a timer's expiry acts when the timer has reached its time; an earlier row changes nothing (log entry 13). -/

/-- A running timer has reached its limit. -/
def reached (timer : Option Nat) (limit : Nat) : Bool :=
  match timer with
  | some n => limit ≤ n
  | none => false

/-- R2: presence has stayed high for 20 ms in SENSING. -/
def Monitor.riseExpired (m : Monitor) : Bool :=
  m.state == .sensing && m.presence && reached m.debounce Config.riseTime

/-- R2: presence has stayed low for 2 ms in SENSING. -/
def Monitor.fallExpired (m : Monitor) : Bool :=
  m.state == .sensing && !m.presence && reached m.debounce Config.fallTime

/-- R3, R17: presence has stayed low for 2 ms in an attached state. -/
def Monitor.detachExpired (m : Monitor) : Bool :=
  m.state.attached && !m.presence && reached m.debounce Config.fallTime

/-- R5: the probe timer in PROBING. -/
def Monitor.probeExpired (m : Monitor) : Bool := m.state == .probing && reached m.probeTimer Config.probeTime

/-- R12: the cool-off timer. -/
def Monitor.coolOffExpired (m : Monitor) : Bool := reached m.coolOff Config.coolOffTime

/-- R30: the answer timer of the port's exchange. -/
def Framer.answerExpired (f : Framer) : Bool :=
  match f.exchange with
  | some { condition := .answerDue n, .. } => Config.answerTime ≤ n
  | _ => false

/-- R31: the resend timer of the port's exchange. -/
def Framer.resendExpired (f : Framer) : Bool :=
  match f.exchange with
  | some { condition := .held n, .. } => Config.resendTime ≤ n
  | _ => false

/-- R56: a conversion can have come to its OPEN condition: the timebase limit of 65,535 µs at the earliest, and the
conversion timer at 70 ms (log entry 18). -/
def Meter.openReached (m : Meter) : Bool := reached (m.inFlight.map Conversion.elapsed) Config.timebaseTime

/-- R122: the ready timer in AWAITING, 50 ms past the granted ready time. -/
def Contract.readyExpired (c : Contract) : Bool :=
  c.state == .awaiting
    && reached c.readyTimer ((c.details.bind GrantDetails.ready).getD 0 + Config.readyMargin)

/-- R123: the settle count of a claim that has settled. -/
def settleFull : Nat := 10

/-- R123: the settle timer in SETTLING, at the settle time of the claim, with the count not complete. -/
def Contract.settleExpired (c : Contract) : Bool :=
  c.state == .settling && c.settleCount != settleFull
    && match c.pending with
       | some t => reached c.settleTimer t.settle
       | none => false

/-- R124: the break interval of the transition in service. -/
def Sequencer.breakExpired (q : Sequencer) : Bool :=
  match q.transition with
  | some { stage := .breaking n, .. } => Config.breakTime ≤ n
  | _ => false

/-- R143: the descent timer. -/
def DrawMonitor.descentExpired (d : DrawMonitor) : Bool := reached d.descent Config.descentTime

/-- R150: the recovery timer. -/
def LimitUnit.recoveryExpired (l : LimitUnit) : Bool := reached l.recovery Config.recoveryTime

/-- R170: the gap between two bytes of a downlink frame. -/
def LinkUnit.gapExpired (l : LinkUnit) : Bool := reached (l.reception.map Reception.gap) Config.gapTime

/-- R189: the silence timer, at the silence period. -/
def Supervisor.silenceExpired (v : Supervisor) : Bool := reached v.silenceTimer v.silencePeriod

/-! ### The outcome of a command -/

/-- While power-on reset is held the part ignores every input and its timers do not run (R187); otherwise the command
has its effect. -/
def running (f : State → State) (s : State) : Host.Outcome State Fault Refusal :=
  .next (if s.inReset then s else f s)

/-! ### Free choices (log entry 3) -/

/-- The next free choice, and the state that has taken it. -/
def takeFree (s : State) : Nat × State :=
  (Config.freeChoice s.freeCount, { s with freeCount := s.freeCount + 1 })

/-- A list in the order a free choice picks: every order of it is some choice's. `fuel` is the list's length. -/
def arrangeBy {α : Type} : Nat → Nat → List α → List α
  | 0, _, l => l
  | _ + 1, _, [] => []
  | _ + 1, _, [a] => [a]
  | fuel + 1, k, a :: b :: l =>
    let all := a :: b :: l
    let i := k % all.length
    (all[i]?).toList ++ arrangeBy fuel (k / all.length) (all.eraseIdx i)

/-- A list in an order the manual leaves open. -/
def arrange {α : Type} (k : Nat) (l : List α) : List α := arrangeBy l.length k l

end Sys2Proof.Machine
end

