-- ==== Sys2Proof/Machine/LimitOps.lean ====
section
/-! DEFINITION. The Limit Unit's operations (08): allowances, the recomputation of the limit, the trim, the ceiling,
and the draw switch, whose every change recomputes the limit (R140) and clears the port's counts (R142). -/

namespace Sys2Proof.Machine

open Sys2Proof

/-- The allowance of a drawing basis (R137): the established current less its derate, or 500 mA at base level. -/
def Contract.allowance (c : Contract) : Nat :=
  match c.established, c.base with
  | some t, _ => t.granted * (100 - t.derate) / 100
  | none, some _ => Config.baseCurrent
  | none, none => 0

/-- What a port adds to the allowance sum: nothing while its draw switch is open (R137). -/
def Contract.counted (c : Contract) : Nat := if c.drawClosed then c.allowance else 0

def allowanceSumOf (c : Four Contract) : Nat :=
  c.p0.counted + c.p1.counted + c.p2.counted + c.p3.counted

/-- Next duty (R141). -/
def dutyOf (published fullScale : Nat) : Nat :=
  if published ≥ fullScale then 1000 else published * 1000 / fullScale

/-- The published limit (R139). -/
def publishedOf (raw : Nat) : Option Nat → Nat
  | some c => min raw c
  | none => raw

/-- The limit values from the allowance sum, the path reserve and full scale, the trim and the ceiling
(R138, R139, R141). The recovery timer stops when the trim is 0 (R150). -/
def LimitUnit.recomputed (l : LimitUnit) (sum reserve fullScale : Nat) : LimitUnit :=
  let bound := sum - reserve
  let trim := min l.trim bound
  let raw := min (sum - reserve - trim) fullScale
  let published := publishedOf raw l.ceiling
  { l with
    allowanceSum := sum
    trimBound := bound
    trim := trim
    raw := raw
    published := published
    nextDuty := dutyOf published fullScale
    recovery := if trim = 0 then none else l.recovery }

/-- R140: recompute in one event from the inputs as they stand. -/
def recompute (s : State) : State :=
  s.modLimit fun l =>
    l.recomputed (allowanceSumOf s.contract) s.policy.active.pathReserve s.policy.active.fullScale

/-- Every count of a draw-monitor record becomes 0 (R142). -/
def DrawMonitor.clearCounts (d : DrawMonitor) : DrawMonitor :=
  { d with railLost := 0, overvoltage := 0, sag := 0, overdraw := 0 }

/-- The counts of the two tests a claim or a descent suspends are held at 0 (R143). -/
def DrawMonitor.suspendTests (d : DrawMonitor) : DrawMonitor := { d with overvoltage := 0, sag := 0 }

/-- Close a port's draw switch. -/
def closeDraw (p : Port) (s : State) : State :=
  recompute ((s.modContract p fun c => { c with drawClosed := true }).modDrawMonitor p DrawMonitor.clearCounts)

/-- Open a port's draw switch; its descent timer stops (R143). -/
def openDraw (p : Port) (s : State) : State :=
  recompute ((s.modContract p fun c => { c with drawClosed := false }).modDrawMonitor p
    fun d => { d.clearCounts with descent := none })

/-- A rise of the trim (R147, R148): bounded by the trim bound; every rise restarts the recovery timer. -/
def raiseTrim (step : Nat) (s : State) : State :=
  recompute (s.modLimit fun l => { l with trim := min (l.trim + step) l.trimBound, recovery := some 0 })

/-- A fall of the trim (R150): the timer starts again if the trim is still above 0. -/
def lowerTrim (step : Nat) (s : State) : State :=
  recompute (s.modLimit fun l => { l with trim := l.trim - step, recovery := some 0 })

/-- Set the ceiling (R118, R139). -/
def setCeiling (c : Nat) (s : State) : State := recompute (s.modLimit fun l => { l with ceiling := some c })

/-- The end of a transition at the Limit Unit (R126, R139): the ceiling removed and the trim 0, as one event. -/
def removeCeiling (s : State) : State :=
  recompute (s.modLimit fun l => { l with ceiling := none, trim := 0, recovery := none })

/-- The level of the limit line in a count 0 to 999 of the period (R141): high for the first `duty` counts. -/
def State.limitLine (s : State) (count : Nat) : Bool := count < s.limit.duty

/-- The plan's limit (R118): the arithmetic of the raw limit over the plan's entries, with trim 0. -/
def PlanEntry.limitShare (e : PlanEntry) : Nat :=
  match e.action with
  | .claim => e.requested * (100 - e.derate) / 100
  | .keep t => t.granted * (100 - t.derate) / 100

def planLimit (i : PolicyImage) : Plan → Nat
  | .draw e none => min (e.limitShare - i.pathReserve) i.fullScale
  | .draw e (some e') => min (e.limitShare + e'.limitShare - i.pathReserve) i.fullScale
  | .base _ => min (Config.baseCurrent - i.pathReserve) i.fullScale
  | .empty => 0

end Sys2Proof.Machine
end

