-- ==== Sys2Proof/Machine/Selection.lean ====
section
/-! DEFINITION. Selection (06): the computation of a draw plan from the state as it stands at the run. -/

namespace Sys2Proof.Machine

open Sys2Proof

/-! ### Candidates (R95) -/

/-- R95: the five conditions. -/
def State.candidate (s : State) (p : Port) : Bool :=
  let m := s.monitor.get p
  (match m.state with
    | .talking => s.supplies p
    | .legacy => true
    | .empty | .sensing | .probing | .measuring | .mute => false)
    && !m.barred && m.coolOff.isNone && m.failures != 3 && !(s.book.get p).points.isEmpty

/-! ### The chain walk (R96 to R98) -/

/-- The charger window and the rule's window against a point (R97): the effective voltage, where the test passes. -/
def effectiveVoltage (i : PolicyImage) (r : Rule) (q : OfferPoint) : Option Nat :=
  match q.form with
  | .fixed =>
    if r.minVoltage ≤ q.minVoltage && q.minVoltage ≤ r.maxVoltage && i.windowMin ≤ q.minVoltage
        && q.minVoltage ≤ i.windowMax then some q.minVoltage
    else none
  | .span =>
    let floor := max q.minVoltage (max r.minVoltage i.windowMin)
    let ceiling := min q.maxVoltage (min r.maxVoltage i.windowMax)
    if floor ≤ ceiling / 100 * 100 then some (ceiling / 100 * 100) else none

/-- R97: a point that matches its rule can serve a voltage. -/
def canServe (i : PolicyImage) (r : Rule) (q : OfferPoint) (v : Nat) : Bool :=
  match q.form with
  | .fixed => v == q.minVoltage
  | .span =>
    max q.minVoltage (max r.minVoltage i.windowMin) ≤ v && v ≤ min q.maxVoltage (min r.maxVoltage i.windowMax)
      && v % 100 == 0

/-- R98: the shared test. -/
def SharedCondition.passes (c : SharedCondition) (shared : Bool) : Bool :=
  match c with
  | .any => true
  | .unsharedOnly => !shared
  | .sharedOnly => shared
  | .invalid => false

/-- R98: a rule matches a point. -/
def Rule.matchesPoint (r : Rule) (i : PolicyImage) (q : OfferPoint) : Bool :=
  (effectiveVoltage i r q).isSome && r.minCurrent ≤ q.maxCurrent && r.shared.passes q.shared

/-- R96: walk the chain from a link; the rule that makes the point eligible. 48 rules decide every walk. -/
def walkRules (i : PolicyImage) (q : OfferPoint) : Nat → Nat → Option (Nat × Rule)
  | 0, _ => none
  | fuel + 1, link =>
    match i.rules[link]? with
    | none => none
    | some r =>
      if r.matchesPoint i q then
        match r.action with
        | .accept => some (link, r)
        | .reject | .invalid2 | .invalid3 => none
      else walkRules i q fuel r.next

/-- The chain head of a class view (R74). -/
def PolicyImage.headOf (i : PolicyImage) : ClassView → Nat
  | .supplier => i.supplierHead
  | .dock => i.dockHead
  | .legacy => i.legacyHead
  | .none | .accessory => Config.linkEnd

/-! ### Values of a point (R99) -/

/-- An eligible point of a candidate, with its matched rule, its effective voltage and its usable current. -/
structure Eligible where
  port : Port
  index : Nat
  point : OfferPoint
  ruleIndex : Nat
  rule : Rule
  effective : Nat
  usable : Nat
  deriving DecidableEq, Repr

/-- Derated power at a voltage (R99), in mW. -/
def Eligible.deratedAt (e : Eligible) (v : Nat) : Nat := v * e.usable / 1000 * (100 - e.rule.derate) / 100

/-- Score at a voltage (R99). -/
def Eligible.scoreAt (e : Eligible) (v : Nat) : Nat := e.deratedAt v * e.rule.weight

/-- R96, R99: a point of a port, if it is eligible; `index` counts from 1 in frame order. -/
def State.eligiblePoint (s : State) (p : Port) (index : Nat) (q : OfferPoint) : Option Eligible :=
  let i := s.policy.active
  if q.mark ≠ .usable then none
  else
    match walkRules i q 48 (i.headOf (s.classView p)) with
    | none => none
    | some (k, r) =>
      match effectiveVoltage i r q with
      | none => none
      | some v =>
        let u := min q.maxCurrent (min r.cap (i.connectorLimit p))
        if u < Config.baseCurrent then none
        else some { port := p, index := index, point := q, ruleIndex := k, rule := r, effective := v, usable := u }

/-- The eligible points of a port in index order; none where the port is no candidate. -/
def State.eligiblePoints (s : State) (p : Port) : List Eligible :=
  if s.candidate p then
    (((List.range 7).zip (s.book.get p).points).filterMap fun e => s.eligiblePoint p (e.1 + 1) e.2)
  else []

/-! ### Best points and ports (R100, R101) -/

/-- R100: the first point is better: higher score, then lower effective voltage, then lower index. -/
def Eligible.better (a b : Eligible) : Bool :=
  let sa := a.scoreAt a.effective
  let sb := b.scoreAt b.effective
  if sa ≠ sb then sb < sa
  else if a.effective ≠ b.effective then a.effective < b.effective
  else a.index < b.index

/-- The better of two by a comparison that ranks the earlier first on a tie. -/
def pickBest {α : Type} (better : α → α → Bool) : List α → Option α
  | [] => none
  | a :: rest =>
    match pickBest better rest with
    | none => some a
    | some b => if better b a then some b else some a

def State.bestPoint (s : State) (p : Port) : Option Eligible := pickBest Eligible.better (s.eligiblePoints p)

/-- R101, R107: one port's point against another's by score at a voltage of each, then by a closed draw switch, then
by the lower port number. -/
def State.portBetter (s : State) (at1 : Eligible → Nat) (a b : Eligible) : Bool :=
  if at1 a ≠ at1 b then at1 b < at1 a
  else
    let ca := (s.contract.get a.port).drawClosed
    let cb := (s.contract.get b.port).drawClosed
    if ca ≠ cb then ca else a.port < b.port

/-- R101: the leading port's best point. -/
def State.leading (s : State) : Option Eligible :=
  pickBest (s.portBetter fun e => e.scoreAt e.effective) (allPorts.filterMap s.bestPoint)

/-! ### The primary (R102, R103) -/

/-- A contract in state BASE counts as holding role PRIMARY (R102). -/
def Contract.holdsPrimary (c : Contract) : Bool := c.role == .primary || c.state == .base

/-- R102: the current primary port's best point. -/
def State.currentPrimary (s : State) : Option Eligible :=
  let held := allPorts.filter fun p => (s.contract.get p).holdsPrimary
  let second := allPorts.filter fun p => (s.contract.get p).role == .secondary
  (held.findSome? s.bestPoint) <|> (second.findSome? s.bestPoint)

/-- The chosen primary point with the voltage to draw at. -/
structure Chosen where
  point : Eligible
  voltage : Nat
  deriving DecidableEq, Repr

/-- R103: with no battery the entry keeps the established point and voltage while that point is eligible and can serve
it. -/
def State.keptPoint (s : State) (p : Port) : Option Chosen :=
  (s.contract.get p).established.bind fun t =>
    ((s.eligiblePoints p).find? fun e =>
        e.index == t.point && canServe s.policy.active e.rule e.point t.voltage).map
      fun e => { point := e, voltage := t.voltage }

/-- R102: hysteresis on the products. -/
def hysteresis (margin : Nat) (leading current : Eligible) : Eligible :=
  if leading.port = current.port then current
  else if leading.scoreAt leading.effective * 100 > current.scoreAt current.effective * (100 + margin) then leading
  else current

/-- R101 to R103: the primary. -/
def State.primary (s : State) : Option Chosen :=
  match s.leading with
  | none => none
  | some lead =>
    match s.currentPrimary with
    | none => some { point := lead, voltage := lead.effective }
    | some cur =>
      if s.supervisor.batteryPresent then
        let e := hysteresis s.policy.active.switchMargin lead cur
        some { point := e, voltage := e.effective }
      else
        match s.keptPoint cur.port with
        | some c => some c
        | none => some { point := cur, voltage := cur.effective }

/-! ### Requested current and damping (R104, R105, R108) -/

/-- A power ÷ voltage in mA, rounded up to a whole milliampere and then up to a multiple of 10 mA. -/
def neededCurrent (power v : Nat) : Nat := ((power * 1000 + v - 1) / v + 9) / 10 * 10

/-- R104: the requested current of the primary. -/
def primaryRequest (demand v u : Nat) : Nat :=
  if demand = 0 then u else max (min u (neededCurrent demand v)) Config.baseCurrent

/-- R105: the action of an entry by its port's contract. -/
def Contract.actionFor (c : Contract) (point v q : Nat) : EntryAction :=
  match c.established with
  | none => .claim
  | some t =>
    if t.point = point && t.voltage = v && q ≤ t.granted && t.granted ≤ q + 500 then .keep t else .claim

/-- A plan entry (R94). -/
def State.entryOf (s : State) (role : Role) (e : Eligible) (v q : Nat) : PlanEntry :=
  { role := role
    port := e.port
    source := if (s.book.get e.port).source = .legacy then .legacy else .talk
    point := e.index
    generation := (s.book.get e.port).generation
    rule := e.ruleIndex
    voltage := v
    usable := e.usable
    derated := e.deratedAt v
    score := e.scoreAt v
    requested := q
    weight := e.rule.weight
    cap := e.rule.cap
    derate := e.rule.derate
    settle := e.rule.settle
    action := (s.contract.get e.port).actionFor e.index v q }

/-! ### The secondary (R106 to R108) -/

/-- R107: within a port, the highest score at V, then the lower index. -/
def State.bestAt (s : State) (v : Nat) (p : Port) : Option Eligible :=
  pickBest (fun a b => if a.scoreAt v ≠ b.scoreAt v then b.scoreAt v < a.scoreAt v else a.index < b.index)
    ((s.eligiblePoints p).filter fun e => canServe s.policy.active e.rule e.point v)

/-- R107: the secondary's point at V, from every candidate other than the primary port. -/
def State.secondaryPoint (s : State) (primary : Port) (v : Nat) : Option Eligible :=
  pickBest (s.portBetter fun e => e.scoreAt v) ((allPorts.filter (· ≠ primary)).filterMap (s.bestAt v))

/-- R106, R108: the secondary entry. -/
def State.secondaryEntry (s : State) (primary : PlanEntry) : Option PlanEntry :=
  let demand := s.supervisor.demand
  if s.policy.active.sharedDraw = 1 && demand ≠ 0 && primary.derated < demand then
    match s.secondaryPoint primary.port primary.voltage with
    | none => none
    | some e =>
      let q := min e.usable (neededCurrent (demand - primary.derated) primary.voltage)
      if q < Config.baseCurrent then none else some (s.entryOf .secondary e primary.voltage q)
  else none

/-! ### No eligible point (R109, R110) -/

/-- R4, R109: a rail voltage that shows power is present. -/
def railLive (mv : Nat) : Bool := Config.baseRailMin ≤ mv && mv ≤ Config.baseRailMax

/-- R109: a port qualifies for a base draw. -/
def State.qualifies (s : State) (p : Port) : Bool :=
  s.attached p && !(s.monitor.get p).barred && (s.monitor.get p).failures != 3
    && !s.supply.switchClosed.get p && railLive (s.rail.get p).mv

/-- R109: the port of a BASE plan. -/
def State.basePort (s : State) : Option Port :=
  (allPorts.find? fun p => (s.contract.get p).state == .base && s.qualifies p)
    <|> allPorts.find? s.qualifies

/-- R110: the contract voltage a rail sample gives. -/
def baseVoltageOf (mv : Nat) : Nat := if mv ≤ 5500 then 5000 else mv / 100 * 100

/-- R110: the base entry. -/
def State.baseEntry (s : State) (p : Port) : BaseEntry :=
  let c := s.contract.get p
  { port := p
    voltage := if c.state = .base then c.base.getD Config.baseVoltage else baseVoltageOf (s.rail.get p).mv
    allowance := Config.baseCurrent }

/-! ### The run (R93) -/

/-- The draw plan for the state as it stands. -/
def selectPlan (s : State) : Plan :=
  match s.primary with
  | some c =>
    let q := primaryRequest s.supervisor.demand c.voltage c.point.usable
    let e := s.entryOf .primary c.point c.voltage q
    .draw e (s.secondaryEntry e)
  | none =>
    if s.supervisor.batteryPresent then .empty
    else
      match s.basePort with
      | some p => .base (s.baseEntry p)
      | none => .empty

end Sys2Proof.Machine
end

