-- ==== Sys2Proof/Machine/Flags.lean ====
section
/-! DEFINITION. The notice flags (R180): their codes and snapshots (R197), posting, and the flag TAKE NOTICE finds. -/

namespace Sys2Proof.Machine

open Sys2Proof

/-! ### Codes (R197) -/

def noticeSilent : Byte := 0x01
def noticeRailLost : Byte := 0x01
def noticeOvervolt : Byte := 0x02
def noticeAnnounced : Byte := 0x01
def noticeLegacy : Byte := 0x02
def noticeMute : Byte := 0x03
def noticeDetached : Byte := 0x04
def noticeProtocol : Byte := 0x05
def noticeTableFull : Byte := 0x06
def noticeUnsound : Byte := 0x07
def noticeGranted : Byte := 0x01
def noticeReduced : Byte := 0x02
def noticeCut : Byte := 0x03
def noticeDropped : Byte := 0x04
def noticeReference : Byte := 0x01
def noticeDone : Byte := 0x02
def noticeFormat : Byte := 0x01
def noticeCheck : Byte := 0x02
def noticeKind : Byte := 0x03
def noticeOverrun : Byte := 0x04

/-- CONTRACT codes, which serve also as the last outcome (R197). -/
def ContractOutcome.code : ContractOutcome → Byte
  | .none => 0x00
  | .settled => 0x01
  | .dropped => 0x02
  | .held => 0x03
  | .stale => 0x04
  | .denied => 0x05
  | .noAnswer => 0x06
  | .noReady => 0x07
  | .noSettle => 0x08
  | .aborted => 0x09

def Attach.code : Attach → Nat
  | .empty => 0
  | .sensing => 1
  | .probing => 2
  | .measuring => 3
  | .talking => 4
  | .legacy => 5
  | .mute => 6

def ClassView.code : ClassView → Nat
  | .none => 0
  | .supplier => 1
  | .dock => 2
  | .accessory => 3
  | .legacy => 4

def ContractState.code : ContractState → Nat
  | .idle => 0
  | .base => 1
  | .claiming => 2
  | .awaiting => 3
  | .settling => 4
  | .active => 5

def Role.code : Role → Nat
  | .none => 0
  | .primary => 1
  | .secondary => 2

/-- Channel code (R196). -/
def Channel.code : Channel → Nat
  | .id p => p.val
  | .refLo => 4
  | .refHi => 5

/-! ### Snapshots: four bytes, byte 0 first -/

def snapshotOf (b0 b1 b2 b3 : Nat) : BitVec 32 :=
  BitVec.ofNat 32 (b0 % 256 * 16777216 + b1 % 256 * 65536 + b2 % 256 * 256 + b3 % 256)

/-- A number in bytes 2 and 3. -/
def snapshotLow (n : Nat) : BitVec 32 := snapshotOf 0 0 (n / 256) n

/-- The snapshot of a FAULT notice: the rail sample in mV (R197); one that does not fit two bytes leaves a free value
there (log entry 37). -/
def faultSnapshot (mv : Nat) : BitVec 32 := snapshotLow (if mv < 65536 then mv else Config.wideSample mv)

/-! ### The set -/

def NoticeSet.get (n : NoticeSet) : NoticeFlag → Option Notice
  | .silence => n.silence
  | .fault p => n.fault.get p
  | .contract p => n.contract.get p
  | .partner p => n.partner.get p
  | .supply => n.supply
  | .capture p => n.capture.get p
  | .meter => n.meter
  | .link => n.link

def NoticeSet.put (n : NoticeSet) (f : NoticeFlag) (v : Option Notice) : NoticeSet :=
  match f with
  | .silence => { n with silence := v }
  | .fault p => { n with fault := n.fault.set p v }
  | .contract p => { n with contract := n.contract.set p v }
  | .partner p => { n with partner := n.partner.set p v }
  | .supply => { n with supply := v }
  | .capture p => { n with capture := n.capture.set p v }
  | .meter => { n with meter := v }
  | .link => { n with link := v }

/-- The twenty flags in order of priority from high to low (R180). -/
def noticeOrder : List NoticeFlag :=
  [.silence] ++ allPorts.map .fault ++ allPorts.map .contract ++ allPorts.map .partner ++ [.supply]
    ++ allPorts.map .capture ++ [.meter, .link]

/-- The set flag of the highest priority (R181). -/
def NoticeSet.highest (n : NoticeSet) : Option TakenNotice :=
  noticeOrder.findSome? fun f => (n.get f).map fun v => { flag := f, notice := v }

/-- R180: post to a clear flag, or replace the code, snapshot and count of a set one. -/
def postTo (old : Option Notice) (code : Byte) (snapshot ms : BitVec 32) : Notice :=
  { code := code, snapshot := snapshot, ms := ms,
    posts := match old with
      | some n => if n.posts < 255 then n.posts + 1 else 255
      | none => 1 }

def post (f : NoticeFlag) (code : Byte) (snapshot : BitVec 32) (s : State) : State :=
  s.modLink fun l =>
    { l with notices := l.notices.put f (some (postTo (l.notices.get f) code snapshot s.msCount)) }

def clearNotice (f : NoticeFlag) (s : State) : State :=
  s.modLink fun l => { l with notices := l.notices.put f none }

/-- PARTNER notice: the attachment state and class view as they stand (R197). -/
def postPartner (code : Byte) (p : Port) (s : State) : State :=
  post (.partner p) code (snapshotOf (s.monitor.get p).state.code (s.classView p).code 0 0) s

/-- PARTNER PROTOCOL, the notice of a protocol error. -/
def protocolError (p : Port) (s : State) : State := postPartner noticeProtocol p s

/-- CONTRACT notice: the contract state and role after the transition (R126, R197). -/
def postContract (o : ContractOutcome) (p : Port) (s : State) : State :=
  post (.contract p) o.code (snapshotOf (s.contract.get p).state.code (s.contract.get p).role.code 0 0) s

def postSupply (code : Byte) (p : Port) (branch : Nat) (s : State) : State :=
  post .supply code (snapshotOf p.val branch 0 0) s

def postMeter (code : Byte) (c : Channel) (s : State) : State := post .meter code (snapshotOf c.code 0 0 0) s

def postLink (code : Byte) (s : State) : State := post .link code 0 s

/-- ATTN (R182): high while a notice flag is set or the upstream queue holds a frame; low while reset is held. -/
def State.attn (s : State) : Bool :=
  !s.inReset && (s.link.notices.highest.isSome || !s.link.upstream.isEmpty)

end Sys2Proof.Machine
end

