-- ==== Sys2Proof/Machine/Operands.lean ====
section
/-! DEFINITION. How frames carry their fields (12_frame_and_record_layouts): the check, the talk-line payloads both
ways, the arguments of system-link commands, the policy records, and the bytes of a taken notice. -/

namespace Sys2Proof.Machine

open Sys2Proof

/-! ### Bits and bytes -/

/-- Bits `lo + n - 1 .. lo` of a number. -/
def bitsOf (v lo n : Nat) : Nat := v / 2 ^ lo % 2 ^ n

/-- A number sent most significant byte first (section 12.1). -/
def numberOf (bytes : List Byte) : Nat := bytes.foldl (fun n b => n * 256 + b.toNat) 0

/-- Byte `i` of a payload, 0 where there is none. -/
def byteAt (payload : List Byte) (i : Nat) : Nat := (payload.getD i 0).toNat

/-- The number in `n` bytes from byte `i`. -/
def numberAt (payload : List Byte) (i n : Nat) : Nat := numberOf ((payload.drop i).take n)

/-- A number as `w` bytes, most significant byte first (R196). -/
def bytesOfNumber : Nat → Nat → List Byte
  | 0, _ => []
  | w + 1, n => bytesOfNumber w (n / 256) ++ [BitVec.ofNat 8 n]

/-- A number as two bytes, high byte first. -/
def twoBytes (n : Nat) : List Byte := [BitVec.ofNat 8 (n / 256), BitVec.ofNat 8 n]

/-- A number as four bytes, high byte first. -/
def fourBytes (n : Nat) : List Byte := twoBytes (n / 65536) ++ twoBytes n

/-! ### The check (R19, R194) -/

/-- One bit into the register: generator x^16 + x^12 + x^5 + 1. -/
def crcBit (r : BitVec 16) (b : Bool) : BitVec 16 :=
  if r.msb ^^ b then (r <<< 1) ^^^ 0x1021#16 else r <<< 1

/-- One byte into the register, most significant bit first. -/
def crcByte (r : BitVec 16) (b : Byte) : BitVec 16 :=
  [7, 6, 5, 4, 3, 2, 1, 0].foldl (fun r i => crcBit r (b.getLsbD i)) r

/-- The check over bytes in the order sent; the register starts at all ones, with no final inversion. -/
def crc16 (bytes : List Byte) : BitVec 16 := bytes.foldl crcByte 0xFFFF#16

/-! ### Talk-line frames as received (R19, R194) -/

/-- The header and payload bytes as received. -/
def RawFrame.covered (kind : BitVec 6) (f : Sys2Proof.RawFrame) : List Byte :=
  (f.spare ++ kind) :: (f.branch ++ f.length) :: f.payload

/-- R19: good if the check agrees, the length field is at most 28, and that many payload bytes arrived. -/
def frameGood (kind : BitVec 6) (f : RawFrame) : Bool :=
  crc16 (RawFrame.covered kind f) == f.check && f.length.toNat ≤ 28 && f.payload.length == f.length.toNat

/-- The code of a part-only kind. -/
def partOnlyCode : PartOnlyKind → BitVec 6
  | .probe => 0x09
  | .claim => 0x0A
  | .release => 0x0B
  | .supply => 0x0C
  | .cut => 0x0D

def kindAnnounce : BitVec 6 := 0x01
def kindOffer : BitVec 6 := 0x02
def kindGrant : BitVec 6 := 0x03
def kindDeny : BitVec 6 := 0x04
def kindReady : BitVec 6 := 0x05
def kindDemand : BitVec 6 := 0x06
def kindRetire : BitVec 6 := 0x07
def kindHold : BitVec 6 := 0x08

/-- The power kinds (talk-line section 2.1). -/
def isPowerKind (kind : BitVec 6) : Bool := 0x01 ≤ kind.toNat && kind.toNat ≤ 0x0D

/-- The class code of an ANNOUNCE (R194); other codes are protocol errors (R6). -/
def classOfCode : Nat → Option PartnerClass
  | 0x01 => some .supplier
  | 0x02 => some .dock
  | 0x03 => some .accessory
  | _ => none

/-- The generation nibble of byte 0 (GRANT, DENY, READY). -/
def generationOf (payload : List Byte) : BitVec 4 := BitVec.ofNat 4 (bitsOf (byteAt payload 0) 4 4)

/-- A voltage field of 50 mV steps that fills two bytes (R194). -/
def voltageField (payload : List Byte) (i : Nat) : Nat := numberAt payload i 2 * 50

/-- A current field of 10 mA steps that fills two bytes (R194). -/
def currentField (payload : List Byte) (i : Nat) : Nat := numberAt payload i 2 * 10

/-- A voltage of a policy record, bits 8..0 of its two bytes; the unused high bits are ignored (R196). -/
def voltageAt (record : List Byte) (i : Nat) : Nat := bitsOf (numberAt record i 2) 0 9 * 50

/-- A current of a policy record, bits 9..0 of its two bytes. -/
def currentAt (record : List Byte) (i : Nat) : Nat := bitsOf (numberAt record i 2) 0 10 * 10

/-- What an ANNOUNCE carries (R194). -/
structure AnnounceFields where
  cls : Option PartnerClass
  branchCount : Nat
  supplyPresent : Bool
  vendor : Nat
  model : Nat
  deriving DecidableEq, Repr

def announceFields (payload : List Byte) : AnnounceFields :=
  { cls := classOfCode (byteAt payload 0)
    branchCount := bitsOf (byteAt payload 1) 0 3
    supplyPresent := bitsOf (byteAt payload 1) 7 1 == 1
    vendor := numberAt payload 2 2
    model := numberAt payload 4 2 }

/-- What a GRANT carries (R194); the ready time is in ms. -/
structure GrantFields where
  generation : BitVec 4
  point : Nat
  current : Nat
  ready : Nat
  deriving DecidableEq, Repr

def grantFields (payload : List Byte) : GrantFields :=
  { generation := generationOf payload
    point := bitsOf (byteAt payload 0) 0 3
    current := currentField payload 1
    ready := numberAt payload 3 2 }

/-! ### Offer points (R43, R194) -/

/-- Validate one point (R44): range, order, clamp, low current; the first reason stands. -/
def markPoint (form : PointForm) (minV maxV current : Nat) (shared : Bool) : OfferPoint :=
  let stored := min current Config.currentMax
  { form := form
    minVoltage := minV
    maxVoltage := maxV
    maxCurrent := stored
    shared := shared
    mark :=
      if minV < 4500 || maxV > 25000 then .range
      else if form = .span && minV > maxV then .order
      else if stored < 500 then .lowCurrent
      else .usable
    clamped := decide (current > Config.currentMax) }

/-- A FIXED point of 3 bytes as one number of 24 bits. -/
def fixedPoint (n : Nat) : OfferPoint :=
  markPoint .fixed (bitsOf n 10 9 * 50) (bitsOf n 10 9 * 50) (bitsOf n 0 10 * 10) (bitsOf n 22 1 == 1)

/-- A SPAN point of 4 bytes as one number of 32 bits. -/
def spanPoint (n : Nat) : OfferPoint :=
  markPoint .span (bitsOf n 19 9 * 50) (bitsOf n 10 9 * 50) (bitsOf n 0 10 * 10) (bitsOf n 30 1 == 1)

/-- R43: the points placed end to end, or none where the payload ends inside a point. -/
def readPoints : List Byte → Option (List OfferPoint)
  | [] => some []
  | [_] => none
  | [_, _] => none
  | b0 :: b1 :: b2 :: rest =>
    if b0.msb then
      match rest with
      | [] => none
      | b3 :: rest' => (readPoints rest').map (spanPoint (numberOf [b0, b1, b2, b3]) :: ·)
    else
      (readPoints rest).map (fixedPoint (numberOf [b0, b1, b2]) :: ·)

/-! ### Talk-line frames as sent (R194) -/

def DenyReason.code : DenyReason → Nat
  | .unavailable => 0x02
  | .badBranch => 0x04
  | .badRequest => 0x05
  | .full => 0x06

/-- Kind, branch and payload of an engine frame (R33, R194). -/
def EngineFrame.parts : EngineFrame → Nat × Nat × List Byte
  | .exchange .probe => (0x09, 0, [])
  | .exchange (.claim c) =>
    (0x0A, 0, BitVec.ofNat 8 (c.generation.toNat * 16 + c.point % 8) :: (twoBytes (c.voltage / 50) ++ twoBytes (c.current / 10)))
  | .release => (0x0B, 0, [])
  | .supply b ma => (0x0C, b, BitVec.ofNat 8 b :: (twoBytes (Config.baseVoltage / 50) ++ twoBytes (ma / 10)))
  | .cut b => (0x0D, b, [BitVec.ofNat 8 b])
  | .deny b r => (0x04, b, [0, BitVec.ofNat 8 r.code])
  | .hold b => (0x08, b, [])

def TalkTx.parts : TalkTx → Nat × Nat × List Byte
  | .engine f => f.parts
  | .relay f => (f.kind.toNat, f.branch.toNat, f.payload)

/-- The bytes of a frame the part sends: header, payload, and the correct check, high byte first (R19, R194). -/
def TalkTx.bytes (t : TalkTx) : List Byte :=
  let (kind, branch, payload) := t.parts
  let covered := BitVec.ofNat 8 kind :: BitVec.ofNat 8 (branch * 32 + payload.length) :: payload
  covered ++ twoBytes (crc16 covered).toNat

/-! ### System-link frames (R195, R196) -/

def linkStart : Byte := 0x7E
def linkCommand : Byte := 0x01
def linkRelayDown : Byte := 0x02
def linkReply : Byte := 0x81
def linkRelayUp : Byte := 0x82

/-- The bytes the check of a link frame covers: kind to the last payload byte. -/
def LinkFrame.covered (f : LinkFrame) : List Byte :=
  f.kind :: f.port :: f.branch :: BitVec.ofNat 8 f.payload.length :: f.payload

/-- The bytes of a link frame on the wire. -/
def LinkFrame.bytes (f : LinkFrame) : List Byte :=
  linkStart :: (f.covered ++ twoBytes (crc16 f.covered).toNat)

/-- The command code of a COMMAND, where its payload has one. -/
def LinkFrame.code (f : LinkFrame) : Option Nat :=
  if f.kind = linkCommand then (f.payload[1]?).map BitVec.toNat else none

/-- Argument byte `i` after the tag and the command code. -/
def LinkFrame.arg (f : LinkFrame) (i : Nat) : Nat := byteAt f.payload (2 + i)

/-- A number of `n` bytes from argument byte `i`. -/
def LinkFrame.argNumber (f : LinkFrame) (i n : Nat) : Nat := numberAt f.payload (2 + i) n

/-- The known command codes (R196). -/
def commandCodes : List Nat :=
  [0x01, 0x02, 0x03, 0x04, 0x05, 0x06, 0x07, 0x08, 0x09, 0x10, 0x11, 0x12, 0x13, 0x14, 0x15, 0x16, 0x20, 0x21, 0x22,
   0x23, 0x24, 0x3F]

/-- Channel of a channel argument (R196). -/
def channelOfCode : Nat → Option Channel
  | 0 => some (.id 0)
  | 1 => some (.id 1)
  | 2 => some (.id 2)
  | 3 => some (.id 3)
  | 4 => some .refLo
  | 5 => some .refHi
  | _ => none

/-- The port a port byte names, where it names one (R173). -/
def portOfByte (b : Byte) : Option Port := if h : b.toNat < 4 then some ⟨b.toNat, h⟩ else none

/-! ### Policy records (R196, section 12.2) -/

def sharedOfCode : Nat → SharedCondition
  | 0 => .any
  | 1 => .unsharedOnly
  | 2 => .sharedOnly
  | _ => .invalid

def SharedCondition.code : SharedCondition → Nat
  | .any => 0
  | .unsharedOnly => 1
  | .sharedOnly => 2
  | .invalid => 3

def actionOfCode : Nat → RuleAction
  | 0 => .reject
  | 1 => .accept
  | 2 => .invalid2
  | _ => .invalid3

def RuleAction.code : RuleAction → Nat
  | .reject => 0
  | .accept => 1
  | .invalid2 => 2
  | .invalid3 => 3

/-- The rule record of 12 bytes. -/
def ruleOfBytes (r : List Byte) : Rule :=
  { minVoltage := voltageAt r 0
    maxVoltage := voltageAt r 2
    minCurrent := currentAt r 4
    shared := sharedOfCode (bitsOf (byteAt r 6) 6 2)
    action := actionOfCode (bitsOf (byteAt r 6) 4 2)
    weight := bitsOf (byteAt r 6) 0 4
    cap := currentAt r 7
    derate := bitsOf (byteAt r 9) 0 7
    settle := bitsOf (byteAt r 10) 0 7 * 10
    next := bitsOf (byteAt r 11) 0 6 }

def bytesOfRule (r : Rule) : List Byte :=
  twoBytes (r.minVoltage / 50) ++ twoBytes (r.maxVoltage / 50) ++ twoBytes (r.minCurrent / 10)
    ++ [BitVec.ofNat 8 (r.shared.code * 64 + r.action.code * 16 + r.weight)] ++ twoBytes (r.cap / 10)
    ++ [BitVec.ofNat 8 r.derate, BitVec.ofNat 8 (r.settle / 10), BitVec.ofNat 8 r.next]

/-- The rating record of 11 bytes. -/
def ratingOfBytes (r : List Byte) : Rating :=
  { used := bitsOf (byteAt r 0) 0 1 == 1
    minResistance := bitsOf (numberAt r 1 3) 0 18
    maxResistance := bitsOf (numberAt r 4 3) 0 18
    voltage := voltageAt r 7
    current := currentAt r 9 }

def bytesOfRating (r : Rating) : List Byte :=
  [BitVec.ofNat 8 r.used.toNat]
    ++ [BitVec.ofNat 8 (r.minResistance / 65536)] ++ twoBytes r.minResistance
    ++ [BitVec.ofNat 8 (r.maxResistance / 65536)] ++ twoBytes r.maxResistance
    ++ twoBytes (r.voltage / 50) ++ twoBytes (r.current / 10)

/-- The unit step of a platform parameter: 10 mA, 50 mV, or one (section 12.2). -/
def paramStep (identifier : Nat) : Nat :=
  if identifier ≤ 3 || identifier = 8 || identifier = 9 || identifier = 13 then 10
  else if identifier = 4 || identifier = 5 then 50
  else 1

/-! ### Replies (R196, R197) -/

def RefusalReason.code : RefusalReason → Nat
  | .unknown => 0x01
  | .length => 0x02
  | .badIndex => 0x03
  | .notOpen => 0x04
  | .invalid => 0x05
  | .powerKind => 0x06
  | .notAttached => 0x07
  | .badBranch => 0x08
  | .range => 0x09
  | .noRecord => 0x0A
  | .empty => 0x0B

def ImagePart.code : ImagePart → Nat
  | .params => 0x01
  | .rule => 0x02
  | .head => 0x03
  | .chain => 0x04
  | .rating => 0x05

/-- Notice kind and port bytes (R197). -/
def NoticeFlag.kindPort : NoticeFlag → Nat × Nat
  | .silence => (0x01, 0)
  | .fault p => (0x02, p.val)
  | .contract p => (0x03, p.val)
  | .partner p => (0x04, p.val)
  | .supply => (0x05, 0)
  | .capture p => (0x06, p.val)
  | .meter => (0x07, 0)
  | .link => (0x08, 0)

/-- The fields of a TAKE NOTICE reply after its status byte (R197). -/
def noticeBytes : Option TakenNotice → List Byte
  | none => List.replicate 12 0
  | some t =>
    [BitVec.ofNat 8 t.flag.kindPort.1, BitVec.ofNat 8 t.flag.kindPort.2, t.notice.code]
      ++ fourBytes t.notice.snapshot.toNat ++ fourBytes t.notice.ms.toNat ++ [BitVec.ofNat 8 t.notice.posts]

end Sys2Proof.Machine
end

