-- ==== Sys2Proof/Machine/TalkOps.lean ====
section
/-! DEFINITION. The Talk Line Framer's operations (02): the engine list, the transmitter, line soundness, and the
part's own exchanges. -/

namespace Sys2Proof.Machine

open Sys2Proof

/-! ### The engine list (R33, R36) -/

/-- An answer is a DENY or a HOLD sent by the part. -/
def EngineFrame.isAnswer : EngineFrame → Bool
  | .deny _ _ | .hold _ => true
  | .exchange _ | .release | .supply _ _ | .cut _ => false

/-- A SUPPLY or CUT for this branch. -/
def EngineFrame.suppliesBranch (b : Nat) : EngineFrame → Bool
  | .supply b' _ | .cut b' => b' == b
  | .exchange _ | .release | .deny _ _ | .hold _ => false

def EngineFrame.isExchange : EngineFrame → Bool
  | .exchange _ => true
  | .release | .supply _ _ | .cut _ | .deny _ _ | .hold _ => false

def EngineFrame.isClaim : EngineFrame → Bool
  | .exchange (.claim _) => true
  | .exchange .probe | .release | .supply _ _ | .cut _ | .deny _ _ | .hold _ => false

/-- Put the latest word on a branch in the place of the unsent one, or at the tail (R36). -/
def replaceOrAppend (b : Nat) (f : EngineFrame) (l : List EngineFrame) : List EngineFrame :=
  if l.any (EngineFrame.suppliesBranch b) then l.map fun g => if g.suppliesBranch b then f else g
  else l ++ [f]

/-- A RELEASE: not added twice; immediately ahead of an unsent CLAIM, or at the tail (R36). -/
def insertRelease (l : List EngineFrame) : List EngineFrame :=
  if l.contains .release then l
  else l.takeWhile (fun g => !g.isClaim) ++ .release :: l.dropWhile (fun g => !g.isClaim)

/-- R36: where a frame goes in the engine list; an answer that finds three answers waiting is not placed. -/
def placeIn (f : EngineFrame) (l : List EngineFrame) : List EngineFrame :=
  match f with
  | .supply b _ | .cut b => replaceOrAppend b f l
  | .release => insertRelease l
  | .exchange _ => l ++ [f]
  | .deny _ _ | .hold _ => if (l.filter EngineFrame.isAnswer).length < Config.answerSize then l ++ [f] else l

/-! ### The transmitter (R34) -/

/-- No frame is on the line in either direction (R34). -/
def Framer.quiet (f : Framer) : Bool := f.sending.isNone && f.incoming == .quiet

/-- The framer after its transmitter has looked for a frame: it starts one only on a quiet line. -/
def Framer.look (f : Framer) : Framer :=
  if f.quiet then
    match f.engine, f.relay with
    | e :: rest, _ => { f with engine := rest, sending := some (.engine e) }
    | [], r :: rest => { f with relay := rest, sending := some (.relay r) }
    | [], [] => f
  else f

/-- The look puts a PROBE on the line. -/
def Framer.startsProbe (f : Framer) : Bool := f.quiet && f.engine.head? == some (.exchange .probe)

/-- R34: the transmitter looks for a frame; the probe timer restarts when a PROBE is put on the line (R5). -/
def transmit (p : Port) (s : State) : State :=
  let t := s.modFramer p Framer.look
  if (s.framer.get p).startsProbe then
    t.modMonitor p fun m => if m.state = .probing then { m with probeTimer := some 0 } else m
  else t

/-- Place a frame in a port's engine list; the transmitter looks at once if the line is quiet (R34, R36). -/
def place (p : Port) (f : EngineFrame) (s : State) : State :=
  transmit p (s.modFramer p fun x => { x with engine := placeIn f x.engine })

/-- Place an answer: a DENY or a HOLD, under the answer limit of R36. -/
def answerDeny (p : Port) (branch : Nat) (r : DenyReason) (s : State) : State := place p (.deny branch r) s

def answerHold (p : Port) (branch : Nat) (s : State) : State := place p (.hold branch) s

/-! ### Exchanges (R28 to R32) -/

/-- The exchange frame as the port's exchange, queued with HOLD count 0, its frame in the engine list. -/
def startExchange (p : Port) (k : ExchangeKind) (s : State) : State :=
  place p (.exchange k)
    (s.modFramer p fun f =>
      { f with exchange := some { kind := k, condition := .queued, holds := 0, withdrawn := false } })

/-- R28: a request for an exchange; it waits while the port has one. -/
def requestExchange (p : Port) (k : ExchangeKind) (s : State) : State :=
  match (s.framer.get p).exchange with
  | none => startExchange p k s
  | some _ => s.modFramer p fun f => { f with waiting := f.waiting ++ [k] }

/-- The end of the port's exchange, in any way: the next waiting request becomes the port's exchange (R30). -/
def endExchange (p : Port) (s : State) : State :=
  match (s.framer.get p).waiting with
  | [] => s.modFramer p fun f => { f with exchange := none }
  | k :: rest => startExchange p k (s.modFramer p fun f => { f with exchange := none, waiting := rest })

/-- The port's CLAIM exchange is answer-due. -/
def Framer.claimDue (f : Framer) : Bool :=
  match f.exchange with
  | some { kind := .claim _, condition := .answerDue _, .. } => true
  | _ => false

/-- An exchange of the port is answer-due. -/
def Framer.exchangeDue (f : Framer) : Bool :=
  match f.exchange with
  | some { condition := .answerDue _, .. } => true
  | _ => false

/-- The exchange frame is on the line. -/
def Framer.sendingExchange (f : Framer) : Bool :=
  match f.sending with
  | some (.engine (.exchange _)) => true
  | _ => false

/-- The CLAIM of the port has never been on the line: its exchange is queued for the first time and is not being
sent, or its request still waits behind another exchange (R131). -/
def Framer.claimUnsent (f : Framer) : Bool :=
  match f.exchange with
  | some { kind := .claim _, condition := .queued, holds := 0, withdrawn := false } => !f.sendingExchange
  | some { kind := .claim _, withdrawn := true, .. } => true
  | some { kind := .probe, .. } => true
  | _ => false

/-- R32: withdraw the port's CLAIM exchange without a report. A CLAIM being sent is sent to its end first. A CLAIM
request that still waits is dropped. -/
def withdrawClaim (p : Port) (s : State) : State :=
  let t := s.modFramer p fun f => { f with waiting := f.waiting.filter (· == .probe) }
  match (s.framer.get p).exchange with
  | some { kind := .claim _, condition := .queued, .. } =>
    if (s.framer.get p).sendingExchange then
      t.modFramer p fun f => { f with exchange := f.exchange.map fun e => { e with withdrawn := true } }
    else endExchange p (t.modFramer p fun f => { f with engine := f.engine.filter fun g => !g.isExchange })
  | some { kind := .claim _, .. } => endExchange p t
  | _ => t

/-- R29: an ANNOUNCE taken ends the port's PROBE exchange in any of its conditions; a queued PROBE leaves the engine
list unsent, and a PROBE request that waits is dropped. -/
def endProbe (p : Port) (s : State) : State :=
  let t := s.modFramer p fun f => { f with waiting := f.waiting.filter (· != .probe) }
  match (s.framer.get p).exchange with
  | some { kind := .probe, .. } =>
    endExchange p (t.modFramer p fun f => { f with engine := f.engine.filter fun g => !(g == .exchange .probe) })
  | _ => t

/-- The end of a frame on the line (R28, R32): an exchange frame makes its exchange answer-due, or ends a withdrawn
exchange; then the transmitter looks again (R34). -/
def frameSent (p : Port) (s : State) : State :=
  match (s.framer.get p).sending with
  | none => s
  | some t =>
    let quiet := s.modFramer p fun f => { f with sending := none }
    let after :=
      match t, (s.framer.get p).exchange with
      | .engine (.exchange _), some { condition := .queued, withdrawn := false, .. } =>
        quiet.modFramer p fun f =>
          { f with exchange := f.exchange.map fun e => { e with condition := .answerDue 0 } }
      | .engine (.exchange _), some { withdrawn := true, .. } => endExchange p quiet
      | _, _ => quiet
    transmit p after

/-- R31: a HOLD that is no fifth one; the exchange becomes held. -/
def holdExchange (p : Port) (s : State) : State :=
  s.modFramer p fun f =>
    { f with exchange := f.exchange.map fun e => { e with condition := .held 0, holds := e.holds + 1 } }

/-- R31: the resend timer of a held exchange; the frame is placed again with the same fields. -/
def resend (p : Port) (s : State) : State :=
  match (s.framer.get p).exchange with
  | some { kind := k, condition := .held _, .. } =>
    place p (.exchange k)
      (s.modFramer p fun f =>
        { f with exchange := f.exchange.map fun e => { e with condition := .queued } })
  | _ => s

/-! ### Line soundness (R20, R21) -/

/-- R20: a bad frame. -/
def countBad (p : Port) (s : State) : State :=
  let f := s.framer.get p
  let n := min (f.badCount + 1) 3
  let t := s.modFramer p fun f => { f with badCount := n }
  if n = 3 && !f.unsound then
    postPartner noticeUnsound p
      (t.modFramer p fun f => { f with unsound := true, latchedUnsound := true })
  else t

/-- R20: a good frame. -/
def countGood (p : Port) (s : State) : State :=
  s.modFramer p fun f => { f with badCount := 0, unsound := false }

/-! ### Taking a received frame (R8, R19, R22, R34) -/

/-- R34: a frame of the partner begins: it is received, or lost where the part is sending. -/
def Framer.begun (f : Framer) : Framer := { f with incoming := if f.sending.isSome then .lost else .receiving }

/-- R34: the partner's frame on the line is one the framer does not receive: it began while the part was sending, or,
its beginning not told, it arrives while the part is sending. -/
def Framer.losesFrame (f : Framer) : Bool := f.sending.isSome || f.incoming == .lost

/-- R34: the partner's frame has ended. -/
def lineCleared (p : Port) (s : State) : State := s.modFramer p fun x => { x with incoming := .quiet }

/-- A partner's frame on a port's talk line. Its beginning holds the transmitter off until its end (R34). At its end it
is discarded unchecked while the port is EMPTY or SENSING (R8); it is lost if it overlapped a frame of the part (R34);
it is counted bad or good (R19, R20); a good frame is then taken. The line is quiet at its end, unless the part is
sending, so the transmitter looks (R34): at the frames the taken one placed or withdrew as well, for it is taken first
(DESIGN CHOICE, log entry 44). A frame whose beginning was not told begins and ends in this one event (log
entry 16). -/
def receiveFrame (p : Port) (kind : BitVec 6) (f : RawFrame) (take : State → State) (s : State) : State :=
  if f.begins then s.modFramer p Framer.begun
  else if !s.attached p then lineCleared p s
  else if (s.framer.get p).losesFrame then transmit p (lineCleared p s)
  else if frameGood kind f then transmit p (take (countGood p (lineCleared p s)))
  else transmit p (countBad p (lineCleared p s))

/-- The payload length of a power kind that R22 tests. -/
def powerLength (kind : BitVec 6) : Option Nat :=
  if kind = kindAnnounce then some 6
  else if kind = kindGrant then some 5
  else if kind = kindDeny then some 2
  else if kind = kindReady then some 1
  else if kind = kindDemand then some 4
  else if kind = kindRetire then some 0
  else if kind = kindHold then some 0
  else none

def lengthWrong (kind : BitVec 6) (f : RawFrame) : Bool :=
  match powerLength kind with
  | some n => f.payload.length != n
  | none => false

/-- Tests 1, 3 and 4 of R22 on a TALKING port, for a kind that is not part-only; `route` is steps 5 and 6. On a port
that is not TALKING the frame is a protocol error (R8). -/
def takeTalking (p : Port) (kind : BitVec 6) (f : RawFrame) (route : State → State) (s : State) : State :=
  if (s.monitor.get p).state ≠ .talking then protocolError p s
  else if f.branch = 7 then protocolError p s
  else if s.branchCount p < f.branch.toNat then answerDeny p f.branch.toNat .badBranch s
  else if lengthWrong kind f then protocolError p s
  else route s

end Sys2Proof.Machine
end

