-- ==== Sys2Proof/Machine/SupplyOps.lean ====
section
/-! DEFINITION. The Supply Unit's operations (09) and the allocation of pooled partner records (R14 to R16): grants,
the wait list and its service, the budget decrease, the port-limit rebalance, and the cut before a draw. -/

namespace Sys2Proof.Machine

open Sys2Proof

/-! ### Records and grants -/

def PooledRecord.isFor (p : Port) (b : Nat) (r : PooledRecord) : Bool := r.port == p && r.branch == b

/-- A record is in use for the pair. -/
def State.hasRecord (s : State) (p : Port) (b : Nat) : Bool :=
  if b = 0 then (s.table.own.get p).isSome else s.table.pool.any (PooledRecord.isFor p b)

/-- The grant of the pair, if it holds one. -/
def State.grantOf (s : State) (p : Port) (b : Nat) : Option Grant :=
  if b = 0 then (s.table.own.get p).bind PartnerRecord.grant
  else (s.table.pool.find? (PooledRecord.isFor p b)).bind PooledRecord.grant

/-- Write the grant field of the pair's record. -/
def setGrant (p : Port) (b : Nat) (g : Option Grant) (s : State) : State :=
  if b = 0 then s.setOwn p ((s.table.own.get p).map fun r => { r with grant := g })
  else s.setPool (s.table.pool.map fun r => if r.isFor p b then { r with grant := g } else r)

/-- Apply one function to every grant in force. -/
def mapGrants (f : Grant → Grant) (s : State) : State :=
  { s with table :=
    { own := s.table.own.map fun r => r.map fun r => { r with grant := r.grant.map f }
      pool := s.table.pool.map fun r => { r with grant := r.grant.map f } } }

/-- Every grant in force with its pair: branch 0 of ports 0 to 3, then the pooled records. -/
def State.grants (s : State) : List GrantView :=
  allPorts.filterMap (fun p =>
      ((s.table.own.get p).bind PartnerRecord.grant).map fun g => { port := p, branch := 0, grant := g })
    ++ s.table.pool.filterMap fun r => r.grant.map fun g => { port := r.port, branch := r.branch, grant := g }

def State.portGrants (s : State) (p : Port) : List GrantView := s.grants.filter fun g => g.port == p

/-- The sum of granted currents (mA). -/
def currentSum (l : List GrantView) : Nat := (l.map fun g => g.grant.current).sum

/-- R154: reserved power, the sum of all granted currents × 5,000 ÷ 1000, in mW. -/
def State.reserved (s : State) : Nat := currentSum s.grants * Config.baseVoltage / 1000

/-- R154: budget room for a budget and a reserved power, rounded down to a multiple of 10 mA. -/
def budgetRoomOf (budget reserved : Nat) : Nat := (budget - reserved) * 1000 / Config.baseVoltage / 10 * 10

def State.budgetRoom (s : State) : Nat := budgetRoomOf s.supply.budget s.reserved

/-- R154: port room of a port. -/
def State.portRoom (s : State) (p : Port) : Nat := s.policy.active.sourcePortLimit - currentSum (s.portGrants p)

/-- The grant with the highest order number among these. -/
def newestGrant : List GrantView → Option GrantView
  | [] => none
  | g :: rest =>
    match newestGrant rest with
    | some h => if h.grant.order > g.grant.order then some h else some g
    | none => some g

/-- Grants in order number from the oldest (READ SUPPLY, R175). -/
def insertByOrder (g : GrantView) : List GrantView → List GrantView
  | [] => [g]
  | h :: t => if g.grant.order ≤ h.grant.order then g :: h :: t else h :: insertByOrder g t

def State.grantsByOrder (s : State) : List GrantView := s.grants.foldr insertByOrder []

/-- Order numbers of the grants in force. -/
def State.orders (s : State) : List Nat := s.grants.map fun g => g.grant.order

/-- R157: renumber every grant in force from 1 upward, keeping their order; the counter takes their number. -/
def renumber (s : State) : State :=
  let orders := s.orders
  (mapGrants (fun g => { g with order := 1 + (orders.filter (· < g.order)).length }) s).modSupply
    fun u => { u with orderCounter := orders.length }

/-- R157: the order counter rises by 1, after a renumbering where it stands at 65,535. -/
def takeOrder (s : State) : State :=
  (if s.supply.orderCounter ≥ 65535 then renumber s else s).modSupply
    fun u => { u with orderCounter := u.orderCounter + 1 }

def setSupplySwitch (p : Port) (closed : Bool) (s : State) : State :=
  s.modSupply fun u => { u with switchClosed := u.switchClosed.set p closed }

/-- R163: the supply switch opens when the port's last grant is removed. -/
def openIfUnused (p : Port) (s : State) : State :=
  if (s.portGrants p).isEmpty then setSupplySwitch p false s else s

/-- R157: a grant is made, as one event. -/
def makeGrant (p : Port) (b current requested : Nat) (s : State) : State :=
  let t := takeOrder s
  let g : Grant := { current := current, requested := requested, order := t.supply.orderCounter }
  postSupply noticeGranted p b
    (setSupplySwitch p true (place p (.supply b current) (setGrant p b (some g) t)))

/-! ### Conditions on the port (R155) -/

/-- The port is a joining port of the transition in service (R117). -/
def State.isJoining (s : State) (p : Port) : Bool :=
  match s.sequencer.transition with
  | some t => t.joining.contains p
  | none => false

/-- Conditions 1, 2 and 3 of R155. -/
def State.supplyBarred (s : State) (p : Port) : Bool :=
  (s.contract.get p).drawClosed || (s.contract.get p).state != .idle || s.isJoining p || s.supplies p

/-- A requested current as R156 takes it in step 1. -/
def State.takenRequest (s : State) (requested : Nat) : Nat :=
  min (max requested Config.baseCurrent) s.policy.active.sourcePortLimit

/-! ### The wait list (R158, R160, R161) -/

def WaitEntry.isFor (p : Port) (b : Nat) (w : WaitEntry) : Bool := w.port == p && w.branch == b

def State.waits (s : State) (p : Port) (b : Nat) : Bool := s.supply.waitList.any (WaitEntry.isFor p b)

def setWaitList (l : List WaitEntry) (s : State) : State := s.modSupply fun u => { u with waitList := l }

/-- Remove a pair's entry; the entries behind it close up. -/
def removeWait (p : Port) (b : Nat) (s : State) : State :=
  setWaitList (s.supply.waitList.filter fun w => !w.isFor p b) s

/-- One round of the service (R161): what happens to the head, and whether service continues. -/
def serveHead (s : State) : Option State :=
  match s.supply.waitList with
  | [] => none
  | w :: rest =>
    if s.supplyBarred w.port then some (answerDeny w.port w.branch .unavailable (setWaitList rest s))
    else
      let requested := min w.requested s.policy.active.sourcePortLimit
      let current := min requested (min s.budgetRoom (s.portRoom w.port))
      if Config.baseCurrent ≤ current then
        some (makeGrant w.port w.branch current requested (setWaitList rest s))
      else none

/-- Step 2 of R161 holds for a head that stays: its requested current is lowered to the source port limit. -/
def lowerHead (s : State) : State :=
  match s.supply.waitList with
  | [] => s
  | w :: rest => setWaitList ({ w with requested := min w.requested s.policy.active.sourcePortLimit } :: rest) s

/-- R161: serve from the head until it stays; each round removes an entry, so the list's length bounds the rounds. -/
def serveRounds : Nat → State → State
  | 0, s => s
  | n + 1, s =>
    match serveHead s with
    | some t => serveRounds n t
    | none => lowerHead s

/-- R161: the wait list is served. -/
def serve (s : State) : State := serveRounds s.supply.waitList.length s

/-- R158: join the tail of the wait list with HOLD, or be answered DENY FULL. -/
def joinWaitList (p : Port) (b requested : Nat) (s : State) : State :=
  if s.supply.waitList.length < Config.waitSize then
    answerHold p b (setWaitList (s.supply.waitList ++ [{ port := p, branch := b, requested := requested }]) s)
  else answerDeny p b .full s

/-! ### DEMAND (R155 to R160) -/

/-- R155: the answer to a DEMAND that is refused. -/
def State.demandRefusal (s : State) (p : Port) (voltage : Nat) : Option DenyReason :=
  if s.supplyBarred p then some .unavailable
  else if s.supply.budget = 0 then some .unavailable
  else if voltage < 4500 then some .badRequest
  else none

/-- R156: a DEMAND from a branch with neither grant nor wait-list entry. -/
def demandNew (p : Port) (b requested : Nat) (s : State) : State :=
  let current := min requested (min s.budgetRoom (s.portRoom p))
  if s.supply.waitList.isEmpty && Config.baseCurrent ≤ current then makeGrant p b current requested s
  else joinWaitList p b requested s

/-- R159: the granted current of a renewed grant, with the old grant left out of the sums. -/
def State.renewedCurrent (s : State) (p : Port) (old : Grant) (requested : Nat) : Nat :=
  let room :=
    if s.supply.waitList.isEmpty then
      budgetRoomOf s.supply.budget (s.reserved - old.current * Config.baseVoltage / 1000)
    else old.current
  let portRoom := s.policy.active.sourcePortLimit - (currentSum (s.portGrants p) - old.current)
  min requested (min room portRoom)

/-- R159: renew a grant in place. -/
def demandRenew (p : Port) (b : Nat) (old : Grant) (requested : Nat) (s : State) : State :=
  let current := s.renewedCurrent p old requested
  let t := if current > old.current then takeOrder s else s
  let order := if current > old.current then t.supply.orderCounter else old.order
  let u := place p (.supply b current)
    (setGrant p b (some { current := current, requested := requested, order := order }) t)
  if current ≠ old.current then postSupply noticeGranted p b u else u

/-- R160: update the entry in place and answer HOLD. -/
def demandWaiting (p : Port) (b requested : Nat) (s : State) : State :=
  answerHold p b
    (setWaitList (s.supply.waitList.map fun w => if w.isFor p b then { w with requested := requested } else w) s)

/-- A DEMAND at the Supply Unit. A refused one changes no state of the unit (R155); the others end with a service of
the wait list (R161). -/
def supplyDemand (p : Port) (b voltage current : Nat) (s : State) : State :=
  match s.demandRefusal p voltage with
  | some r => answerDeny p b r s
  | none =>
    let requested := s.takenRequest current
    match s.grantOf p b with
    | some old => serve (demandRenew p b old requested s)
    | none =>
      if s.waits p b then serve (demandWaiting p b requested s) else serve (demandNew p b requested s)

/-! ### RETIRE and freed records (R16, R162) -/

/-- R162: a branch gives up its grant and its wait-list entry; the wait list is not served yet. -/
def giveUp (p : Port) (b : Nat) (s : State) : State :=
  let t := removeWait p b s
  match t.grantOf p b with
  | some _ => openIfUnused p (setGrant p b none t)
  | none => t

/-- Free the pair's pooled record. -/
def freePooled (p : Port) (b : Nat) (s : State) : State :=
  s.setPool (s.table.pool.filter fun r => !r.isFor p b)

/-- A RETIRE at the Supply Unit (R162), and the freeing of its pooled record (R16). -/
def supplyRetire (p : Port) (b : Nat) (s : State) : State :=
  serve (if b = 0 then giveUp p b s else freePooled p b (giveUp p b s))

/-- R16: every pooled record of the port whose branch exceeds the count is handled as for a RETIRE and freed; the wait
list is then served once. -/
def freeAbove (p : Port) (count : Nat) (s : State) : State :=
  let gone := (s.table.pool.filter fun r => r.port == p && decide (count < r.branch)).map PooledRecord.branch
  if gone.isEmpty then s else serve (gone.foldl (fun t b => freePooled p b (giveUp p b t)) s)

/-- R15: the pair's record, allocated if it has none; a frame that needs a record when none is free is discarded,
answered DENY FULL and reported TABLE-FULL. -/
def withRecord (p : Port) (b : Nat) (go : State → State) (s : State) : State :=
  if s.hasRecord p b then go s
  else if s.table.pool.length < Config.poolSize then
    go (s.setPool (s.table.pool ++ [{ port := p, branch := b, grant := none }]))
  else postPartner noticeTableFull p (answerDeny p b .full s)

/-! ### Budget decrease and rebalance (R164, R165) -/

/-- R164 step 4, R165: a grant of 500 mA is cut; its branch joins the tail of the wait list or is dropped. -/
def cutGrant (g : GrantView) (s : State) : State :=
  let t := postSupply noticeCut g.port g.branch
    (openIfUnused g.port (place g.port (.cut g.branch) (setGrant g.port g.branch none s)))
  if t.supply.waitList.length < Config.waitSize then
    setWaitList (t.supply.waitList ++ [{ port := g.port, branch := g.branch, requested := g.grant.requested }]) t
  else postSupply noticeDropped g.port g.branch t

/-- R164 step 3, R165: a grant above 500 mA is reduced by a step, to 500 mA at the least. -/
def reduceGrant (g : GrantView) (step : Nat) (s : State) : State :=
  let current := max Config.baseCurrent (g.grant.current - step)
  postSupply noticeReduced g.port g.branch
    (place g.port (.supply g.branch current)
      (setGrant g.port g.branch (some { g.grant with current := current }) s))

/-- Rounded up to a multiple of 10. -/
def roundUpTen (n : Nat) : Nat := (n + 9) / 10 * 10

/-- One taking of the newest grant (R164 steps 1 to 4, R165). -/
def giveWay (g : GrantView) (step : Nat) (s : State) : State :=
  if g.grant.current > Config.baseCurrent then reduceGrant g step s else cutGrant g s

/-- R164: the steps repeat while the reserved power exceeds the budget. A grant is taken at most twice, reduced and
then cut, so twice the number of grants bounds the steps. -/
def decreaseSteps : Nat → State → State
  | 0, s => s
  | n + 1, s =>
    if s.supply.budget < s.reserved then
      match newestGrant s.grants with
      | some g =>
        let excess := s.reserved - s.supply.budget
        decreaseSteps n (giveWay g ((excess * 1000 + 10 * Config.baseVoltage - 1) / (10 * Config.baseVoltage) * 10) s)
      | none => s
    else s

/-- R164 without its service: the budget is set, and grants give way if it falls. -/
def takeBudget (budget : Nat) (s : State) : State :=
  let t := s.modSupply fun u => { u with budget := budget }
  if budget < s.supply.budget then decreaseSteps (2 * t.grants.length + 1) t else t

/-- R164: the source budget is set to a value. -/
def setBudget (budget : Nat) (s : State) : State := serve (takeBudget budget s)

/-- R165 on one port. -/
def rebalancePort (p : Port) (limit : Nat) : Nat → State → State
  | 0, s => s
  | n + 1, s =>
    if limit < currentSum (s.portGrants p) then
      match newestGrant (s.portGrants p) with
      | some g => rebalancePort p limit n (giveWay g (roundUpTen (currentSum (s.portGrants p) - limit)) s)
      | none => s
    else s

/-- R165: requested currents above the limit are lowered to it, in the grants and in the wait list. -/
def lowerRequests (limit : Nat) (s : State) : State :=
  let t := mapGrants (fun g => { g with requested := min g.requested limit }) s
  setWaitList (t.supply.waitList.map fun w => { w with requested := min w.requested limit }) t

/-- R165 without its service: the source port limit has changed from `old` to that of the ACTIVE image. -/
def rebalance (old : Nat) (s : State) : State :=
  let limit := s.policy.active.sourcePortLimit
  let t :=
    if limit < old then
      allPorts.foldl (fun t p => rebalancePort p limit (2 * (t.portGrants p).length + 1) t) s
    else s
  lowerRequests limit t

/-! ### The cut before a draw (R166) and the detach (R167) -/

/-- The wait-list entries of a port are removed. -/
def dropWaits (p : Port) (s : State) : State :=
  setWaitList (s.supply.waitList.filter fun w => !(w.port == p)) s

/-- Every grant of a port is removed. -/
def dropGrants (p : Port) (s : State) : State :=
  (s.portGrants p).foldl (fun t g => setGrant g.port g.branch none t) s

/-- R166: the Path Sequencer cuts a port. The manual gives no order among its grants, so their order is a free
choice (log entry 3). -/
def cutPort (p : Port) (s : State) : State :=
  let (k, s1) := takeFree s
  let cut := arrange k (s1.portGrants p)
  let s2 := cut.foldl (fun t g => place p (.cut g.branch) (setGrant p g.branch none t)) s1
  let s3 := setSupplySwitch p false s2
  let waiting := s3.supply.waitList.filter fun w => w.port == p
  let s4 := waiting.foldl (fun t w => answerDeny p w.branch .unavailable t) (dropWaits p s3)
  let s5 := match cut.getLast? with
    | some g => postSupply noticeCut p g.branch s4
    | none => s4
  serve s5

/-- The Supply Unit's part of a detach (R17, R167). -/
def supplyDetach (p : Port) (s : State) : State :=
  setSupplySwitch p false (dropWaits p (dropGrants p s))

end Sys2Proof.Machine
end

