-- ==== Sys2Proof/Machine/SequencerOps.lean ====
section
/-! DEFINITION. The Path Sequencer's operations (07): starting and ending claims, switching, release and roles, the end
of a transition, abort, protection, and the taking of a demand. -/

namespace Sys2Proof.Machine

open Sys2Proof

/-! ### Contract records -/

/-- A claim is in flight on the port. -/
def Contract.inFlight (c : Contract) : Bool :=
  match c.state with
  | .claiming | .awaiting | .settling => true
  | .idle | .base | .active => false

/-- The record with no claim: pending terms, grant details and claim timers cleared. -/
def Contract.withoutClaim (c : Contract) : Contract :=
  { c with pending := none, details := none, readyTimer := none, settleTimer := none, settleCount := 0 }

/-- IDLE with role NONE and all terms cleared. -/
def Contract.idled (c : Contract) : Contract :=
  { c.withoutClaim with state := .idle, role := .none, established := none, base := none }

/-- Back to the drawing basis the record holds (R128): ACTIVE, BASE or IDLE. -/
def Contract.restored (c : Contract) : Contract :=
  { c.withoutClaim with
    state := if c.established.isSome then .active else if c.base.isSome then .base else .idle }

def setOutcome (p : Port) (o : ContractOutcome) (s : State) : State :=
  s.modContract p fun c => { c with lastOutcome := o }

/-- The contract falls to base with a base voltage, its role kept (R124, R128, R131): the counts become 0, and the
descent timer starts from 0 if the draw switch is closed (R142, R143). -/
def fallToBase (p : Port) (v : Nat) (s : State) : State :=
  let closed := (s.contract.get p).drawClosed
  recompute
    ((s.modContract p fun c => { c.withoutClaim with state := .base, base := some v, established := none }).modDrawMonitor p
      fun d => { d.clearCounts with descent := if closed then some 0 else none })

/-! ### Plans and transitions (R117) -/

/-- The ports a plan's entries name, primary first. -/
def Plan.ports : Plan → List Port
  | .draw e none => [e.port]
  | .draw e (some e') => [e.port, e'.port]
  | .base b => [b.port]
  | .empty => []

def EntryAction.isClaim : EntryAction → Bool
  | .claim => true
  | .keep _ => false

/-- The claimed ports (R117). -/
def Plan.claimed : Plan → List Port
  | .draw e sec =>
    (if e.action.isClaim then [e.port] else [])
      ++ match sec with
         | some e' => if e'.action.isClaim then [e'.port] else []
         | none => []
  | .base _ => []
  | .empty => []

/-- The role a plan gives a port. -/
def Plan.roleOf (pl : Plan) (p : Port) : Role :=
  match pl with
  | .draw e sec =>
    if e.port = p then .primary
    else match sec with
      | some e' => if e'.port = p then .secondary else .none
      | none => .none
  | .base b => if b.port = p then .primary else .none
  | .empty => .none

def Plan.kind : Plan → PlanKind
  | .draw _ _ => .draw
  | .base _ => .base
  | .empty => .empty

/-- The joining ports when a transition begins (R117). -/
def State.joiningPorts (s : State) (pl : Plan) : List Port := pl.ports.filter fun p => !(s.contract.get p).drawClosed

/-- The leaving ports when a transition begins (R117). -/
def State.leavingPorts (s : State) (pl : Plan) : List Port :=
  allPorts.filter fun p =>
    !pl.ports.contains p && ((s.contract.get p).drawClosed || (s.contract.get p).state != .idle)

/-- R117: a port involved in the transition. -/
def Transition.involves (t : Transition) (p : Port) : Bool :=
  t.plan.claimed.contains p || t.joining.contains p || t.leaving.contains p || t.steppedOut.contains p

def setTransition (t : Option Transition) (s : State) : State :=
  s.modSequencer fun q => { q with transition := t }

def setStage (g : Stage) (s : State) : State :=
  s.modSequencer fun q => { q with transition := q.transition.map fun t => { t with stage := g } }

/-! ### The end of a service and of a transition (R115, R126) -/

/-- R115: the service ends; the rotation pointer takes the port's number. -/
def endService (s : State) : State :=
  s.modSequencer fun q =>
    { q with rotation := q.inService.getD q.rotation, inService := none, transition := none }

/-- R126: the end of a transition; the CONTRACT notice is posted for `notify`. -/
def endTransition (o : ContractOutcome) (notify : Port) (s : State) : State :=
  endService (postContract o notify (removeCeiling s))

/-- The port the CONTRACT notice of a transition names, unless a claim failed (R126). -/
def State.servicePort (s : State) : Port := s.sequencer.inService.getD s.sequencer.rotation

/-! ### Claims (R120) -/

/-- R120: another port's draw switch is closed as well. -/
def State.otherDraws (s : State) (p : Port) : Bool := s.drawSet.any (· != p)

def PlanEntry.pendingTerms (e : PlanEntry) : PendingTerms :=
  { point := e.point, generation := e.generation, voltage := e.voltage, requested := e.requested, rule := e.rule,
    weight := e.weight, cap := e.cap, derate := e.derate, settle := e.settle, source := e.source }

/-- R120: step out if another port also draws. -/
def stepOut (p : Port) (s : State) : State :=
  if (s.contract.get p).drawClosed && s.otherDraws p then
    (openDraw p s).modSequencer fun q =>
      { q with transition := q.transition.map fun t => { t with steppedOut := t.steppedOut ++ [p] } }
  else s

/-- R120: a claim starts; a LEGACY claim settles at once, which suspends its port's sag and overvoltage tests (R143). -/
def startClaim (e : PlanEntry) (g : Stage) (s : State) : State :=
  let t := stepOut e.port (setStage g s)
  match e.source with
  | .talk =>
    requestExchange e.port
      (.claim { generation := e.generation, point := e.point, voltage := e.voltage, current := e.requested })
      (t.modContract e.port fun c =>
        { c.withoutClaim with state := .claiming, pending := some e.pendingTerms })
  | .legacy =>
    (t.modContract e.port fun c =>
      { c.withoutClaim with state := .settling, pending := some e.pendingTerms,
                            details := some { current := e.requested, ready := none }, settleTimer := some 0 })
      |>.modDrawMonitor e.port DrawMonitor.suspendTests

/-! ### Release and roles (R125) -/

/-- R125: a leaving port; an ACTIVE TALK contract is sent RELEASE. -/
def leavePort (p : Port) (s : State) : State :=
  let c := s.contract.get p
  let sendsRelease := c.state == .active &&
    match c.established with
    | some t => t.source == .talk
    | none => false
  let t := if sendsRelease then place p .release s else s
  t.modContract p fun c => { c.idled with lastOutcome := .dropped }

/-- R125: each entry's port takes its role if its draw switch is closed, and role NONE if it is open. -/
def setRoles (pl : Plan) (s : State) : State :=
  pl.ports.foldl
    (fun t p => t.modContract p fun c => { c with role := if c.drawClosed then pl.roleOf p else .none }) s

/-- R126: the outcome of a transition whose switching was done. -/
def Plan.doneOutcome : Plan → ContractOutcome
  | .draw _ _ | .base _ => .settled
  | .empty => .dropped

/-- R125, R126: release, roles and the end, after the switching was done. -/
def releaseAndEnd (t : Transition) (s : State) : State :=
  let s1 := setRoles t.plan (t.leaving.foldl (fun u p => leavePort p u) s)
  let s2 := t.plan.ports.foldl
    (fun u p => if (u.contract.get p).drawClosed then setOutcome p .settled u else u) s1
  endTransition t.plan.doneOutcome s.servicePort s2

/-! ### Switching (R124) -/

/-- Close a joining port; a base entry's port takes state BASE with the entry's contract voltage. -/
def closeJoining (pl : Plan) (p : Port) (s : State) : State :=
  match pl with
  | .base b =>
    closeDraw p (s.modContract p fun c =>
      { c.withoutClaim with state := .base, base := some b.voltage, established := none })
  | .draw _ _ | .empty => closeDraw p s

/-- R124: a base entry's port whose draw switch is already closed falls to base. -/
def baseFall (pl : Plan) (s : State) : State :=
  match pl with
  | .base b =>
    let c := s.contract.get b.port
    if c.drawClosed && c.state != .base then fallToBase b.port b.voltage s else s
  | .draw _ _ | .empty => s

/-- The joining ports at the switching step: the transition's, and those that stepped out, whose draw switch is open;
primary first. -/
def State.switchJoining (s : State) (t : Transition) : List Port :=
  t.plan.ports.filter fun p =>
    (t.joining.contains p || t.steppedOut.contains p) && !(s.contract.get p).drawClosed

/-- The leaving ports whose draw switch is closed. -/
def State.switchLeaving (s : State) (t : Transition) : List Port :=
  t.leaving.filter fun p => (s.contract.get p).drawClosed

/-- The established effective voltage of an ACTIVE contract. -/
def Contract.activeVoltage (c : Contract) : Option Nat :=
  if c.state = .active then c.established.map Terms.voltage else none

/-- R124: every one of these ports is ACTIVE, at one voltage. -/
def State.oneVoltage (s : State) (l : List Port) : Bool :=
  match l with
  | [] => true
  | p :: rest =>
    (s.contract.get p).activeVoltage.isSome
      && rest.all fun q => (s.contract.get q).activeVoltage == (s.contract.get p).activeVoltage

def openAll (l : List Port) (s : State) : State := l.foldl (fun u p => openDraw p u) s

/-- R124, make before break: before each closing, if two draw switches are closed, the lowest-numbered leaving port
with a closed switch is opened. -/
def makeBeforeBreak (t : Transition) (joining : List Port) (s : State) : State :=
  let u := joining.foldl (fun u p =>
    let v := if 2 ≤ u.drawSet.length then openAll ((u.switchLeaving t).take 1) u else u
    closeJoining t.plan p v) s
  openAll (u.switchLeaving t) u

/-- R124: close the joining ports, primary first; a base entry's port already drawing falls to base; then release,
roles and the end. -/
def closeAndEnd (t : Transition) (s : State) : State :=
  releaseAndEnd t (baseFall t.plan ((s.switchJoining t).foldl (fun u p => closeJoining t.plan p u) s))

/-- R124 to R126: the switching is HELD: no draw switch changes, every joining port takes role NONE and last outcome
HELD. -/
def holdSwitching (t : Transition) (s : State) : State :=
  let u := (s.switchJoining t).foldl
    (fun u p => u.modContract p fun c => { c with role := .none, lastOutcome := .held }) s
  endTransition .held s.servicePort u

/-- R124: the way of switching. -/
def switching (s : State) : State :=
  match s.sequencer.transition with
  | none => s
  | some t =>
    let joining := s.switchJoining t
    let leaving := s.switchLeaving t
    if s.oneVoltage (leaving ++ joining) then
      releaseAndEnd t (baseFall t.plan (makeBeforeBreak t joining s))
    else if leaving.isEmpty then closeAndEnd t s
    else if s.supervisor.batteryPresent then setStage (.breaking 0) (baseFall t.plan (openAll leaving s))
    else holdSwitching t s

/-! ### The run of the claims (R117 step 3, R120) -/

/-- After the primary: the secondary's claim, or the switching. -/
def claimSecondary (pl : Plan) (s : State) : State :=
  match pl with
  | .draw _ (some e) => if e.action.isClaim then startClaim e .claimSecondary s else switching s
  | .draw _ none | .base _ | .empty => switching s

/-- The claims, primary first. -/
def runClaims (pl : Plan) (s : State) : State :=
  match pl with
  | .draw e _ => if e.action.isClaim then startClaim e .claimPrimary s else claimSecondary pl s
  | .base _ | .empty => claimSecondary pl s

/-- R123: a claim ends SETTLED: its pending terms become the established terms. -/
def settleContract (p : Port) (s : State) : State :=
  match (s.contract.get p).pending, (s.contract.get p).details with
  | some t, some g =>
    recompute
      (((s.modContract p fun c =>
          { c.withoutClaim with
            state := .active, base := none,
            established := some
              { point := t.point, generation := t.generation, voltage := t.voltage, granted := g.current,
                derate := t.derate, weight := t.weight, settle := t.settle, source := t.source } }).modDrawMonitor p
          DrawMonitor.clearCounts).modMonitor p fun m => { m with failures := 0 })
  | _, _ => s

/-- R117: the steps after a settled claim. -/
def continueClaims (s : State) : State :=
  match s.sequencer.transition with
  | none => s
  | some t =>
    match t.stage with
    | .claimPrimary => claimSecondary t.plan s
    | .start | .claimSecondary | .breaking _ => switching s

/-! ### Failed and stale claims (R11, R127, R128) -/

/-- R11: the failure count rises by 1; the cool-off starts, or the port is shunned at 3. -/
def raiseFailure (p : Port) (s : State) : State :=
  s.modMonitor p fun m =>
    if m.failures + 1 < 3 then { m with failures := m.failures + 1, coolOff := some 0 }
    else { m with failures := 3, coolOff := none }

/-- R127 step 1: a GRANT had been taken for the claim of a TALK source. -/
def Contract.grantTaken (c : Contract) : Bool :=
  (c.state == .awaiting || c.state == .settling)
    && match c.pending with
       | some t => t.source == .talk
       | none => false

/-- R127: a claim ends DENIED, NO-ANSWER, NO-READY or NO-SETTLE. -/
def failClaim (p : Port) (o : ContractOutcome) (s : State) : State :=
  let c := s.contract.get p
  let service := s.servicePort
  let s1 := if c.grantTaken then place p .release s else s
  let s2 := raiseFailure p s1
  let s3 := if c.drawClosed then openDraw p s2 else s2
  let s4 := if c.established.isSome || c.base.isSome then raiseDemand .loss p s3 else s3
  let s5 := recompute (s4.modContract p fun c => { c.idled with lastOutcome := o })
  raiseDemand .review service (endTransition o p s5)

/-- R128: a claim ends STALE; `released` when the stale GRANT was answered with RELEASE. -/
def staleClaim (p : Port) (released : Bool) (s : State) : State :=
  let t :=
    if released && (s.contract.get p).drawClosed then fallToBase p Config.baseVoltage s
    else s.modContract p Contract.restored
  endTransition .stale p (setOutcome p .stale t)

/-! ### Abort and protection (R131, R133) -/

/-- R131: a claim withdrawn unsent, or a silent one, at an abort: back to the drawing basis while the port draws; with
an open draw switch ACTIVE on its established terms, or IDLE. -/
def Contract.unclaimed (c : Contract) : Contract :=
  if c.drawClosed || c.established.isSome then c.restored else c.idled

/-- R131: a claim in flight on another port at an abort. A contract that becomes IDLE takes role NONE, one that returns
to its terms or falls to base keeps its role (DEDUCED, log entry 34). -/
def abortClaim (p : Port) (s : State) : State :=
  let c := s.contract.get p
  let unsent := c.state == .claiming && (s.framer.get p).claimUnsent
  let silent := c.state == .settling && !c.grantTaken
  let s1 := if c.state == .claiming then withdrawClaim p s else s
  if unsent || silent then s1.modContract p Contract.unclaimed
  else
    let s2 := place p .release s1
    if c.drawClosed then fallToBase p Config.baseVoltage s2
    else recompute (s2.modContract p Contract.idled)

/-- The ports whose claim or switching an abort cuts short (R126): a claim in flight, or in the break interval the
joining ports. -/
def State.cutShort (s : State) : List Port :=
  match s.sequencer.transition with
  | none => []
  | some t =>
    match t.stage with
    | .breaking _ => s.switchJoining t
    | .start | .claimPrimary | .claimSecondary => allPorts.filter fun p => (s.contract.get p).inFlight

/-- R131: the transition in service is aborted, if the lost port is involved. `short` lists the ports cut short as
they stood before the loss. R131 speaks of the leaving ports not opened yet; one that the break interval had already
opened keeps its record and its role with an open switch (DESIGN CHOICE, log entry 43). -/
def abortIfInvolved (p : Port) (short : List Port) (s : State) : State :=
  match s.sequencer.transition with
  | none => s
  | some t =>
    if t.involves p then
      let s1 := allPorts.foldl (fun u q => if (u.contract.get q).inFlight then abortClaim q u else u) s
      let s2 := short.foldl (fun u q => setOutcome q .aborted u) s1
      endTransition .aborted s.servicePort s2
    else s

/-- R17, R133: the port leaves the draw set and its contract record becomes IDLE. -/
def clearContract (p : Port) (s : State) : State :=
  let t := if (s.contract.get p).drawClosed then openDraw p s else s
  recompute (t.modContract p Contract.idled)

/-- R133: protection takes a port out of the draw set. -/
def protect (p : Port) (s : State) : State :=
  let short := s.cutShort
  let t := if (s.contract.get p).state = .claiming then withdrawClaim p s else s
  abortIfInvolved p short (raiseDemand .loss p (clearContract p t))

/-! ### Taking a demand (R115 to R119) -/

/-- The ports in rotation after the pointer, the pointer's own port last (R115). -/
def rotationOrder (r : Port) : List Port := [r + 1, r + 2, r + 3, r]

/-- R115 steps 1 and 2: the highest class pending, and the first port in rotation that holds it. -/
def Sequencer.next (q : Sequencer) : Option (DemandClass × Port) :=
  [DemandClass.loss, .revise, .attach, .review].findSome? fun c =>
    ((rotationOrder q.rotation).find? fun p => (q.demands.get p).has c).map fun p => (c, p)

/-- R116: an entry is in force. -/
def State.entryInForce (s : State) (e : PlanEntry) : Bool :=
  let c := s.contract.get e.port
  !e.action.isClaim && c.state == .active && c.drawClosed && c.role == e.role

/-- R116: IDLE with an open draw switch. -/
def Contract.atRest (c : Contract) : Bool := !c.drawClosed && c.state == .idle

/-- R116: the plan is in force. -/
def State.planInForce (s : State) (pl : Plan) : Bool :=
  (match pl with
    | .draw e none => s.entryInForce e
    | .draw e (some e') => s.entryInForce e && s.entryInForce e'
    | .base b => (s.contract.get b.port).state == .base && (s.contract.get b.port).drawClosed
    | .empty => true)
    && allPorts.all fun p => pl.ports.contains p || (s.contract.get p).atRest

/-- R118: the ceiling, unless the plan is EMPTY. -/
def ceilingFor (pl : Plan) (s : State) : State :=
  match pl with
  | .empty => s
  | .draw _ _ | .base _ => setCeiling (min s.limit.published (planLimit s.policy.active pl)) s

/-- R119: cut each joining port whose supply switch is closed or which holds a grant. Each cut ends with a service of
the wait list (R166), and the manual does not say which of two ports is cut first, so their order is a free choice
(DESIGN CHOICE, log entry 3). -/
def cutJoining (joining : List Port) (s : State) : State :=
  let cut := joining.filter fun p => s.supply.switchClosed.get p || !(s.portGrants p).isEmpty
  let (k, t) := if 2 ≤ cut.length then takeFree s else (0, s)
  (arrange k cut).foldl (fun u p => cutPort p u) t

/-- R117: the transition toward a plan begins. -/
def beginTransition (pl : Plan) (s : State) : State :=
  let joining := s.joiningPorts pl
  let t : Transition :=
    { plan := pl, joining := joining, leaving := s.leavingPorts pl, steppedOut := [], stage := .start }
  runClaims pl (cutJoining joining (ceilingFor pl (setTransition (some t) s)))

/-- R115 steps 3 and 4, R93: the demand is taken and the run recorded. -/
def serveDemand (c : DemandClass) (p : Port) (s : State) : State :=
  let t := s.modSequencer fun q =>
    { q with demands := q.demands.set p DemandSet.none, inService := some p }
  let pl := selectPlan t
  let u := { t with lastPlan := some { plan := pl, cls := c, port := p, ms := t.msCount } }
  if u.planInForce pl then endService u else beginTransition pl u

end Sys2Proof.Machine
end

