-- ==== Sys2Proof/Machine/LimitCommands.lean ====
section
/-! DEFINITION. The meanings of the 1 ms rail sample, of the counts it completes, of the Limit Unit's timers and of the
limit-line period (08; R123, R141 to R150). -/

namespace Sys2Proof.Machine

open Sys2Proof

/-! ### Counts and references (R142, R143) -/

def railLostFull : Nat := 3
def overvoltageFull : Nat := 3
def sagFull : Nat := 8
def overdrawFull : Nat := 16

/-- R142: the reference voltage of a contract record. -/
def Contract.referenceVoltage (c : Contract) : Nat :=
  match c.established with
  | some t => t.voltage
  | none => c.base.getD Config.baseVoltage

/-- R142: the reference current of a contract record. -/
def Contract.referenceCurrent (c : Contract) : Nat :=
  match c.established with
  | some t => t.granted
  | none => Config.baseCurrent

/-- R143: the sag and overvoltage tests are suspended. -/
def suspended (c : Contract) (d : DrawMonitor) : Bool :=
  c.state == .awaiting || c.state == .settling || d.descent.isSome

/-- R144. -/
def railLostMet (mv : Nat) : Bool := mv < 4000

/-- R145. -/
def overvoltageMet (c : Contract) (mv : Nat) : Bool := c.referenceVoltage * 110 < mv * 100

/-- R147. -/
def sagMet (c : Contract) (threshold mv : Nat) : Bool := mv * 100 < c.referenceVoltage * (100 - threshold)

/-- R148. -/
def overdrawMet (c : Contract) (ma : Nat) : Bool := c.referenceCurrent * 115 < ma * 100

/-- A count of consecutive samples (R142): a sample that meets the test raises it, another sets it to 0. A completed
count stands until the step it completes is taken (log entry 14). -/
def nextCount (count full : Nat) (met : Bool) : Nat :=
  if full ≤ count then count else if met then count + 1 else 0

/-- A protection has completed its count (R144, R145). -/
def DrawMonitor.protecting (d : DrawMonitor) : Bool :=
  railLostFull ≤ d.railLost || overvoltageFull ≤ d.overvoltage

/-- The record as a sample or a completed count finds it: a suspended test holds its count at 0 (R143). -/
def DrawMonitor.held (d : DrawMonitor) (c : Contract) : DrawMonitor := if suspended c d then d.suspendTests else d

/-- R142 to R148: one sample at one record; the sample that completes a protection adds no trim (R146). -/
def DrawMonitor.examined (d : DrawMonitor) (c : Contract) (threshold mv ma : Nat) : DrawMonitor :=
  let h := d.held c
  if h.protecting then h
  else
    let moves := !suspended c d
    let n := { h with
      railLost := nextCount h.railLost railLostFull (railLostMet mv)
      overvoltage := if moves then nextCount h.overvoltage overvoltageFull (overvoltageMet c mv) else 0
      sag := if moves then nextCount h.sag sagFull (sagMet c threshold mv) else 0
      overdraw := nextCount h.overdraw overdrawFull (overdrawMet c ma) }
    if n.protecting then { n with sag := 0, overdraw := 0 } else n

/-- A completed rail-lost count of a drawing port (R144). -/
def DrawMonitor.railLostDone (d : DrawMonitor) (c : Contract) : Bool := c.drawClosed && d.railLost == railLostFull

/-- A completed overvoltage count of a drawing port; a suspended test completes nothing (R143, R145). -/
def DrawMonitor.overvoltageDone (d : DrawMonitor) (c : Contract) : Bool :=
  c.drawClosed && (d.held c).overvoltage == overvoltageFull

/-- A completed sag count of a drawing port; a suspended test completes nothing (R143, R147). -/
def DrawMonitor.sagDone (d : DrawMonitor) (c : Contract) : Bool := c.drawClosed && (d.held c).sag == sagFull

/-- A completed overdraw count of a drawing port (R148). -/
def DrawMonitor.overdrawDone (d : DrawMonitor) (c : Contract) : Bool := c.drawClosed && d.overdraw == overdrawFull

/-- R147: the sample is a sag sample. -/
def isSagSample (d : DrawMonitor) (c : Contract) (threshold mv : Nat) : Bool :=
  !(d.held c).protecting && !suspended c d && sagMet c threshold mv

/-- R123: the sample is in band of the pending effective voltage. -/
def inBand (v mv : Nat) : Bool := ((mv - v) + (v - mv)) * 100 ≤ v * 5

/-- R123: the settle count after a sample; a count of 10 stands until CLAIM_SETTLED is taken. -/
def Contract.sampled (c : Contract) (mv : Nat) : Contract :=
  match c.state, c.pending with
  | .settling, some t => { c with settleCount := nextCount c.settleCount settleFull (inBand t.voltage mv) }
  | _, _ => c

/-- R147, R150: a sag sample restarts the recovery timer while the trim is above 0. -/
def LimitUnit.sagSeen (l : LimitUnit) : LimitUnit := if 0 < l.trim then { l with recovery := some 0 } else l

/-- The draw monitor's examination of a port whose draw switch is closed (R142). -/
def examine (p : Port) (mv ma : Nat) (s : State) : State :=
  let c := s.contract.get p
  let d := s.drawMonitor.get p
  let threshold := s.policy.active.sagThreshold
  if c.drawClosed then
    let t := s.modDrawMonitor p fun d => d.examined c threshold mv ma
    if isSagSample d c threshold mv then t.modLimit LimitUnit.sagSeen else t
  else s

/-- RAIL_SAMPLE (R123, R142 to R148): the sample is kept as the port's latest, examined if the port draws, and counted
if the port settles. -/
def execRailSample (p : Port) (mv ma : Nat) (s : State) : Host.Outcome State Fault Refusal :=
  running (fun s =>
    let t := examine p mv ma s
    { t.modContract p fun c => c.sampled mv with rail := s.rail.set p { mv := mv, ma := ma } }) s

/-! ### Completed counts (R144 to R148) -/

/-- RAIL_LOST (R133, R144). -/
def execRailLost (p : Port) (s : State) : Host.Outcome State Fault Refusal :=
  running (fun s =>
    if (s.drawMonitor.get p).railLostDone (s.contract.get p) then
      post (.fault p) noticeRailLost (faultSnapshot (s.rail.get p).mv) (protect p s)
    else s) s

/-- OVERVOLTAGE (R12, R133, R145): the port is also shunned. R145 does not order the taking out and the report to the Port
Monitor; here the port is taken out first, with any abort, and shunned then, in one event (DESIGN CHOICE, log entry
47). -/
def execOvervoltage (p : Port) (s : State) : Host.Outcome State Fault Refusal :=
  running (fun s =>
    if (s.drawMonitor.get p).overvoltageDone (s.contract.get p) then
      post (.fault p) noticeOvervolt (faultSnapshot (s.rail.get p).mv)
        ((protect p s).modMonitor p fun m => { m with failures := 3, coolOff := none })
    else s) s

/-- SAG_TRIM (R147). -/
def execSagTrim (p : Port) (s : State) : Host.Outcome State Fault Refusal :=
  running (fun s =>
    if (s.drawMonitor.get p).sagDone (s.contract.get p) then
      raiseTrim 100 (s.modDrawMonitor p fun d => { d with sag := 0 })
    else s) s

/-- OVERDRAW_TRIM (R148). -/
def execOverdrawTrim (p : Port) (s : State) : Host.Outcome State Fault Refusal :=
  running (fun s =>
    if (s.drawMonitor.get p).overdrawDone (s.contract.get p) then
      raiseTrim 200 (s.modDrawMonitor p fun d => { d with overdraw := 0 })
    else s) s

/-! ### Timers and the limit line (R141, R143, R150) -/

/-- DESCENT_TIMER_EXPIRY (R143). -/
def execDescentTimerExpiry (p : Port) (s : State) : Host.Outcome State Fault Refusal :=
  running (fun s =>
    if (s.drawMonitor.get p).descentExpired then s.modDrawMonitor p fun d => { d with descent := none } else s) s

/-- RECOVERY_TIMER_EXPIRY (R150). -/
def execRecoveryTimerExpiry (s : State) : Host.Outcome State Fault Refusal :=
  running (fun s => if s.limit.recoveryExpired then lowerTrim 100 s else s) s

/-- LIMIT_PERIOD (R141): at the start of a period the next duty becomes the duty in effect. -/
def execLimitPeriod (s : State) : Host.Outcome State Fault Refusal :=
  running (fun s => s.modLimit fun l => { l with duty := l.nextDuty }) s

end Sys2Proof.Machine
end

