-- ==== Sys2Proof/Machine/LinkOps.lean ====
section
/-! DEFINITION. The Link Interface's operations (10): receiving downlink bytes, the upstream queue, and the taking of
the head frame of the receive buffer with its one REPLY. -/

namespace Sys2Proof.Machine

open Sys2Proof

/-! ### The upstream queue (R174) -/

/-- While the uplink is idle, UHOLD low and the queue not empty, the part begins sending the head frame. -/
def LinkUnit.look (l : LinkUnit) : LinkUnit :=
  match l.uplink, l.upstream with
  | none, f :: rest => if l.uhold then l else { l with upstream := rest, uplink := some f }
  | _, _ => l

/-- Place a frame at the tail of the upstream queue. -/
def placeUplink (f : UplinkFrame) (s : State) : State :=
  s.modLink fun l => ({ l with upstream := l.upstream ++ [f] }).look

/-! ### Receiving (R170, R171) -/

/-- R189, R192: a valid downlink frame restarts the silence timer and ends autonomous mode. -/
def validFrameSeen (s : State) : State :=
  s.modSupervisor fun v => { v with silenceTimer := some 0, autonomous := false }

/-- R170: the tests of a frame whose reception has ended; `bytes` are the bytes after the start byte. -/
def endReception (bytes : List Byte) (s : State) : State :=
  let n := bytes.length - 2
  let f : LinkFrame :=
    { kind := bytes.getD 0 0, port := bytes.getD 1 0, branch := bytes.getD 2 0, payload := (bytes.take n).drop 4 }
  if (crc16 (bytes.take n)).toNat ≠ numberOf (bytes.drop n) then postLink noticeCheck s
  else if f.kind ≠ linkCommand ∧ f.kind ≠ linkRelayDown then postLink noticeKind s
  else if Config.receiveSize ≤ s.link.receive.length then postLink noticeOverrun s
  else validFrameSeen (s.modLink fun l => { l with receive := l.receive ++ [f] })

def setReception (r : Option Reception) (s : State) : State := s.modLink fun l => { l with reception := r }

/-- R170: one downlink byte. -/
def receiveByte (s : State) (b : Byte) : State :=
  match s.link.reception with
  | none => if b = linkStart then setReception (some { bytes := [], gap := 0 }) s else s
  | some r =>
    let bytes := r.bytes ++ [b]
    let length := byteAt bytes 3
    if bytes.length < 4 then setReception (some { bytes := bytes, gap := 0 }) s
    else if 32 < length then postLink noticeFormat (setReception none s)
    else if bytes.length < 6 + length then setReception (some { bytes := bytes, gap := 0 }) s
    else endReception bytes (setReception none s)

/-! ### Taking a command (R172, R173) -/

/-- A RESTART of the required length (R172: taken whatever the queue holds). -/
def LinkFrame.isRestart (f : LinkFrame) : Bool := f.code == some 0x3F && f.payload.length == 2

/-- R172: the head frame of the receive buffer, where the decoder can take it. -/
def LinkUnit.takable (l : LinkUnit) : Option LinkFrame :=
  match l.receive with
  | [] => none
  | f :: _ => if f.isRestart || l.upstream.length < Config.upstreamSize then some f else none

/-- R169, R195: the REPLY to a frame: port and branch copied, tag and command code of the frame answered (0xFF for a
RELAY-DOWN). -/
def replyTo (f : LinkFrame) (body : ReplyBody) : UplinkFrame :=
  .reply f.port f.branch ((f.payload[0]?).getD (Config.absentByte 0))
    (if f.kind = linkRelayDown then 0xFF else (f.payload[1]?).getD (Config.absentByte 1)) body

/-- R172: the decoder takes the head frame if it is the wanted command: the frame leaves the buffer, the command is
carried out, and its one REPLY is placed, as one event. Where the head frame is another command, or none can be taken,
nothing happens. -/
def takeCommand (wanted : LinkFrame → Bool) (carry : LinkFrame → State → State × ReplyBody) (s : State) : State :=
  match s.link.takable with
  | none => s
  | some f =>
    if wanted f then
      let r := carry f (s.modLink fun l => { l with receive := l.receive.tail })
      placeUplink (replyTo f r.2) r.1
    else s

/-- A COMMAND of this code. -/
def wantsCode (code : Nat) (f : LinkFrame) : Bool := f.code == some code

/-- A reply that changes no state. -/
def answer (b : ReplyBody) (s : State) : State × ReplyBody := (s, b)

/-- A refusal changes no state (R173). -/
def refuse (r : RefusalReason) (s : State) : State × ReplyBody := (s, .refused r)

/-- R173: the payload length the command's code requires, tag and code included. -/
def checkLength (n : Nat) (carry : LinkFrame → State → State × ReplyBody) (f : LinkFrame) (s : State) :
    State × ReplyBody :=
  if f.payload.length = n then carry f s else refuse .length s

/-- R173: a port field above 3 on a command that names a port. -/
def checkPort (carry : Port → LinkFrame → State → State × ReplyBody) (f : LinkFrame) (s : State) : State × ReplyBody :=
  match portOfByte f.port with
  | some p => carry p f s
  | none => refuse .badIndex s

end Sys2Proof.Machine
end

