-- ==== Sys2Proof/Machine/BookOps.lean ====
section
/-! DEFINITION. The Offer Book's operations (03): replacement, legacy build and rebuild, emptying; and what the Port
Monitor does with an accepted OFFER (R12) and a meter result (R9). -/

namespace Sys2Proof.Machine

open Sys2Proof

/-- R12: an accepted OFFER clears the failure count and stops a running cool-off without expiring. -/
def offerAccepted (p : Port) (s : State) : State :=
  s.modMonitor p fun m => { m with failures := 0, coolOff := none }

/-- R48: the demand of a first or later book; a set first-book flag is then cleared. -/
def raiseBookDemand (p : Port) (s : State) : State :=
  raiseDemand (if (s.book.get p).firstBook then .attach else .revise) p
    (s.modBook p fun b => { b with firstBook := false })

/-- R45, R46: an accepted OFFER replaces the book wholesale. -/
def replaceBook (p : Port) (points : List OfferPoint) (s : State) : State :=
  let t := offerAccepted p
    (s.modBook p fun b =>
      { b with source := .talk, generation := b.generation + 1, points := points, ratingEntry := none,
               stamp := s.msCount })
  if points.isEmpty then raiseDemand .revise p t else raiseBookDemand p t

/-- R51: the book is emptied without an OFFER. -/
def emptyBook (p : Port) (s : State) : State :=
  raiseDemand .revise p
    (s.modBook p fun b => { b with points := [], ratingEntry := none, stamp := s.msCount })

/-- R49 steps 1 to 4: the one point of a legacy book. -/
def fillLegacy (p : Port) (entry : Nat) (r : Rating) (s : State) : State :=
  s.modBook p fun b =>
    { b with source := .legacy, generation := b.generation + 1,
             points := [markPoint .fixed r.voltage r.voltage r.current false],
             ratingEntry := some entry, stamp := s.msCount }

/-- R49: the legacy book is built. -/
def buildLegacy (p : Port) (entry : Nat) (r : Rating) (s : State) : State := raiseBookDemand p (fillLegacy p entry r s)

/-- R50: what the comparison of a legacy book with a rating covers. -/
def Book.agrees (b : Book) (entry : Nat) (r : Rating) : Bool :=
  b.ratingEntry == some entry &&
    match b.points with
    | q :: _ => q.minVoltage == r.voltage && q.maxCurrent == r.current
    | [] => false

/-- R50: a rated result on a LEGACY port rebuilds the book if it differs. -/
def rebuildLegacy (p : Port) (entry : Nat) (r : Rating) (s : State) : State :=
  if (s.book.get p).agrees entry r then s else raiseDemand .revise p (fillLegacy p entry r s)

/-- R9: a rated result at the Port Monitor. -/
def deliverRated (p : Port) (entry : Nat) (r : Rating) (s : State) : State :=
  match (s.monitor.get p).state with
  | .measuring | .mute =>
    postPartner noticeLegacy p (buildLegacy p entry r (s.modMonitor p fun m => { m with state := .legacy }))
  | .legacy => rebuildLegacy p entry r s
  | .empty | .sensing | .probing | .talking => s

/-- R9: an unrated result at the Port Monitor. -/
def deliverUnrated (p : Port) (s : State) : State :=
  match (s.monitor.get p).state with
  | .measuring => postPartner noticeMute p (s.modMonitor p fun m => { m with state := .mute })
  | .legacy => postPartner noticeMute p (emptyBook p (s.modMonitor p fun m => { m with state := .mute }))
  | .empty | .sensing | .probing | .talking | .mute => s

end Sys2Proof.Machine
end

