-- ==== Sys2Proof/Machine/MeterOps.lean ====
section
/-! DEFINITION. The ID Meter's operations (04): the queue and the converter, references, resolution, acceptance,
rating, delivery and abandonment. -/

namespace Sys2Proof.Machine

open Sys2Proof

/-! ### The queue and the converter (R57, R58) -/

def Channel.isReference : Channel → Bool
  | .refLo | .refHi => true
  | .id _ => false

/-- R57: a port channel goes to the tail, a reference behind the references and ahead of the ports. -/
def insertChannel (c : Channel) (q : List Channel) : List Channel :=
  if c.isReference then q.takeWhile Channel.isReference ++ c :: q.dropWhile Channel.isReference
  else q ++ [c]

def Meter.inFlightChannel (m : Meter) : Option Channel := m.inFlight.map Conversion.channel

/-- R57: add a channel unless it is already queued or in flight. -/
def Meter.add (m : Meter) (c : Channel) : Meter :=
  if m.queue.contains c || m.inFlightChannel == some c then m else { m with queue := insertChannel c m.queue }

/-- R58: the free converter takes the head entry; a port's phase becomes CONVERTING (R61). -/
def Meter.take (m : Meter) : Meter :=
  match m.inFlight, m.queue with
  | none, c :: rest =>
    let t := { m with queue := rest, inFlight := some { channel := c, elapsed := 0, timebase := 0, edges := 0 } }
    match c with
    | .id p => { t with port := t.port.set p { t.port.get p with phase := .converting } }
    | .refLo | .refHi => t
  | _, _ => m

def addChannel (c : Channel) (s : State) : State := s.modMeter fun m => m.add c

def takeChannel (s : State) : State := s.modMeter Meter.take

/-- R60: queue the reference pair; the refresh count becomes 0. -/
def queuePair (s : State) : State :=
  s.modMeter fun m => { (m.add .refLo).add .refHi with refreshCount := 0 }

/-! ### Starting a measurement (R61) -/

def startMeasure (p : Port) (byCommand : Bool) (s : State) : State :=
  match (s.meter.port.get p).phase with
  | .idle =>
    takeChannel (addChannel (.id p)
      (s.modPortMeasure p fun r =>
        { r with phase := .queued, attempts := 0, previous := none, heldPeriod := none, measureFlag := byCommand }))
  | .queued | .converting | .unresolved =>
    if byCommand then s.modPortMeasure p fun r => { r with measureFlag := true } else s

/-! ### The end of a measurement (R68) -/

/-- R68: the flag of a MEASURE posts DONE, unless REFERENCE has been posted, and is cleared. -/
def finishFlag (p : Port) (code : Option UnratedCode) (s : State) : State :=
  let t := s.modPortMeasure p fun r => { r with measureFlag := false }
  if (s.meter.port.get p).measureFlag && code != some .reference then postMeter noticeDone (.id p) t else t

/-- R68: a measurement ends RATED. -/
def endRated (p : Port) (entry : Nat) (r : Rating) (resistance : Nat) (s : State) : State :=
  finishFlag p none (deliverRated p entry r
    (s.modPortMeasure p fun x =>
      { x with phase := .idle, previous := none, heldPeriod := none, result := .rated, code := none,
               resistance := some resistance, entry := some entry }))

/-- R68: a measurement ends UNRATED with a code; MISMATCH and NOMATCH keep the accepted resistance. -/
def endUnrated (p : Port) (code : UnratedCode) (resistance : Option Nat) (s : State) : State :=
  finishFlag p (some code) (deliverUnrated p
    (s.modPortMeasure p fun x =>
      { x with phase := .idle, previous := none, heldPeriod := none, result := .unrated, code := some code,
               resistance := resistance, entry := none }))

/-! ### Rating (R67) and acceptance (R66) -/

/-- The magnitude of a difference. -/
def magnitude (a b : Nat) : Nat := (a - b) + (b - a)

/-- The first used entry whose range contains the resistance. -/
def matchRating (i : PolicyImage) (resistance : Nat) : Option (Nat × Rating) :=
  ((List.range 12).zip i.ratings.toList).find? fun e =>
    e.2.used && decide (e.2.minResistance ≤ resistance) && decide (resistance ≤ e.2.maxResistance)

/-- R67: an accepted resistance is rated. -/
def rate (p : Port) (resistance : Nat) (s : State) : State :=
  match matchRating s.policy.active resistance with
  | none => endUnrated p .noMatch (some resistance) s
  | some (entry, r) =>
    if magnitude (s.rail.get p).mv r.voltage * 100 ≤ r.voltage * s.policy.active.legacyTolerance then
      endRated p entry r resistance s
    else endUnrated p .mismatch (some resistance) s

/-- The port channel is added to the queue again. -/
def measureAgain (p : Port) (resistance : Nat) (s : State) : State :=
  addChannel (.id p)
    (s.modPortMeasure p fun r =>
      { r with previous := some resistance, heldPeriod := none, phase := .queued })

/-- R66: a resolved resistance. -/
def acceptResistance (p : Port) (resistance : Nat) (s : State) : State :=
  match (s.meter.port.get p).previous with
  | none => measureAgain p resistance s
  | some previous =>
    if magnitude resistance previous ≤ previous / 32 then rate p resistance s
    else if (s.meter.port.get p).attempts < 4 then measureAgain p resistance s
    else endUnrated p .unstable none s

/-! ### Resolution (R64, R65) -/

/-- N ÷ D rounded to the nearest whole number, an exact half away from zero (D above 0). -/
def roundedQuotient (n d : Int) : Int :=
  let q := n.natAbs / d.natAbs
  let r := n.natAbs - q * d.natAbs
  let m : Nat := if 2 * r ≥ d.natAbs then q + 1 else q
  if n < 0 then -(m : Int) else (m : Int)

/-- R64: the resistance of a port period between the two reference periods, clamped to 0..250,000 Ω. -/
def resolvedResistance (tx tlo thi low high : Nat) : Nat :=
  let n : Int := ((tx : Int) - tlo) * ((high : Int) - low)
  let v : Int := low + roundedQuotient n ((thi : Int) - tlo)
  (min (max v 0) 250000).toNat

/-- R65: a reference fault at resolution. -/
def referenceFault (p : Port) (s : State) : State :=
  queuePair
    ((postMeter noticeReference (.id p) (endUnrated p .reference none s)).modMeter fun m =>
      { m with refLo := { m.refLo with status := .faulted }, refHi := { m.refHi with status := .faulted } })

/-- R64: a port period is resolved against the reference periods as they stand. -/
def resolve (p : Port) (tx : Nat) (s : State) : State :=
  let tlo := s.meter.refLo.period.getD 0
  let thi := s.meter.refHi.period.getD 0
  if thi < tlo + 64 then referenceFault p s
  else
    acceptResistance p
      (resolvedResistance tx tlo thi s.policy.active.lowReference s.policy.active.highReference) s

/-- Both references are valid (R59). -/
def Meter.referencesValid (m : Meter) : Bool := m.refLo.status == .valid && m.refHi.status == .valid

/-- R63: a valid conversion is held while a reference is not valid; the pair is queued. -/
def holdConversion (p : Port) (period : Nat) (s : State) : State :=
  queuePair (s.modPortMeasure p fun r => { r with heldPeriod := some period, phase := .unresolved })

/-- The ports whose conversions are held. -/
def Meter.heldPorts (m : Meter) : List Port := allPorts.filter fun p => (m.port.get p).phase == .unresolved

/-- A held conversion is resolved: the held period goes to resolution. -/
def resolveHeld (p : Port) (s : State) : State :=
  match (s.meter.port.get p).heldPeriod with
  | some period => resolve p period s
  | none => s

/-! ### The end of a conversion (R56, R59, R62) -/

inductive ConversionOutcome
  | openCircuit
  | short (period : Nat)
  | valid (period : Nat)
  deriving DecidableEq, Repr

/-- R56: the outcome of a conversion whose 256th edge comes at this timebase value. -/
def outcomeAt (period : Nat) : ConversionOutcome :=
  if period < 640 then .short period
  else if period < 65535 then .valid period
  else .openCircuit

/-- R62, R60: a completed port conversion raises the attempt and refresh counts; the sixteenth queues the pair. -/
def countConversion (p : Port) (s : State) : State :=
  let t := (s.modPortMeasure p fun r => { r with attempts := r.attempts + 1 }).modMeter
    fun m => { m with refreshCount := m.refreshCount + 1 }
  if t.meter.refreshCount ≥ 16 then queuePair t else t

/-- R62: a port conversion completes. The converter is free; it takes the next entry once this is handled (R58). -/
def portCompleted (p : Port) (o : ConversionOutcome) (s : State) : State :=
  let t := countConversion p (s.modMeter fun m => { m with inFlight := none })
  takeChannel
    (match o with
     | .openCircuit => endUnrated p .openCircuit none t
     | .short period => endUnrated p .short none (t.modPortMeasure p fun r => { r with lastPeriod := some period })
     | .valid period =>
       let u := t.modPortMeasure p fun r => { r with lastPeriod := some period }
       if u.meter.referencesValid then resolve p period u else holdConversion p period u)

def Meter.reference (m : Meter) (hi : Bool) : RefRecord := if hi then m.refHi else m.refLo

def Meter.setReference (m : Meter) (hi : Bool) (r : RefRecord) : Meter :=
  if hi then { m with refHi := r } else { m with refLo := r }

def referenceChannel (hi : Bool) : Channel := if hi then .refHi else .refLo

/-- R59: the record a conversion of a reference leaves; its measure flag is cleared (R70). -/
def RefRecord.updated (r : RefRecord) : ConversionOutcome → RefRecord
  | .valid t => { status := .valid, period := some t, measureFlag := false }
  | .short t => { status := .short, period := some t, measureFlag := false }
  | .openCircuit => { r with status := .openCircuit, measureFlag := false }

def ConversionOutcome.isValid : ConversionOutcome → Bool
  | .valid _ => true
  | .openCircuit | .short _ => false

/-- R59: the consequences of a reference's end for the held conversions, taken in an order the manual leaves open
(log entry 3). -/
def settleHeld (o : ConversionOutcome) (s : State) : State :=
  if o.isValid && !s.meter.referencesValid then s
  else
    let (k, t) := takeFree s
    (arrange k t.meter.heldPorts).foldl
      (fun u p => if o.isValid then resolveHeld p u else endUnrated p .reference none u) t

/-- R59, R70: a reference conversion completes. Whether the DONE of a MEASURE comes before or after the consequences
for held conversions is left open, so it is a free choice (log entry 3). -/
def referenceCompleted (hi : Bool) (o : ConversionOutcome) (s : State) : State :=
  let flagged := (s.meter.reference hi).measureFlag
  let t := s.modMeter fun m =>
    { m.setReference hi ((m.reference hi).updated o) with inFlight := none }
  takeChannel
    (if !o.isValid then settleHeld o (postMeter noticeReference (referenceChannel hi) t)
     else if !flagged then settleHeld o t
     else
       let (k, u) := takeFree t
       if k % 2 = 0 then settleHeld o (postMeter noticeDone (referenceChannel hi) u)
       else postMeter noticeDone (referenceChannel hi) (settleHeld o u))

/-! ### Abandonment (R69) -/

/-- R69: abandon a port's measurement by its phase. The rule names the phase, the measure flag and the held period; the
model also makes the previous resistance absent, as the end of a measurement does (R68), and leaves the attempt count and
the last period as the abandoned measurement had them (DESIGN CHOICE, log entry 42). -/
def abandonMeasure (p : Port) (s : State) : State :=
  let idle := fun (r : PortMeasure) =>
    { r with phase := .idle, previous := none, heldPeriod := none, measureFlag := false }
  match (s.meter.port.get p).phase with
  | .idle => s.modPortMeasure p fun r => { r with measureFlag := false }
  | .queued => (s.modMeter fun m => { m with queue := m.queue.filter (· != .id p) }).modPortMeasure p idle
  | .unresolved => s.modPortMeasure p idle
  | .converting =>
    takeChannel ((s.modMeter fun m =>
      if m.inFlightChannel = some (.id p) then { m with inFlight := none } else m).modPortMeasure p idle)

end Sys2Proof.Machine
end

