-- ==== Sys2Proof/Machine/LinkCommands.lean ====
section
/-! DEFINITION. The meanings of the system link's events and of the commands that read state, relay frames, take
notices and restart the link (10; R70, R170 to R183, R193). Each command is the taking of the head frame of the receive
buffer (R172); where the head frame is no such command, or cannot be taken, nothing happens. -/

namespace Sys2Proof.Machine

open Sys2Proof

/-! ### The link (R170, R174) -/

/-- DOWNLINK_FRAME_STORED (R170): the bytes arrive in order; a reception that ends is tested, then stored or
dropped. -/
def execDownlinkFrameStored (bytes : List Byte) (s : State) : Host.Outcome State Fault Refusal :=
  running (fun s => bytes.foldl receiveByte s) s

/-- BYTE_GAP_TIMEOUT (R170): a gap of 2 ms drops the partial frame. -/
def execByteGapTimeout (s : State) : Host.Outcome State Fault Refusal :=
  running (fun s =>
    if s.link.gapExpired then postLink noticeFormat (setReception none s) else s) s

/-- UHOLD_CHANGE (R174). -/
def execUholdChange (high : Bool) (s : State) : Host.Outcome State Fault Refusal :=
  running (fun s => s.modLink fun l => ({ l with uhold := high }).look) s

/-- UPLINK_FRAME_END (R174). -/
def execUplinkFrameEnd (s : State) : Host.Outcome State Fault Refusal :=
  running (fun s =>
    s.modLink fun l =>
      match l.uplink with
      | some _ => ({ l with uplink := none }).look
      | none => l) s

/-! ### Unknown commands (R173) -/

/-- A COMMAND whose code is absent or not in the command table. -/
def LinkFrame.isUnknown (f : LinkFrame) : Bool :=
  f.kind == linkCommand &&
    match f.code with
    | some c => !commandCodes.contains c
    | none => true

/-- UNKNOWN_COMMAND (R173). -/
def execUnknownCommand (s : State) : Host.Outcome State Fault Refusal :=
  running (takeCommand LinkFrame.isUnknown fun _ s => refuse .unknown s) s

/-! ### READ commands and IDENTIFY (R70, R175) -/

/-- What a READ answers: data, or the reason it is refused. -/
def readReply (r : Except RefusalReason ReplyData) (s : State) : State × ReplyBody :=
  match r with
  | .ok d => (s, .data d)
  | .error e => (s, .refused e)

/-- IDENTIFY (R175). -/
def execIdentify (s : State) : Host.Outcome State Fault Refusal :=
  running (takeCommand (wantsCode 0x01) (checkLength 2 fun _ s =>
    answer (.data (.identify Config.partCode Config.revision s.supervisor.straps
      (strapPopulated s.supervisor.straps) s.supervisor.autonomous)) s)) s

/-- R175: what READ PORT returns. -/
def State.portData (s : State) (p : Port) : ReplyData :=
  let m := s.monitor.get p
  let f := s.framer.get p
  .port m.state (s.classView p) m.presence m.probeCount m.failures m.coolOff m.barred f.unsound f.badCount
    f.latchedUnsound (s.rail.get p)

/-- READ_PORT (R21, R175): the latched view is cleared after it is read. -/
def execReadPort (s : State) : Host.Outcome State Fault Refusal :=
  running (takeCommand (wantsCode 0x02) (checkLength 2 (checkPort fun p _ s =>
    (s.modFramer p fun f => { f with latchedUnsound := false }, .data (s.portData p))))) s

/-- R175: what READ BOOK returns. -/
def State.bookData (s : State) (p : Port) (selector : Nat) : Except RefusalReason ReplyData :=
  let b := s.book.get p
  if selector = 0 then
    .ok (.bookHeader b.source b.generation b.points.length b.ratingEntry b.stamp b.firstBook s.msCount)
  else
    match b.points[selector - 1]? with
    | some q => .ok (.bookPoint q)
    | none => .error .badIndex

/-- READ_BOOK (R175). -/
def execReadBook (s : State) : Host.Outcome State Fault Refusal :=
  running (takeCommand (wantsCode 0x03) (checkLength 3 (checkPort fun p f s =>
    readReply (s.bookData p (f.arg 0)) s))) s

/-- R175: what READ CONTRACT returns. -/
def State.contractData (s : State) (p : Port) (selector : Nat) : Except RefusalReason ReplyData :=
  let c := s.contract.get p
  match selector with
  | 0 => .ok (.contractState c.state c.role c.drawClosed c.base c.settleCount c.lastOutcome)
  | 1 => .ok (.contractTerms c.established)
  | 2 => .ok (.contractPending c.pending c.details)
  | _ => .error .badIndex

/-- READ_CONTRACT (R175). -/
def execReadContract (s : State) : Host.Outcome State Fault Refusal :=
  running (takeCommand (wantsCode 0x04) (checkLength 3 (checkPort fun p f s =>
    readReply (s.contractData p (f.arg 0)) s))) s

/-- R175: what READ PARTNER returns: the record of R14, whose grant field holds no requested current (R153). -/
def State.partnerData (s : State) (p : Port) (b : Nat) : Except RefusalReason ReplyData :=
  if 6 < b then .error .badIndex
  else if s.hasRecord p b then
    .ok (.partner p b (if b = 0 then s.table.own.get p else none) ((s.grantOf p b).map Grant.field))
  else .error .noRecord

/-- READ_PARTNER (R175): the branch stands in the header. -/
def execReadPartner (s : State) : Host.Outcome State Fault Refusal :=
  running (takeCommand (wantsCode 0x05) (checkLength 2 (checkPort fun p f s =>
    readReply (s.partnerData p f.branch.toNat) s))) s

/-- The primary entry of a plan, the base entry beside it, and the secondary entry (R94, R175). -/
def Plan.primaryEntry : Plan → Option PlanEntry
  | .draw e _ => some e
  | .base _ | .empty => none

def Plan.baseEntry : Plan → Option BaseEntry
  | .base b => some b
  | .draw _ _ | .empty => none

def Plan.secondaryEntry : Plan → Option PlanEntry
  | .draw _ e => e
  | .base _ | .empty => none

/-- R141, R175: what READ LIMIT returns. -/
def State.limitData (s : State) (selector : Nat) : Except RefusalReason ReplyData :=
  let l := s.limit
  match selector with
  | 0 => .ok (.limits l.raw l.ceiling l.trim l.trimBound l.published l.nextDuty l.duty s.drawSet l.recovery)
  | 1 => .ok (.planHeader (s.lastPlan.map fun r => (r.plan.kind, r.cls, r.port, r.ms)))
  | 2 =>
    .ok (.planPrimary (s.lastPlan.bind fun r => r.plan.primaryEntry) (s.lastPlan.bind fun r => r.plan.baseEntry))
  | 3 => .ok (.planSecondary (s.lastPlan.bind fun r => r.plan.secondaryEntry))
  | _ => .error .badIndex

/-- READ_LIMIT (R175). -/
def execReadLimit (s : State) : Host.Outcome State Fault Refusal :=
  running (takeCommand (wantsCode 0x06) (checkLength 3 fun f s => readReply (s.limitData (f.arg 0)) s)) s

/-- R175, R196: what READ SUPPLY returns; GRANT n is selector 0x10 + n, WAIT n is selector 0x40 + n. -/
def State.supplyData (s : State) (selector : Nat) : Except RefusalReason ReplyData :=
  if selector = 0 then
    .ok (.supplySummary s.supply.budget s.reserved s.supply.orderCounter s.supply.switchClosed s.grants.length
      s.supply.waitList.length)
  else if 0x10 ≤ selector ∧ selector < 0x20 then
    match s.grantsByOrder[selector - 0x10]? with
    | some g => .ok (.supplyGrant g)
    | none => .error .badIndex
  else if 0x40 ≤ selector ∧ selector < 0x48 then
    match s.supply.waitList[selector - 0x40]? with
    | some w => .ok (.supplyWait w)
    | none => .error .badIndex
  else .error .badIndex

/-- READ_SUPPLY (R175). -/
def execReadSupply (s : State) : Host.Outcome State Fault Refusal :=
  running (takeCommand (wantsCode 0x07) (checkLength 3 fun f s => readReply (s.supplyData (f.arg 0)) s)) s

/-- R70: what READ METER reports with either record. -/
def Meter.statusData (m : Meter) : MeterStatus :=
  { loStatus := m.refLo.status, loPeriod := m.refLo.period, hiStatus := m.refHi.status, hiPeriod := m.refHi.period,
    refreshCount := m.refreshCount, inFlight := m.inFlightChannel, queue := m.queue }

/-- R70: what READ METER returns. -/
def State.meterData (s : State) (code : Nat) : Except RefusalReason ReplyData :=
  match channelOfCode code with
  | some (.id p) => .ok (.meterPort (s.meter.port.get p) s.meter.statusData)
  | some .refLo => .ok (.meterReference s.meter.refLo s.meter.statusData)
  | some .refHi => .ok (.meterReference s.meter.refHi s.meter.statusData)
  | none => .error .badIndex

/-- READ_METER (R70, R175). -/
def execReadMeter (s : State) : Host.Outcome State Fault Refusal :=
  running (takeCommand (wantsCode 0x08) (checkLength 3 fun f s => readReply (s.meterData (f.arg 0)) s)) s

/-! ### MEASURE (R70) -/

/-- R70: a measurement of a port channel is started or joined; a reference channel is queued with its flag set. -/
def measureChannel (c : Channel) (s : State) : State :=
  match c with
  | .id p => startMeasure p true s
  | .refLo => takeChannel (addChannel .refLo (s.modMeter fun m => { m with refLo := { m.refLo with measureFlag := true } }))
  | .refHi => takeChannel (addChannel .refHi (s.modMeter fun m => { m with refHi := { m.refHi with measureFlag := true } }))

/-- MEASURE (R70, R176). -/
def execMeasure (s : State) : Host.Outcome State Fault Refusal :=
  running (takeCommand (wantsCode 0x09) (checkLength 3 fun f s =>
    match channelOfCode (f.arg 0) with
    | some c => (measureChannel c s, .ok)
    | none => refuse .badIndex s)) s

/-! ### SET FRAME CLASS (R176) -/

/-- Frame class codes (R196). -/
def frameClassOfCode : Nat → Option FrameClass
  | 0 => some .forward
  | 1 => some .discard
  | 2 => some .capture
  | _ => none

/-- Replace one entry of the frame class table. -/
def setFrameClass (kind : Nat) (c : FrameClass) (s : State) : State :=
  s.modLink fun l => { l with frameClass := l.frameClass.setIfInBounds (kind - 0x10) c }

/-- SET_FRAME_CLASS (R25, R176). -/
def execSetFrameClass (s : State) : Host.Outcome State Fault Refusal :=
  running (takeCommand (wantsCode 0x22) (checkLength 4 fun f s =>
    if f.arg 0 < 0x10 ∨ 0x2F < f.arg 0 then refuse .badIndex s
    else
      match frameClassOfCode (f.arg 1) with
      | some c => (setFrameClass (f.arg 0) c s, .ok)
      | none => refuse .range s)) s

/-! ### RELEASE CAPTURE and TAKE NOTICE (R179, R181) -/

/-- RELEASE_CAPTURE (R27, R179). -/
def execReleaseCapture (s : State) : Host.Outcome State Fault Refusal :=
  running (takeCommand (wantsCode 0x23) (checkLength 2 (checkPort fun p _ s =>
    match (s.framer.get p).capture with
    | some c => (clearNotice (.capture p) (s.modFramer p fun f => { f with capture := none }), .data (.capture c))
    | none => refuse .empty s))) s

/-- TAKE_NOTICE (R181). -/
def execTakeNotice (s : State) : Host.Outcome State Fault Refusal :=
  running (takeCommand (wantsCode 0x24) (checkLength 2 fun _ s =>
    match s.link.notices.highest with
    | some t => (clearNotice t.flag s, .data (.notice (some t)))
    | none => answer (.data (.notice none)) s)) s

/-! ### RELAY-DOWN (R178) -/

/-- The talk-line frame a RELAY-DOWN carries; the unused high bits of its kind byte are ignored (R196). -/
def LinkFrame.relayed (f : LinkFrame) : RelayFrame :=
  { kind := BitVec.ofNat 6 (byteAt f.payload 1), branch := BitVec.ofNat 3 f.branch.toNat, payload := f.payload.drop 2 }

/-- R178: a branch the port does not have. -/
def State.badBranch (s : State) (p : Port) (b : Nat) : Bool := 7 ≤ b || (1 ≤ b && s.branchCount p < b)

/-- R178: the tests after LENGTH, in order. -/
def carryRelay (p : Port) (f : LinkFrame) (s : State) : State × ReplyBody :=
  if isPowerKind f.relayed.kind then refuse .powerKind s
  else if (s.monitor.get p).state ≠ .talking then refuse .notAttached s
  else if s.badBranch p f.branch.toNat then refuse .badBranch s
  else if Config.relaySize ≤ (s.framer.get p).relay.length then answer .busy s
  else (transmit p (s.modFramer p fun x => { x with relay := x.relay ++ [f.relayed] }), .ok)

/-- A RELAY-DOWN frame. -/
def LinkFrame.isRelayDown (f : LinkFrame) : Bool := f.kind == linkRelayDown

/-- RELAY_DOWN (R178): a tag, a kind and a talk-line payload of at most 28 bytes. -/
def execRelayDown (s : State) : Host.Outcome State Fault Refusal :=
  running (takeCommand LinkFrame.isRelayDown fun f s =>
    if f.payload.length < 2 ∨ 30 < f.payload.length then refuse .length s
    else checkPort carryRelay f s) s

/-! ### RESTART (R183, R193) -/

/-- R38: what a link restart empties at a framer. -/
def Framer.restarted (f : Framer) : Framer := { f with relay := [], capture := none }

/-- R183, R193: what a link restart does, but for its reply. -/
def linkRestart (s : State) : State :=
  let s1 := s.modLink fun l =>
    { l with receive := [], reception := none, upstream := [], notices := NoticeSet.clear,
             frameClass := defaultFrameClass }
  let s2 := { s1 with framer := s1.framer.map Framer.restarted }
  (s2.modPolicy fun q => { q with pendingOpen := false }).modSupervisor
    fun v => { v with silenceTimer := some 0, autonomous := false }

/-- RESTART (R183). -/
def execRestart (s : State) : Host.Outcome State Fault Refusal :=
  running (takeCommand (wantsCode 0x3F) (checkLength 2 fun _ s => (linkRestart s, .ok))) s

end Sys2Proof.Machine
end

