-- ==== Sys2Proof/Machine/SequencerCommands.lean ====
section
/-! DEFINITION. The meanings of the taking of a demand, of a settled claim, and of the Path Sequencer's timers
(07; R115 to R119, R122 to R127). -/

namespace Sys2Proof.Machine

open Sys2Proof

/-- R115: the demand the sequencer takes now, where no port is in service and a pending set is not empty. -/
def Sequencer.takable (q : Sequencer) : Option (DemandClass × Port) :=
  match q.inService with
  | some _ => none
  | none => q.next

/-- TAKE_DEMAND (R115). -/
def execTakeDemand (s : State) : Host.Outcome State Fault Refusal :=
  running (fun s =>
    match s.sequencer.takable with
    | some (c, p) => serveDemand c p s
    | none => s) s

/-- R123: the settle count of a port in SETTLING has reached 10. -/
def Contract.hasSettled (c : Contract) : Bool := c.state == .settling && c.settleCount == settleFull

/-- CLAIM_SETTLED (R117, R123): the claim ends SETTLED and the transition goes on. -/
def execClaimSettled (p : Port) (s : State) : Host.Outcome State Fault Refusal :=
  running (fun s => if (s.contract.get p).hasSettled then continueClaims (settleContract p s) else s) s

/-- SETTLE_TIMER_EXPIRY (R123, R127): the settle timer of a port in SETTLING runs out before the count reaches 10. -/
def execSettleTimerExpiry (p : Port) (s : State) : Host.Outcome State Fault Refusal :=
  running (fun s => if (s.contract.get p).settleExpired then failClaim p .noSettle s else s) s

/-- READY_TIMER_EXPIRY (R122, R127): the ready timer of a port in AWAITING runs out. -/
def execReadyTimerExpiry (p : Port) (s : State) : Host.Outcome State Fault Refusal :=
  running (fun s => if (s.contract.get p).readyExpired then failClaim p .noReady s else s) s

/-- BREAK_INTERVAL_EXPIRY (R124): the joining ports are closed, primary first, and the transition completes. -/
def execBreakIntervalExpiry (s : State) : Host.Outcome State Fault Refusal :=
  running (fun s =>
    match s.sequencer.transition with
    | some t => if s.sequencer.breakExpired then closeAndEnd t s else s
    | none => s) s

end Sys2Proof.Machine
end

