-- ==== Sys2Proof/Machine/Clock.lean ====
section
/-! DEFINITION. What the part does while no command waits (log entry 12): an event of its own that is due becomes a
command, or else one millisecond passes, in which every running timer advances and a limit-line period begins. -/

namespace Sys2Proof.Machine

open Sys2Proof

/-! ### The command the head frame of the receive buffer is (R172, R196) -/

/-- The row of a command code; an unknown code is UNKNOWN_COMMAND (R173). -/
def rowOfCode : Nat → Instr
  | 0x01 => .identify
  | 0x02 => .readPort
  | 0x03 => .readBook
  | 0x04 => .readContract
  | 0x05 => .readPartner
  | 0x06 => .readLimit
  | 0x07 => .readSupply
  | 0x08 => .readMeter
  | 0x09 => .measure
  | 0x10 => .openPolicy
  | 0x11 => .writeRule
  | 0x12 => .writeHeads
  | 0x13 => .writeRating
  | 0x14 => .writeParams
  | 0x15 => .readPolicy
  | 0x16 => .applyPolicy
  | 0x20 => .setPlatform
  | 0x21 => .barPort
  | 0x22 => .setFrameClass
  | 0x23 => .releaseCapture
  | 0x24 => .takeNotice
  | 0x3F => .restart
  | _ => .unknownCommand

/-- The row whose step takes this downlink frame. -/
def rowOfFrame (f : LinkFrame) : Instr :=
  if f.isRelayDown then .relayDown
  else
    match f.code with
    | some c => rowOfCode c
    | none => .unknownCommand

/-! ### Events that are due -/

/-- The event, where its condition holds. -/
def dueIf (b : Bool) (i : Instr) : List Instr := if b then [i] else []

/-- Completed counts of a port (R123, R144 to R148). -/
def State.dueCounts (s : State) (p : Port) : List Instr :=
  let c := s.contract.get p
  let d := s.drawMonitor.get p
  dueIf (d.railLostDone c) (.railLost p)
    ++ dueIf (d.overvoltageDone c) (.overvoltage p)
    ++ dueIf (d.sagDone c) (.sagTrim p)
    ++ dueIf (d.overdrawDone c) (.overdrawTrim p)
    ++ dueIf c.hasSettled (.claimSettled p)

/-- Events the part makes at once: completed counts, a demand to take (R115), a frame to take (R172). -/
def State.dueAtOnce (s : State) : List Instr :=
  allPorts.flatMap s.dueCounts
    ++ dueIf s.sequencer.takable.isSome .takeDemand
    ++ (s.link.takable.map rowOfFrame).toList

/-- Timers of a port that have run out. -/
def State.duePort (s : State) (p : Port) : List Instr :=
  let m := s.monitor.get p
  let f := s.framer.get p
  let c := s.contract.get p
  dueIf m.riseExpired (.debounceRiseExpiry p)
    ++ dueIf m.fallExpired (.sensingFallExpiry p)
    ++ dueIf m.detachExpired (.detach p)
    ++ dueIf m.probeExpired (.probeTimerExpiry p)
    ++ dueIf m.coolOffExpired (.coolOffExpiry p)
    ++ dueIf f.answerExpired (.answerTimerExpiry p)
    ++ dueIf f.resendExpired (.resendTimerExpiry p)
    ++ dueIf c.readyExpired (.readyTimerExpiry p)
    ++ dueIf c.settleExpired (.settleTimerExpiry p)
    ++ dueIf (s.drawMonitor.get p).descentExpired (.descentTimerExpiry p)

/-- Timers that have run out. -/
def State.dueTimers (s : State) : List Instr :=
  allPorts.flatMap s.duePort
    ++ dueIf (reached (s.meter.inFlight.map Conversion.elapsed) Config.conversionTime) .conversionOpen
    ++ dueIf s.sequencer.breakExpired .breakIntervalExpiry
    ++ dueIf s.limit.recoveryExpired .recoveryTimerExpiry
    ++ dueIf s.link.gapExpired .byteGapTimeout
    ++ dueIf s.supervisor.silenceExpired .silenceTimerExpiry

/-- The events that are due now: those made at once come before timers that have run out. -/
def State.due (s : State) : List Instr := if s.dueAtOnce.isEmpty then s.dueTimers else s.dueAtOnce

/-- One of several events; which one is a free choice (log entry 3). -/
def chooseEvent (l : List Instr) (s : State) : State :=
  match l with
  | [] => s
  | [i] => { s with pending := [i] }
  | i :: rest =>
    let (k, t) := takeFree s
    { t with pending := ((i :: rest)[k % (rest.length + 1)]?).toList }

/-! ### The tick -/

/-- One more ms on a running timer. -/
def tickTimer (t : Option Nat) : Option Nat := t.map (· + 1)

def Monitor.tick (m : Monitor) : Monitor :=
  { m with debounce := tickTimer m.debounce, probeTimer := tickTimer m.probeTimer, coolOff := tickTimer m.coolOff }

def ExchangeCondition.tick : ExchangeCondition → ExchangeCondition
  | .queued => .queued
  | .answerDue n => .answerDue (n + 1)
  | .held n => .held (n + 1)

def Framer.tick (f : Framer) : Framer :=
  { f with exchange := f.exchange.map fun e => { e with condition := e.condition.tick } }

def Contract.tick (c : Contract) : Contract :=
  { c with readyTimer := tickTimer c.readyTimer, settleTimer := tickTimer c.settleTimer }

def Meter.tick (m : Meter) : Meter :=
  { m with inFlight := m.inFlight.map fun c => { c with elapsed := c.elapsed + 1 } }

def Stage.tick : Stage → Stage
  | .breaking n => .breaking (n + 1)
  | .start => .start
  | .claimPrimary => .claimPrimary
  | .claimSecondary => .claimSecondary

def Sequencer.tick (q : Sequencer) : Sequencer :=
  { q with transition := q.transition.map fun t => { t with stage := t.stage.tick } }

/-- One millisecond passes: the count of R41 rises by 1 and every running timer advances; a limit-line period begins
(R141). -/
def tick (s : State) : State :=
  { s with
    pending := [.limitPeriod]
    msCount := s.msCount + 1
    monitor := s.monitor.map Monitor.tick
    framer := s.framer.map Framer.tick
    meter := s.meter.tick
    contract := s.contract.map Contract.tick
    sequencer := s.sequencer.tick
    limit := { s.limit with recovery := tickTimer s.limit.recovery }
    drawMonitor := s.drawMonitor.map fun d => { d with descent := tickTimer d.descent }
    link := { s.link with reception := s.link.reception.map fun r => { r with gap := r.gap + 1 } }
    supervisor := { s.supervisor with silenceTimer := tickTimer s.supervisor.silenceTimer } }

/-- A step with no command waiting. While power-on reset is held the part's timers do not run (R187). -/
def idle (s : State) : State :=
  if s.inReset then s
  else
    match s.due with
    | [] => tick s
    | i :: rest => chooseEvent (i :: rest) s

end Sys2Proof.Machine
end

