-- ==== Sys2Proof/Machine/MeterCommands.lean ====
section
/-! DEFINITION. The meanings of the ends of a conversion (04; R56, R59, R62). A command that names an end of a kind the
converter is not making has no effect: no such conversion is in flight. -/

namespace Sys2Proof.Machine

open Sys2Proof

/-- The conversion in flight ends with an outcome, on whichever channel it is (R59, R62). -/
def endConversion (c : Channel) (o : ConversionOutcome) (s : State) : State :=
  match c with
  | .id p => portCompleted p o s
  | .refLo => referenceCompleted false o s
  | .refHi => referenceCompleted true o s

/-- R56: the 256th edge comes at this timebase value. At the limit of the timebase the conversion is OPEN, which it
cannot be before its time. -/
def endAtEdge (c : Channel) (period : BitVec 16) (s : State) : State :=
  if period.toNat < 65535 || s.meter.openReached then endConversion c (outcomeAt period.toNat) s else s

/-- REFERENCE_CONVERSION_END (R56, R59): the 256th edge of a reference conversion comes at this timebase value. -/
def execReferenceConversionEnd (period : BitVec 16) (s : State) : Host.Outcome State Fault Refusal :=
  running (fun s =>
    match s.meter.inFlightChannel with
    | some .refLo => endAtEdge .refLo period s
    | some .refHi => endAtEdge .refHi period s
    | some (.id _) | none => s) s

/-- PORT_CONVERSION_END (R56, R62): the 256th edge of a port conversion comes at this timebase value. -/
def execPortConversionEnd (period : BitVec 16) (s : State) : Host.Outcome State Fault Refusal :=
  running (fun s =>
    match s.meter.inFlightChannel with
    | some (.id p) => endAtEdge (.id p) period s
    | some .refLo | some .refHi | none => s) s

/-- CONVERSION_OPEN (R56): the timebase or the conversion timer runs out before the 256th edge. Before the millisecond
in which the timebase can stand at its limit the row changes nothing (log entries 13 and 18). -/
def execConversionOpen (s : State) : Host.Outcome State Fault Refusal :=
  running (fun s =>
    match s.meter.inFlightChannel with
    | some c => if s.meter.openReached then endConversion c .openCircuit s else s
    | none => s) s

end Sys2Proof.Machine
end

