-- ==== Sys2Proof/Machine/PolicyOps.lean ====
section
/-! DEFINITION. The Policy Store's operations (05): the validation of APPLY, its success, and what an image change
tells the other blocks. -/

namespace Sys2Proof.Machine

open Sys2Proof

/-! ### Platform parameters (R76, R85) -/

/-- The accepted range of R76 for each identifier. -/
def paramRange : Nat → Nat × Nat
  | 0 | 1 | 2 | 3 => (1000, 6000)
  | 4 | 5 => (4500, 25000)
  | 6 => (0, 50)
  | 7 => (0, 1)
  | 8 => (0, 1000)
  | 9 => (4000, 12000)
  | 10 => (2, 20)
  | 11 | 12 => (1000, 250000)
  | 13 => (500, 3000)
  | _ => (2, 20)

/-- R85: the check of one identifier; detail 1 is RANGE and 2 is ORDER (R196). -/
def paramFault (i : PolicyImage) (k : Fin 15) : Option ImageFault :=
  let v := i.params[k]
  let (lo, hi) := paramRange k.val
  if v < lo || hi < v then some { part := .params, index := k.val, detail := 1 }
  else if k.val = 5 && v < i.windowMin then some { part := .params, index := k.val, detail := 2 }
  else if k.val = 12 && v < i.lowReference + 1000 then some { part := .params, index := k.val, detail := 2 }
  else none

/-- A link or head that APPLY accepts: a rule index or END. -/
def linkAccepted (n : Nat) : Bool := n < 48 || n == Config.linkEnd

/-- R86: the order number of the first test a rule fails. -/
def ruleDetail (r : Rule) : Option Nat :=
  if r.minVoltage > 25000 then some 1
  else if r.maxVoltage > 25000 then some 2
  else if r.minVoltage > r.maxVoltage then some 3
  else if r.minCurrent > 6000 then some 4
  else if r.shared = .invalid then some 5
  else if r.action = .invalid2 || r.action = .invalid3 then some 6
  else if r.weight < 1 || 15 < r.weight then some 7
  else if r.cap < 500 || 6000 < r.cap then some 8
  else if 50 < r.derate then some 9
  else if r.settle < 20 || 500 < r.settle then some 10
  else if !linkAccepted r.next then some 11
  else none

def ruleFault (i : PolicyImage) (k : Fin 48) : Option ImageFault :=
  (ruleDetail i.rules[k]).map fun d => { part := .rule, index := k.val, detail := d }

/-- The three heads in order: SUPPLIER, DOCK, LEGACY. -/
def PolicyImage.head (i : PolicyImage) : Fin 3 → Nat
  | 0 => i.supplierHead
  | 1 => i.dockHead
  | 2 => i.legacyHead

/-- R87: a head of 48..62 fails with detail NEXT (11). -/
def headFault (i : PolicyImage) (k : Fin 3) : Option ImageFault :=
  if linkAccepted (i.head k) then none else some { part := .head, index := k.val, detail := 11 }

/-- R87: walk a chain from a link; the rule visited a second time, if the walk meets one. A walk that passes visits at
most 48 rules, so 49 steps decide it. -/
def walkChain (i : PolicyImage) : Nat → Nat → List Nat → Option Nat
  | 0, _, _ => none
  | fuel + 1, link, seen =>
    match i.rules[link]? with
    | none => none
    | some r => if seen.contains link then some link else walkChain i fuel r.next (link :: seen)

def chainFault (i : PolicyImage) (k : Fin 3) : Option ImageFault :=
  (walkChain i 49 (i.head k) []).map fun d => { part := .chain, index := k.val, detail := d }

/-- R87: the detail of the first test a used rating entry fails (R196). -/
def ratingDetail (r : Rating) : Option Nat :=
  if !r.used then none
  else if r.minResistance > 250000 then some 1
  else if r.maxResistance > 250000 then some 2
  else if r.minResistance > r.maxResistance then some 3
  else if r.current < 500 || 6000 < r.current then some 4
  else none

def ratingFault (i : PolicyImage) (k : Fin 12) : Option ImageFault :=
  (ratingDetail i.ratings[k]).map fun d => { part := .rating, index := k.val, detail := d }

/-- R84: the first failing item in the fixed order, or none where every check passes. -/
def validate (i : PolicyImage) : Option ImageFault :=
  (List.finRange 15).findSome? (paramFault i)
    <|> (List.finRange 48).findSome? (ruleFault i)
    <|> (List.finRange 3).findSome? (headFault i)
    <|> (List.finRange 3).findSome? (chainFault i)
    <|> (List.finRange 12).findSome? (ratingFault i)

/-! ### A change of the ACTIVE image -/

/-- R88: a validated PENDING image becomes ACTIVE; REVIEW is raised on every attached port, the Supply Unit
rebalances, and the Limit Unit recomputes. R88 does not order these effects among themselves; they come in this order in
the one event, before any of the REVIEWs can be taken (DESIGN CHOICE, log entry 45). -/
def applySuccess (s : State) : State :=
  let old := s.policy.active.sourcePortLimit
  let t := s.modPolicy fun q => { q with active := q.pendingBank, origin := .loaded, pendingOpen := false }
  recompute (serve (rebalance old (reviewAttached t)))

/-- R191: autonomous entry. The image, the demand and the budget change; the Supply Unit rebalances, makes the budget
decrease and serves the wait list once; then REVIEW is raised; the Limit Unit recomputes (R151). -/
def autonomousEntry (s : State) : State :=
  let old := s.policy.active.sourcePortLimit
  let straps := s.supervisor.straps
  let t := (s.modSupervisor fun v =>
      { v with autonomous := true, silenceTimer := none, demand := strapPowerClass straps }).modPolicy
    fun q => { q with active := fallbackImage (strapSixAmp straps), origin := .fallback, pendingOpen := false }
  let u := rebalance old t
  reviewAttached (recompute (serve (takeBudget (min u.supply.budget (strapBudget straps)) u)))

end Sys2Proof.Machine
end

