-- ==== Sys2Proof/Machine/PolicyCommands.lean ====
section
/-! DEFINITION. The meanings of the policy commands (05; R79 to R89). -/

namespace Sys2Proof.Machine

open Sys2Proof

/-! ### Opening and writing PENDING (R79 to R82) -/

/-- OPEN_POLICY (R79). -/
def execOpenPolicy (s : State) : Host.Outcome State Fault Refusal :=
  running (takeCommand (wantsCode 0x10) (checkLength 2 fun _ s =>
    (s.modPolicy fun q => { q with pendingBank := q.active, pendingOpen := true }, .ok))) s

/-- R80 to R82: a write is refused NOT-OPEN while PENDING is closed. -/
def writePending (carry : LinkFrame → State → State × ReplyBody) (f : LinkFrame) (s : State) : State × ReplyBody :=
  if s.policy.pendingOpen then carry f s else refuse .notOpen s

def State.modPending (s : State) (g : PolicyImage → PolicyImage) : State :=
  s.modPolicy fun q => { q with pendingBank := g q.pendingBank }

/-- WRITE_RULE (R80). -/
def execWriteRule (s : State) : Host.Outcome State Fault Refusal :=
  running (takeCommand (wantsCode 0x11) (checkLength 15 (writePending fun f s =>
    if h : f.arg 0 < 48 then
      (s.modPending fun i => { i with rules := i.rules.set (f.arg 0) (ruleOfBytes (f.payload.drop 3)) h }, .ok)
    else refuse .badIndex s))) s

/-- WRITE_HEADS (R81): bits 5..0 of each byte. -/
def execWriteHeads (s : State) : Host.Outcome State Fault Refusal :=
  running (takeCommand (wantsCode 0x12) (checkLength 5 (writePending fun f s =>
    (s.modPending fun i =>
      { i with supplierHead := bitsOf (f.arg 0) 0 6, dockHead := bitsOf (f.arg 1) 0 6,
               legacyHead := bitsOf (f.arg 2) 0 6 }, .ok)))) s

/-- WRITE_RATING (R81). -/
def execWriteRating (s : State) : Host.Outcome State Fault Refusal :=
  running (takeCommand (wantsCode 0x13) (checkLength 14 (writePending fun f s =>
    if h : f.arg 0 < 12 then
      (s.modPending fun i => { i with ratings := i.ratings.set (f.arg 0) (ratingOfBytes (f.payload.drop 3)) h }, .ok)
    else refuse .badIndex s))) s

/-- WRITE_PARAMS (R82, R196): the value is a count of the identifier's step. -/
def execWriteParams (s : State) : Host.Outcome State Fault Refusal :=
  running (takeCommand (wantsCode 0x14) (checkLength 7 (writePending fun f s =>
    if h : f.arg 0 < 15 then
      (s.modPending fun i =>
        { i with params := i.params.set (f.arg 0) (f.argNumber 1 4 * paramStep (f.arg 0)) h }, .ok)
    else refuse .badIndex s))) s

/-! ### READ POLICY (R83) -/

/-- An item of an image by its item code and index; none where the index is out of range. -/
def PolicyImage.item (i : PolicyImage) (item index : Nat) : Option PolicyItem :=
  match item with
  | 0 => (i.rules[index]?).map .rule
  | 1 => some (.heads i.supplierHead i.dockHead i.legacyHead)
  | 2 => (i.ratings[index]?).map .rating
  | 3 => (i.params[index]?).map (.param index)
  | _ => none

/-- R83: the reply to a READ POLICY of a bank, an item and an index. A bank or item code outside its list is refused
BADINDEX (R196). A closed PENDING bank and an index out of range are not ordered (log entry 6). -/
def PolicyStore.read (q : PolicyStore) (bank item index : Nat) : ReplyBody :=
  if 1 < bank ∨ 4 < item then .refused .badIndex
  else if item = 4 then .data (.policy (.storeStatus q.pendingOpen q.origin))
  else
    match (if bank = 0 then q.active else q.pendingBank).item item index with
    | some d => if bank = 1 ∧ q.pendingOpen = false then .refused .notOpen else .data (.policy d)
    | none =>
      if bank = 1 ∧ q.pendingOpen = false ∧ Config.readPolicyIndexFirst = false then .refused .notOpen
      else .refused .badIndex

/-- READ_POLICY (R83, R175). -/
def execReadPolicy (s : State) : Host.Outcome State Fault Refusal :=
  running (takeCommand (wantsCode 0x15) (checkLength 5 fun f s =>
    answer (s.policy.read (f.arg 0) (f.arg 1) (f.arg 2)) s)) s

/-! ### APPLY (R84 to R89) -/

/-- R84, R88, R89: validation and its outcome, as one event. -/
def applyPending (s : State) : State × ReplyBody :=
  match validate s.policy.pendingBank with
  | some d => (s, .invalid d)
  | none => (applySuccess s, .applied)

/-- APPLY (R84). -/
def execApplyPolicy (s : State) : Host.Outcome State Fault Refusal :=
  running (takeCommand (wantsCode 0x16) (checkLength 2 (writePending fun _ s => applyPending s))) s

end Sys2Proof.Machine
end

