-- ==== Sys2Proof/Machine/PortCommands.lean ====
section
/-! DEFINITION. The meanings of power-on reset, of the presence input and of the Port Monitor's timers (01, R187). -/

namespace Sys2Proof.Machine

open Sys2Proof

/-! ### Power-on reset (R187) -/

/-- POWER_ON_RESET (R187): every block takes its power-on values; whatever was in flight ends at once. -/
def execPowerOnReset (s : State) : Host.Outcome State Fault Refusal :=
  .next { State.powerOn 0 with pending := s.pending, freeCount := s.freeCount }

/-- R18: a port at the end of reset: a populated port whose presence is high enters SENSING, as if presence had just
risen. -/
def sensePresence (presence : BitVec 4) (p : Port) (s : State) : State :=
  let high := presence.getLsbD p.val
  s.modMonitor p fun m =>
    if high && s.populated p then { m with presence := high, state := .sensing, debounce := some 0 }
    else { m with presence := high }

/-- RESET_END (R187 steps 1 to 7). -/
def resetEnd (straps : BitVec 8) (presence : BitVec 4) (uhold : Bool) (s : State) : State :=
  let s1 := s.modSupervisor fun _ => Supervisor.reset straps
  let s2 := s1.modSupply fun u => { u with budget := strapBudget straps }
  let s3 := s2.modPolicy fun _ => PolicyStore.reset straps
  let s4 := takeChannel (queuePair s3)
  let s5 := allPorts.foldl (fun t p => sensePresence presence p t) s4
  { (s5.modLink fun l => { l with uhold := uhold }) with inReset := false }

/-- RESET_END (R187): the end of a reset that is being held. -/
def execResetEnd (straps : BitVec 8) (presence : BitVec 4) (uhold : Bool) (s : State) :
    Host.Outcome State Fault Refusal :=
  .next (if s.inReset then resetEnd straps presence uhold s else s)

/-! ### Presence (R2, R3) -/

/-- What a rise of presence does at the Port Monitor (R1, R2, R3). -/
def Monitor.rise (m : Monitor) (populated : Bool) : Monitor :=
  if m.presence then m
  else
    let n := { m with presence := true }
    if !populated then n
    else
      match m.state with
      | .empty => { n with state := .sensing, debounce := some 0 }
      | .sensing => { n with debounce := some 0 }
      | .probing | .measuring | .talking | .legacy | .mute => { n with debounce := none }

/-- What a fall of presence does at the Port Monitor (R2, R3). -/
def Monitor.fall (m : Monitor) : Monitor :=
  if !m.presence then m
  else
    let n := { m with presence := false }
    match m.state with
    | .empty => n
    | .sensing | .probing | .measuring | .talking | .legacy | .mute => { n with debounce := some 0 }

/-- PRESENCE_RISE (R2, R3). -/
def execPresenceRise (p : Port) (s : State) : Host.Outcome State Fault Refusal :=
  running (fun s => s.modMonitor p fun m => m.rise (s.populated p)) s

/-- PRESENCE_FALL (R2, R3). -/
def execPresenceFall (p : Port) (s : State) : Host.Outcome State Fault Refusal :=
  running (fun s => s.modMonitor p Monitor.fall) s

/-! ### Entering PROBING (R4) -/

/-- R4: the branch-0 record of a port that enters PROBING. -/
def freshRecord : PartnerRecord :=
  { cls := .none, branchCount := 0, supplyPresent := false, vendor := none, model := none, grant := none }

/-- R4: the base-draw demand the platform allows. -/
def State.wantsBaseDraw (s : State) (p : Port) : Bool :=
  !s.supervisor.batteryPresent && s.drawSet.isEmpty && railLive (s.rail.get p).mv

/-- R4: a port enters PROBING. -/
def enterProbing (p : Port) (s : State) : State :=
  let s1 := (s.modMonitor p fun m =>
    { m with state := .probing, debounce := none, probeCount := 1, probeTimer := some 0 }).setOwn p (some freshRecord)
  let s2 := requestExchange p .probe (s1.modBook p fun b => { b with firstBook := true })
  if s2.wantsBaseDraw p then raiseDemand .attach p s2 else s2

/-- DEBOUNCE_RISE_EXPIRY (R2): the timer reaches 20 ms with presence high in SENSING. -/
def execDebounceRiseExpiry (p : Port) (s : State) : Host.Outcome State Fault Refusal :=
  running (fun s => if (s.monitor.get p).riseExpired then enterProbing p s else s) s

/-- SENSING_FALL_EXPIRY (R2): presence stays low for 2 ms in SENSING. -/
def execSensingFallExpiry (p : Port) (s : State) : Host.Outcome State Fault Refusal :=
  running (fun s =>
    if (s.monitor.get p).fallExpired then s.modMonitor p fun m => { m with state := .empty, debounce := none }
    else s) s

/-! ### Detach (R17) -/

/-- R17: the Port Monitor's part. -/
def Monitor.detached (m : Monitor) : Monitor :=
  { m with state := .empty, debounce := none, probeCount := 0, probeTimer := none, coolOff := none, failures := 0 }

/-- R54: the book at a detach. -/
def Book.detached (ms : BitVec 32) : Book := { Book.reset with stamp := ms }

/-- R17: every block tears down the port's state, in the order of the rule's table. -/
def detachPort (p : Port) (s : State) : State :=
  let short := s.cutShort
  let s1 := (s.modFramer p fun _ => Framer.reset).modMonitor p Monitor.detached
  let s2 := (clearContract p s1).modDrawMonitor p fun _ => DrawMonitor.reset
  let s3 := abortIfInvolved p short (raiseDemand .loss p s2)
  let s4 := supplyDetach p s3
  let s5 := (s4.setOwn p none).setPool (s4.table.pool.filter fun r => !(r.port == p))
  let s6 := s5.modBook p fun _ => Book.detached s5.msCount
  let s7 := (abandonMeasure p s6).modPortMeasure p fun _ => PortMeasure.reset
  postPartner noticeDetached p (serve (clearNotice (.capture p) s7))

/-- DETACH (R3, R17): presence stays low for 2 ms in an attached state. -/
def execDetach (p : Port) (s : State) : Host.Outcome State Fault Refusal :=
  running (fun s => if (s.monitor.get p).detachExpired then detachPort p s else s) s

/-! ### Probing and cool-off (R5, R12) -/

/-- R5: an expiry of the probe timer in PROBING. -/
def probeExpiry (p : Port) (s : State) : State :=
  let m := s.monitor.get p
  if m.probeCount < 3 then
    requestExchange p .probe
      (s.modMonitor p fun m => { m with probeCount := m.probeCount + 1, probeTimer := none })
  else
    startMeasure p false (s.modMonitor p fun m => { m with state := .measuring, probeTimer := none })

/-- PROBE_TIMER_EXPIRY (R5). -/
def execProbeTimerExpiry (p : Port) (s : State) : Host.Outcome State Fault Refusal :=
  running (fun s => if (s.monitor.get p).probeExpired then probeExpiry p s else s) s

/-- COOL_OFF_EXPIRY (R12): the timer stops and REVIEW is raised for the port; the failure count is kept. -/
def execCoolOffExpiry (p : Port) (s : State) : Host.Outcome State Fault Refusal :=
  running (fun s =>
    if (s.monitor.get p).coolOffExpired then
      raiseDemand .review p (s.modMonitor p fun m => { m with coolOff := none })
    else s) s

end Sys2Proof.Machine
end

