-- ==== Sys2Proof/Machine/SupervisorCommands.lean ====
section
/-! DEFINITION. The meanings of SET PLATFORM, BAR PORT and the expiry of the silence timer (R13, R177, R188 to R191). -/

namespace Sys2Proof.Machine

open Sys2Proof

/-! ### SET PLATFORM (R177, R188) -/

/-- The four values SET PLATFORM carries (R177, R196): demand and budget in mW, the silence period in ms. -/
structure PlatformValues where
  demand : Nat
  budget : Nat
  battery : Nat
  silence : Nat
  deriving DecidableEq, Repr

def LinkFrame.platform (f : LinkFrame) : PlatformValues :=
  { demand := f.argNumber 0 4, budget := f.argNumber 4 2, battery := f.arg 6, silence := f.arg 7 * 100 }

/-- R177: every value lies in its range. -/
def PlatformValues.accepted (v : PlatformValues) : Bool :=
  v.demand ≤ 100000 && v.budget ≤ 60000 && v.battery ≤ 1 && 100 ≤ v.silence && v.silence ≤ 25500

/-- R188: the Supervisor's three values; a changed silence period restarts the running timer. While the autonomous
flag is set the timer stays stopped (R189; log entry 26). -/
def Supervisor.taken (u : Supervisor) (v : PlatformValues) : Supervisor :=
  { u with
    demand := v.demand
    batteryPresent := v.battery == 1
    silencePeriod := v.silence
    silenceTimer := if v.silence ≠ u.silencePeriod ∧ u.autonomous = false then some 0 else u.silenceTimer }

/-- R177, R188: the values are taken in one event; REVIEW is raised on every attached port if the demand or the
battery-present value changed. -/
def takePlatform (v : PlatformValues) (s : State) : State :=
  let changed := v.demand ≠ s.supervisor.demand ∨ (v.battery == 1) ≠ s.supervisor.batteryPresent
  let t := setBudget v.budget (s.modSupervisor fun u => u.taken v)
  if changed then reviewAttached t else t

/-- SET_PLATFORM (R177). -/
def execSetPlatform (s : State) : Host.Outcome State Fault Refusal :=
  running (takeCommand (wantsCode 0x20) (checkLength 10 fun f s =>
    if f.platform.accepted then (takePlatform f.platform s, .ok) else refuse .range s)) s

/-! ### BAR PORT (R13) -/

/-- R13: set or clear the barred flag. -/
def bar (p : Port) (flag : Bool) (s : State) : State :=
  let t := s.modMonitor p fun m => { m with barred := flag }
  if (s.monitor.get p).barred ≠ flag ∧ s.attached p then raiseDemand .review p t else t

/-- BAR_PORT (R13, R176). -/
def execBarPort (s : State) : Host.Outcome State Fault Refusal :=
  running (takeCommand (wantsCode 0x21) (checkLength 3 (checkPort fun p f s =>
    if 1 < f.arg 0 then refuse .range s else (bar p (f.arg 0 == 1) s, .ok)))) s

/-! ### Silence (R190, R191) -/

/-- R190: an expiry of the silence timer. -/
def silenceExpiry (s : State) : State :=
  match s.link.notices.silence with
  | none =>
    (post .silence noticeSilent (snapshotLow s.supervisor.silencePeriod) s).modSupervisor
      fun v => { v with silenceTimer := some 0 }
  | some _ => autonomousEntry s

/-- SILENCE_TIMER_EXPIRY (R190). -/
def execSilenceTimerExpiry (s : State) : Host.Outcome State Fault Refusal :=
  running (fun s => if s.supervisor.silenceExpired then silenceExpiry s else s) s

end Sys2Proof.Machine
end

