-- ==== Sys2Proof/Machine/TalkCommands.lean ====
section
/-! DEFINITION. The meanings of the frames received on a talk line, of the end of a frame sent, and of the exchange
timers (02; R6, R7, R15, R22 to R27; R42 to R46; R121, R122, R129; R155 to R162). -/

namespace Sys2Proof.Machine

open Sys2Proof

/-! ### Bad frames (R20) -/

/-- BAD_FRAME (R19, R20): a frame that fails its check or length test. A frame that passes them is not this event. -/
def execBadFrame (p : Port) (kind : BitVec 6) (f : RawFrame) (s : State) : Host.Outcome State Fault Refusal :=
  running (fun s => if frameGood kind f && !f.begins then s else receiveFrame p kind f id s) s

/-! ### ANNOUNCE (R6, R7) -/

/-- R6: an ANNOUNCE that passes the check. -/
def AnnounceFields.passes (a : AnnounceFields) : Bool := a.cls.isSome && a.branchCount ≤ 6

/-- R6: the branch-0 record an ANNOUNCE stores; the grant field is kept. -/
def AnnounceFields.record (a : AnnounceFields) (old : PartnerRecord) : PartnerRecord :=
  match a.cls with
  | some .dock =>
    { old with cls := .dock, branchCount := a.branchCount, supplyPresent := a.supplyPresent,
               vendor := some a.vendor, model := some a.model }
  | some .supplier =>
    { old with cls := .supplier, branchCount := 0, supplyPresent := true, vendor := some a.vendor,
               model := some a.model }
  | some .accessory =>
    { old with cls := .accessory, branchCount := 0, supplyPresent := false, vendor := some a.vendor,
               model := some a.model }
  | some .none | none => old

/-- The port's branch-0 record, which is in use on every attached port. -/
def State.ownRecord (s : State) (p : Port) : PartnerRecord :=
  (s.table.own.get p).getD
    { cls := .none, branchCount := 0, supplyPresent := false, vendor := none, model := none, grant := none }

/-- R6: the port enters TALKING. -/
def enterTalking (p : Port) (a : AnnounceFields) (s : State) : State :=
  let origin := (s.monitor.get p).state
  let s1 := (s.setOwn p (some (a.record (s.ownRecord p)))).modMonitor p
    fun m => { m with state := .talking, probeTimer := none }
  let s2 := endProbe p s1
  let s3 := if origin = .probing then s2 else abandonMeasure p s2
  let s4 := if origin = .legacy then emptyBook p s3 else s3
  postPartner noticeAnnounced p s4

/-- R7: an ANNOUNCE on a TALKING port. -/
def reannounce (p : Port) (a : AnnounceFields) (s : State) : State :=
  let old := s.ownRecord p
  let new := a.record old
  let s1 := s.setOwn p (some new)
  let s2 := if old.supplies && !new.supplies then emptyBook p s1 else s1
  let s3 := if new.branchCount < old.branchCount then freeAbove p new.branchCount s2 else s2
  if new ≠ old then postPartner noticeAnnounced p s3 else s3

/-- An ANNOUNCE from branch 0 of the right length (R6, R7). -/
def takeAnnounce (p : Port) (f : RawFrame) (s : State) : State :=
  let a := announceFields f.payload
  if !a.passes then protocolError p s
  else if (s.monitor.get p).state = .talking then reannounce p a s
  else enterTalking p a s

/-- ANNOUNCE (R6, R7, R8): from branch 1..6 it is a protocol error (R15). -/
def execAnnounce (p : Port) (f : RawFrame) (s : State) : Host.Outcome State Fault Refusal :=
  running (receiveFrame p kindAnnounce f fun s =>
    if (s.monitor.get p).state = .talking then
      takeTalking p kindAnnounce f
        (fun s => if f.branch = 0 then takeAnnounce p f s else protocolError p s) s
    else if f.branch = 0 ∧ lengthWrong kindAnnounce f = false then takeAnnounce p f s
    else protocolError p s) s

/-! ### OFFER (R42 to R46) -/

/-- An OFFER from branch 0 of a TALKING port. -/
def takeOffer (p : Port) (f : RawFrame) (s : State) : State :=
  if !s.supplies p then protocolError p s
  else
    match readPoints f.payload with
    | none => protocolError p s
    | some points => replaceBook p (points.take 7) s

/-- OFFER (R42 to R46); from branch 1..6 it is a protocol error (R15). -/
def execOffer (p : Port) (f : RawFrame) (s : State) : Host.Outcome State Fault Refusal :=
  running (receiveFrame p kindOffer f
    (takeTalking p kindOffer f fun s => if f.branch = 0 then takeOffer p f s else protocolError p s)) s

/-! ### GRANT, DENY, READY (R121, R122, R129) -/

/-- R121: a GRANT against the pending claim and the book. One that is taken suspends the port's sag and overvoltage
tests (R143). -/
def testGrant (p : Port) (t : PendingTerms) (g : GrantFields) (s : State) : State :=
  let b := s.book.get p
  if g.generation ≠ t.generation ∨ g.generation ≠ b.generation then staleClaim p true (place p .release s)
  else if b.points.length < t.point then staleClaim p true (place p .release s)
  else if g.point ≠ t.point then failClaim p .denied (place p .release s)
  else if min g.current t.requested < Config.baseCurrent then failClaim p .denied (place p .release s)
  else
    (s.modContract p fun c =>
      { c with state := .awaiting, readyTimer := some 0,
               details := some { current := min g.current t.requested, ready := some (min g.ready Config.readyMax) } })
      |>.modDrawMonitor p DrawMonitor.suspendTests

/-- A GRANT from branch 0: it ends an answer-due CLAIM exchange and is tested; otherwise the sequencer was not waiting
for it, and it is answered with RELEASE (R129). -/
def takeGrant (p : Port) (f : RawFrame) (s : State) : State :=
  if (s.framer.get p).claimDue then
    let t := endExchange p s
    match (t.contract.get p).state, (t.contract.get p).pending with
    | .claiming, some pt => testGrant p pt (grantFields f.payload) t
    | _, _ => place p .release t
  else place p .release s

/-- GRANT (R24, R121, R129); from branch 1..6 it is a protocol error (R15). -/
def execGrant (p : Port) (f : RawFrame) (s : State) : Host.Outcome State Fault Refusal :=
  running (receiveFrame p kindGrant f
    (takeTalking p kindGrant f fun s => if f.branch = 0 then takeGrant p f s else protocolError p s)) s

/-- A DENY from branch 0 (R24, R121): it ends an answer-due CLAIM exchange and the claim, STALE or DENIED by its
reason; otherwise it is discarded. -/
def takeDeny (p : Port) (f : RawFrame) (s : State) : State :=
  if (s.framer.get p).claimDue then
    let t := endExchange p s
    if (t.contract.get p).state ≠ .claiming then t
    else if byteAt f.payload 1 = 0x01 then staleClaim p false t
    else failClaim p .denied t
  else s

/-- DENY (R24, R121); from branch 1..6 it is a protocol error (R15). -/
def execDeny (p : Port) (f : RawFrame) (s : State) : Host.Outcome State Fault Refusal :=
  running (receiveFrame p kindDeny f
    (takeTalking p kindDeny f fun s => if f.branch = 0 then takeDeny p f s else protocolError p s)) s

/-- R122: a matching READY ends the waiting; any other is discarded (R129). The generation is tested against the
pending terms alone, as R122 says, where R53 has a READY's compared with the book's as it stands (DESIGN CHOICE, log
entry 41). The sag and overvoltage tests stay suspended (R143). -/
def takeReady (p : Port) (f : RawFrame) (s : State) : State :=
  let c := s.contract.get p
  match c.state, c.pending with
  | .awaiting, some t =>
    if generationOf f.payload = t.generation then
      (s.modContract p fun c =>
        { c with state := .settling, readyTimer := none, settleCount := 0, settleTimer := some 0 })
        |>.modDrawMonitor p DrawMonitor.suspendTests
    else s
  | _, _ => s

/-- READY (R24, R122, R129); from branch 1..6 it is a protocol error (R15). -/
def execReady (p : Port) (f : RawFrame) (s : State) : Host.Outcome State Fault Refusal :=
  running (receiveFrame p kindReady f
    (takeTalking p kindReady f fun s => if f.branch = 0 then takeReady p f s else protocolError p s)) s

/-! ### HOLD and the end of an exchange without an answer (R30, R31) -/

/-- R30: an exchange ends as no answer and is reported to its owner: for a CLAIM the claim ends NO-ANSWER. -/
def noAnswer (p : Port) (s : State) : State :=
  match (s.framer.get p).exchange with
  | some { kind := .claim _, .. } =>
    let t := endExchange p s
    if (t.contract.get p).state = .claiming then failClaim p .noAnswer t else t
  | some { kind := .probe, .. } => endExchange p s
  | none => s

/-- HOLD count of the port's exchange. -/
def Framer.holds (f : Framer) : Nat :=
  match f.exchange with
  | some e => e.holds
  | none => 0

/-- R31: a HOLD from branch 0; the fifth ends the exchange as no answer. With no exchange answer-due it is a protocol
error (R24). -/
def takeHold (p : Port) (s : State) : State :=
  let f := s.framer.get p
  if !f.exchangeDue then protocolError p s
  else if f.holds < 4 then holdExchange p s
  else noAnswer p s

/-- HOLD (R8, R15, R24, R31): from branch 1..6 of a TALKING port it is discarded. -/
def execHold (p : Port) (f : RawFrame) (s : State) : Host.Outcome State Fault Refusal :=
  running (receiveFrame p kindHold f fun s =>
    if (s.monitor.get p).state = .talking then
      takeTalking p kindHold f (fun s => if f.branch = 0 then takeHold p s else s) s
    else if f.branch = 0 ∧ lengthWrong kindHold f = false then takeHold p s
    else protocolError p s) s

/-! ### DEMAND and RETIRE (R15, R155 to R162) -/

/-- DEMAND (R15, R156): from branch 1..6 it first needs a pooled record. -/
def execDemand (p : Port) (f : RawFrame) (s : State) : Host.Outcome State Fault Refusal :=
  running (receiveFrame p kindDemand f
    (takeTalking p kindDemand f fun s =>
      let b := f.branch.toNat
      let go := supplyDemand p b (voltageField f.payload 0) (currentField f.payload 2)
      if b = 0 then go s else withRecord p b go s)) s

/-- RETIRE (R15, R162): from branch 1..6 without a record it is discarded. -/
def execRetire (p : Port) (f : RawFrame) (s : State) : Host.Outcome State Fault Refusal :=
  running (receiveFrame p kindRetire f
    (takeTalking p kindRetire f fun s =>
      let b := f.branch.toNat
      if b = 0 ∨ s.hasRecord p b = true then supplyRetire p b s else s)) s

/-! ### Frames of other kinds (R25 to R27) -/

/-- R25: the class of a non-power kind. -/
def State.classOfKind (s : State) (kind : BitVec 6) : FrameClass :=
  if 0x10 ≤ kind.toNat then (s.link.frameClass[kind.toNat - 0x10]?).getD .capture else .capture

/-- R26: forward as RELAY-UP, or drop with a HOLD answer when the upstream queue is full. -/
def forwardFrame (p : Port) (kind : BitVec 6) (f : RawFrame) (s : State) : State :=
  if s.link.upstream.length < Config.upstreamSize then placeUplink (.relayUp p f.branch kind f.payload) s
  else answerHold p f.branch.toNat s

/-- R27: store in an empty capture slot with a CAPTURE notice, or drop with a HOLD answer. -/
def captureFrame (p : Port) (kind : BitVec 6) (f : RawFrame) (s : State) : State :=
  match (s.framer.get p).capture with
  | some _ => answerHold p f.branch.toNat s
  | none =>
    post (.capture p) (BitVec.ofNat 8 kind.toNat) (snapshotOf f.branch.toNat 0 0 0)
      (s.modFramer p fun x => { x with capture := some { branch := f.branch, kind := kind, payload := f.payload } })

/-- OTHER_KIND_FRAME (R15, R25 to R27). A power kind is not this event. -/
def execOtherKindFrame (p : Port) (kind : BitVec 6) (f : RawFrame) (s : State) : Host.Outcome State Fault Refusal :=
  running (fun s =>
    if isPowerKind kind then s
    else receiveFrame p kind f
      (takeTalking p kind f fun s =>
        let b := f.branch.toNat
        match s.classOfKind kind with
        | .discard => s
        | .forward => if b = 0 then forwardFrame p kind f s else withRecord p b (forwardFrame p kind f) s
        | .capture => if b = 0 then captureFrame p kind f s else withRecord p b (captureFrame p kind f) s) s) s

/-- PART_ONLY_KIND_FRAME (R22 test 2, R8): a protocol error in every attached state, with no record allocated. -/
def execPartOnlyKindFrame (p : Port) (kind : PartOnlyKind) (f : RawFrame) (s : State) :
    Host.Outcome State Fault Refusal :=
  running (receiveFrame p (partOnlyCode kind) f (protocolError p)) s

/-! ### Sending and exchange timers (R28, R30, R31, R34) -/

/-- TALK_FRAME_SENT (R28, R32, R34). -/
def execTalkFrameSent (p : Port) (s : State) : Host.Outcome State Fault Refusal := running (frameSent p) s

/-- ANSWER_TIMER_EXPIRY (R30): an answer-due exchange ends as no answer. -/
def execAnswerTimerExpiry (p : Port) (s : State) : Host.Outcome State Fault Refusal :=
  running (fun s => if (s.framer.get p).answerExpired then noAnswer p s else s) s

/-- RESEND_TIMER_EXPIRY (R31): a held exchange is queued again. -/
def execResendTimerExpiry (p : Port) (s : State) : Host.Outcome State Fault Refusal :=
  running (fun s => if (s.framer.get p).resendExpired then resend p s else s) s

end Sys2Proof.Machine
end

