-- ==== Sys2Proof/Machine/Dispatch.lean ====
section
/-! DEFINITION. The meaning of every command: one arm for each constructor of Instr. -/

namespace Sys2Proof.Machine

open Sys2Proof

/-- The effect of a command on everything but the queue of waiting commands. -/
def exec (i : Instr) (s : State) : Host.Outcome State Fault Refusal :=
  match i with
  | .powerOnReset => Sys2Proof.Machine.execPowerOnReset s
  | .resetEnd straps presence uhold => Sys2Proof.Machine.execResetEnd straps presence uhold s
  | .presenceRise p => Sys2Proof.Machine.execPresenceRise p s
  | .presenceFall p => Sys2Proof.Machine.execPresenceFall p s
  | .debounceRiseExpiry p => Sys2Proof.Machine.execDebounceRiseExpiry p s
  | .sensingFallExpiry p => Sys2Proof.Machine.execSensingFallExpiry p s
  | .detach p => Sys2Proof.Machine.execDetach p s
  | .probeTimerExpiry p => Sys2Proof.Machine.execProbeTimerExpiry p s
  | .coolOffExpiry p => Sys2Proof.Machine.execCoolOffExpiry p s
  | .badFrame p kind f => Sys2Proof.Machine.execBadFrame p kind f s
  | .announce p f => Sys2Proof.Machine.execAnnounce p f s
  | .offer p f => Sys2Proof.Machine.execOffer p f s
  | .grant p f => Sys2Proof.Machine.execGrant p f s
  | .deny p f => Sys2Proof.Machine.execDeny p f s
  | .ready p f => Sys2Proof.Machine.execReady p f s
  | .hold p f => Sys2Proof.Machine.execHold p f s
  | .demand p f => Sys2Proof.Machine.execDemand p f s
  | .retire p f => Sys2Proof.Machine.execRetire p f s
  | .otherKindFrame p kind f => Sys2Proof.Machine.execOtherKindFrame p kind f s
  | .talkFrameSent p => Sys2Proof.Machine.execTalkFrameSent p s
  | .answerTimerExpiry p => Sys2Proof.Machine.execAnswerTimerExpiry p s
  | .resendTimerExpiry p => Sys2Proof.Machine.execResendTimerExpiry p s
  | .referenceConversionEnd period => Sys2Proof.Machine.execReferenceConversionEnd period s
  | .portConversionEnd period => Sys2Proof.Machine.execPortConversionEnd period s
  | .conversionOpen => Sys2Proof.Machine.execConversionOpen s
  | .takeDemand => Sys2Proof.Machine.execTakeDemand s
  | .claimSettled p => Sys2Proof.Machine.execClaimSettled p s
  | .settleTimerExpiry p => Sys2Proof.Machine.execSettleTimerExpiry p s
  | .readyTimerExpiry p => Sys2Proof.Machine.execReadyTimerExpiry p s
  | .breakIntervalExpiry => Sys2Proof.Machine.execBreakIntervalExpiry s
  | .railSample p mv ma => Sys2Proof.Machine.execRailSample p mv ma s
  | .railLost p => Sys2Proof.Machine.execRailLost p s
  | .overvoltage p => Sys2Proof.Machine.execOvervoltage p s
  | .sagTrim p => Sys2Proof.Machine.execSagTrim p s
  | .overdrawTrim p => Sys2Proof.Machine.execOverdrawTrim p s
  | .descentTimerExpiry p => Sys2Proof.Machine.execDescentTimerExpiry p s
  | .recoveryTimerExpiry => Sys2Proof.Machine.execRecoveryTimerExpiry s
  | .limitPeriod => Sys2Proof.Machine.execLimitPeriod s
  | .downlinkFrameStored bytes => Sys2Proof.Machine.execDownlinkFrameStored bytes s
  | .byteGapTimeout => Sys2Proof.Machine.execByteGapTimeout s
  | .uholdChange high => Sys2Proof.Machine.execUholdChange high s
  | .uplinkFrameEnd => Sys2Proof.Machine.execUplinkFrameEnd s
  | .unknownCommand => Sys2Proof.Machine.execUnknownCommand s
  | .identify => Sys2Proof.Machine.execIdentify s
  | .readPort => Sys2Proof.Machine.execReadPort s
  | .readBook => Sys2Proof.Machine.execReadBook s
  | .readContract => Sys2Proof.Machine.execReadContract s
  | .readPartner => Sys2Proof.Machine.execReadPartner s
  | .readLimit => Sys2Proof.Machine.execReadLimit s
  | .readSupply => Sys2Proof.Machine.execReadSupply s
  | .readMeter => Sys2Proof.Machine.execReadMeter s
  | .measure => Sys2Proof.Machine.execMeasure s
  | .openPolicy => Sys2Proof.Machine.execOpenPolicy s
  | .writeRule => Sys2Proof.Machine.execWriteRule s
  | .writeHeads => Sys2Proof.Machine.execWriteHeads s
  | .writeRating => Sys2Proof.Machine.execWriteRating s
  | .writeParams => Sys2Proof.Machine.execWriteParams s
  | .readPolicy => Sys2Proof.Machine.execReadPolicy s
  | .applyPolicy => Sys2Proof.Machine.execApplyPolicy s
  | .setPlatform => Sys2Proof.Machine.execSetPlatform s
  | .barPort => Sys2Proof.Machine.execBarPort s
  | .setFrameClass => Sys2Proof.Machine.execSetFrameClass s
  | .releaseCapture => Sys2Proof.Machine.execReleaseCapture s
  | .takeNotice => Sys2Proof.Machine.execTakeNotice s
  | .relayDown => Sys2Proof.Machine.execRelayDown s
  | .restart => Sys2Proof.Machine.execRestart s
  | .silenceTimerExpiry => Sys2Proof.Machine.execSilenceTimerExpiry s
  | .partOnlyKindFrame p kind f => Sys2Proof.Machine.execPartOnlyKindFrame p kind f s

end Sys2Proof.Machine
end

