-- ==== Sys2Proof/Machine/Replies.lean ====
section
/-! DEFINITION. The bytes of uplink frames (R195 to R197): the status and the reason of a reply, the items of its data in
the units and number codes the manual gives them, and the frame they are sent in. Where the manual gives the data no
byte layout, or a kind of state no number code, the layout and the code are free (log entry 10). -/

namespace Sys2Proof.Machine

open Sys2Proof

/-! ### Items of reply data -/

/-- A value of a kind of state that the manual gives no number code. -/
inductive UncodedValue
  | partnerClass (x : PartnerClass)
  | bookSource (x : BookSource)
  | pointForm (x : PointForm)
  | usableMark (x : UsableMark)
  | termSource (x : TermSource)
  | action (claims : Bool)
  | planKind (x : PlanKind)
  | noPlan
  | demandClass (x : DemandClass)
  | phase (x : MeasurePhase)
  | result (x : MeasureResult)
  | unrated (x : UnratedCode)
  | reference (x : RefStatus)
  | origin (x : PolicyOrigin)
  deriving DecidableEq, Repr

/-- One item of reply data. A voltage is a number of 50 mV steps and a current a number of 10 mA steps (R196); a time, a
count, an index, a resistance or a power is a whole number. -/
inductive ReplyItem
  | number (n : Nat)
  | voltage (steps : Nat)
  | current (steps : Nat)
  | code (n : Nat)
  | flag (b : Bool)
  | uncoded (v : UncodedValue)
  | bytes (l : List Byte)
  | absent
  deriving DecidableEq, Repr

/-- An item without its value: a layout knows what stands in an item, and not how much. -/
def ReplyItem.blank : ReplyItem → ReplyItem
  | .number _ => .number 0
  | .voltage _ => .voltage 0
  | .current _ => .current 0
  | .code _ => .code 0
  | .flag _ => .flag false
  | .uncoded v => .uncoded v
  | .bytes l => .bytes (List.replicate l.length 0)
  | .absent => .absent

/-- A field of reply data: a number of some bytes, in which items stand from given bits upward, or an item that is a run
of bytes. -/
inductive ReplyField
  | number (bytes : Nat) (parts : List (Nat × Nat))
  | run (item : Nat)
  deriving DecidableEq, Repr

end Sys2Proof.Machine

namespace Sys2Proof.Config

/-- The number of steps a reply gives for a value that is no whole number of them: R196 has replies carry steps, and
says nothing of the rest (log entry 10). -/
opaque offGridSteps (step value : Nat) : Nat

/-- The fields of the data of a reply to a command code, in the order in which they are sent, where the manual gives the
data no layout: which items stand in a field, and at which of its bits (log entry 10). -/
opaque replyLayout (command : Nat) (blanks : List Machine.ReplyItem) : List Machine.ReplyField

/-- The number a reply carries for a value of a kind of state that has no number code (log entry 10). -/
opaque uncodedNumber (v : Machine.UncodedValue) : Nat

/-- The number that a reply to a command code carries for its item `k` where that is absent (log entry 10). -/
opaque absentNumber (command k : Nat) : Nat

end Sys2Proof.Config

namespace Sys2Proof.Machine

open Sys2Proof

/-- A value as a number of steps. -/
def stepsOf (step value : Nat) : Nat := if value % step = 0 then value / step else Config.offGridSteps step value

def ReplyItem.millivolts (mv : Nat) : ReplyItem := .voltage (stepsOf 50 mv)

def ReplyItem.milliamps (ma : Nat) : ReplyItem := .current (stepsOf 10 ma)

/-- An item that may be absent. -/
def ReplyItem.ofOption {α : Type} (item : α → ReplyItem) : Option α → ReplyItem
  | some a => item a
  | none => .absent

/-- A parameter in the unit of its identifier (section 12.2). -/
def ReplyItem.parameter (identifier v : Nat) : ReplyItem :=
  if paramStep identifier = 50 then .millivolts v else if paramStep identifier = 10 then .milliamps v else .number v

def Terms.items (t : Terms) : List ReplyItem :=
  [.number t.point, .number t.generation.toNat, .millivolts t.voltage, .milliamps t.granted, .number t.derate,
   .number t.weight, .number t.settle, .uncoded (.termSource t.source)]

def PendingTerms.items (t : PendingTerms) : List ReplyItem :=
  [.number t.point, .number t.generation.toNat, .millivolts t.voltage, .milliamps t.requested, .number t.rule,
   .number t.weight, .milliamps t.cap, .number t.derate, .number t.settle, .uncoded (.termSource t.source)]

def GrantDetails.items (g : GrantDetails) : List ReplyItem :=
  [.milliamps g.current, .ofOption .number g.ready]

def Grant.items (g : Grant) : List ReplyItem := [.milliamps g.current, .milliamps g.requested, .number g.order]

def GrantField.items (g : GrantField) : List ReplyItem := [.milliamps g.current, .number g.order]

def PartnerRecord.items (r : PartnerRecord) : List ReplyItem :=
  [.uncoded (.partnerClass r.cls), .number r.branchCount, .flag r.supplyPresent, .ofOption .number r.vendor,
   .ofOption .number r.model]

def EntryAction.items : EntryAction → List ReplyItem
  | .claim => [.uncoded (.action true)]
  | .keep t => .uncoded (.action false) :: t.items

def PlanEntry.items (e : PlanEntry) : List ReplyItem :=
  [.code e.role.code, .number e.port.val, .uncoded (.termSource e.source), .number e.point,
   .number e.generation.toNat, .number e.rule, .millivolts e.voltage, .milliamps e.usable, .number e.derated,
   .number e.score, .milliamps e.requested, .number e.weight, .milliamps e.cap, .number e.derate, .number e.settle]
    ++ e.action.items

def BaseEntry.items (b : BaseEntry) : List ReplyItem :=
  [.number b.port.val, .millivolts b.voltage, .milliamps b.allowance]

def OfferPoint.items (q : OfferPoint) : List ReplyItem :=
  [.uncoded (.pointForm q.form), .millivolts q.minVoltage, .millivolts q.maxVoltage, .milliamps q.maxCurrent,
   .flag q.shared, .uncoded (.usableMark q.mark), .flag q.clamped]

def PortMeasure.items (r : PortMeasure) : List ReplyItem :=
  [.uncoded (.phase r.phase), .number r.attempts, .ofOption .number r.previous, .ofOption .number r.lastPeriod,
   .ofOption .number r.heldPeriod, .flag r.measureFlag, .uncoded (.result r.result),
   .ofOption (fun c => .uncoded (.unrated c)) r.code, .ofOption .number r.resistance, .ofOption .number r.entry]

def RefRecord.items (r : RefRecord) : List ReplyItem :=
  [.uncoded (.reference r.status), .ofOption .number r.period, .flag r.measureFlag]

def MeterStatus.items (m : MeterStatus) : List ReplyItem :=
  [.uncoded (.reference m.loStatus), .ofOption .number m.loPeriod, .uncoded (.reference m.hiStatus),
   .ofOption .number m.hiPeriod, .number m.refreshCount, .ofOption (fun c => .code c.code) m.inFlight]
    ++ m.queue.map fun c => .code c.code

/-- The items of a record that may be absent. -/
def itemsOf {α : Type} (items : α → List ReplyItem) : Option α → List ReplyItem
  | some a => items a
  | none => [.absent]

/-- A switch of each port. -/
def switchItems (f : Port → Bool) : List ReplyItem := allPorts.map fun p => .flag (f p)

/-- The items of reply data in the order the manual names them, in the units of R196 and with the number codes of R196
and R197: those of the attachment state, class view, contract state, role and last outcome are the codes READ PORT and
READ CONTRACT return. -/
def ReplyData.items : ReplyData → List ReplyItem
  | .identify part revision straps populated autonomous =>
    [.number part, .number revision, .number straps.toNat, .number populated, .flag autonomous]
  | .port state view presence probeCount failures coolOff barred unsound badCount latched rail =>
    [.code state.code, .code view.code, .flag presence, .number probeCount, .number failures,
     .ofOption .number coolOff, .flag barred, .flag unsound, .number badCount, .flag latched, .millivolts rail.mv,
     .milliamps rail.ma]
  | .bookHeader source generation count entry stamp firstBook now =>
    [.uncoded (.bookSource source), .number generation.toNat, .number count, .ofOption .number entry,
     .number stamp.toNat, .flag firstBook, .number now.toNat]
  | .bookPoint q => q.items
  | .contractState state role drawClosed base settleCount last =>
    [.code state.code, .code role.code, .flag drawClosed, .ofOption .millivolts base, .number settleCount,
     .code last.code.toNat]
  | .contractTerms terms => itemsOf Terms.items terms
  | .contractPending terms details => itemsOf PendingTerms.items terms ++ itemsOf GrantDetails.items details
  | .partner p b own grant =>
    [.number p.val, .number b] ++ itemsOf PartnerRecord.items own ++ itemsOf GrantField.items grant
  | .limits raw ceiling trim trimBound published nextDuty duty drawSet recovery =>
    [.milliamps raw, .ofOption .milliamps ceiling, .milliamps trim, .milliamps trimBound, .milliamps published,
     .number nextDuty, .number duty] ++ switchItems (drawSet.contains ·) ++ [.ofOption .number recovery]
  | .planHeader last =>
    match last with
    | some (k, c, q, ms) =>
      [.uncoded (.planKind k), .uncoded (.demandClass c), .number q.val, .number ms.toNat]
    | none => [.uncoded .noPlan, .absent, .absent, .absent]
  | .planPrimary entry base => itemsOf PlanEntry.items entry ++ itemsOf BaseEntry.items base
  | .planSecondary entry => itemsOf PlanEntry.items entry
  | .supplySummary budget reserved orderCounter switches grants waiting =>
    [.number budget, .number reserved, .number orderCounter] ++ switchItems switches.get
      ++ [.number grants, .number waiting]
  | .supplyGrant g => [.number g.port.val, .number g.branch] ++ g.grant.items
  | .supplyWait w => [.number w.port.val, .number w.branch, .milliamps w.requested]
  | .meterPort r status => r.items ++ status.items
  | .meterReference r status => r.items ++ status.items
  | .policy (.rule r) => [.bytes (bytesOfRule r)]
  | .policy (.heads supplier dock legacy) => [.number supplier, .number dock, .number legacy]
  | .policy (.rating r) => [.bytes (bytesOfRating r)]
  | .policy (.param identifier v) => [.parameter identifier v]
  | .policy (.storeStatus pendingOpen origin) => [.flag pendingOpen, .uncoded (.origin origin)]
  | .capture c => [.number c.branch.toNat, .number c.kind.toNat, .bytes c.payload]
  | .notice n => [.bytes (noticeBytes n)]

/-! ### Bytes -/

/-- The command code that reply data answers (R196). -/
def ReplyData.command : ReplyData → Nat
  | .identify _ _ _ _ _ => 0x01
  | .port _ _ _ _ _ _ _ _ _ _ _ => 0x02
  | .bookHeader _ _ _ _ _ _ _ | .bookPoint _ => 0x03
  | .contractState _ _ _ _ _ _ | .contractTerms _ | .contractPending _ _ => 0x04
  | .partner _ _ _ _ => 0x05
  | .limits _ _ _ _ _ _ _ _ _ | .planHeader _ | .planPrimary _ _ | .planSecondary _ => 0x06
  | .supplySummary _ _ _ _ _ _ | .supplyGrant _ | .supplyWait _ => 0x07
  | .meterPort _ _ | .meterReference _ _ => 0x08
  | .policy _ => 0x15
  | .capture _ => 0x23
  | .notice _ => 0x24

/-- The number that stands in a field for item `k` of a reply to a command code. -/
def ReplyItem.value (command k : Nat) : ReplyItem → Nat
  | .number n | .voltage n | .current n | .code n => n
  | .flag b => b.toNat
  | .uncoded v => Config.uncodedNumber v
  | .bytes l => numberOf l
  | .absent => Config.absentNumber command k

/-- The number in a field: each of its parts is an item and the field's bit at which the item's bit 0 stands. -/
def fieldValue (command : Nat) (items : List ReplyItem) (parts : List (Nat × Nat)) : Nat :=
  (parts.map fun q => (items.getD q.1 .absent).value command q.1 * 2 ^ q.2).sum

/-- The bytes of a field: a number is sent most significant byte first (R196). -/
def ReplyField.bytes (command : Nat) (items : List ReplyItem) : ReplyField → List Byte
  | .number w parts => bytesOfNumber w (fieldValue command items parts)
  | .run k =>
    match items[k]? with
    | some (.bytes l) => l
    | _ => []

/-- The bytes of reply data that the manual gives no layout: its fields one after another, within the 29 bytes a payload
of 32 leaves after tag, code and status (R169). Data that the layout makes longer are cut at 29 bytes: so it is with a
captured frame of 28 payload bytes, whose branch and kind need nine bits more (R27, R179, R195; DESIGN CHOICE, log entry
46). -/
def laidOut (command : Nat) (items : List ReplyItem) : List Byte :=
  ((Config.replyLayout command (items.map ReplyItem.blank)).flatMap (ReplyField.bytes command items)).take 29

/-- The bytes of reply data: those of a taken notice, a rule record and a rating record are given (R197, section 12.2);
for the rest the layout is free, and its numbers are sent as R196 says. -/
def ReplyData.bytes : ReplyData → List Byte
  | .notice n => noticeBytes n
  | .policy (.rule r) => bytesOfRule r
  | .policy (.rating r) => bytesOfRating r
  | d => laidOut d.command d.items

/-- The status byte of a reply and what follows it: a reason, the failing item of an INVALID, or data (R195, R196). -/
def ReplyBody.bytes : ReplyBody → List Byte
  | .ok => [0x00]
  | .data d => 0x01 :: d.bytes
  | .applied => [0x02]
  | .busy => [0x03]
  | .refused r => [0x04, BitVec.ofNat 8 r.code]
  | .invalid f =>
    [0x04, BitVec.ofNat 8 RefusalReason.invalid.code, BitVec.ofNat 8 f.part.code, BitVec.ofNat 8 f.index,
     BitVec.ofNat 8 f.detail]

/-- An uplink frame as a link frame (R169, R195). -/
def UplinkFrame.frame : UplinkFrame → LinkFrame
  | .reply port branch tag code body =>
    { kind := linkReply, port := port, branch := branch, payload := tag :: code :: body.bytes }
  | .relayUp port branch kind payload =>
    { kind := linkRelayUp, port := BitVec.ofNat 8 port.val, branch := BitVec.ofNat 8 branch.toNat,
      payload := BitVec.ofNat 8 kind.toNat :: payload }

/-- The bytes of an uplink frame on the wire (R195). -/
def UplinkFrame.bytes (f : UplinkFrame) : List Byte := f.frame.bytes

end Sys2Proof.Machine
end

