-- ==== Sys2Proof/Safety.lean ====
section
/-! DEFINITION. The terms statements are made in: the parts of the state and what a change leaves alone, the conditions
a command needs, and the conditions every step keeps. -/

namespace Sys2Proof.Machine

open Sys2Proof

/-! ### Parts of the state -/

/-- The parts of the state, each block's state cut along its ports and its own items. -/
inductive Part
  | queue
  | freeCount
  | reset
  | clock
  | rail (p : Port)
  | monitor (p : Port)
  | own (p : Port)
  | pool
  | framer (p : Port)
  | book (p : Port)
  | converter
  | references
  | refreshCount
  | measure (p : Port)
  | policy
  | lastPlan
  | contract (p : Port)
  | demands (p : Port)
  | service
  | limit
  | drawMonitor (p : Port)
  | budget
  | orderCounter
  | waitList
  | supplySwitch (p : Port)
  | receive
  | uplink
  | frameClass
  | notice (f : NoticeFlag)
  | supervisor
  deriving DecidableEq, Repr

/-- The part reads the same in both states. `converter` is the meter's queue and its conversion in flight; `service`
the port in service, the rotation pointer and the transition; `receive` the receive buffer and the frame in reception;
`uplink` the upstream queue, the frame being sent and the level of UHOLD. -/
def Part.same (part : Part) (s t : State) : Prop :=
  match part with
  | .queue => t.pending = s.pending
  | .freeCount => t.freeCount = s.freeCount
  | .reset => t.inReset = s.inReset
  | .clock => t.msCount = s.msCount
  | .rail p => t.rail.get p = s.rail.get p
  | .monitor p => t.monitor.get p = s.monitor.get p
  | .own p => t.table.own.get p = s.table.own.get p
  | .pool => t.table.pool = s.table.pool
  | .framer p => t.framer.get p = s.framer.get p
  | .book p => t.book.get p = s.book.get p
  | .converter => t.meter.queue = s.meter.queue ∧ t.meter.inFlight = s.meter.inFlight
  | .references => t.meter.refLo = s.meter.refLo ∧ t.meter.refHi = s.meter.refHi
  | .refreshCount => t.meter.refreshCount = s.meter.refreshCount
  | .measure p => t.meter.port.get p = s.meter.port.get p
  | .policy => t.policy = s.policy
  | .lastPlan => t.lastPlan = s.lastPlan
  | .contract p => t.contract.get p = s.contract.get p
  | .demands p => t.sequencer.demands.get p = s.sequencer.demands.get p
  | .service =>
    t.sequencer.inService = s.sequencer.inService ∧ t.sequencer.rotation = s.sequencer.rotation
      ∧ t.sequencer.transition = s.sequencer.transition
  | .limit => t.limit = s.limit
  | .drawMonitor p => t.drawMonitor.get p = s.drawMonitor.get p
  | .budget => t.supply.budget = s.supply.budget
  | .orderCounter => t.supply.orderCounter = s.supply.orderCounter
  | .waitList => t.supply.waitList = s.supply.waitList
  | .supplySwitch p => t.supply.switchClosed.get p = s.supply.switchClosed.get p
  | .receive => t.link.receive = s.link.receive ∧ t.link.reception = s.link.reception
  | .uplink =>
    t.link.upstream = s.link.upstream ∧ t.link.uplink = s.link.uplink ∧ t.link.uhold = s.link.uhold
  | .frameClass => t.link.frameClass = s.link.frameClass
  | .notice f => t.link.notices.get f = s.link.notices.get f
  | .supervisor => t.supervisor = s.supervisor

/-- Every part outside the list reads in `t` as it reads in `s`. -/
def ChangesOnly (parts : List Part) (s t : State) : Prop := ∀ part, part ∉ parts → part.same s t

/-- One kind of part at every port. -/
def everyPort (part : Port → Part) : List Part := allPorts.map part

/-- Every notice flag. -/
def everyNotice : List Part := noticeOrder.map .notice

/-! ### What a service of the Supply Unit, a transition and a meter event may reach -/

/-- What placing a frame on port `p` may change: its framer, and the probe timer its transmitter restarts (R5). -/
def placeParts (p : Port) : List Part := [.framer p, .monitor p]

/-- What grants, cuts, answers and a service of the wait list may change (09). -/
def supplyParts : List Part :=
  everyPort .framer ++ everyPort .monitor ++ everyPort .own ++ everyPort .supplySwitch
    ++ [.pool, .orderCounter, .waitList, .notice .supply]

/-- What the Path Sequencer may change in a service or a transition (07), with the cuts it asks for. -/
def sequencerParts : List Part :=
  supplyParts ++ everyPort .contract ++ everyPort .demands ++ everyPort .drawMonitor
    ++ everyPort (fun p => .notice (.contract p)) ++ [.service, .limit, .freeCount]

/-- What the end of a conversion of port `p` may change (04), with what its result does at the port's monitor and book. -/
def portMeterParts (p : Port) : List Part :=
  everyPort .measure
    ++ [.monitor p, .book p, .demands p, .notice (.partner p), .converter, .references, .refreshCount, .notice .meter]

/-- What the end of a reference conversion may change: the same at every port. -/
def meterParts : List Part :=
  everyPort .measure ++ everyPort .monitor ++ everyPort .book ++ everyPort .demands
    ++ everyPort (fun p => .notice (.partner p)) ++ [.converter, .references, .refreshCount, .notice .meter, .freeCount]

/-! ### Conditions of commands -/

/-- A running timer has come to a time. -/
def hasRun (timer : Option Nat) (ms : Nat) : Prop := ∃ n, timer = some n ∧ ms ≤ n

/-- The part sends nothing on the port's line and nothing waits to be sent there. -/
def State.lineIdle (s : State) (p : Port) : Prop :=
  (s.framer.get p).sending = none ∧ (s.framer.get p).engine = [] ∧ (s.framer.get p).relay = []

/-- The port's line is quiet in both directions and nothing waits to be sent on it (R34). -/
def State.lineQuiet (s : State) (p : Port) : Prop := s.lineIdle p ∧ (s.framer.get p).incoming = .quiet

/-- The transmitter has looked for a frame on a quiet line that stood as `f` (R34). -/
def Framer.lookedFrom (f g : Framer) : Prop :=
  (∀ e rest, f.engine = e :: rest → g.sending = some (.engine e) ∧ g.engine = rest ∧ g.relay = f.relay)
    ∧ (∀ r rest, f.engine = [] → f.relay = r :: rest → g.sending = some (.relay r) ∧ g.engine = [] ∧ g.relay = rest)
    ∧ (f.engine = [] → f.relay = [] → g.sending = none ∧ g.engine = [] ∧ g.relay = [])

/-- The decoder can take this frame next (R172): it heads the receive buffer, and there is room for its reply. -/
def State.headFrame (s : State) (f : LinkFrame) (rest : List LinkFrame) : Prop :=
  s.inReset = false ∧ s.link.receive = f :: rest ∧ s.link.upstream.length < Config.upstreamSize

/-- The state after the head frame has left the receive buffer. -/
def State.taken (s : State) (rest : List LinkFrame) : State := s.modLink fun l => { l with receive := rest }

/-- The frame is a COMMAND with this tag, code and arguments. -/
def LinkFrame.isCommand (f : LinkFrame) (tag code : Byte) (args : List Byte) : Prop :=
  f.kind = linkCommand ∧ f.payload = tag :: code :: args

/-- The uplink frames that wait or are being sent, oldest first. -/
def LinkUnit.outgoing (l : LinkUnit) : List UplinkFrame := l.uplink.toList ++ l.upstream

/-- The end of a frame on the port's line is received: the part is not sending, and the frame has not overlapped one of
the part (R34). -/
def State.hears (s : State) (p : Port) (f : RawFrame) : Prop :=
  f.begins = false ∧ (s.framer.get p).sending = none ∧ (s.framer.get p).incoming ≠ .lost

/-- A good frame of a branch arrives on a TALKING port whose part is not sending, and passes tests 1 to 4 of R22. -/
def State.takes (s : State) (p : Port) (kind : BitVec 6) (f : RawFrame) : Prop :=
  s.inReset = false ∧ (s.monitor.get p).state = .talking ∧ s.hears p f ∧ frameGood kind f = true
    ∧ f.branch ≠ 7 ∧ f.branch.toNat ≤ s.branchCount p ∧ lengthWrong kind f = false

/-! ### Frames on a talk line -/

/-- The frame a command brings to a port, with its kind: one whose operands describe the row's event (a BAD_FRAME that is
bad, an OTHER_KIND_FRAME that is no power kind). -/
def receivedFrame : Instr → Option (Port × BitVec 6 × RawFrame)
  | .badFrame p kind f => if frameGood kind f && !f.begins then none else some (p, kind, f)
  | .announce p f => some (p, kindAnnounce, f)
  | .offer p f => some (p, kindOffer, f)
  | .grant p f => some (p, kindGrant, f)
  | .deny p f => some (p, kindDeny, f)
  | .ready p f => some (p, kindReady, f)
  | .hold p f => some (p, kindHold, f)
  | .demand p f => some (p, kindDemand, f)
  | .retire p f => some (p, kindRetire, f)
  | .otherKindFrame p kind f => if isPowerKind kind then none else some (p, kind, f)
  | .partOnlyKindFrame p kind f => some (p, partOnlyCode kind, f)
  | _ => none

/-- A good frame arrives on an attached port and is received: it overlapped no frame of the part (R19, R34). -/
def State.arrives (s : State) (p : Port) (kind : BitVec 6) (f : RawFrame) : Prop :=
  s.inReset = false ∧ s.attached p = true ∧ s.hears p f ∧ frameGood kind f = true

/-- A frame of branch `b` finds the record it needs, or room for one (R15). -/
def State.findsRecord (s : State) (p : Port) (b : Nat) : Prop :=
  s.hasRecord p b = true ∨ (b ≠ 0 ∧ s.table.pool.length < 12)

/-- Nothing in R155 refuses a DEMAND of this voltage on the port. -/
def State.demandPasses (s : State) (p : Port) (voltage : Nat) : Prop :=
  (s.contract.get p).drawClosed = false ∧ (s.contract.get p).state = .idle ∧ s.isJoining p = false
    ∧ s.supplies p = false ∧ s.supply.budget ≠ 0 ∧ 4500 ≤ voltage

/-! ### Ends of a conversion (04) -/

/-- The reference pair is queued or being measured (R60). -/
def State.pairAsked (t : State) : Prop :=
  ∀ c, c = .refLo ∨ c = .refHi → c ∈ t.meter.queue ∨ t.meter.inFlightChannel = some c

/-- A MEASURE of port `p` is told of the end of its measurement by METER DONE; without one nothing is posted (R68). -/
def doneTold (p : Port) (s t : State) : Prop :=
  t.link.notices.get .meter
    = if (s.meter.port.get p).measureFlag = true then
        some (postTo (s.link.notices.get .meter) noticeDone (snapshotOf p.val 0 0 0) s.msCount)
      else s.link.notices.get .meter

/-- An unrated result at the Port Monitor: MEASURING and LEGACY become MUTE with PARTNER MUTE, a legacy book is emptied
with REVISE, and in any other state nothing follows (R9, R51). -/
def unratedDelivered (p : Port) (s t : State) : Prop :=
  let m := s.monitor.get p
  (m.state = .measuring ∨ m.state = .legacy →
      t.monitor.get p = { m with state := .mute }
        ∧ t.link.notices.get (.partner p)
            = some (postTo (s.link.notices.get (.partner p)) noticeMute (snapshotOf 6 0 0 0) s.msCount))
    ∧ (m.state ≠ .measuring → m.state ≠ .legacy →
        t.monitor.get p = m ∧ t.link.notices.get (.partner p) = s.link.notices.get (.partner p))
    ∧ (m.state = .legacy →
        t.book.get p = { s.book.get p with points := [], ratingEntry := none, stamp := s.msCount }
          ∧ t.sequencer.demands.get p = { s.sequencer.demands.get p with revise := true })
    ∧ (m.state ≠ .legacy →
        t.book.get p = s.book.get p ∧ t.sequencer.demands.get p = s.sequencer.demands.get p)

/-! ### Ends of a claim -/

/-- The service and the transition have ended, with the ceiling removed and the trim 0 (R115, R126). -/
def serviceEnded (t : State) : Prop :=
  t.sequencer.inService = none ∧ t.sequencer.transition = none ∧ t.limit.ceiling = none ∧ t.limit.trim = 0

/-- What the end of a claim may change; `service` is the port in service. -/
def claimParts (p service : Port) : List Part :=
  [.framer p, .monitor p, .contract p, .drawMonitor p, .demands p, .demands service, .limit, .service,
    .notice (.contract p)]

/-- The claim of port `p` has failed with an outcome (R11, R127). -/
def claimFailed (p : Port) (o : ContractOutcome) (s t : State) : Prop :=
  t.contract.get p
      = { state := .idle, role := .none, established := none, base := none, pending := none, details := none,
          drawClosed := false, settleCount := 0, lastOutcome := o, readyTimer := none, settleTimer := none }
    ∧ (t.monitor.get p).failures = min ((s.monitor.get p).failures + 1) 3
    ∧ (t.monitor.get p).coolOff = (if (s.monitor.get p).failures + 1 < 3 then some 0 else none)
    ∧ (((s.contract.get p).established.isSome ∨ (s.contract.get p).base.isSome) →
        (t.sequencer.demands.get p).loss = true)
    ∧ (t.sequencer.demands.get s.servicePort).review = true
    ∧ t.link.notices.get (.contract p) = some (postTo (s.link.notices.get (.contract p)) o.code 0 s.msCount)
    ∧ serviceEnded t ∧ ChangesOnly (claimParts p s.servicePort) s t

/-- The claim of port `p` has ended STALE (R128); `toBase` where a RELEASE under a closed switch takes the partner
back to base level. -/
def claimStale (p : Port) (toBase : Prop) (s t : State) : Prop :=
  let c := s.contract.get p
  let d := t.contract.get p
  d.pending = none ∧ d.details = none ∧ d.lastOutcome = .stale ∧ d.role = c.role ∧ d.drawClosed = c.drawClosed
    ∧ (toBase → d.state = .base ∧ d.base = some 5000 ∧ d.established = none)
    ∧ (¬toBase → d.established = c.established ∧ d.base = c.base
        ∧ d.state = (if c.established.isSome then .active else if c.base.isSome then .base else .idle))
    ∧ (t.monitor.get p).failures = (s.monitor.get p).failures ∧ (t.monitor.get p).coolOff = (s.monitor.get p).coolOff
    ∧ t.sequencer.demands = s.sequencer.demands
    ∧ (∃ n, t.link.notices.get (.contract p)
        = some (postTo (s.link.notices.get (.contract p)) ContractOutcome.stale.code n s.msCount))
    ∧ serviceEnded t ∧ ChangesOnly (claimParts p p) s t

/-! ### Switching (R124 to R126) -/

/-- The terms of an ACTIVE contract have this effective voltage. -/
def State.drawsAt (s : State) (p : Port) (v : Nat) : Prop :=
  (s.contract.get p).state = .active ∧ ∃ e, (s.contract.get p).established = some e ∧ e.voltage = v

/-- A joining port at the switching: one of the transition's, or one that stepped out, its draw switch open. -/
def State.joins (s : State) (tr : Transition) (p : Port) : Prop :=
  p ∈ tr.plan.ports ∧ (p ∈ tr.joining ∨ p ∈ tr.steppedOut) ∧ (s.contract.get p).drawClosed = false

/-- A leaving port whose draw switch is closed. -/
def State.leavesClosed (s : State) (tr : Transition) (p : Port) : Prop :=
  p ∈ tr.leaving ∧ (s.contract.get p).drawClosed = true

/-- The contract of a port that a plan names, after the switching: a draw entry's port takes its role if it draws, and
role NONE if it does not; a base entry's port takes state BASE as it is closed, or as it goes on drawing. -/
def planned (pl : Plan) (p : Port) (closes : Bool) (c : Contract) : Contract :=
  if closes then
    match pl with
    | .base b =>
      if c.drawClosed = true ∧ c.state = .base then { c with role := .primary, lastOutcome := .settled }
      else
        { state := .base, role := .primary, established := none, base := some b.voltage, pending := none, details := none,
          drawClosed := true, settleCount := 0, lastOutcome := .settled, readyTimer := none, settleTimer := none }
    | .draw _ _ | .empty => { c with drawClosed := true, role := pl.roleOf p, lastOutcome := .settled }
  else { c with role := .none }

/-- The switching of a transition is done: the plan's ports stand as planned, every leaving port is IDLE with outcome
DROPPED, an ACTIVE one with source TALK being sent RELEASE, and the transition has ended (R125, R126). -/
def switchingDone (tr : Transition) (s t : State) : Prop :=
  serviceEnded t ∧ t.sequencer.rotation = s.servicePort ∧ t.limit.published = t.limit.raw
    ∧ t.limit.allowanceSum = allowanceSumOf t.contract
    ∧ (∀ p ∈ tr.plan.ports, p ∉ tr.leaving → ∀ closes : Bool,
        (closes = true ↔ s.joins tr p ∨ (s.contract.get p).drawClosed = true) →
        t.contract.get p = planned tr.plan p closes (s.contract.get p))
    ∧ (∀ p, p ∉ tr.plan.ports → p ∈ tr.leaving →
        (t.contract.get p).state = .idle ∧ (t.contract.get p).role = .none
          ∧ (t.contract.get p).established = none ∧ (t.contract.get p).base = none
          ∧ (t.contract.get p).lastOutcome = .dropped
          ∧ ((s.contract.get p).state = .active →
              (∃ e, (s.contract.get p).established = some e ∧ e.source = .talk) → s.lineQuiet p →
              (t.framer.get p).sending = some (.engine .release)))
    ∧ (∀ p, p ∉ tr.plan.ports → p ∉ tr.leaving → t.contract.get p = s.contract.get p)
    ∧ t.link.notices.get (.contract s.servicePort)
        = some (postTo (s.link.notices.get (.contract s.servicePort)) (if tr.plan = .empty then 0x02 else 0x01)
            (snapshotOf (t.contract.get s.servicePort).state.code (t.contract.get s.servicePort).role.code 0 0)
            s.msCount)
    ∧ ChangesOnly
        (everyPort .framer ++ everyPort .monitor ++ everyPort .contract ++ everyPort .drawMonitor
          ++ [.limit, .service, .notice (.contract s.servicePort)]) s t

/-! ### Selection (R95 to R101) -/

/-- R97: a point passes a rule's voltage test with this effective voltage. -/
def voltagePasses (i : PolicyImage) (r : Rule) (q : OfferPoint) (v : Nat) : Prop :=
  match q.form with
  | .fixed =>
    v = q.minVoltage ∧ r.minVoltage ≤ v ∧ v ≤ r.maxVoltage ∧ i.params[4] ≤ v ∧ v ≤ i.params[5]
  | .span =>
    v % 100 = 0 ∧ v ≤ min q.maxVoltage (min r.maxVoltage i.params[5])
      ∧ min q.maxVoltage (min r.maxVoltage i.params[5]) < v + 100
      ∧ max q.minVoltage (max r.minVoltage i.params[4]) ≤ v

/-- R97: a point that matches its rule can serve a voltage. -/
def serves (i : PolicyImage) (r : Rule) (q : OfferPoint) (v : Nat) : Prop :=
  match q.form with
  | .fixed => v = q.minVoltage
  | .span =>
    v % 100 = 0 ∧ q.minVoltage ≤ v ∧ r.minVoltage ≤ v ∧ i.params[4] ≤ v ∧ v ≤ q.maxVoltage ∧ v ≤ r.maxVoltage
      ∧ v ≤ i.params[5]

/-- R98: a rule matches a point. -/
def ruleMatches (i : PolicyImage) (r : Rule) (q : OfferPoint) : Prop :=
  (∃ v, voltagePasses i r q v) ∧ r.minCurrent ≤ q.maxCurrent
    ∧ (r.shared = .any ∨ r.shared = .unsharedOnly ∧ q.shared = false ∨ r.shared = .sharedOnly ∧ q.shared = true)

/-- R96: a walk from a link comes, with its `n`-th rule, to an ACCEPT rule that matches the point. -/
inductive WalkAccepts (i : PolicyImage) (q : OfferPoint) : Nat → Nat → Nat → Prop
  | here {k : Nat} {r : Rule} (found : i.rules[k]? = some r) (fits : ruleMatches i r q) (accepts : r.action = .accept) :
      WalkAccepts i q k k 1
  | onward {link k n : Nat} {r : Rule} (found : i.rules[link]? = some r) (passes : ¬ruleMatches i r q)
      (rest : WalkAccepts i q r.next k n) : WalkAccepts i q link k (n + 1)

/-- R95: a port is a candidate. -/
def State.isCandidate (s : State) (p : Port) : Prop :=
  let m := s.monitor.get p
  (m.state = .talking ∧ s.supplies p = true ∨ m.state = .legacy)
    ∧ m.barred = false ∧ m.coolOff = none ∧ m.failures ≠ 3 ∧ (s.book.get p).points ≠ []

/-- R95, R96, R99: a valued point is an eligible point of its port, under its matched rule. -/
def State.isEligible (s : State) (e : Eligible) : Prop :=
  let i := s.policy.active
  s.isCandidate e.port ∧ 1 ≤ e.index ∧ e.index ≤ 7 ∧ (s.book.get e.port).points[e.index - 1]? = some e.point
    ∧ e.point.mark = .usable
    ∧ (∃ n, n ≤ 48 ∧ WalkAccepts i e.point (i.headOf (s.classView e.port)) e.ruleIndex n)
    ∧ i.rules[e.ruleIndex]? = some e.rule ∧ voltagePasses i e.rule e.point e.effective
    ∧ e.usable = min e.point.maxCurrent (min e.rule.cap (i.connectorLimit e.port)) ∧ 500 ≤ e.usable

/-- R99: the derated power and the score of a point at a voltage. -/
def Eligible.powerAt (e : Eligible) (v : Nat) : Nat := (v * e.usable / 1000) * (100 - e.rule.derate) / 100

def Eligible.valueAt (e : Eligible) (v : Nat) : Nat := e.powerAt v * e.rule.weight

/-- R100: the best point of its port. -/
def State.isBest (s : State) (e : Eligible) : Prop :=
  s.isEligible e ∧ ∀ f, s.isEligible f → f.port = e.port → f ≠ e →
    let se := e.valueAt e.effective
    let sf := f.valueAt f.effective
    sf < se ∨ sf = se ∧ (e.effective < f.effective ∨ e.effective = f.effective ∧ e.index < f.index)

/-- R101, R107: of two ports' points with these scores the first port's goes first, a tie going to a closed draw switch
and then to the lower port. -/
def State.portFirst (s : State) (p q : Port) (sp sq : Nat) : Prop :=
  sq < sp ∨ sq = sp
    ∧ ((s.contract.get p).drawClosed = true ∧ (s.contract.get q).drawClosed = false
      ∨ (s.contract.get p).drawClosed = (s.contract.get q).drawClosed ∧ p < q)

/-- R101: the best point of the leading port. -/
def State.isLeading (s : State) (e : Eligible) : Prop :=
  s.isBest e ∧ ∀ f, s.isBest f → f.port ≠ e.port →
    s.portFirst e.port f.port (e.valueAt e.effective) (f.valueAt f.effective)

/-- R102: the best point of the current primary port; of several ports that hold a role, the lowest (log entry 33). -/
def State.isCurrent (s : State) (e : Eligible) : Prop :=
  let primary := fun (q : Port) => (s.contract.get q).role = .primary ∨ (s.contract.get q).state = .base
  let secondary := fun (q : Port) => (s.contract.get q).role = .secondary
  s.isBest e
    ∧ (primary e.port ∧ (∀ f, s.isEligible f → primary f.port → e.port ≤ f.port)
      ∨ secondary e.port ∧ (∀ f, s.isEligible f → ¬primary f.port ∧ (secondary f.port → e.port ≤ f.port)))

/-- R104, R108: the least multiple of 10 mA that gives a power at a voltage. -/
def leastCurrent (power v n : Nat) : Prop :=
  n % 10 = 0 ∧ power * 1000 ≤ n * v ∧ ∀ m, m % 10 = 0 → power * 1000 ≤ m * v → n ≤ m

/-- R94, R99, R105: a plan entry of this role draws an eligible point at a voltage with a requested current. -/
def State.entryDraws (s : State) (role : Role) (e : PlanEntry) (x : Eligible) (v q : Nat) : Prop :=
  e.role = role ∧ e.port = x.port ∧ e.point = x.index ∧ e.rule = x.ruleIndex ∧ e.voltage = v ∧ e.usable = x.usable
    ∧ e.derated = x.powerAt v ∧ e.score = x.valueAt v ∧ e.requested = q ∧ e.weight = x.rule.weight
    ∧ e.cap = x.rule.cap ∧ e.derate = x.rule.derate ∧ e.settle = x.rule.settle
    ∧ e.generation = (s.book.get x.port).generation
    ∧ (e.source = .legacy ↔ (s.book.get x.port).source = .legacy)
    ∧ ∀ g, e.action = .keep g ↔
        (s.contract.get x.port).established = some g ∧ g.point = x.index ∧ g.voltage = v ∧ q ≤ g.granted
          ∧ g.granted ≤ q + 500

/-! ### The checks of APPLY (R85 to R87) -/

/-- R76: the accepted range of each parameter, by identifier. -/
def acceptedRange : List (Nat × Nat) :=
  [(1000, 6000), (1000, 6000), (1000, 6000), (1000, 6000), (4500, 25000), (4500, 25000), (0, 50), (0, 1), (0, 1000),
   (4000, 12000), (2, 20), (1000, 250000), (1000, 250000), (500, 3000), (2, 20)]

/-- R86: the tests of a rule, in order. -/
def ruleTests (r : Rule) : List Prop :=
  let link := r.next < 48 ∨ r.next = 63
  [r.minVoltage ≤ 25000, r.maxVoltage ≤ 25000, r.minVoltage ≤ r.maxVoltage, r.minCurrent ≤ 6000, r.shared ≠ .invalid,
   r.action = .reject ∨ r.action = .accept, 1 ≤ r.weight ∧ r.weight ≤ 15, 500 ≤ r.cap ∧ r.cap ≤ 6000, r.derate ≤ 50,
   20 ≤ r.settle ∧ r.settle ≤ 500, link]

/-- R87: the tests of a used rating entry, in order. -/
def ratingTests (r : Rating) : List Prop :=
  [r.minResistance ≤ 250000, r.maxResistance ≤ 250000, r.minResistance ≤ r.maxResistance,
   500 ≤ r.current ∧ r.current ≤ 6000]

/-- The first test of a list that fails has this number, counted from 1. -/
def firstFailing (tests : List Prop) (d : Nat) : Prop :=
  ∃ before test after, tests = before ++ test :: after ∧ (∀ x ∈ before, x) ∧ ¬test ∧ d = before.length + 1

/-- The link a chain holds after `n` rules from its head; a link to no rule is END. -/
def chainLink (i : PolicyImage) (head : Nat) : Nat → Nat
  | 0 => head
  | n + 1 =>
    match i.rules[chainLink i head n]? with
    | some r => r.next
    | none => 63

/-- An item of an image fails a check of APPLY with a detail code (R84 to R87, R196). -/
def itemFails (i : PolicyImage) : ImagePart → Nat → Nat → Prop
  | .params, k, d =>
    ∃ v range, i.params[k]? = some v ∧ acceptedRange[k]? = some range
      ∧ ((v < range.1 ∨ range.2 < v) ∧ d = 1
        ∨ range.1 ≤ v ∧ v ≤ range.2 ∧ d = 2 ∧ (k = 5 ∧ v < i.params[4] ∨ k = 12 ∧ v < i.params[11] + 1000))
  | .rule, k, d => ∃ r, i.rules[k]? = some r ∧ firstFailing (ruleTests r) d
  | .head, k, d => ∃ head, [i.supplierHead, i.dockHead, i.legacyHead][k]? = some head ∧ 48 ≤ head ∧ head ≠ 63 ∧ d = 11
  | .chain, k, d =>
    ∃ head n, [i.supplierHead, i.dockHead, i.legacyHead][k]? = some head ∧ d = chainLink i head n ∧ d < 48
      ∧ (∃ m, m < n ∧ chainLink i head m = d)
      ∧ ∀ a b, a < b → b < n → chainLink i head a ≠ chainLink i head b
  | .rating, k, d => ∃ r, i.ratings[k]? = some r ∧ r.used = true ∧ firstFailing (ratingTests r) d

/-- One item is checked before another: the parts in the order of their codes, each part's items by index (R84). -/
def checkedBefore (a : ImagePart) (j : Nat) (b : ImagePart) (k : Nat) : Prop := a.code < b.code ∨ a = b ∧ j < k

/-! ### Grants that give way (R164, R165) -/

/-- The granted currents of some grants together, in mA. -/
def currentOf (l : List GrantView) : Nat := (l.map fun g => g.grant.current).sum

/-- One grant of a group gives way by a step, the newest of them: above 500 mA it is reduced, to 500 mA at the least;
otherwise it is cut, its branch joining the tail of the wait list, or being dropped where the list is full. -/
def givesWay (group : List GrantView) (step : Nat) (s t : State) : Prop :=
  ∃ g ∈ group, (∀ h ∈ group, h.grant.order ≤ g.grant.order)
    ∧ (∀ q b, q ≠ g.port ∨ b ≠ g.branch → t.grantOf q b = s.grantOf q b)
    ∧ (500 < g.grant.current →
        let current := max 500 (g.grant.current - step)
        t.grantOf g.port g.branch = some { g.grant with current := current } ∧ t.supply = s.supply
          ∧ t.link.notices.get .supply
              = some (postTo (s.link.notices.get .supply) noticeReduced (snapshotOf g.port.val g.branch 0 0) s.msCount)
          ∧ (s.lineQuiet g.port → (t.framer.get g.port).sending = some (.engine (.supply g.branch current))))
    ∧ (g.grant.current ≤ 500 →
        let cut := postTo (s.link.notices.get .supply) noticeCut (snapshotOf g.port.val g.branch 0 0) s.msCount
        let entry : WaitEntry := { port := g.port, branch := g.branch, requested := g.grant.requested }
        t.grantOf g.port g.branch = none
          ∧ (t.supply.switchClosed.get g.port = true
              ↔ s.supply.switchClosed.get g.port = true ∧ t.portGrants g.port ≠ [])
          ∧ (s.supply.waitList.length < 8 →
              t.supply.waitList = s.supply.waitList ++ [entry] ∧ t.link.notices.get .supply = some cut)
          ∧ (8 ≤ s.supply.waitList.length →
              t.supply.waitList = s.supply.waitList
                ∧ t.link.notices.get .supply
                    = some (postTo (some cut) noticeDropped (snapshotOf g.port.val g.branch 0 0) s.msCount))
          ∧ (s.lineQuiet g.port → (t.framer.get g.port).sending = some (.engine (.cut g.branch))))
    ∧ ChangesOnly
        [.framer g.port, .monitor g.port, .own g.port, .pool, .waitList, .supplySwitch g.port, .notice .supply] s t

/-- R164: while the reserved power exceeds the budget, a grant of any port gives way by the excess. -/
inductive Decreases : State → State → Prop
  | done (s : State) (within : currentOf s.grants * 5 ≤ s.supply.budget) : Decreases s s
  | more {s t u : State} (exceeds : s.supply.budget < currentOf s.grants * 5) (step : Nat)
      (tens : step % 10 = 0) (enough : currentOf s.grants * 5 - s.supply.budget ≤ step * 5)
      (least : step * 5 < currentOf s.grants * 5 - s.supply.budget + 50)
      (one : givesWay s.grants step s t) (rest : Decreases t u) : Decreases s u

/-- R165: while the grants of a port exceed a limit, one of them gives way by the excess. -/
inductive Rebalances (p : Port) (limit : Nat) : State → State → Prop
  | done (s : State) (within : currentOf (s.portGrants p) ≤ limit) : Rebalances p limit s s
  | more {s t u : State} (exceeds : limit < currentOf (s.portGrants p)) (step : Nat)
      (tens : step % 10 = 0) (enough : currentOf (s.portGrants p) - limit ≤ step)
      (least : step < currentOf (s.portGrants p) - limit + 10)
      (one : givesWay (s.portGrants p) step s t) (rest : Rebalances p limit t u) : Rebalances p limit s u

/-! ### Replies -/

/-- The frame has been taken from the receive buffer, and exactly one REPLY has joined the frames that go out. -/
def State.replies (s t : State) (f : LinkFrame) (rest : List LinkFrame) (body : ReplyBody) : Prop :=
  t.link.receive = rest ∧ t.link.outgoing = s.link.outgoing ++ [replyTo f body]

/-- A command that changes no state but its own taking and its reply. -/
def State.onlyReplies (s t : State) (f : LinkFrame) (rest : List LinkFrame) (body : ReplyBody) : Prop :=
  s.replies t f rest body ∧ ChangesOnly [.receive, .uplink] s t

/-- The payload length of each command, tag and code included, from the command table of section 12.2. -/
def requiredLength : Nat → Nat
  | 0x01 => 2
  | 0x02 => 2
  | 0x03 => 3
  | 0x04 => 3
  | 0x05 => 2
  | 0x06 => 3
  | 0x07 => 3
  | 0x08 => 3
  | 0x09 => 3
  | 0x10 => 2
  | 0x11 => 15
  | 0x12 => 5
  | 0x13 => 14
  | 0x14 => 7
  | 0x15 => 5
  | 0x16 => 2
  | 0x20 => 10
  | 0x21 => 3
  | 0x22 => 4
  | 0x23 => 2
  | 0x24 => 2
  | 0x3F => 2
  | _ => 0

/-- The commands marked "port" in that table. -/
def portCommands : List Nat := [0x02, 0x03, 0x04, 0x05, 0x21, 0x23]

/-- The head frame is this COMMAND, and the decoder can take it. -/
def State.asked (s : State) (f : LinkFrame) (rest : List LinkFrame) (code : Byte) (args : List Byte) : Prop :=
  s.headFrame f rest ∧ ∃ tag, f.isCommand tag code args

/-- The port a frame names, where its port byte lies in 0..3. -/
def LinkFrame.names (f : LinkFrame) (p : Port) : Prop := f.port.toNat = p.val

/-- A row carries out the head frame with no effect but this one REPLY. -/
def State.answersWith (s : State) (c : Instr) (f : LinkFrame) (rest : List LinkFrame) (body : ReplyBody) : Prop :=
  ∃ t, exec c s = .next t ∧ s.onlyReplies t f rest body

/-! ### Policy records a frame can carry -/

/-- Every field is a value that the bits of the rule record carry (section 12.2). -/
def Rule.storable (r : Rule) : Bool :=
  r.minVoltage % 50 == 0 && r.minVoltage / 50 < 512 && r.maxVoltage % 50 == 0 && r.maxVoltage / 50 < 512
    && r.minCurrent % 10 == 0 && r.minCurrent / 10 < 1024 && r.weight < 16 && r.cap % 10 == 0 && r.cap / 10 < 1024
    && r.derate < 128 && r.settle % 10 == 0 && r.settle / 10 < 128 && r.next < 64

/-- Every field is a value that the bits of the rating record carry (section 12.2). -/
def Rating.storable (r : Rating) : Bool :=
  r.minResistance < 262144 && r.maxResistance < 262144 && r.voltage % 50 == 0 && r.voltage / 50 < 512
    && r.current % 10 == 0 && r.current / 10 < 1024

/-! ### Conditions every step keeps -/

/-- Every block that the limit and the switches rest on stands at its power-on values while reset is held (R187). -/
def State.heldInReset (s : State) : Prop :=
  s.inReset = true →
    s.contract = Four.const Contract.reset ∧ s.limit = LimitUnit.reset ∧ s.monitor = Four.const Monitor.reset
      ∧ s.table = { own := Four.const none, pool := [] } ∧ s.supply.waitList = []
      ∧ s.supply.switchClosed = Four.const false ∧ s.sequencer.transition = none

/-- The ACTIVE image passes every check of APPLY (R73, R77, R84). -/
def State.imageValid (s : State) : Prop := validate s.policy.active = none

/-- An unpopulated port is EMPTY (R1). -/
def State.unpopulatedEmpty (s : State) : Prop :=
  s.heldInReset ∧ ∀ p, s.populated p = false → (s.monitor.get p).state = .empty

/-- The silence timer is stopped exactly while the autonomous flag is set (R189). -/
def State.silenceTimed (s : State) : Prop := s.supervisor.silenceTimer = none ↔ s.supervisor.autonomous = true

/-- The limit's values are those of R137 to R141 for the switches, the image, the trim and the ceiling as they stand,
the trim lies within its bound, and the recovery timer runs exactly while the trim is above 0 (R150). -/
def State.limitFormed (s : State) : Prop :=
  let l := s.limit
  let reserve := s.policy.active.pathReserve
  let fullScale := s.policy.active.fullScale
  s.heldInReset
    ∧ l.allowanceSum = allowanceSumOf s.contract ∧ l.trimBound = l.allowanceSum - reserve ∧ l.trim ≤ l.trimBound
    ∧ l.raw = min (l.allowanceSum - reserve - l.trim) fullScale
    ∧ l.published = (match l.ceiling with | some c => min l.raw c | none => l.raw)
    ∧ l.nextDuty = dutyOf l.published fullScale ∧ (l.recovery = none ↔ l.trim = 0)

/-- The queues hold no more frames and entries than the manual gives them room for (R14, R35, R158, R168). -/
def State.queuesBounded (s : State) : Prop :=
  s.link.receive.length ≤ 4 ∧ s.link.upstream.length ≤ 16 ∧ s.supply.waitList.length ≤ 8
    ∧ s.table.pool.length ≤ 12 ∧ ∀ p, (s.framer.get p).relay.length ≤ 2

/-- Records stand where grants and wait-list entries need them (R10, R14 to R17): a branch-0 record exactly on each
attached port, pooled records for branches 1 to 6 of attached ports, one for a pair, and a record for each pair that
waits. -/
def State.recordsStand (s : State) : Prop :=
  (∀ p, (s.table.own.get p).isSome = s.attached p)
    ∧ (∀ r ∈ s.table.pool, 1 ≤ r.branch ∧ r.branch ≤ 6 ∧ s.attached r.port = true)
    ∧ (s.table.pool.map fun r => (r.port, r.branch)).Nodup
    ∧ ∀ w ∈ s.supply.waitList, s.hasRecord w.port w.branch = true

/-- R163: a port's supply switch is closed exactly while it holds a grant. -/
def State.suppliesGranted (s : State) : Prop :=
  s.heldInReset ∧ s.recordsStand
    ∧ ∀ p, s.supply.switchClosed.get p = !(s.portGrants p).isEmpty

/-- R119: a port's draw switch and supply switch are never closed together; the joining and stepped-out ports of a
transition in service stand with their supply switch open, and a port that stepped out is not IDLE. -/
def State.switchesApart (s : State) : Prop :=
  s.heldInReset
    ∧ (∀ p, (s.contract.get p).drawClosed = true → s.supply.switchClosed.get p = false)
    ∧ ∀ t, s.sequencer.transition = some t →
        (∀ p ∈ t.joining ++ t.steppedOut, s.supply.switchClosed.get p = false)
          ∧ ∀ p ∈ t.steppedOut, (s.contract.get p).state ≠ .idle

/-- The engine list keeps the arrangements of R36, for the seven branches of R33: at most twelve frames, of them at most
three answers, one RELEASE, one exchange frame, and one SUPPLY or CUT for a branch. The exchange frame in the list is that
of the port's queued exchange, and an exchange is queued exactly while its frame is in the list or on the line (R28, R31,
R32). -/
def Framer.lineFormed (f : Framer) : Prop :=
  f.engine.length ≤ 12 ∧ (f.engine.filter EngineFrame.isAnswer).length ≤ 3 ∧ f.engine.count .release ≤ 1
    ∧ (f.engine.filter EngineFrame.isExchange).length ≤ 1
    ∧ (∀ b, (f.engine.filter (EngineFrame.suppliesBranch b)).length ≤ 1
        ∧ (f.engine.any (EngineFrame.suppliesBranch b) = true → b ≤ 6))
    ∧ (∀ k, .exchange k ∈ f.engine →
        f.sendingExchange = false
          ∧ ∃ e, f.exchange = some e ∧ e.kind = k ∧ e.condition = .queued ∧ e.withdrawn = false)
    ∧ (f.sendingExchange = true → ∃ e, f.exchange = some e ∧ e.condition = .queued)
    ∧ ∀ e, f.exchange = some e →
        (e.condition = .queued → .exchange e.kind ∈ f.engine ∨ f.sendingExchange = true)
          ∧ (e.withdrawn = true → f.sendingExchange = true)

/-- Every port's engine list and exchange stand so. -/
def State.linesFormed (s : State) : Prop := ∀ p, (s.framer.get p).lineFormed

/-- No channel stands in the meter's queue twice, or in the queue and in conversion (R57); a port's phase is QUEUED
exactly while its channel is queued, CONVERTING exactly while it is in conversion, and UNRESOLVED exactly while its
record holds a period (R61, R63). -/
def State.meterFormed (s : State) : Prop :=
  s.meter.queue.Nodup ∧ (∀ c, s.meter.inFlightChannel = some c → c ∉ s.meter.queue)
    ∧ ∀ p,
      let r := s.meter.port.get p
      (r.phase = .queued ↔ .id p ∈ s.meter.queue) ∧ (r.phase = .converting ↔ s.meter.inFlightChannel = some (.id p))
        ∧ (r.phase = .unresolved ↔ r.heldPeriod.isSome = true)

/-- R143: the sag and overvoltage counts of a port whose tests are suspended are 0. -/
def State.suspendedHeld (s : State) : Prop :=
  ∀ p,
    let c := s.contract.get p
    let d := s.drawMonitor.get p
    c.state = .awaiting ∨ c.state = .settling ∨ d.descent.isSome = true → d.overvoltage = 0 ∧ d.sag = 0

/-- R154, R157: the reserved power stays within the budget and each port's granted currents within the source port
limit; no grant is below 500 mA; and the order numbers are distinct, from 1 to the counter. -/
def State.budgetKept (s : State) : Prop :=
  currentOf s.grants * 5 ≤ s.supply.budget ∧ (∀ p, currentOf (s.portGrants p) ≤ s.policy.active.params[13])
    ∧ s.supply.orderCounter ≤ 65535
    ∧ (∀ g ∈ s.grants, 500 ≤ g.grant.current ∧ 1 ≤ g.grant.order ∧ g.grant.order ≤ s.supply.orderCounter)
    ∧ (s.grants.map fun g => g.grant.order).Nodup

/-- The port whose claim the transition waits for (R117). -/
def Transition.claimPort (tr : Transition) : Option Port :=
  match tr.plan, tr.stage with
  | .draw e _, .claimPrimary => some e.port
  | .draw _ sec, .claimSecondary => sec.map PlanEntry.port
  | _, _ => none

/-- The entry's contract holds the terms to draw on: it is kept, or its claim has settled (R120, R124). -/
def Transition.holdsTerms (tr : Transition) (e : PlanEntry) : Prop :=
  e.action.isClaim = false ∨ (∃ n, tr.stage = .breaking n) ∨ tr.stage = .claimSecondary ∧ e.role = .primary

/-- R124: at most two draw switches are closed, and two only where both contracts are ACTIVE at one effective voltage. What
a transition has done so far stands behind it: only the port it waits for has a claim, each entry that holds its terms
is ACTIVE at the entry's voltage, and every port that draws is one of the plan or one that leaves. -/
def State.drawsAgree (s : State) : Prop :=
  s.heldInReset
    ∧ s.drawSet.length ≤ 2
    ∧ (∀ p q, p ≠ q → (s.contract.get p).drawClosed = true → (s.contract.get q).drawClosed = true →
        ∃ v, s.drawsAt p v ∧ s.drawsAt q v)
    ∧ (∀ p,
        let c := s.contract.get p
        (c.established.isSome = true → c.state = .active ∨ c.inFlight = true)
          ∧ (c.inFlight = true →
              (c.state = .settling → c.details.isSome = true)
                ∧ ∃ tr, s.sequencer.transition = some tr ∧ tr.claimPort = some p))
    ∧ ∀ tr, s.sequencer.transition = some tr →
        s.sequencer.inService.isSome = true ∧ tr.stage ≠ .start
          ∧ (∀ p, (s.contract.get p).drawClosed = true → p ∈ tr.plan.ports ∨ p ∈ tr.leaving)
          ∧ (∀ p ∈ tr.leaving, p ∉ tr.plan.ports ∧ (∀ n, tr.stage = .breaking n → (s.contract.get p).drawClosed = false))
          ∧ (∀ p ∈ tr.joining ++ tr.steppedOut, p ∈ tr.plan.ports)
          ∧ ∀ e sec, tr.plan = .draw e sec →
              e.role = .primary
                ∧ (∀ e', sec = some e' → e'.role = .secondary ∧ e'.port ≠ e.port ∧ e'.voltage = e.voltage)
                ∧ ∀ x, x = e ∨ sec = some x →
                    (tr.holdsTerms x →
                        (s.contract.get x.port).drawClosed = true ∨ x.port ∈ tr.joining ++ tr.steppedOut →
                        s.drawsAt x.port x.voltage)
                      ∧ (tr.claimPort = some x.port → ∃ pt, (s.contract.get x.port).pending = some pt
                          ∧ pt.voltage = x.voltage)

end Sys2Proof.Machine
end

