-- ==== Sys2Proof/Certificates/Slice0/Obligations.lean ====
section
/-! DEFINITION. The statements about the model, from the numbered rules of the specification. -/

open Sys2Proof Sys2Proof.Machine

/-! ### Steps, the queue and reset -/

/-- A step with a command waiting is the command at the front, on the state with the queue's rest. -/
def Obligations.StepRunsTheFrontCommand : Prop :=
  ∀ (c : Instr) (s : State) (rest : List Instr), s.pending = c :: rest → step s = exec c { s with pending := rest }

/-- The model's own choice (log entry 12): with no command waiting, the part makes one of its own events that are due
a waiting command, or, with none due, lets one millisecond pass: the count of R41 and every running timer rise by 1, the
rest stands, and a limit-line period begins. While reset is held nothing happens (R187). -/
def Obligations.IdleStepMakesTheNextEventOrATick : Prop :=
  ∀ s : State, s.pending = [] →
    let later := fun (timer : Option Nat) => timer.map (· + 1)
    ∃ t, step s = .next t
      ∧ (s.inReset = true → t = s)
      ∧ (s.inReset = false → s.due = [] →
          t.msCount = s.msCount + 1 ∧ t.pending = [.limitPeriod]
            ∧ (∀ p,
                let m := s.monitor.get p
                let f := s.framer.get p
                let c := s.contract.get p
                let d := s.drawMonitor.get p
                t.monitor.get p
                    = { m with debounce := later m.debounce, probeTimer := later m.probeTimer
                               coolOff := later m.coolOff }
                  ∧ t.framer.get p
                      = { f with
                          exchange := f.exchange.map fun e =>
                            { e with
                              condition := match e.condition with
                                | .queued => .queued
                                | .answerDue n => .answerDue (n + 1)
                                | .held n => .held (n + 1) } }
                  ∧ t.contract.get p
                      = { c with readyTimer := later c.readyTimer, settleTimer := later c.settleTimer }
                  ∧ t.drawMonitor.get p = { d with descent := later d.descent })
            ∧ t.meter
                = { s.meter with inFlight := s.meter.inFlight.map fun c => { c with elapsed := c.elapsed + 1 } }
            ∧ (∀ tr n, s.sequencer.transition = some tr → tr.stage = .breaking n →
                t.sequencer = { s.sequencer with transition := some { tr with stage := .breaking (n + 1) } })
            ∧ ((∀ tr n, s.sequencer.transition = some tr → tr.stage ≠ .breaking n) → t.sequencer = s.sequencer)
            ∧ t.limit = { s.limit with recovery := later s.limit.recovery }
            ∧ t.link = { s.link with reception := s.link.reception.map fun r => { r with gap := r.gap + 1 } }
            ∧ t.supervisor = { s.supervisor with silenceTimer := later s.supervisor.silenceTimer }
            ∧ ChangesOnly
                ([.queue, .clock, .converter, .service, .limit, .receive, .supervisor] ++ everyPort .monitor
                  ++ everyPort .framer ++ everyPort .contract ++ everyPort .drawMonitor) s t)
      ∧ (s.inReset = false → s.due ≠ [] →
          ∃ i ∈ s.due, t.pending = [i] ∧ ChangesOnly [.queue, .freeCount] s t)

/-- The events of its own that the part makes while no command waits. At once: a completed count, a settled claim, a
demand that pends with no port in service, the head frame that the decoder can take (R115, R123, R144 to R148, R172).
With none of these: a timer at its time, 20 ms and 2 ms of presence (R2, R3), 150 ms of a probe (R5),
2,000 ms of a cool-off (R12), 30 ms and 50 ms of an exchange (R30, R31), 70 ms of a conversion (R56), 50 ms past the
ready time (R122), the settle time (R123), 5 ms of a break interval (R124), 500 ms of a descent (R143), 2,000 ms of a
recovery (R150), 2 ms of a gap (R170) and the silence period (R190). No other event is due. That an idle step makes
these events, those at once before every timer, is the model's choice (log entry 12), and so is that completed counts
and a settle count of ten stand as events of their own (log entry 14), that only a RESTART of two payload bytes is due
at a full upstream queue (log entry 9), and that a conversion is OPEN of itself at 70 ms alone (log entry 18). -/
def Obligations.EventsAreDueAtTheirTimes : Prop :=
  ∀ s : State,
    let now := fun (i : Instr) =>
      (∃ p,
          let c := s.contract.get p
          let d := s.drawMonitor.get p
          let examined : Prop := c.state ≠ .awaiting ∧ c.state ≠ .settling ∧ d.descent = none
          c.drawClosed = true
              ∧ (i = .railLost p ∧ d.railLost = 3 ∨ i = .overvoltage p ∧ examined ∧ d.overvoltage = 3
                ∨ i = .sagTrim p ∧ examined ∧ d.sag = 8 ∨ i = .overdrawTrim p ∧ d.overdraw = 16)
            ∨ i = .claimSettled p ∧ c.state = .settling ∧ c.settleCount = 10)
        ∨ i = .takeDemand ∧ s.sequencer.inService = none ∧ (∃ q k, (s.sequencer.demands.get q).has k = true)
        ∨ ∃ f rest, s.link.receive = f :: rest ∧ i = rowOfFrame f
            ∧ (s.link.upstream.length < 16 ∨ f.code = some 0x3F ∧ f.payload.length = 2)
    let expired := fun (i : Instr) =>
      (∃ p,
          let m := s.monitor.get p
          let f := s.framer.get p
          let c := s.contract.get p
          i = .debounceRiseExpiry p ∧ m.state = .sensing ∧ m.presence = true ∧ hasRun m.debounce 20
            ∨ i = .sensingFallExpiry p ∧ m.state = .sensing ∧ m.presence = false ∧ hasRun m.debounce 2
            ∨ i = .detach p ∧ s.attached p = true ∧ m.presence = false ∧ hasRun m.debounce 2
            ∨ i = .probeTimerExpiry p ∧ m.state = .probing ∧ hasRun m.probeTimer 150
            ∨ i = .coolOffExpiry p ∧ hasRun m.coolOff 2000
            ∨ i = .answerTimerExpiry p ∧ (∃ e n, f.exchange = some e ∧ e.condition = .answerDue n ∧ 30 ≤ n)
            ∨ i = .resendTimerExpiry p ∧ (∃ e n, f.exchange = some e ∧ e.condition = .held n ∧ 50 ≤ n)
            ∨ i = .readyTimerExpiry p ∧ c.state = .awaiting
                ∧ hasRun c.readyTimer (((c.details.bind GrantDetails.ready).getD 0) + 50)
            ∨ i = .settleTimerExpiry p ∧ c.state = .settling ∧ c.settleCount ≠ 10
                ∧ (∃ pt, c.pending = some pt ∧ hasRun c.settleTimer pt.settle)
            ∨ i = .descentTimerExpiry p ∧ hasRun (s.drawMonitor.get p).descent 500)
        ∨ i = .conversionOpen ∧ (∃ c, s.meter.inFlight = some c ∧ 70 ≤ c.elapsed)
        ∨ i = .breakIntervalExpiry
            ∧ (∃ tr n, s.sequencer.transition = some tr ∧ tr.stage = .breaking n ∧ 5 ≤ n)
        ∨ i = .recoveryTimerExpiry ∧ hasRun s.limit.recovery 2000
        ∨ i = .byteGapTimeout ∧ (∃ r, s.link.reception = some r ∧ 2 ≤ r.gap)
        ∨ i = .silenceTimerExpiry ∧ hasRun s.supervisor.silenceTimer s.supervisor.silencePeriod
    ∀ i : Instr, i ∈ s.due ↔ now i ∨ (∀ j, ¬now j) ∧ expired i

/-- Every command completes in every state, and leaves the queue of waiting commands to the step. That no event stops
the part is the model's reading (log entry 36), and that a row whose condition does not hold answers a next state its
choice (log entry 15). While power-on reset is held, every command but the reset and its end is ignored (R187). -/
def Obligations.EveryCommandCompletesOrIsIgnoredInReset : Prop :=
  (∀ (c : Instr) (s : State), ∃ t, exec c s = .next t ∧ t.pending = s.pending)
    ∧ ∀ (c : Instr) (s : State), s.inReset = true → c ≠ .powerOnReset → (∀ a b d, c ≠ .resetEnd a b d) →
        exec c s = .next s

/-- Power-on reset, in every state, puts every block at its power-on values (R18, R37, R54, R55, R135, R136, R167,
R168, R184), and the part's two link lines read low while it is held (R187). The straps are not sampled yet, so the
values they decide are left out. That the presence input reads low meanwhile, and the whole state is State.reset, is
the model's choice (log entries 1 and 2), and so is that no frame of a partner is on a line (log entry 16). -/
def Obligations.PowerOnResetPutsPowerOnValues : Prop :=
  ∀ s : State, ∃ t, exec .powerOnReset s = .next t
    ∧ t = { State.reset with pending := s.pending, freeCount := s.freeCount }
    ∧ t.inReset = true ∧ t.drdy = false ∧ t.attn = false ∧ t.msCount = 0
    ∧ (∀ p,
        t.monitor.get p
            = { state := .empty, presence := false, debounce := none, probeCount := 0, probeTimer := none,
                coolOff := none, failures := 0, barred := false }
          ∧ t.table.own.get p = none
          ∧ t.framer.get p
              = { unsound := false, badCount := 0, latchedUnsound := false, exchange := none, waiting := [],
                  engine := [], relay := [], capture := none, sending := none, incoming := .quiet }
          ∧ t.book.get p
              = { source := .none, generation := 0, points := [], ratingEntry := none, stamp := 0,
                  firstBook := false }
          ∧ t.meter.port.get p
              = { phase := .idle, attempts := 0, previous := none, lastPeriod := none, heldPeriod := none,
                  measureFlag := false, result := .none, code := none, resistance := none, entry := none }
          ∧ t.contract.get p
              = { state := .idle, role := .none, established := none, base := none, pending := none,
                  details := none, drawClosed := false, settleCount := 0, lastOutcome := .none, readyTimer := none,
                  settleTimer := none }
          ∧ t.sequencer.demands.get p = { loss := false, revise := false, attach := false, review := false }
          ∧ t.drawMonitor.get p = { railLost := 0, overvoltage := 0, sag := 0, overdraw := 0, descent := none }
          ∧ t.supply.switchClosed.get p = false)
    ∧ t.table.pool = [] ∧ t.meter.refreshCount = 0
    ∧ t.meter.refLo = { status := .none, period := none, measureFlag := false }
    ∧ t.meter.refHi = { status := .none, period := none, measureFlag := false }
    ∧ t.policy.pendingOpen = false ∧ t.policy.origin = .fallback
    ∧ t.sequencer.inService = none ∧ t.sequencer.rotation = 3 ∧ t.sequencer.transition = none
    ∧ t.limit
        = { allowanceSum := 0, trimBound := 0, trim := 0, raw := 0, ceiling := none, published := 0, nextDuty := 0,
            duty := 0, recovery := none }
    ∧ t.supply.waitList = [] ∧ t.supply.orderCounter = 0
    ∧ t.link.receive = [] ∧ t.link.reception = none ∧ t.link.upstream = [] ∧ t.link.uplink = none
    ∧ (∀ i : Fin 32, t.link.frameClass[i] = if i.val < 16 then .forward else .capture)
    ∧ (∀ f, t.link.notices.get f = none) ∧ t.supervisor.silencePeriod = 2000 ∧ t.supervisor.autonomous = false

/-- The end of a reset that was held: the straps are sampled, the platform values and the budget taken, the shaped
fallback image made ACTIVE, the silence timer started, the reference pair queued and its first channel converting, and
each populated port with presence high enters SENSING (R18, R60, R78, R185 to R187). That REFLO is in flight at once
is the model's reading (log entry 35), and that its counts stand at 0 its choice (log entry 18). -/
def Obligations.ResetEndSamplesTheStraps : Prop :=
  ∀ (straps : BitVec 8) (presence : BitVec 4) (uhold : Bool) (q : List Instr) (n : Nat),
    let s : State := { State.reset with pending := q, freeCount := n }
    ∃ t, exec (.resetEnd straps presence uhold) s = .next t
      ∧ t.inReset = false ∧ t.drdy = true
      ∧ t.supervisor
          = { straps := straps
              demand := if straps.getLsbD 4 then (if straps.getLsbD 3 then 65000 else 45000)
                else (if straps.getLsbD 3 then 27000 else 15000)
              batteryPresent := straps.getLsbD 5
              silencePeriod := 2000
              silenceTimer := some 0
              autonomous := false }
      ∧ t.supply.budget = (if straps.getLsbD 6 then 7500 else 0)
      ∧ t.policy.active = fallbackImage (straps.getLsbD 2) ∧ t.policy.active.params[0] =
          (if straps.getLsbD 2 then 6000 else 3000)
      ∧ t.policy.origin = .fallback ∧ t.policy.pendingOpen = false
      ∧ t.meter.inFlight = some { channel := .refLo, elapsed := 0, timebase := 0, edges := 0 }
      ∧ t.meter.queue = [.refHi] ∧ t.meter.refreshCount = 0
      ∧ (∀ p : Port,
          t.monitor.get p
            = if presence.getLsbD p.val = true ∧ p.val < 4 - straps.toNat % 4 then
                { s.monitor.get p with presence := true, state := .sensing, debounce := some 0 }
              else { s.monitor.get p with presence := presence.getLsbD p.val })
      ∧ t.link.uhold = uhold
      ∧ ChangesOnly
          ([.reset, .supervisor, .budget, .policy, .converter, .refreshCount, .uplink] ++ everyPort .monitor) s t

/-! ### Presence, probing and detach (01) -/

/-- A change of the presence input moves only the port's monitor: it starts, restarts or stops the debounce timer, and
starts SENSING on a populated EMPTY port; an unpopulated port stays as it is. A fall confirmed in SENSING leads back
to EMPTY. A rise confirmed in SENSING takes the branch-0 record into use, starts a PROBE exchange and the probe timer,
and raises ATTACH where the platform allows a base draw (R1 to R4, R48). A row of either confirmation whose time has
not come changes nothing (the model's choice: log entries 13 and 15). -/
def Obligations.PresenceIsDebounced : Prop :=
  ∀ (s : State) (p : Port), s.inReset = false →
    let m := s.monitor.get p
    (m.presence = false →
      ∃ t, exec (.presenceRise p) s = .next t ∧ ChangesOnly [.monitor p] s t
        ∧ (s.populated p = false → t.monitor.get p = { m with presence := true })
        ∧ (s.populated p = true → m.state = .empty →
            t.monitor.get p = { m with presence := true, state := .sensing, debounce := some 0 })
        ∧ (s.populated p = true → m.state = .sensing →
            t.monitor.get p = { m with presence := true, debounce := some 0 })
        ∧ (s.populated p = true → s.attached p = true →
            t.monitor.get p = { m with presence := true, debounce := none }))
    ∧ (m.presence = true →
      ∃ t, exec (.presenceFall p) s = .next t ∧ ChangesOnly [.monitor p] s t
        ∧ (m.state = .empty → t.monitor.get p = { m with presence := false })
        ∧ (m.state ≠ .empty → t.monitor.get p = { m with presence := false, debounce := some 0 }))
    ∧ (m.state = .sensing → m.presence = false → hasRun m.debounce 2 →
      ∃ t, exec (.sensingFallExpiry p) s = .next t ∧ ChangesOnly [.monitor p] s t
        ∧ t.monitor.get p = { m with state := .empty, debounce := none })
    ∧ (¬(m.state = .sensing ∧ m.presence = false ∧ hasRun m.debounce 2) →
        exec (.sensingFallExpiry p) s = .next s)
    ∧ (m.state = .sensing → m.presence = true → hasRun m.debounce 20 →
      ∃ t, exec (.debounceRiseExpiry p) s = .next t
        ∧ t.monitor.get p = { m with state := .probing, debounce := none, probeCount := 1, probeTimer := some 0 }
        ∧ t.table.own.get p
            = some { cls := .none, branchCount := 0, supplyPresent := false, vendor := none, model := none,
                     grant := none }
        ∧ t.book.get p = { s.book.get p with firstBook := true }
        ∧ ((s.framer.get p).exchange = none → s.lineQuiet p →
            t.framer.get p
              = { s.framer.get p with
                  exchange := some { kind := .probe, condition := .queued, holds := 0, withdrawn := false }
                  sending := some (.engine (.exchange .probe)) })
        ∧ t.sequencer.demands.get p
            = (if s.supervisor.batteryPresent = false ∧ (∀ q, (s.contract.get q).drawClosed = false)
                  ∧ 4500 ≤ (s.rail.get p).mv ∧ (s.rail.get p).mv ≤ 20500 then
                { s.sequencer.demands.get p with attach := true }
              else s.sequencer.demands.get p)
        ∧ ChangesOnly [.monitor p, .own p, .book p, .framer p, .demands p] s t)
    ∧ (¬(m.state = .sensing ∧ m.presence = true ∧ hasRun m.debounce 20) →
        exec (.debounceRiseExpiry p) s = .next s)

/-- A detach, 2 ms after presence fell on an attached port, clears everything the part held for the port, keeps the
barred flag, raises LOSS and posts DETACHED; no other port's draw switch moves (R3, R16, R17). That the debounce timer
is stopped, and that the wait list is served last, is the model's reading (log entry 27). That no frame is on the line
after a detach is the model's choice (R39 says only that a frame being received is not taken: log entry 16), and so is
that a row whose time has not come changes nothing (log entries 13 and 15). -/
def Obligations.DetachClearsThePort : Prop :=
  ∀ (s : State) (p : Port), s.inReset = false →
    (s.attached p = true → (s.monitor.get p).presence = false → hasRun (s.monitor.get p).debounce 2 →
    ∃ t, exec (.detach p) s = .next t
      ∧ t.monitor.get p
          = { s.monitor.get p with
              state := .empty, debounce := none, probeCount := 0, probeTimer := none, coolOff := none,
              failures := 0 }
      ∧ (t.contract.get p).state = .idle ∧ (t.contract.get p).role = .none
      ∧ (t.contract.get p).established = none ∧ (t.contract.get p).base = none
      ∧ (t.contract.get p).pending = none ∧ (t.contract.get p).details = none
      ∧ (t.contract.get p).drawClosed = false
      ∧ (∀ q, q ≠ p → (t.contract.get q).drawClosed = (s.contract.get q).drawClosed)
      ∧ t.drawMonitor.get p = { railLost := 0, overvoltage := 0, sag := 0, overdraw := 0, descent := none }
      ∧ (t.sequencer.demands.get p).loss = true
      ∧ t.table.own.get p = none ∧ (∀ r ∈ t.table.pool, r.port ≠ p)
      ∧ (∀ w ∈ t.supply.waitList, w.port ≠ p) ∧ t.supply.switchClosed.get p = false
      ∧ t.book.get p
          = { source := .none, generation := 0, points := [], ratingEntry := none, stamp := s.msCount,
              firstBook := false }
      ∧ t.framer.get p
          = { unsound := false, badCount := 0, latchedUnsound := false, exchange := none, waiting := [],
              engine := [], relay := [], capture := none, sending := none, incoming := .quiet }
      ∧ t.meter.port.get p
          = { phase := .idle, attempts := 0, previous := none, lastPeriod := none, heldPeriod := none,
              measureFlag := false, result := .none, code := none, resistance := none, entry := none }
      ∧ ((s.meter.port.get p).phase = .queued → .id p ∉ t.meter.queue)
      ∧ ((s.meter.port.get p).phase = .converting → .id p ∉ s.meter.queue →
          t.meter.inFlightChannel ≠ some (.id p))
      ∧ t.link.notices.get (.capture p) = none
      ∧ t.link.notices.get (.partner p)
          = some (postTo (s.link.notices.get (.partner p)) noticeDetached 0 s.msCount)
      ∧ ChangesOnly
          (sequencerParts ++ everyPort .measure
            ++ [.book p, .converter, .notice (.partner p), .notice (.capture p)]) s t)
    ∧ (¬(s.attached p = true ∧ (s.monitor.get p).presence = false ∧ hasRun (s.monitor.get p).debounce 2) →
        exec (.detach p) s = .next s)

/-- The probe timer's expiry in PROBING, at 150 ms, asks for another PROBE below three, and starts the measurement at
three (R5, R57, R58, R61); the cool-off's expiry, at 2,000 ms, stops the timer, keeps the failure count and raises
REVIEW (R12). A row whose time has not come changes nothing (the model's choice: log entries 13 and 15). -/
def Obligations.ProbeAndCoolOffTimersExpire : Prop :=
  ∀ (s : State) (p : Port), s.inReset = false →
    let m := s.monitor.get p
    let f := s.framer.get p
    (m.state = .probing → hasRun m.probeTimer 150 → m.probeCount < 3 →
      ∃ t, exec (.probeTimerExpiry p) s = .next t ∧ ChangesOnly [.monitor p, .framer p] s t
        ∧ (f.exchange = none → s.lineQuiet p →
            t.monitor.get p = { m with probeCount := m.probeCount + 1, probeTimer := some 0 }
              ∧ t.framer.get p
                  = { f with
                      exchange := some { kind := .probe, condition := .queued, holds := 0, withdrawn := false }
                      sending := some (.engine (.exchange .probe)) })
        ∧ (∀ e, f.exchange = some e →
            t.monitor.get p = { m with probeCount := m.probeCount + 1, probeTimer := none }
              ∧ t.framer.get p = { f with waiting := f.waiting ++ [.probe] }))
    ∧ (m.state = .probing → hasRun m.probeTimer 150 → 3 ≤ m.probeCount →
      ∃ t, exec (.probeTimerExpiry p) s = .next t
        ∧ ChangesOnly ([.monitor p, .converter] ++ everyPort .measure) s t
        ∧ t.monitor.get p = { m with state := .measuring, probeTimer := none }
        ∧ ((s.meter.port.get p).phase = .idle → .id p ∉ s.meter.queue →
            (s.meter.inFlight = none → s.meter.queue = [] →
              t.meter.inFlight = some { channel := .id p, elapsed := 0, timebase := 0, edges := 0 }
                ∧ t.meter.queue = []
                ∧ t.meter.port.get p
                    = { s.meter.port.get p with
                        phase := .converting, attempts := 0, previous := none, heldPeriod := none,
                        measureFlag := false })
            ∧ (∀ c, s.meter.inFlight = some c → c.channel ≠ .id p →
                t.meter.inFlight = some c ∧ t.meter.queue = s.meter.queue ++ [.id p]
                  ∧ t.meter.port.get p
                      = { s.meter.port.get p with
                          phase := .queued, attempts := 0, previous := none, heldPeriod := none,
                          measureFlag := false }))
        ∧ ((s.meter.port.get p).phase ≠ .idle → t.meter = s.meter))
    ∧ (¬(m.state = .probing ∧ hasRun m.probeTimer 150) → exec (.probeTimerExpiry p) s = .next s)
    ∧ (hasRun m.coolOff 2000 →
      ∃ t, exec (.coolOffExpiry p) s = .next t ∧ ChangesOnly [.monitor p, .demands p] s t
        ∧ t.monitor.get p = { m with coolOff := none }
        ∧ t.sequencer.demands.get p = { s.sequencer.demands.get p with review := true })
    ∧ (¬hasRun m.coolOff 2000 → exec (.coolOffExpiry p) s = .next s)

/-! ### Frames on a talk line (02) -/

/-- What a frame of the partner does to its line (R8, R19 to R21, R34). As it begins it is being received, or is lost
where the part is sending, and nothing else changes; until its end the part begins no frame there. At its end it is
discarded unchecked on a port that is not attached, and one that overlapped a frame of the part is lost: neither is
counted, and the transmitter looks on an attached port's quiet line. A frame that fails its check or length test is
counted, makes the line UNSOUND at the third in a row, and reaches no block; a good one makes the line SOUND and
leaves the latched view. No other line's view moves. That a row of a good frame acts so when its check is wrong, and
that a frame whose beginning was not told begins and ends in its row, are the model's choices (log entries 16 and 17).
-/
def Obligations.ReceivedFramesMoveTheLine : Prop :=
  (∀ (c : Instr) (s : State) (p : Port) (kind : BitVec 6) (f : RawFrame), receivedFrame c = some (p, kind, f) →
    s.inReset = false →
    let x := s.framer.get p
    let third : Prop := 3 ≤ x.badCount + 1 ∧ x.unsound = false
    (f.begins = true →
      ∃ t, exec c s = .next t ∧ ChangesOnly [.framer p] s t
        ∧ t.framer.get p = { x with incoming := if x.sending = none then .receiving else .lost })
    ∧ (f.begins = false → s.attached p = false →
      ∃ t, exec c s = .next t ∧ ChangesOnly [.framer p] s t ∧ t.framer.get p = { x with incoming := .quiet })
    ∧ (f.begins = false → s.attached p = true → x.sending ≠ none ∨ x.incoming = .lost →
      ∃ t, exec c s = .next t ∧ ChangesOnly [.framer p, .monitor p] s t
        ∧ (x.sending ≠ none → t.framer.get p = { x with incoming := .quiet } ∧ t.monitor.get p = s.monitor.get p)
        ∧ (x.sending = none → x.lookedFrom (t.framer.get p)
            ∧ t.framer.get p
                = { x with
                    incoming := .quiet, sending := (t.framer.get p).sending, engine := (t.framer.get p).engine
                    relay := (t.framer.get p).relay }))
    ∧ (s.attached p = true → s.hears p f → frameGood kind f = false →
      ∃ t, exec c s = .next t
        ∧ (t.framer.get p).badCount = min (x.badCount + 1) 3
        ∧ ((t.framer.get p).unsound = true ↔ x.unsound = true ∨ third)
        ∧ ((t.framer.get p).latchedUnsound = true ↔ x.latchedUnsound = true ∨ third)
        ∧ (t.framer.get p).exchange = x.exchange ∧ (t.framer.get p).waiting = x.waiting
        ∧ (t.framer.get p).capture = x.capture ∧ (t.framer.get p).incoming = .quiet
        ∧ x.lookedFrom (t.framer.get p)
        ∧ (third → t.link.notices.get (.partner p)
            = some (postTo (s.link.notices.get (.partner p)) noticeUnsound
                (snapshotOf (s.monitor.get p).state.code (s.classView p).code 0 0) s.msCount))
        ∧ (¬third → t.link.notices = s.link.notices)
        ∧ ChangesOnly [.framer p, .monitor p, .notice (.partner p)] s t)
    ∧ (s.arrives p kind f →
        ∃ t, exec c s = .next t
          ∧ (t.framer.get p).badCount = 0 ∧ (t.framer.get p).unsound = false
          ∧ (t.framer.get p).latchedUnsound = x.latchedUnsound ∧ (t.framer.get p).incoming = .quiet
          ∧ ∀ q, q ≠ p →
              (t.framer.get q).badCount = (s.framer.get q).badCount
                ∧ (t.framer.get q).unsound = (s.framer.get q).unsound
                ∧ (t.framer.get q).latchedUnsound = (s.framer.get q).latchedUnsound))
  ∧ ∀ (c : Instr) (s t : State) (p : Port), exec c s = .next t → (s.framer.get p).incoming ≠ .quiet →
      (t.framer.get p).incoming ≠ .quiet →
      (t.framer.get p).sending = (s.framer.get p).sending ∨ (t.framer.get p).sending = none

/-- A good frame that a rule turns away. A protocol error posts PARTNER PROTOCOL and changes nothing but the line's
own soundness count and transmitter: a frame of branch 7, of a part-only kind or of a wrong length (R22); an ANNOUNCE,
OFFER, GRANT, DENY or READY from a branch 1 to 6 (R15); any frame but an ANNOUNCE or a HOLD on an attached port that
is not TALKING (R8); an ANNOUNCE that fails its check (R6); an OFFER from a partner that does not supply or that ends
inside a point (R42, R43); a HOLD with no exchange answer-due (R24). A frame on a TALKING port from a branch above the
recorded count, of any kind but a part-only one, is discarded and answered DENY BADBRANCH; it allocates no record and
posts no notice (R22, R23). -/
def Obligations.FramesAtFaultAreDiscarded : Prop :=
  ∀ (c : Instr) (s : State) (p : Port) (kind : BitVec 6) (f : RawFrame), receivedFrame c = some (p, kind, f) →
    s.arrives p kind f →
    let talking : Prop := (s.monitor.get p).state = .talking
    let inRange : Prop := f.branch.toNat ≤ s.branchCount p ∧ f.branch ≠ 7
    let partOnly : Prop := 0x09 ≤ kind.toNat ∧ kind.toNat ≤ 0x0D
    ((partOnly
        ∨ talking ∧ f.branch = 7
        ∨ talking ∧ inRange ∧ lengthWrong kind f = true
        ∨ talking ∧ inRange ∧ f.branch ≠ 0 ∧ 0x01 ≤ kind.toNat ∧ kind.toNat ≤ 0x05
        ∨ ¬talking ∧ kind ≠ kindAnnounce ∧ kind ≠ kindHold
        ∨ ¬talking ∧ (f.branch ≠ 0 ∨ lengthWrong kind f = true)
        ∨ kind = kindAnnounce ∧ f.branch = 0 ∧ (announceFields f.payload).passes = false
        ∨ kind = kindOffer ∧ f.branch = 0 ∧ (s.supplies p = false ∨ readPoints f.payload = none)
        ∨ kind = kindHold ∧ f.branch = 0 ∧ (s.framer.get p).exchangeDue = false) →
      ∃ t, exec c s = .next t
        ∧ t.link.notices.get (.partner p)
            = some (postTo (s.link.notices.get (.partner p)) noticeProtocol
                (snapshotOf (s.monitor.get p).state.code (s.classView p).code 0 0) s.msCount)
        ∧ (t.framer.get p).exchange = (s.framer.get p).exchange
        ∧ (t.framer.get p).capture = (s.framer.get p).capture
        ∧ (s.lineIdle p → t.monitor = s.monitor ∧ (t.framer.get p).sending = none)
        ∧ ChangesOnly [.framer p, .monitor p, .notice (.partner p)] s t)
    ∧ (talking → f.branch ≠ 7 → s.branchCount p < f.branch.toNat → ¬partOnly →
      ∃ t, exec c s = .next t ∧ ChangesOnly [.framer p] s t
        ∧ (t.framer.get p).exchange = (s.framer.get p).exchange
        ∧ (s.lineIdle p →
          (t.framer.get p).sending = some (.engine (.deny f.branch.toNat .badBranch))
            ∧ (t.framer.get p).engine = [] ∧ (t.framer.get p).relay = []))

/-- An ANNOUNCE that passes its check on an attached port that is not TALKING is recorded, ends the PROBE exchange or
abandons the measurement, empties a legacy book with REVISE, and makes the port TALKING with an ANNOUNCED notice (R6,
R29, R51). A queued channel leaves the meter's queue; one in conversion leaves the converter, which takes the head of
the queue (R69). That a leftover PROBE exchange ends outside PROBING too is the model's choice (log entry 19), and so
is what becomes of the previous resistance, the attempt count and the last period (log entry 42). -/
def Obligations.AnnounceEntersTalking : Prop :=
  ∀ (s : State) (p : Port) (f : RawFrame), s.arrives p kindAnnounce f → (s.monitor.get p).state ≠ .talking →
    f.branch = 0 → f.payload.length = 6 → (announceFields f.payload).passes = true →
    let a := announceFields f.payload
    let r := s.meter.port.get p
    let abandoned : PortMeasure := { r with phase := .idle, previous := none, heldPeriod := none, measureFlag := false }
    ∃ t, exec (.announce p f) s = .next t
      ∧ t.monitor.get p = { s.monitor.get p with state := .talking, probeTimer := none }
      ∧ (∃ r, t.table.own.get p = some r ∧ a.cls = some r.cls ∧ r.vendor = some a.vendor
          ∧ r.model = some a.model ∧ r.grant = (s.table.own.get p).bind PartnerRecord.grant
          ∧ (r.cls = .supplier → r.branchCount = 0 ∧ r.supplyPresent = true)
          ∧ (r.cls = .dock → r.branchCount = a.branchCount ∧ r.supplyPresent = a.supplyPresent)
          ∧ (r.cls = .accessory → r.branchCount = 0 ∧ r.supplyPresent = false))
      ∧ (∀ e, (t.framer.get p).exchange = some e → e.kind ≠ .probe)
      ∧ ((s.monitor.get p).state = .probing → t.meter = s.meter)
      ∧ ((s.monitor.get p).state ≠ .probing →
          (∀ q, q ≠ p → r.phase ≠ .converting ∨ s.meter.queue.head? ≠ some (.id q) →
              t.meter.port.get q = s.meter.port.get q)
            ∧ (r.phase = .idle →
                t.meter.port.get p = { r with measureFlag := false } ∧ t.meter.queue = s.meter.queue
                  ∧ t.meter.inFlight = s.meter.inFlight)
            ∧ (r.phase = .unresolved →
                t.meter.port.get p = abandoned ∧ t.meter.queue = s.meter.queue
                  ∧ t.meter.inFlight = s.meter.inFlight)
            ∧ (r.phase = .queued →
                t.meter.port.get p = abandoned ∧ t.meter.queue = s.meter.queue.filter (· ≠ .id p)
                  ∧ t.meter.inFlight = s.meter.inFlight)
            ∧ (r.phase = .converting → s.meter.inFlightChannel = some (.id p) → .id p ∉ s.meter.queue →
                t.meter.port.get p = abandoned
                  ∧ (s.meter.queue = [] → t.meter.queue = [] ∧ t.meter.inFlight = none)
                  ∧ ∀ c rest, s.meter.queue = c :: rest →
                      t.meter.queue = rest
                        ∧ t.meter.inFlight = some { channel := c, elapsed := 0, timebase := 0, edges := 0 }
                        ∧ ∀ q, c = .id q → t.meter.port.get q = { s.meter.port.get q with phase := .converting }))
      ∧ ((s.monitor.get p).state = .legacy →
          t.book.get p = { s.book.get p with points := [], ratingEntry := none, stamp := s.msCount }
            ∧ t.sequencer.demands.get p = { s.sequencer.demands.get p with revise := true })
      ∧ ((s.monitor.get p).state ≠ .legacy →
          t.book.get p = s.book.get p ∧ t.sequencer.demands.get p = s.sequencer.demands.get p)
      ∧ t.link.notices.get (.partner p)
          = some (postTo (s.link.notices.get (.partner p)) noticeAnnounced
              (snapshotOf 4 (byteAt f.payload 0) 0 0) s.msCount)
      ∧ ChangesOnly
          ([.monitor p, .framer p, .own p, .book p, .demands p, .notice (.partner p), .converter]
            ++ everyPort .measure) s t

/-- An ANNOUNCE that passes its check on a TALKING port rewrites the record; a partner that stops supplying has its
book emptied with REVISE, a lowered branch count frees the records above it, and ANNOUNCED is posted exactly when the
record changed (R7, R16). -/
def Obligations.AnnounceOnATalkingPortUpdatesTheRecord : Prop :=
  ∀ (s : State) (p : Port) (f : RawFrame) (old : PartnerRecord), s.takes p kindAnnounce f → f.branch = 0 →
    (announceFields f.payload).passes = true → s.table.own.get p = some old →
    let a := announceFields f.payload
    let count := if a.cls = some .dock then a.branchCount else 0
    let supply : Bool := a.cls = some .supplier || (a.cls = some .dock && a.supplyPresent)
    ∃ t r, exec (.announce p f) s = .next t ∧ t.table.own.get p = some r
      ∧ a.cls = some r.cls ∧ r.branchCount = count ∧ r.supplyPresent = supply
      ∧ r.vendor = some a.vendor ∧ r.model = some a.model
      ∧ t.monitor.get p = s.monitor.get p
      ∧ (old.supplies = true → supply = false →
          t.book.get p = { s.book.get p with points := [], ratingEntry := none, stamp := s.msCount }
            ∧ t.sequencer.demands.get p = { s.sequencer.demands.get p with revise := true })
      ∧ (old.supplies = false ∨ supply = true →
          t.book.get p = s.book.get p ∧ t.sequencer.demands.get p = s.sequencer.demands.get p)
      ∧ (∀ x ∈ t.table.pool, x.port = p → count < old.branchCount → x.branch ≤ count)
      ∧ (old.branchCount ≤ count → t.table.pool = s.table.pool ∧ t.supply = s.supply ∧ r.grant = old.grant)
      ∧ ((a.cls = some old.cls ∧ count = old.branchCount ∧ supply = old.supplyPresent
            ∧ old.vendor = some a.vendor ∧ old.model = some a.model) →
          t.link.notices.get (.partner p) = s.link.notices.get (.partner p))
      ∧ (¬(a.cls = some old.cls ∧ count = old.branchCount ∧ supply = old.supplyPresent
            ∧ old.vendor = some a.vendor ∧ old.model = some a.model) →
          ∃ n, t.link.notices.get (.partner p)
            = some (postTo (s.link.notices.get (.partner p)) noticeAnnounced n s.msCount))
      ∧ ChangesOnly (supplyParts ++ [.book p, .demands p, .notice (.partner p)]) s t

/-- An OFFER of whole points from a partner that supplies replaces the book wholesale: at most seven points are kept,
the generation advances modulo 16, the failure count and the cool-off are cleared, and ATTACH is raised for a first
book with a point, REVISE otherwise (R12, R43, R45, R46, R48). -/
def Obligations.OfferReplacesTheBook : Prop :=
  ∀ (s : State) (p : Port) (f : RawFrame) (points : List OfferPoint), s.takes p kindOffer f → f.branch = 0 →
    s.supplies p = true → readPoints f.payload = some points →
    let b := s.book.get p
    ∃ t, exec (.offer p f) s = .next t
      ∧ t.book.get p
          = { source := .talk, generation := b.generation + 1, points := points.take 7, ratingEntry := none,
              stamp := s.msCount, firstBook := if points = [] then b.firstBook else false }
      ∧ t.monitor.get p = { s.monitor.get p with failures := 0, coolOff := none }
      ∧ t.sequencer.demands.get p
          = (if points ≠ [] ∧ b.firstBook = true then { s.sequencer.demands.get p with attach := true }
            else { s.sequencer.demands.get p with revise := true })
      ∧ (t.framer.get p).exchange = (s.framer.get p).exchange
      ∧ ChangesOnly [.book p, .monitor p, .demands p, .framer p] s t

/-- A GRANT that no answer-due CLAIM awaits is answered RELEASE and changes no record (R129). One that answers a claim
ends it STALE on a wrong generation or a point the book no longer holds, DENIED on a wrong index or a current below
500 mA, each answered RELEASE; otherwise the port awaits READY with the bounded current and ready time, its sag and
overvoltage counts held at 0 (R121, R143). That the settle count of an ended claim is 0, and that a stale claim keeps
its role, is the model's reading (log entries 24 and 34). -/
def Obligations.GrantIsTakenOrAnsweredWithRelease : Prop :=
  ∀ (s : State) (p : Port) (f : RawFrame), s.takes p kindGrant f → f.branch = 0 →
    let g := grantFields f.payload
    let c := s.contract.get p
    ((s.framer.get p).claimDue = false →
      ∃ t, exec (.grant p f) s = .next t ∧ ChangesOnly [.framer p] s t
        ∧ (t.framer.get p).exchange = (s.framer.get p).exchange
        ∧ (s.lineIdle p → (t.framer.get p).sending = some (.engine .release)))
    ∧ (∀ pt, (s.framer.get p).claimDue = true → c.state = .claiming → c.pending = some pt →
        let stale : Prop :=
          g.generation ≠ pt.generation ∨ g.generation ≠ (s.book.get p).generation
            ∨ (s.book.get p).points.length < pt.point
        let denied : Prop := ¬stale ∧ (g.point ≠ pt.point ∨ min g.current pt.requested < 500)
        ∃ t, exec (.grant p f) s = .next t
          ∧ ((s.framer.get p).waiting = [] → (t.framer.get p).exchange = none)
          ∧ (¬stale → ¬denied →
              t.contract.get p
                  = { c with state := .awaiting, readyTimer := some 0,
                             details := some { current := min g.current pt.requested
                                               ready := some (min g.ready 500) } }
                ∧ t.drawMonitor.get p = { s.drawMonitor.get p with overvoltage := 0, sag := 0 }
                ∧ ChangesOnly [.framer p, .contract p, .drawMonitor p] s t)
          ∧ (stale → claimStale p (c.drawClosed = true) s t)
          ∧ (denied → claimFailed p .denied s t)
          ∧ (stale ∨ denied → s.lineIdle p → (s.framer.get p).waiting = [] →
              (t.framer.get p).sending = some (.engine .release)))

/-- A DENY that no answer-due CLAIM awaits is discarded; one that answers a claim ends it, STALE for that reason and
DENIED for every other reason code, and no RELEASE is sent (R24, R121, R127, R128). A READY of the pending generation
on a port in AWAITING starts the settling with its count at 0, the sag and overvoltage counts held at 0; any other
READY is discarded with no answer and no notice (R122, R129, R143). That the settle count of an ended claim is 0, that
a stale claim keeps its role, and that a READY is tested against the pending generation alone, is the model's choice
(log entries 24, 34 and 41). -/
def Obligations.DenyEndsAndReadyAdvancesTheClaim : Prop :=
  ∀ (s : State) (p : Port) (f : RawFrame), f.branch = 0 →
    let c := s.contract.get p
    (s.takes p kindDeny f → (s.framer.get p).claimDue = false →
      ∃ t, exec (.deny p f) s = .next t ∧ ChangesOnly [.framer p] s t
        ∧ (t.framer.get p).exchange = (s.framer.get p).exchange
        ∧ (s.lineIdle p → (t.framer.get p).sending = none))
    ∧ (s.takes p kindDeny f → (s.framer.get p).claimDue = true → c.state = .claiming →
        ∃ t, exec (.deny p f) s = .next t
          ∧ ((s.framer.get p).waiting = [] → (t.framer.get p).exchange = none)
          ∧ (byteAt f.payload 1 = 0x01 → claimStale p False s t)
          ∧ (byteAt f.payload 1 ≠ 0x01 → claimFailed p .denied s t)
          ∧ (s.lineIdle p → (s.framer.get p).waiting = [] → (t.framer.get p).sending = none))
    ∧ (s.takes p kindReady f →
        let matched : Prop :=
          c.state = .awaiting ∧ ∃ pt, c.pending = some pt ∧ generationOf f.payload = pt.generation
        ∃ t, exec (.ready p f) s = .next t
          ∧ (matched →
              t.contract.get p
                  = { c with state := .settling, readyTimer := none, settleCount := 0, settleTimer := some 0 }
                ∧ t.drawMonitor.get p = { s.drawMonitor.get p with overvoltage := 0, sag := 0 }
                ∧ ChangesOnly [.framer p, .contract p, .drawMonitor p] s t)
          ∧ (¬matched → ChangesOnly [.framer p] s t)
          ∧ (t.framer.get p).exchange = (s.framer.get p).exchange
          ∧ (s.lineIdle p → (t.framer.get p).sending = none))

/-- A HOLD from branch 0 while an exchange is answer-due makes it held and counts it, up to four; the fifth ends the
exchange as no answer, which fails a claim (R30, R31). A HOLD from a branch 1 to 6 of a TALKING port is discarded
(R15). That this holds in every attached state, and that the settle count of a failed claim is 0, is the model's
reading (log entries 20 and 24). -/
def Obligations.HoldDelaysTheExchange : Prop :=
  ∀ (s : State) (p : Port) (f : RawFrame), s.arrives p kindHold f → f.payload.length = 0 →
    (∀ e n, f.branch = 0 → (s.framer.get p).exchange = some e → e.condition = .answerDue n →
      ∃ t, exec (.hold p f) s = .next t
        ∧ (e.holds < 4 →
            (t.framer.get p).exchange = some { e with condition := .held 0, holds := e.holds + 1 }
              ∧ ChangesOnly [.framer p, .monitor p] s t ∧ (s.lineIdle p → t.monitor = s.monitor))
        ∧ (4 ≤ e.holds → e.kind ≠ .probe → (s.contract.get p).state = .claiming →
            claimFailed p .noAnswer s t)
        ∧ (4 ≤ e.holds → e.kind = .probe ∨ (s.contract.get p).state ≠ .claiming →
            ChangesOnly [.framer p, .monitor p] s t)
        ∧ (4 ≤ e.holds → (s.framer.get p).waiting = [] → (t.framer.get p).exchange = none))
    ∧ (f.branch ≠ 0 → f.branch ≠ 7 → (s.monitor.get p).state = .talking → f.branch.toNat ≤ s.branchCount p →
        ∃ t, exec (.hold p f) s = .next t ∧ ChangesOnly [.framer p] s t
          ∧ (t.framer.get p).exchange = (s.framer.get p).exchange
          ∧ (s.lineIdle p → (t.framer.get p).sending = none))

/-- At the end of a frame the part sent, an exchange frame makes its exchange answer-due and a withdrawn exchange
ends; the transmitter of a quiet line then sends the head of the engine list, or else the oldest relay frame, or
waits; with a frame of the partner on the line it waits for its end (R28, R32, R34). At 30 ms the answer timer ends an
answer-due exchange as no answer, which fails a claim NO-ANSWER and has no effect of its own for a PROBE (R5, R30); at
50 ms the resend timer queues a held exchange again with the same fields (R31). A row whose time has not come changes
nothing (the model's choice: log entries 13 and 15), and the settle count of a failed claim is 0 (its reading: log
entry 24). -/
def Obligations.ExchangesAreSentAndTimed : Prop :=
  ∀ (s : State) (p : Port), s.inReset = false →
    let f := s.framer.get p
    (∀ tx, f.sending = some tx →
      let isExchange : Prop := ∃ k, tx = .engine (.exchange k)
      ∃ t, exec (.talkFrameSent p) s = .next t ∧ ChangesOnly [.framer p, .monitor p] s t
        ∧ (∀ e, isExchange → f.exchange = some e → e.condition = .queued → e.withdrawn = false →
            (t.framer.get p).exchange = some { e with condition := .answerDue 0 })
        ∧ (∀ e, isExchange → f.exchange = some e → e.withdrawn = true → f.waiting = [] →
            (t.framer.get p).exchange = none)
        ∧ (¬isExchange → (t.framer.get p).exchange = f.exchange)
        ∧ (t.framer.get p).incoming = f.incoming
        ∧ (¬isExchange ∨ f.waiting = [] →
            (f.incoming = .quiet → f.lookedFrom (t.framer.get p))
              ∧ (f.incoming ≠ .quiet →
                  (t.framer.get p).sending = none ∧ (t.framer.get p).engine = f.engine
                    ∧ (t.framer.get p).relay = f.relay)))
    ∧ (f.sending = none → exec (.talkFrameSent p) s = .next s)
    ∧ (∀ e n, f.exchange = some e → e.condition = .answerDue n → 30 ≤ n →
      ∃ t, exec (.answerTimerExpiry p) s = .next t
        ∧ (e.kind ≠ .probe → (s.contract.get p).state = .claiming → claimFailed p .noAnswer s t)
        ∧ (e.kind = .probe ∨ (s.contract.get p).state ≠ .claiming →
            ChangesOnly [.framer p, .monitor p] s t)
        ∧ (f.waiting = [] → (t.framer.get p).exchange = none))
    ∧ ((∀ e n, f.exchange = some e → e.condition = .answerDue n → n < 30) →
        exec (.answerTimerExpiry p) s = .next s)
    ∧ (∀ e n, f.exchange = some e → e.condition = .held n → 50 ≤ n →
      ∃ t, exec (.resendTimerExpiry p) s = .next t ∧ ChangesOnly [.framer p, .monitor p] s t
        ∧ (t.framer.get p).exchange = some { e with condition := .queued }
        ∧ (s.lineQuiet p → (t.framer.get p).sending = some (.engine (.exchange e.kind))))
    ∧ ((∀ e n, f.exchange = some e → e.condition = .held n → n < 50) → exec (.resendTimerExpiry p) s = .next s)

/-! ### The Supply Unit (09) -/

/-- A DEMAND that R155 refuses changes no state of the Supply Unit and no grant, and is answered UNAVAILABLE or, for a
voltage below 4,500 mV alone, BADREQUEST; one that finds no record free is answered FULL with a TABLE-FULL notice
(R15). That the wait list is not served either is the model's reading (log entry 25). -/
def Obligations.RefusedDemandChangesNoGrant : Prop :=
  ∀ (s : State) (p : Port) (f : RawFrame), s.takes p kindDemand f →
    let b := f.branch.toNat
    let voltage := voltageField f.payload 0
    let unavailable : Prop :=
      (s.contract.get p).drawClosed = true ∨ (s.contract.get p).state ≠ .idle ∨ s.isJoining p = true
        ∨ s.supplies p = true ∨ s.supply.budget = 0
    (b = 0 ∨ s.findsRecord p b → unavailable ∨ voltage < 4500 →
      ∃ t, exec (.demand p f) s = .next t ∧ t.supply = s.supply ∧ t.grants = s.grants
        ∧ ChangesOnly [.framer p, .pool] s t ∧ (b = 0 → t.table = s.table)
        ∧ (b ≠ 0 → t.hasRecord p b = true)
        ∧ (unavailable → s.lineIdle p → (t.framer.get p).sending = some (.engine (.deny b .unavailable)))
        ∧ (¬unavailable → s.lineIdle p → (t.framer.get p).sending = some (.engine (.deny b .badRequest))))
    ∧ (b ≠ 0 → s.hasRecord p b = false → 12 ≤ s.table.pool.length →
      ∃ t, exec (.demand p f) s = .next t ∧ ChangesOnly [.framer p, .notice (.partner p)] s t
        ∧ (s.lineIdle p → (t.framer.get p).sending = some (.engine (.deny b .full)))
        ∧ ∃ n, t.link.notices.get (.partner p)
            = some (postTo (s.link.notices.get (.partner p)) noticeTableFull n s.msCount))

/-- A DEMAND that passes, with nothing waiting and room for 500 mA or more, is granted the smallest of its request,
the budget room and the port room under the next order number; the supply switch closes and SUPPLY is sent (R154,
R156, R157). One from a branch that holds a grant renews it in place: the rooms leave the old grant out, a larger
grant takes the next order number, a smaller one keeps its own, and while others wait it can only shrink or stay
(R159). A counter at 65,535 first renumbers every grant from 1 upward in their order, and the new number is the one
after theirs (R157). -/
def Obligations.DemandIsGrantedOrRenewed : Prop :=
  ∀ (s : State) (p : Port) (f : RawFrame), s.takes p kindDemand f →
    let b := f.branch.toNat
    let limit := s.policy.active.params[13]
    let requested := min (max (currentField f.payload 2) 500) limit
    let sum := (s.grants.map fun g => g.grant.current).sum
    let portSum := ((s.grants.filter fun g => g.port == p).map fun g => g.grant.current).sum
    let counter := s.supply.orderCounter
    let next := if counter < 65535 then counter + 1 else s.grants.length + 1
    let renumbered := fun (g : Grant) =>
      { g with order := 1 + (s.grants.filter fun h => decide (h.grant.order < g.order)).length }
    s.demandPasses p (voltageField f.payload 0) →
    (let room := (s.supply.budget - sum * 5) * 1000 / 5000 / 10 * 10
      let current := min requested (min room (limit - portSum))
      s.findsRecord p b → s.grantOf p b = none → s.supply.waitList = [] → 500 ≤ current →
      ∃ t, exec (.demand p f) s = .next t
        ∧ t.grantOf p b = some { current := current, requested := requested, order := next }
        ∧ (∀ q d, (q ≠ p ∨ d ≠ b) →
            t.grantOf q d = if counter < 65535 then s.grantOf q d else (s.grantOf q d).map renumbered)
        ∧ t.supply.orderCounter = next ∧ t.supply.switchClosed.get p = true
        ∧ t.link.notices.get .supply
            = some (postTo (s.link.notices.get .supply) noticeGranted (snapshotOf p.val b 0 0) s.msCount)
        ∧ (s.lineIdle p → (t.framer.get p).sending = some (.engine (.supply b current)))
        ∧ (counter < 65535 →
            ChangesOnly [.framer p, .own p, .pool, .orderCounter, .supplySwitch p, .notice .supply] s t)
        ∧ ChangesOnly ([.framer p, .pool, .orderCounter, .supplySwitch p, .notice .supply] ++ everyPort .own) s t)
    ∧ ∀ old, s.grantOf p b = some old →
        let room := (s.supply.budget - (sum * 5 - old.current * 5)) * 1000 / 5000 / 10 * 10
        let portRoom := limit - (portSum - old.current)
        (s.supply.waitList = [] →
          let current := min requested (min room portRoom)
          ∃ t, exec (.demand p f) s = .next t
            ∧ t.grantOf p b
                = some { current := current, requested := requested
                         order := if old.current < current then next else old.order }
            ∧ (∀ q d, (q ≠ p ∨ d ≠ b) →
                t.grantOf q d
                  = if old.current < current ∧ 65535 ≤ counter then (s.grantOf q d).map renumbered
                    else s.grantOf q d)
            ∧ t.supply.orderCounter = (if old.current < current then next else counter)
            ∧ t.supply.switchClosed = s.supply.switchClosed
            ∧ (current = old.current → t.link.notices = s.link.notices)
            ∧ (current ≠ old.current →
                t.link.notices.get .supply
                  = some (postTo (s.link.notices.get .supply) noticeGranted (snapshotOf p.val b 0 0) s.msCount))
            ∧ (s.lineIdle p → (t.framer.get p).sending = some (.engine (.supply b current)))
            ∧ (counter < 65535 → ChangesOnly [.framer p, .own p, .pool, .orderCounter, .notice .supply] s t)
            ∧ ChangesOnly ([.framer p, .pool, .orderCounter, .notice .supply] ++ everyPort .own) s t)
        ∧ (s.supply.waitList ≠ [] → s.waits p b = false →
          ∃ t g, exec (.demand p f) s = .next t ∧ t.grantOf p b = some g
            ∧ g.current = min requested (min old.current portRoom) ∧ g.requested = requested
            ∧ ChangesOnly supplyParts s t)

/-- A DEMAND that passes and cannot be granted at once joins the tail of the wait list with HOLD, updates its own
entry with HOLD, or is turned away FULL by a list of eight; the list is then served, so that it loses entries at its
head alone, and a head that stays asks for no more than the source port limit (R156, R158, R160, R161). With nothing
else waiting and too little room, the entry stays as the whole list. -/
def Obligations.DemandThatMustWaitIsHeld : Prop :=
  ∀ (s : State) (p : Port) (f : RawFrame), s.takes p kindDemand f →
    let b := f.branch.toNat
    let limit := s.policy.active.params[13]
    let requested := min (max (currentField f.payload 2) 500) limit
    let entry : WaitEntry := { port := p, branch := b, requested := requested }
    let served := fun (l : List WaitEntry) (t : State) =>
      ∃ k, t.supply.waitList
        = match l.drop k with
          | [] => []
          | w :: rest => { w with requested := min w.requested limit } :: rest
    s.findsRecord p b → s.demandPasses p (voltageField f.payload 0) → s.grantOf p b = none →
    (s.supply.waitList = [] → min requested (min s.budgetRoom (s.portRoom p)) < 500 →
      ∃ t, exec (.demand p f) s = .next t ∧ t.supply.waitList = [entry]
        ∧ (s.lineIdle p → (t.framer.get p).sending = some (.engine (.hold b)))
        ∧ ChangesOnly [.framer p, .pool, .waitList] s t)
    ∧ (s.supply.waitList ≠ [] →
      ∃ t, exec (.demand p f) s = .next t
        ∧ (s.waits p b = true →
            served (s.supply.waitList.map fun w => if w.port = p ∧ w.branch = b then entry else w) t
              ∧ (s.lineIdle p → (t.framer.get p).sending = some (.engine (.hold b))))
        ∧ (s.waits p b = false → s.supply.waitList.length < 8 →
            served (s.supply.waitList ++ [entry]) t
              ∧ (s.lineIdle p → (t.framer.get p).sending = some (.engine (.hold b))))
        ∧ (s.waits p b = false → 8 ≤ s.supply.waitList.length →
            served s.supply.waitList t
              ∧ (s.lineIdle p → (t.framer.get p).sending = some (.engine (.deny b .full))))
        ∧ ChangesOnly supplyParts s t)

/-- A RETIRE gives up the branch's grant and its place in the wait list, frees its pooled record and is not answered;
the supply switch opens with the port's last grant (R16, R162, R163). From a branch without a record it is discarded
(R15). -/
def Obligations.RetireGivesUpItsGrant : Prop :=
  ∀ (s : State) (p : Port) (f : RawFrame), s.takes p kindRetire f →
    let b := f.branch.toNat
    (b = 0 ∨ s.hasRecord p b = true →
      ∃ t, exec (.retire p f) s = .next t
        ∧ t.grantOf p b = none ∧ t.waits p b = false ∧ (b ≠ 0 → t.hasRecord p b = false)
        ∧ (b = 0 → (t.table.own.get p).isSome = (s.table.own.get p).isSome)
        ∧ ChangesOnly supplyParts s t
        ∧ (s.supply.waitList = [] →
            ((s.grantOf p b).isSome = true → t.portGrants p = [] → t.supply.switchClosed.get p = false)
              ∧ (s.grantOf p b = none → t.supply = s.supply)
              ∧ (s.lineIdle p → (t.framer.get p).sending = none)
              ∧ ChangesOnly [.framer p, .own p, .pool, .supplySwitch p] s t))
    ∧ (b ≠ 0 → s.hasRecord p b = false →
      ∃ t, exec (.retire p f) s = .next t ∧ ChangesOnly [.framer p] s t
        ∧ (s.lineIdle p → (t.framer.get p).sending = none))

/-- The service of the wait list (R161): an empty list ends it; a head whose port draws, holds a contract, joins or
supplies is removed with DENY UNAVAILABLE, and one with room for 500 mA or more is removed with its grant, and either
way the next head is served; a head that has less room stays, asking for no more than the source port limit, and no
entry behind it is looked at. The grant is made as R157 says: recorded under the next order number, the supply switch
closed, SUPPLY placed and GRANTED posted. -/
def Obligations.ServiceTakesTheWaitListFromItsHead : Prop :=
  (∀ s : State, s.supply.waitList = [] → serve s = s)
  ∧ (∀ (s : State) (w : WaitEntry) (rest : List WaitEntry), s.supply.waitList = w :: rest →
      let limit := s.policy.active.params[13]
      let requested := min w.requested limit
      let room := (s.supply.budget - currentOf s.grants * 5) * 1000 / 5000 / 10 * 10
      let portRoom := limit - currentOf (s.portGrants w.port)
      let current := min requested (min room portRoom)
      let behind : State := { s with supply := { s.supply with waitList := rest } }
      let barred : Prop :=
        (s.contract.get w.port).drawClosed = true ∨ (s.contract.get w.port).state ≠ .idle
          ∨ (∃ tr, s.sequencer.transition = some tr ∧ w.port ∈ tr.joining) ∨ s.supplies w.port = true
      (barred → serve s = serve (place w.port (.deny w.branch .unavailable) behind))
        ∧ (¬barred → 500 ≤ current → serve s = serve (makeGrant w.port w.branch current requested behind))
        ∧ (¬barred → current < 500 →
            serve s = { s with supply := { s.supply with waitList := { w with requested := requested } :: rest } }))
  ∧ ∀ (s : State) (p : Port) (b current requested : Nat), s.hasRecord p b = true → s.supply.orderCounter < 65535 →
      let t := makeGrant p b current requested s
      t.grantOf p b = some { current := current, requested := requested, order := s.supply.orderCounter + 1 }
        ∧ (∀ q d, (q ≠ p ∨ d ≠ b) → t.grantOf q d = s.grantOf q d)
        ∧ t.supply.orderCounter = s.supply.orderCounter + 1 ∧ t.supply.switchClosed.get p = true
        ∧ t.link.notices.get .supply
            = some (postTo (s.link.notices.get .supply) noticeGranted (snapshotOf p.val b 0 0) s.msCount)
        ∧ (s.lineQuiet p → (t.framer.get p).sending = some (.engine (.supply b current)))
        ∧ ChangesOnly
            [.framer p, .monitor p, .own p, .pool, .orderCounter, .supplySwitch p, .notice .supply] s t

/-- Where the budget falls below the reserved power, grants give way one at a time, the newest of all first, each by
the excess as it stands, until the rest fit; a budget that does not fall moves no grant (R164). Where the source port
limit falls, the grants of each port in turn give way likewise until they fit the limit; then every requested current
above the limit is lowered to it, in the grants and in the wait list (R165). In both, each taking of a grant reduces
it to 500 mA at the least, or cuts one that stands there. -/
def Obligations.GrantsGiveWayFromTheNewest : Prop :=
  ∀ s : State, s.recordsStand →
    (∀ budget : Nat,
      let u : State := { s with supply := { s.supply with budget := budget } }
      (s.supply.budget ≤ budget → takeBudget budget s = u)
        ∧ (budget < s.supply.budget → Decreases u (takeBudget budget s)
            ∧ currentOf (takeBudget budget s).grants * 5 ≤ budget))
    ∧ ∀ old : Nat,
      let limit := s.policy.active.params[13]
      let lowered := fun (u t : State) =>
        (∀ p b, t.grantOf p b = (u.grantOf p b).map fun g => { g with requested := min g.requested limit })
          ∧ t.supply
              = { u.supply with
                  waitList := u.supply.waitList.map fun w => { w with requested := min w.requested limit } }
          ∧ ChangesOnly (everyPort .own ++ [.pool, .waitList]) u t
      (old ≤ limit → lowered s (rebalance old s))
        ∧ (limit < old → ∃ s0 s1 s2 s3,
            Rebalances 0 limit s s0 ∧ Rebalances 1 limit s0 s1 ∧ Rebalances 2 limit s1 s2 ∧ Rebalances 3 limit s2 s3
              ∧ lowered s3 (rebalance old s)
              ∧ ∀ p, currentOf ((rebalance old s).portGrants p) ≤ limit)

/-- A frame of no power kind goes by the class of its kind: DISCARD drops it; FORWARD sends it up as RELAY-UP; CAPTURE
stores it in an empty slot with a notice; a full upstream queue or a full slot drops it with a HOLD answer; a branch
without a record and with none free is answered FULL (R15, R25 to R27). -/
def Obligations.OtherKindsGoByTheirClass : Prop :=
  ∀ (s : State) (p : Port) (kind : BitVec 6) (f : RawFrame), s.takes p kind f →
    ¬(0x01 ≤ kind.toNat ∧ kind.toNat ≤ 0x0D) →
    let b := f.branch.toNat
    let cls := if h : 0x10 ≤ kind.toNat ∧ kind.toNat ≤ 0x2F then s.link.frameClass[kind.toNat - 0x10] else .capture
    let holds := fun (t : State) => s.lineIdle p → (t.framer.get p).sending = some (.engine (.hold b))
    (cls = .discard →
      ∃ t, exec (.otherKindFrame p kind f) s = .next t ∧ ChangesOnly [.framer p] s t
        ∧ (t.framer.get p).capture = (s.framer.get p).capture
        ∧ (s.lineIdle p → (t.framer.get p).sending = none))
    ∧ (cls ≠ .discard → b = 0 ∨ s.findsRecord p b →
      ∃ t, exec (.otherKindFrame p kind f) s = .next t
        ∧ (b = 0 → t.table = s.table) ∧ (b ≠ 0 → t.hasRecord p b = true)
        ∧ (cls = .forward → s.link.upstream.length < 16 →
            t.link.outgoing = s.link.outgoing ++ [.relayUp p f.branch kind f.payload]
              ∧ (s.lineIdle p → (t.framer.get p).sending = none)
              ∧ ChangesOnly [.framer p, .pool, .uplink] s t)
        ∧ (cls = .forward → 16 ≤ s.link.upstream.length →
            holds t ∧ ChangesOnly [.framer p, .pool] s t)
        ∧ (cls = .capture → (s.framer.get p).capture = none →
            (t.framer.get p).capture = some { branch := f.branch, kind := kind, payload := f.payload }
              ∧ t.link.notices.get (.capture p)
                  = some (postTo (s.link.notices.get (.capture p)) (BitVec.ofNat 8 kind.toNat)
                      (snapshotOf b 0 0 0) s.msCount)
              ∧ ChangesOnly [.framer p, .pool, .notice (.capture p)] s t)
        ∧ (cls = .capture → (s.framer.get p).capture ≠ none →
            (t.framer.get p).capture = (s.framer.get p).capture ∧ holds t
              ∧ ChangesOnly [.framer p, .pool] s t))
    ∧ (cls ≠ .discard → b ≠ 0 → s.hasRecord p b = false → 12 ≤ s.table.pool.length →
      ∃ t, exec (.otherKindFrame p kind f) s = .next t ∧ ChangesOnly [.framer p, .notice (.partner p)] s t
        ∧ (s.lineIdle p → (t.framer.get p).sending = some (.engine (.deny b .full)))
        ∧ ∃ n, t.link.notices.get (.partner p)
            = some (postTo (s.link.notices.get (.partner p)) noticeTableFull n s.msCount))

/-! ### Identification metering (04) -/

/-- The end of a reference conversion writes that reference's record and clears its measure flag; a SHORT one posts
METER REFERENCE and ends every held measurement UNRATED REFERENCE; a valid one that makes both references valid
resolves every held conversion, and faults both where they stand too close together; with none held, the converter takes
the head of the queue (R58, R59, R63, R65, R70). -/
def Obligations.ReferenceConversionWritesItsRecord : Prop :=
  ∀ (s : State) (period : BitVec 16) (hi : Bool), s.inReset = false → period.toNat < 65535 →
    s.meter.inFlightChannel = some (if hi then .refHi else .refLo) →
    let short : Prop := period.toNat < 640
    let noneHeld : Prop := ∀ p, (s.meter.port.get p).phase ≠ .unresolved
    let old := if hi then s.meter.refHi else s.meter.refLo
    let other := if hi then s.meter.refLo else s.meter.refHi
    let code := snapshotOf (if hi then 5 else 4) 0 0 0
    let tlo := if hi then s.meter.refLo.period.getD 0 else period.toNat
    let thi := if hi then period.toNat else s.meter.refHi.period.getD 0
    let faults : Prop :=
      ¬short ∧ other.status = .valid ∧ thi < tlo + 64
        ∧ ∃ p, (s.meter.port.get p).phase = .unresolved ∧ (s.meter.port.get p).heldPeriod.isSome = true
    ∃ t, exec (.referenceConversionEnd period) s = .next t
      ∧ (∀ status : RefStatus,
          (short → status = .short) → (faults → status = .faulted) → (¬short → ¬faults → status = .valid) →
          (if hi then t.meter.refHi else t.meter.refLo)
            = { status := status, period := some period.toNat, measureFlag := false })
      ∧ (faults → (if hi then t.meter.refLo else t.meter.refHi) = { other with status := .faulted } ∧ t.pairAsked)
      ∧ (¬faults → (if hi then t.meter.refLo else t.meter.refHi) = other)
      ∧ (short → t.link.notices.get .meter
          = some (postTo (s.link.notices.get .meter) noticeReference code s.msCount))
      ∧ (short → ∀ p, (s.meter.port.get p).phase = .unresolved →
          (t.meter.port.get p).result = .unrated ∧ (t.meter.port.get p).code = some .reference
            ∧ (t.meter.port.get p).heldPeriod = none ∧ unratedDelivered p s t)
      ∧ (¬short → other.status = .valid →
          ∀ p, (s.meter.port.get p).phase = .unresolved → (s.meter.port.get p).heldPeriod.isSome = true →
            (t.meter.port.get p).phase ≠ .unresolved)
      ∧ (noneHeld →
          (¬short → old.measureFlag = true → t.link.notices.get .meter
              = some (postTo (s.link.notices.get .meter) noticeDone code s.msCount))
            ∧ (¬short → old.measureFlag = false → t.link.notices = s.link.notices)
            ∧ (∀ c rest, s.meter.queue = c :: rest → t.meter.inFlightChannel = some c ∧ t.meter.queue = rest)
            ∧ (s.meter.queue = [] → t.meter.inFlight = none ∧ t.meter.queue = []))
      ∧ ChangesOnly meterParts s t

/-- A port conversion raises the attempt count, and the refresh count or, at the sixteenth, queues the pair; an OPEN
or SHORT one ends the measurement UNRATED with that code, a valid one against references too close together ends it
REFERENCE with both references FAULTED, and a valid one while a reference is not valid is held, the last two with the
pair queued (R60, R62, R63, R65, R68). An unrated result makes a MEASURING or LEGACY port MUTE (R9), and METER DONE
tells of it exactly where a MEASURE had asked and the code is not REFERENCE (R68). An OPEN reference conversion keeps
the reference's period, posts METER REFERENCE and ends every held measurement UNRATED REFERENCE (R56, R59). That a
reference fault's notice names the port's channel is the model's reading (log entry 29). That CONVERSION_OPEN is taken
from the 65th millisecond on, the first in which the timebase can stand at its limit, and that an earlier row changes
nothing, is its choice (log entries 13, 15 and 18). -/
def Obligations.ConversionsEndByTheirOutcome : Prop :=
  ∀ (s : State), s.inReset = false →
    let opens : Prop := hasRun (s.meter.inFlight.map Conversion.elapsed) 65
    (∀ p, s.meter.inFlightChannel = some (.id p) →
      let r := s.meter.port.get p
      let tlo := s.meter.refLo.period.getD 0
      let thi := s.meter.refHi.period.getD 0
      let count := s.meter.refreshCount + 1
      let referencesValid : Prop := s.meter.refLo.status = .valid ∧ s.meter.refHi.status = .valid
      let sixteenth := fun (t : State) =>
        (count < 16 → t.meter.refreshCount = count) ∧ (16 ≤ count → t.meter.refreshCount = 0 ∧ t.pairAsked)
      let unrated := fun (t : State) (c : UnratedCode) =>
        (t.meter.port.get p).result = .unrated ∧ (t.meter.port.get p).code = some c
          ∧ (t.meter.port.get p).resistance = none ∧ (t.meter.port.get p).entry = none
          ∧ (t.meter.port.get p).previous = none ∧ (t.meter.port.get p).heldPeriod = none
          ∧ (t.meter.port.get p).measureFlag = false ∧ unratedDelivered p s t
      (opens → ∃ t, exec .conversionOpen s = .next t ∧ unrated t .openCircuit ∧ doneTold p s t ∧ sixteenth t
        ∧ (t.meter.port.get p).attempts = r.attempts + 1 ∧ (t.meter.port.get p).lastPeriod = r.lastPeriod
        ∧ t.meter.refLo = s.meter.refLo ∧ t.meter.refHi = s.meter.refHi
        ∧ ChangesOnly (portMeterParts p) s t)
      ∧ ∀ period : BitVec 16, period.toNat < 65535 →
          ∃ t, exec (.portConversionEnd period) s = .next t
            ∧ (t.meter.port.get p).attempts = r.attempts + 1
            ∧ (t.meter.port.get p).lastPeriod = some period.toNat
            ∧ (16 ≤ count → t.meter.refreshCount = 0 ∧ t.pairAsked)
            ∧ (period.toNat < 640 → unrated t .short ∧ doneTold p s t ∧ sixteenth t)
            ∧ (640 ≤ period.toNat → referencesValid → thi < tlo + 64 →
                unrated t .reference ∧ t.meter.refLo = { s.meter.refLo with status := .faulted }
                  ∧ t.meter.refHi = { s.meter.refHi with status := .faulted }
                  ∧ t.meter.refreshCount = 0 ∧ t.pairAsked
                  ∧ t.link.notices.get .meter
                      = some (postTo (s.link.notices.get .meter) noticeReference (snapshotOf p.val 0 0 0)
                          s.msCount))
            ∧ (640 ≤ period.toNat → referencesValid → tlo + 64 ≤ thi → sixteenth t)
            ∧ (640 ≤ period.toNat → ¬referencesValid → .id p ∉ s.meter.queue →
                (t.meter.port.get p).heldPeriod = some period.toNat
                  ∧ (t.meter.port.get p).phase = .unresolved ∧ (t.meter.port.get p).result = r.result
                  ∧ t.meter.refreshCount = 0 ∧ t.pairAsked ∧ t.link.notices = s.link.notices)
            ∧ ChangesOnly (portMeterParts p) s t)
    ∧ (¬opens → exec .conversionOpen s = .next s)
    ∧ (∀ hi : Bool, s.meter.inFlightChannel = some (if hi then .refHi else .refLo) → opens →
        ∃ t, exec .conversionOpen s = .next t
          ∧ (if hi then t.meter.refHi else t.meter.refLo)
              = { (if hi then s.meter.refHi else s.meter.refLo) with
                  status := .openCircuit, measureFlag := false }
          ∧ (if hi then t.meter.refLo else t.meter.refHi) = (if hi then s.meter.refLo else s.meter.refHi)
          ∧ t.link.notices.get .meter
              = some (postTo (s.link.notices.get .meter) noticeReference
                  (snapshotOf (if hi then 5 else 4) 0 0 0) s.msCount)
          ∧ (∀ p, (s.meter.port.get p).phase = .unresolved →
              (t.meter.port.get p).result = .unrated ∧ (t.meter.port.get p).code = some .reference
                ∧ (t.meter.port.get p).heldPeriod = none ∧ unratedDelivered p s t)
          ∧ ChangesOnly meterParts s t)

/-- R64: a period between references at least 64 µs apart becomes the low reference resistance plus the quotient
N ÷ D rounded to the nearest whole number, an exact half away from zero, clamped to 0..250,000 Ω; references closer
together are a reference fault. The port's last period records the period. -/
def Obligations.PeriodsBecomeResistances : Prop :=
  (∀ tx tlo thi low high : Nat, tlo + 64 ≤ thi →
    ∃ q : Int,
      let n : Int := ((tx : Int) - tlo) * ((high : Int) - low)
      let d : Int := (thi : Int) - tlo
      2 * |n - q * d| ≤ d ∧ (2 * |n - q * d| = d → |n| ≤ |q * d|)
        ∧ (resolvedResistance tx tlo thi low high : Int) = min (max ((low : Int) + q) 0) 250000)
  ∧ (∀ (p : Port) (tx : Nat) (s : State),
      let tlo := s.meter.refLo.period.getD 0
      let thi := s.meter.refHi.period.getD 0
      (thi < tlo + 64 → resolve p tx s = referenceFault p s)
        ∧ (tlo + 64 ≤ thi →
            resolve p tx s
              = acceptResistance p
                  (resolvedResistance tx tlo thi s.policy.active.lowReference s.policy.active.highReference) s))
  ∧ ∀ (p : Port) (s : State) (period : BitVec 16), s.inReset = false → s.meter.inFlightChannel = some (.id p) →
      period.toNat < 65535 →
      ∃ t, exec (.portConversionEnd period) s = .next t
        ∧ (t.meter.port.get p).lastPeriod = some period.toNat

/-- A resolved resistance is the first of its measurement, or agrees with the one before it within a thirty-second
part and is rated, or is measured again up to four conversions, the fourth disagreement ending UNSTABLE (R66). A rated
one takes the first used entry that contains it, if the rail lies within tolerance; MISMATCH and NOMATCH keep the
resistance (R67, R68). A RATED result on a MEASURING or MUTE port makes it LEGACY with a book of the entry's one
point, a PARTNER LEGACY notice and a demand, and on a LEGACY port rebuilds a book that differs from the entry and
leaves one that agrees (R9, R48 to R50). METER DONE tells of the end where a MEASURE had asked (R68). -/
def Obligations.AgreeingResistancesAreRated : Prop :=
  ∀ (s : State) (p : Port) (period : BitVec 16), s.inReset = false → s.meter.inFlightChannel = some (.id p) →
    640 ≤ period.toNat → period.toNat < 65535 → s.meter.refLo.status = .valid → s.meter.refHi.status = .valid →
    let i := s.policy.active
    let tlo := s.meter.refLo.period.getD 0
    let thi := s.meter.refHi.period.getD 0
    let r := s.meter.port.get p
    let m := s.monitor.get p
    let b := s.book.get p
    let ohms := resolvedResistance period.toNat tlo thi i.params[11] i.params[12]
    let contains := fun (k : Fin 12) =>
      i.ratings[k].used = true ∧ i.ratings[k].minResistance ≤ ohms ∧ ohms ≤ i.ratings[k].maxResistance
    let near := fun (v : Nat) =>
      (((s.rail.get p).mv - v) + (v - (s.rail.get p).mv)) * 100 ≤ v * i.params[14]
    let unrated := fun (t : State) (c : UnratedCode) =>
      (t.meter.port.get p).result = .unrated ∧ (t.meter.port.get p).code = some c
        ∧ (t.meter.port.get p).measureFlag = false ∧ unratedDelivered p s t ∧ doneTold p s t
    tlo + 64 ≤ thi →
    ∃ t, exec (.portConversionEnd period) s = .next t ∧ ChangesOnly (portMeterParts p) s t
      ∧ (r.previous = none ∨
            (∃ o, r.previous = some o ∧ o / 32 < (ohms - o) + (o - ohms) ∧ r.attempts + 1 < 4) →
          (t.meter.port.get p).previous = some ohms ∧ (t.meter.port.get p).result = r.result
            ∧ t.monitor.get p = m ∧ t.book.get p = b ∧ t.link.notices = s.link.notices
            ∧ (.id p ∈ t.meter.queue ∧ (t.meter.port.get p).phase = .queued
              ∨ t.meter.inFlightChannel = some (.id p) ∧ (t.meter.port.get p).phase = .converting))
      ∧ (∀ o, r.previous = some o → o / 32 < (ohms - o) + (o - ohms) → 4 ≤ r.attempts + 1 → unrated t .unstable)
      ∧ (∀ o, r.previous = some o → (ohms - o) + (o - ohms) ≤ o / 32 →
          (t.meter.port.get p).resistance = some ohms
            ∧ ((∀ k, ¬contains k) → unrated t .noMatch)
            ∧ (∀ k, contains k → (∀ j, j < k → ¬contains j) → ¬near i.ratings[k].voltage → unrated t .mismatch)
            ∧ (∀ k, contains k → (∀ j, j < k → ¬contains j) → near i.ratings[k].voltage →
                let v := i.ratings[k].voltage
                let ma := i.ratings[k].current
                let filled := fun (firstBook : Bool) =>
                  { b with
                    source := .legacy, generation := b.generation + 1, points := [markPoint .fixed v v ma false]
                    ratingEntry := some k.val, stamp := s.msCount, firstBook := firstBook }
                let agrees : Prop :=
                  b.ratingEntry = some k.val
                    ∧ ∃ q rest, b.points = q :: rest ∧ q.minVoltage = v ∧ q.maxCurrent = ma
                (t.meter.port.get p).result = .rated ∧ (t.meter.port.get p).entry = some k.val
                  ∧ (t.meter.port.get p).measureFlag = false ∧ doneTold p s t
                  ∧ (m.state = .measuring ∨ m.state = .mute →
                      t.monitor.get p = { m with state := .legacy } ∧ t.book.get p = filled false
                        ∧ t.link.notices.get (.partner p)
                            = some (postTo (s.link.notices.get (.partner p)) noticeLegacy (snapshotOf 5 4 0 0)
                                s.msCount)
                        ∧ t.sequencer.demands.get p
                            = (if b.firstBook then { s.sequencer.demands.get p with attach := true }
                              else { s.sequencer.demands.get p with revise := true }))
                  ∧ (m.state ≠ .measuring → m.state ≠ .mute →
                      t.monitor.get p = m
                        ∧ t.link.notices.get (.partner p) = s.link.notices.get (.partner p))
                  ∧ (m.state = .legacy → ¬agrees →
                      t.book.get p = filled b.firstBook
                        ∧ t.sequencer.demands.get p = { s.sequencer.demands.get p with revise := true })
                  ∧ ((m.state = .legacy ∧ agrees) ∨ (m.state ≠ .measuring ∧ m.state ≠ .mute ∧ m.state ≠ .legacy) →
                      t.book.get p = b ∧ t.sequencer.demands.get p = s.sequencer.demands.get p)))

/-! ### Selection and the Path Sequencer (06, 07) -/

/-- The sequencer takes the highest class pending, of the first port in rotation that holds it, clears that port's
pending set, runs Selection and records the run. A plan in force ends the service UNCHANGED; otherwise the transition
runs, its ceiling bounded by the limit before it and by the plan's own, with every joining port cut from supply (R93,
R115 to R119). -/
def Obligations.TakeDemandRunsSelection : Prop :=
  ∀ (s : State) (cls : DemandClass) (p : Port), s.inReset = false → s.sequencer.inService = none →
    let rank := fun (c : DemandClass) =>
      match c with
      | .loss => 0
      | .revise => 1
      | .attach => 2
      | .review => 3
    let turn := fun (q : Port) => (q - s.sequencer.rotation - 1).val
    let plan := selectPlan s
    let drawing := fun (e : PlanEntry) =>
      e.action.isClaim = false ∧ (s.contract.get e.port).state = .active
        ∧ (s.contract.get e.port).drawClosed = true ∧ (s.contract.get e.port).role = e.role
    let inForce : Prop :=
      (∀ q, q ∉ plan.ports → (s.contract.get q).drawClosed = false ∧ (s.contract.get q).state = .idle)
        ∧ match plan with
          | .draw e none => drawing e
          | .draw e (some e') => drawing e ∧ drawing e'
          | .base b => (s.contract.get b.port).state = .base ∧ (s.contract.get b.port).drawClosed = true
          | .empty => True
    (s.sequencer.demands.get p).has cls = true →
    (∀ c q, rank c < rank cls → (s.sequencer.demands.get q).has c = false) →
    (∀ q, (s.sequencer.demands.get q).has cls = true → turn p ≤ turn q) →
    ∃ t, exec .takeDemand s = .next t
      ∧ t.lastPlan = some { plan := plan, cls := cls, port := p, ms := s.msCount }
      ∧ t.sequencer.demands = s.sequencer.demands.set p DemandSet.none
      ∧ (inForce → t.sequencer.inService = none ∧ t.sequencer.rotation = p
          ∧ ChangesOnly [.lastPlan, .demands p, .service] s t)
      ∧ (¬inForce →
          (t.sequencer.inService = some p ∧ t.sequencer.transition.isSome = true
              ∧ (plan ≠ .empty →
                  t.limit.ceiling = some (min s.limit.published (planLimit s.policy.active plan))))
            ∨ (serviceEnded t ∧ t.sequencer.rotation = p))
      ∧ (¬inForce → (∀ r ∈ s.table.pool, r.branch ≠ 0) → ∀ q ∈ plan.ports, (s.contract.get q).drawClosed = false →
          t.portGrants q = [] ∧ t.supply.switchClosed.get q = false)
      ∧ ChangesOnly (.lastPlan :: sequencerParts) s t

/-- Selection's plan (R100 to R110). Where a candidate has an eligible point the plan is DRAW. Its primary draws the
leading port's best point where no port is the current primary; with a battery the leading port's where its score
exceeds the current primary's by the switch margin, and the current primary's best point otherwise; with no battery
the established point and voltage of the current primary, where that point can still serve it, and its best point
otherwise. The requested current is the usable one with no demand, else the least multiple of 10 mA that meets the
demand, from 500 mA to the usable current; the entry is KEEP where the established terms name the point and voltage
and grant from the request to 500 mA above it, and CLAIM otherwise. A secondary is added under shared draw, for the
demand that the primary leaves, at the primary's voltage, from the best point of another port there, and not below 500
mA. With no eligible point the plan is EMPTY with a battery, and otherwise BASE at the port in state BASE that
qualifies, else at the lowest that does. The lowest of several ports that hold a role is the current primary by the
model's choice (log entry 33). -/
def Obligations.SelectionTakesTheBestPoints : Prop :=
  ∀ s : State,
    let i := s.policy.active
    let demand := s.supervisor.demand
    let battery : Prop := s.supervisor.batteryPresent = true
    let chosen := fun (x : Eligible) (v : Nat) =>
      (v = x.effective ∧ s.isLeading x ∧ ¬∃ c, s.isCurrent c)
        ∨ (battery ∧ v = x.effective ∧ ∃ l c, s.isLeading l ∧ s.isCurrent c
            ∧ ((l.port ≠ c.port ∧ c.valueAt c.effective * (100 + i.params[6]) < l.valueAt l.effective * 100 ∧ x = l)
              ∨ ((l.port = c.port
                    ∨ l.valueAt l.effective * 100 ≤ c.valueAt c.effective * (100 + i.params[6])) ∧ x = c)))
        ∨ (¬battery ∧ ∃ c, s.isCurrent c ∧ x.port = c.port
            ∧ ((∃ g, (s.contract.get c.port).established = some g ∧ s.isEligible x ∧ x.index = g.point
                  ∧ serves i x.rule x.point g.voltage ∧ v = g.voltage)
              ∨ (¬∃ g y, (s.contract.get c.port).established = some g ∧ s.isEligible y ∧ y.port = c.port
                    ∧ y.index = g.point ∧ serves i y.rule y.point g.voltage) ∧ x = c ∧ v = x.effective))
    let atVoltage := fun (p : Port) (v : Nat) (x : Eligible) =>
      s.isEligible x ∧ x.port ≠ p ∧ serves i x.rule x.point v
    let best := fun (p : Port) (v : Nat) (x : Eligible) =>
      atVoltage p v x ∧ ∀ y, atVoltage p v y → y ≠ x →
        if y.port = x.port then
          y.valueAt v < x.valueAt v ∨ y.valueAt v = x.valueAt v ∧ x.index < y.index
        else (∀ z, atVoltage p v z → z.port = y.port → z ≠ y →
              z.valueAt v < y.valueAt v ∨ z.valueAt v = y.valueAt v ∧ y.index < z.index) →
          s.portFirst x.port y.port (x.valueAt v) (y.valueAt v)
    let qualifies := fun (p : Port) =>
      s.attached p = true ∧ (s.monitor.get p).barred = false ∧ (s.monitor.get p).failures ≠ 3
        ∧ s.supply.switchClosed.get p = false ∧ 4500 ≤ (s.rail.get p).mv ∧ (s.rail.get p).mv ≤ 20500
    let inBase := fun (p : Port) => (s.contract.get p).state = .base ∧ qualifies p
    ((∃ x, s.isEligible x) →
      ∃ e sec x v q, selectPlan s = .draw e sec ∧ chosen x v ∧ s.entryDraws .primary e x v q
        ∧ (demand = 0 → q = x.usable)
        ∧ (∀ n, demand ≠ 0 → 0 < v → leastCurrent demand v n → q = max (min x.usable n) 500)
        ∧ (i.params[7] ≠ 1 ∨ demand = 0 ∨ demand ≤ x.powerAt v → sec = none)
        ∧ (i.params[7] = 1 → demand ≠ 0 → x.powerAt v < demand →
            ((¬∃ y, atVoltage x.port v y) → sec = none)
              ∧ ∀ y n, best x.port v y → 0 < v → leastCurrent (demand - x.powerAt v) v n →
                  (min y.usable n < 500 → sec = none)
                    ∧ (500 ≤ min y.usable n →
                        ∃ e', sec = some e' ∧ s.entryDraws .secondary e' y v (min y.usable n))))
    ∧ ((¬∃ x, s.isEligible x) →
        (battery ∨ (∀ p, ¬qualifies p) → selectPlan s = .empty)
          ∧ (∀ p, ¬battery → qualifies p →
              (inBase p ∧ (∀ q, inBase q → p ≤ q)) ∨ ((∀ q, ¬inBase q) ∧ ∀ q, qualifies q → p ≤ q) →
              ∃ v, selectPlan s = .base { port := p, voltage := v, allowance := 500 }
                ∧ (∀ w, (s.contract.get p).state = .base → (s.contract.get p).base = some w → v = w)
                ∧ ((s.contract.get p).state ≠ .base → (s.rail.get p).mv ≤ 5500 → v = 5000)
                ∧ ((s.contract.get p).state ≠ .base → 5500 < (s.rail.get p).mv →
                    v % 100 = 0 ∧ v ≤ (s.rail.get p).mv ∧ (s.rail.get p).mv < v + 100)))

/-- Every entry of a draw plan names a port that may be drawn from (R95): TALKING and supplying, or LEGACY, neither
barred nor cooling nor shunned; its point is a usable one of the book, made eligible by an ACCEPT rule (R96), and its
requested current lies from 500 mA to the usable current of R99. A secondary is on another port at the primary's
voltage, and only under shared draw with a demand to meet (R106, R107). A base entry names a port that qualifies
(R109). -/
def Obligations.PlansNamePortsThatMayBeDrawnFrom : Prop :=
  ∀ s : State,
    let i := s.policy.active
    let fit := fun (e : PlanEntry) =>
      (((s.monitor.get e.port).state = .talking ∧ s.supplies e.port = true) ∨ (s.monitor.get e.port).state = .legacy)
        ∧ (s.monitor.get e.port).barred = false ∧ (s.monitor.get e.port).coolOff = none
        ∧ (s.monitor.get e.port).failures ≠ 3
        ∧ (∃ q, (s.book.get e.port).points[e.point - 1]? = some q ∧ 1 ≤ e.point ∧ q.mark = .usable
            ∧ e.usable ≤ q.maxCurrent
            ∧ ∃ r, i.rules[e.rule]? = some r ∧ r.action = .accept ∧ r.matchesPoint i q = true
                ∧ e.usable ≤ r.cap ∧ e.weight = r.weight ∧ e.derate = r.derate ∧ e.settle = r.settle)
        ∧ e.usable ≤ i.connectorLimit e.port ∧ 500 ≤ e.requested ∧ e.requested ≤ e.usable
        ∧ e.generation = (s.book.get e.port).generation
    (∀ e sec, selectPlan s = .draw e sec →
      fit e ∧ e.role = .primary
        ∧ ∀ e', sec = some e' → fit e' ∧ e'.role = .secondary ∧ e'.port ≠ e.port ∧ e'.voltage = e.voltage
            ∧ i.params[7] = 1 ∧ s.supervisor.demand ≠ 0 ∧ e.derated < s.supervisor.demand)
    ∧ (∀ b, selectPlan s = .base b →
      s.supervisor.batteryPresent = false ∧ s.attached b.port = true ∧ (s.monitor.get b.port).barred = false
        ∧ (s.monitor.get b.port).failures ≠ 3 ∧ s.supply.switchClosed.get b.port = false
        ∧ 4500 ≤ (s.rail.get b.port).mv ∧ (s.rail.get b.port).mv ≤ 20500 ∧ b.allowance = 500)

/-- A claim whose settle count has reached ten makes the pending terms the established terms, with the granted
current, clears the failure count and the port's counts, and the limit is recomputed; the transition goes on with the
secondary's claim or, where none is to be claimed, with the switching of SwitchingTakesOneOfThreeWays (R117, R123,
R142). That a count of ten stands until this row is taken is the model's choice (log entry 14), and that the settle
count of the settled record is 0 its reading (log entry 24). -/
def Obligations.SettledClaimIsEstablished : Prop :=
  ∀ (s : State) (tr : Transition) (e : PlanEntry) (sec : Option PlanEntry) (p : Port) (pt : PendingTerms)
      (g : GrantDetails), s.inReset = false → s.sequencer.transition = some tr → tr.plan = .draw e sec →
    (tr.stage = .claimPrimary ∧ p = e.port ∨ ∃ e', sec = some e' ∧ tr.stage = .claimSecondary ∧ p = e'.port) →
    (∀ e', sec = some e' → e'.port ≠ e.port) → p ∉ tr.leaving →
    (s.contract.get p).state = .settling → (s.contract.get p).settleCount = 10 →
    (s.contract.get p).pending = some pt → (s.contract.get p).details = some g →
    let u := settleContract p s
    (u.contract.get p
        = { s.contract.get p with
            state := .active, base := none, pending := none, details := none, readyTimer := none, settleTimer := none
            settleCount := 0
            established := some
              { point := pt.point, generation := pt.generation, voltage := pt.voltage, granted := g.current,
                derate := pt.derate, weight := pt.weight, settle := pt.settle, source := pt.source } }
      ∧ u.monitor.get p = { s.monitor.get p with failures := 0 }
      ∧ u.drawMonitor.get p
          = { s.drawMonitor.get p with railLost := 0, overvoltage := 0, sag := 0, overdraw := 0 }
      ∧ u.limit.allowanceSum = allowanceSumOf u.contract
      ∧ ChangesOnly [.contract p, .monitor p, .drawMonitor p, .limit] s u)
    ∧ ∃ t, exec (.claimSettled p) s = .next t
      ∧ (t.contract.get p).state = .active ∧ (t.contract.get p).base = none
      ∧ (t.contract.get p).pending = none ∧ (t.contract.get p).details = none
      ∧ (t.contract.get p).established
          = some { point := pt.point, generation := pt.generation, voltage := pt.voltage, granted := g.current,
                   derate := pt.derate, weight := pt.weight, settle := pt.settle, source := pt.source }
      ∧ (t.monitor.get p).failures = 0
      ∧ ((∀ e', sec = some e' → p = e.port → e'.action ≠ .claim) → t = switching u)
      ∧ (∀ e', sec = some e' → p = e.port → e'.action = .claim →
          t.sequencer.inService = s.sequencer.inService ∧ (t.contract.get e'.port).pending = some e'.pendingTerms
            ∧ ((t.contract.get e'.port).state = .claiming ∨ (t.contract.get e'.port).state = .settling))
      ∧ ChangesOnly sequencerParts s t

/-- The expiry of a claim's settle timer, at its settle time and before ten in-band samples, fails it NO-SETTLE, that
of its ready timer, 50 ms past the ready time, fails it NO-READY; a claim that had been granted on the talk line is
released (R122, R123, R127). A row whose time has not come changes nothing, a count of ten stands until it is taken,
and the settle count of a failed claim is 0 (the model's choices and reading: log entries 13, 14, 15 and 24). -/
def Obligations.ClaimTimersFailTheClaim : Prop :=
  ∀ (s : State) (p : Port), s.inReset = false →
    let c := s.contract.get p
    let granted : Prop := ∃ pt, c.pending = some pt ∧ pt.source = .talk
    let settles : Prop :=
      c.state = .settling ∧ c.settleCount ≠ 10 ∧ ∃ pt, c.pending = some pt ∧ hasRun c.settleTimer pt.settle
    let readies : Prop :=
      c.state = .awaiting ∧ hasRun c.readyTimer (((c.details.bind GrantDetails.ready).getD 0) + 50)
    (settles →
      ∃ t, exec (.settleTimerExpiry p) s = .next t ∧ claimFailed p .noSettle s t
        ∧ (granted → s.lineQuiet p → (t.framer.get p).sending = some (.engine .release))
        ∧ (¬granted → t.framer.get p = s.framer.get p))
    ∧ (¬settles → exec (.settleTimerExpiry p) s = .next s)
    ∧ (readies →
      ∃ t, exec (.readyTimerExpiry p) s = .next t ∧ claimFailed p .noReady s t
        ∧ (granted → s.lineQuiet p → (t.framer.get p).sending = some (.engine .release))
        ∧ (¬granted → t.framer.get p = s.framer.get p))
    ∧ (¬readies → exec (.readyTimerExpiry p) s = .next s)

/-- The way of switching (R124 to R126). Where every leaving port that draws and every joining port is ACTIVE at one
voltage, or no leaving port draws, the joining ports are closed with their roles, the leaving ports opened and
dropped, and the transition ends with the ceiling removed and the trim 0. In every other case, with a battery the
leaving ports are opened and the break interval of 5 ms runs, at whose expiry the joining ports are closed and the
transition ends; with no battery it is HELD: no draw switch moves, and every joining port takes role NONE. A row of
the expiry whose time has not come changes nothing (the model's choice: log entries 13 and 15). That the ports that
stepped out are joining ports here, and that the settle count of a base entry's port is 0, is the model's reading (log
entries 24 and 34). -/
def Obligations.SwitchingTakesOneOfThreeWays : Prop :=
  ∀ (s : State) (tr : Transition), s.sequencer.transition = some tr →
    let oneVoltage : Prop := ∃ v, ∀ p, s.joins tr p ∨ s.leavesClosed tr p → s.drawsAt p v
    let noneLeaves : Prop := ∀ p, ¬s.leavesClosed tr p
    let service := s.servicePort
    ((∀ p ∈ tr.leaving, p ∉ tr.plan.ports) →
      let t := switching s
      (oneVoltage ∨ noneLeaves →
        switchingDone tr s t ∧ ∀ p, p ∉ tr.plan.ports →
          (t.contract.get p).drawClosed = if p ∈ tr.leaving then false else (s.contract.get p).drawClosed)
      ∧ (¬oneVoltage → ¬noneLeaves → s.supervisor.batteryPresent = true →
          t.sequencer = { s.sequencer with transition := some { tr with stage := .breaking 0 } }
            ∧ (∀ p ∈ tr.leaving, t.contract.get p = { s.contract.get p with drawClosed := false })
            ∧ (∀ p, p ∉ tr.leaving → (t.contract.get p).drawClosed = (s.contract.get p).drawClosed)
            ∧ (∀ p, p ∉ tr.leaving → (∀ b, tr.plan ≠ .base b) → t.contract.get p = s.contract.get p)
            ∧ t.limit.ceiling = s.limit.ceiling ∧ t.limit.allowanceSum = allowanceSumOf t.contract
            ∧ ChangesOnly (everyPort .contract ++ everyPort .drawMonitor ++ [.limit, .service]) s t)
      ∧ (¬oneVoltage → ¬noneLeaves → s.supervisor.batteryPresent = false →
          serviceEnded t ∧ t.sequencer.rotation = service
            ∧ (∀ p, s.joins tr p → t.contract.get p = { s.contract.get p with role := .none, lastOutcome := .held })
            ∧ (∀ p, ¬s.joins tr p → t.contract.get p = s.contract.get p)
            ∧ (∃ k, t.link.notices.get (.contract service)
                = some (postTo (s.link.notices.get (.contract service)) 0x03 k s.msCount))
            ∧ ChangesOnly (everyPort .contract ++ [.limit, .service, .notice (.contract service)]) s t))
    ∧ (∀ n, s.inReset = false → tr.stage = .breaking n → 5 ≤ n →
        ∃ t, exec .breakIntervalExpiry s = .next t ∧ switchingDone tr s t
          ∧ (∀ p ∈ tr.plan.ports, p ∈ tr.joining ∨ p ∈ tr.steppedOut →
              (t.contract.get p).drawClosed = true ∧ (t.contract.get p).role = tr.plan.roleOf p
                ∧ (t.contract.get p).lastOutcome = .settled)
          ∧ (∀ p, p ∉ tr.plan.ports → (t.contract.get p).drawClosed = (s.contract.get p).drawClosed))
    ∧ ((∀ n, tr.stage = .breaking n → n < 5) → exec .breakIntervalExpiry s = .next s)

/-- A draw switch closes only at the taking of a demand, at a settled claim or at the end of a break interval, the
three events in which a transition switches (R112, R117, R124). -/
def Obligations.OnlyASwitchingClosesADrawSwitch : Prop :=
  ∀ (c : Instr) (s t : State) (p : Port), exec c s = .next t → (s.contract.get p).drawClosed = false →
    (t.contract.get p).drawClosed = true →
    c = .takeDemand ∨ c = .breakIntervalExpiry ∨ ∃ q, c = .claimSettled q

/-! ### The Limit Unit (08) -/

/-- A rail sample is kept as the port's latest; on a drawing port it raises each count whose test it meets and sets
the others to 0, the counts of a suspended test held at 0 and a completed protection taking the trim counts with it;
on a settling port it counts an in-band sample (R123, R142 to R148, R150). The completed counts that already stand are
the model's choice (log entry 14). -/
def Obligations.RailSampleMovesTheCounts : Prop :=
  ∀ (s : State) (p : Port) (mv ma : Nat), s.inReset = false →
    let c := s.contract.get p
    let d := s.drawMonitor.get p
    let volts := match c.established with
      | some e => e.voltage
      | none => c.base.getD 5000
    let amps := match c.established with
      | some e => e.granted
      | none => 500
    let suspended : Prop := c.state = .awaiting ∨ c.state = .settling ∨ d.descent.isSome = true
    let low := mv * 100 < volts * (100 - s.policy.active.params[10])
    ∃ t, exec (.railSample p mv ma) s = .next t
      ∧ t.rail.get p = { mv := mv, ma := ma }
      ∧ (c.drawClosed = false → t.drawMonitor.get p = d ∧ t.limit = s.limit)
      ∧ (c.drawClosed = true → suspended →
          (t.drawMonitor.get p).overvoltage = 0 ∧ (t.drawMonitor.get p).sag = 0 ∧ t.limit = s.limit)
      ∧ (c.drawClosed = true → d.railLost < 3 → d.overvoltage < 3 ∨ suspended →
          (t.drawMonitor.get p).railLost = (if mv < 4000 then d.railLost + 1 else 0)
            ∧ (¬suspended →
                (t.drawMonitor.get p).overvoltage = (if volts * 110 < mv * 100 then d.overvoltage + 1 else 0)
                  ∧ t.limit
                      = { s.limit with
                          recovery := if low ∧ 0 < s.limit.trim then some 0 else s.limit.recovery })
            ∧ ((t.drawMonitor.get p).railLost = 3 ∨ (t.drawMonitor.get p).overvoltage = 3 →
                (t.drawMonitor.get p).sag = 0 ∧ (t.drawMonitor.get p).overdraw = 0)
            ∧ ((t.drawMonitor.get p).railLost < 3 → (t.drawMonitor.get p).overvoltage < 3 →
                (d.sag < 8 → ¬suspended → (t.drawMonitor.get p).sag = (if low then d.sag + 1 else 0))
                  ∧ (d.overdraw < 16 →
                      (t.drawMonitor.get p).overdraw = (if amps * 115 < ma * 100 then d.overdraw + 1 else 0))))
      ∧ (t.drawMonitor.get p).descent = d.descent
      ∧ (c.state ≠ .settling → t.contract.get p = c)
      ∧ (∀ pt, c.state = .settling → c.pending = some pt → c.settleCount < 10 →
          t.contract.get p
            = { c with
                settleCount :=
                  if ((mv - pt.voltage) + (pt.voltage - mv)) * 100 ≤ pt.voltage * 5 then c.settleCount + 1 else 0 })
      ∧ ChangesOnly [.rail p, .drawMonitor p, .contract p, .limit] s t

/-- Three samples of a lost rail, or of too high a one, take the port out of the draw set at once: switch open, terms
cleared, LOSS raised, FAULT posted with the sample; a transition it is involved in is aborted and any other goes on;
an overvoltage also shuns the port, and a suspended overvoltage test takes nothing out (R12, R131 to R133, R143 to
R145). That the count stands until its row is taken is the model's choice (log entry 14), and a sample that does not
fit the snapshot's two bytes leaves them free (log entry 37). That the taking out and the shun are one event is the
model's choice (log entry 47). -/
def Obligations.ProtectionTakesThePortOut : Prop :=
  ∀ (s : State) (p : Port), s.inReset = false → (s.contract.get p).drawClosed = true →
    let d := s.drawMonitor.get p
    let suspended : Prop :=
      (s.contract.get p).state = .awaiting ∨ (s.contract.get p).state = .settling ∨ d.descent.isSome = true
    let mv := (s.rail.get p).mv
    let sample := if mv < 65536 then mv else Config.wideSample mv
    let takenOut := fun (t : State) (code : Byte) =>
      (t.contract.get p).state = .idle ∧ (t.contract.get p).role = .none
        ∧ (t.contract.get p).established = none ∧ (t.contract.get p).base = none
        ∧ (t.contract.get p).pending = none ∧ (t.contract.get p).details = none
        ∧ (t.contract.get p).drawClosed = false
        ∧ (∀ q, q ≠ p → (t.contract.get q).drawClosed = (s.contract.get q).drawClosed)
        ∧ (t.sequencer.demands.get p).loss = true
        ∧ t.drawMonitor.get p = { railLost := 0, overvoltage := 0, sag := 0, overdraw := 0, descent := none }
        ∧ t.limit.allowanceSum = allowanceSumOf t.contract
        ∧ (∀ tr, s.sequencer.transition = some tr →
            (tr.involves p = true → serviceEnded t)
              ∧ (tr.involves p = false →
                  t.sequencer.transition = some tr ∧ t.sequencer.inService = s.sequencer.inService))
        ∧ t.link.notices.get (.fault p)
            = some (postTo (s.link.notices.get (.fault p)) code (BitVec.ofNat 32 (sample % 65536)) s.msCount)
        ∧ ChangesOnly (.notice (.fault p) :: sequencerParts) s t
    (d.railLost = 3 →
      ∃ t, exec (.railLost p) s = .next t ∧ takenOut t 0x01
        ∧ (t.monitor.get p).failures = (s.monitor.get p).failures)
    ∧ (d.overvoltage = 3 → ¬suspended →
      ∃ t, exec (.overvoltage p) s = .next t ∧ takenOut t 0x02
        ∧ (t.monitor.get p).failures = 3 ∧ (t.monitor.get p).coolOff = none)
    ∧ (suspended → exec (.overvoltage p) s = .next s)

/-- A completed sag adds 100 mA to the trim, a completed overdraw 200 mA, never past the bound, and restarts the
recovery timer, whose expiry at 2,000 ms takes 100 mA off again; each recomputes the limit, and a suspended sag test
adds nothing (R138 to R141, R143, R147, R148, R150). That the counts stand until their rows are taken, and that a row
of the expiry whose time has not come changes nothing, is the model's choice (log entries 13, 14 and 15). -/
def Obligations.TrimRisesAndRecovers : Prop :=
  ∀ (s : State) (p : Port), s.inReset = false →
    let i := s.policy.active
    let bound := allowanceSumOf s.contract - i.params[8]
    let suspended : Prop :=
      (s.contract.get p).state = .awaiting ∨ (s.contract.get p).state = .settling
        ∨ (s.drawMonitor.get p).descent.isSome = true
    let set := fun (t : State) (trim : Nat) =>
      t.limit.trim = trim ∧ t.limit.trimBound = bound
        ∧ t.limit.raw = min (bound - trim) i.params[9]
        ∧ t.limit.published = (match s.limit.ceiling with
            | some c => min t.limit.raw c
            | none => t.limit.raw)
        ∧ t.limit.nextDuty
            = (if i.params[9] ≤ t.limit.published then 1000 else t.limit.published * 1000 / i.params[9])
        ∧ t.limit.duty = s.limit.duty ∧ t.limit.ceiling = s.limit.ceiling
        ∧ t.limit.recovery = (if trim = 0 then none else some 0)
    (¬hasRun s.limit.recovery 2000 → exec .recoveryTimerExpiry s = .next s)
    ∧ (suspended → exec (.sagTrim p) s = .next s)
    ∧ (s.limit.trimBound = bound → s.limit.trim ≤ bound →
      ((s.contract.get p).drawClosed = true → (s.drawMonitor.get p).sag = 8 → ¬suspended →
        ∃ t, exec (.sagTrim p) s = .next t ∧ set t (min (s.limit.trim + 100) bound)
          ∧ t.drawMonitor.get p = { s.drawMonitor.get p with sag := 0 }
          ∧ ChangesOnly [.limit, .drawMonitor p] s t)
      ∧ ((s.contract.get p).drawClosed = true → (s.drawMonitor.get p).overdraw = 16 →
        ∃ t, exec (.overdrawTrim p) s = .next t ∧ set t (min (s.limit.trim + 200) bound)
          ∧ t.drawMonitor.get p = { s.drawMonitor.get p with overdraw := 0 }
          ∧ ChangesOnly [.limit, .drawMonitor p] s t)
      ∧ (hasRun s.limit.recovery 2000 →
        ∃ t, exec .recoveryTimerExpiry s = .next t ∧ set t (s.limit.trim - 100) ∧ ChangesOnly [.limit] s t))

/-! ### The system link (10, 12) -/

/-- At the start of a limit-line period the next duty becomes the duty in effect (R141); the expiry of a descent
timer, at 500 ms, stops it (R143); a gap of 2 ms in a downlink frame drops it with LINK FORMAT (R170); an idle uplink
begins the head of the upstream queue when UHOLD is low, and a frame in sending goes on whatever UHOLD does (R174). A
row of an expiry whose time has not come changes nothing (the model's choice: log entries 13 and 15). -/
def Obligations.PacingEventsMoveOneItem : Prop :=
  ∀ (s : State) (p : Port), s.inReset = false →
    let l := s.link
    (∃ t, exec .limitPeriod s = .next t ∧ t.limit = { s.limit with duty := s.limit.nextDuty }
      ∧ ChangesOnly [.limit] s t)
    ∧ (hasRun (s.drawMonitor.get p).descent 500 →
        ∃ t, exec (.descentTimerExpiry p) s = .next t
          ∧ t.drawMonitor.get p = { s.drawMonitor.get p with descent := none } ∧ ChangesOnly [.drawMonitor p] s t)
    ∧ (¬hasRun (s.drawMonitor.get p).descent 500 → exec (.descentTimerExpiry p) s = .next s)
    ∧ (∀ r, l.reception = some r → 2 ≤ r.gap →
        ∃ t, exec .byteGapTimeout s = .next t ∧ t.link.reception = none ∧ t.link.receive = l.receive
          ∧ t.link.notices.get .link = some (postTo (l.notices.get .link) 0x01 0 s.msCount)
          ∧ ChangesOnly [.receive, .notice .link] s t)
    ∧ ((∀ r, l.reception = some r → r.gap < 2) → exec .byteGapTimeout s = .next s)
    ∧ (∀ high, ∃ t, exec (.uholdChange high) s = .next t ∧ t.link.uhold = high
        ∧ (∀ f rest, high = false → l.uplink = none → l.upstream = f :: rest →
            t.link.uplink = some f ∧ t.link.upstream = rest)
        ∧ (high = true ∨ l.uplink ≠ none ∨ l.upstream = [] →
            t.link.uplink = l.uplink ∧ t.link.upstream = l.upstream)
        ∧ ChangesOnly [.uplink] s t)
    ∧ (∀ g, l.uplink = some g →
        ∃ t, exec .uplinkFrameEnd s = .next t ∧ t.link.uhold = l.uhold
          ∧ (∀ f rest, l.uhold = false → l.upstream = f :: rest →
              t.link.uplink = some f ∧ t.link.upstream = rest)
          ∧ (l.uhold = true ∨ l.upstream = [] → t.link.uplink = none ∧ t.link.upstream = l.upstream)
          ∧ ChangesOnly [.uplink] s t)

/-- The bytes of a downlink frame, laid out with its length and check, are read back as that frame. A COMMAND or
RELAY-DOWN that finds room joins the receive buffer, restarts the silence timer and ends autonomous mode; one that
finds four is dropped OVERRUN, another kind KIND, a wrong check CHECK, a length above 32 FORMAT. A dropped frame
changes no stored one, and bytes before a start byte are ignored (R169 to R171, R189, R192, R195). That the row
carries bytes, those of dropped frames too, is the model's reading (log entry 8). -/
def Obligations.LinkFramesAreStoredOrDropped : Prop :=
  ∀ (s : State) (f : LinkFrame), s.inReset = false → s.link.reception = none → f.payload.length ≤ 32 →
    let good : Prop := f.kind = 0x01 ∨ f.kind = 0x02
    let header : List Byte := [f.kind, f.port, f.branch, BitVec.ofNat 8 f.payload.length]
    let frameBytes := fun (check : BitVec 16) =>
      (0x7E : Byte) :: (header ++ f.payload) ++ [check.extractLsb' 8 8, check.extractLsb' 0 8]
    let check := crc16 (header ++ f.payload)
    let dropped := fun (bytes : List Byte) (code : Byte) =>
      ∃ t, exec (.downlinkFrameStored bytes) s = .next t
        ∧ t.link.notices.get .link = some (postTo (s.link.notices.get .link) code 0 s.msCount)
        ∧ ChangesOnly [.notice .link] s t
    (good → s.link.receive.length < 4 →
      ∃ t, exec (.downlinkFrameStored (frameBytes check)) s = .next t
        ∧ t.link.receive = s.link.receive ++ [f] ∧ t.link.reception = none
        ∧ (t.drdy = true ↔ s.link.receive.length < 3)
        ∧ t.supervisor = { s.supervisor with silenceTimer := some 0, autonomous := false }
        ∧ ChangesOnly [.receive, .supervisor] s t)
    ∧ (good → 4 ≤ s.link.receive.length → dropped (frameBytes check) 0x04)
    ∧ (¬good → dropped (frameBytes check) 0x03)
    ∧ (∀ c, c ≠ check → dropped (frameBytes c) 0x02)
    ∧ (∀ length : Byte, 32 < length.toNat → dropped [0x7E, f.kind, f.port, f.branch, length] 0x01)
    ∧ (∀ bytes : List Byte, (0x7E : Byte) ∉ bytes → exec (.downlinkFrameStored bytes) s = .next s)

/-- Every stored frame that the decoder can take is carried out by its row as one event with exactly one REPLY; no
other event takes a frame from the buffer, and a command that is refused, found busy or invalid changes no state
(R172, R173). RESTART, which empties the buffer, has a statement of its own. Before a command is carried out, an
unknown code is refused UNKNOWN, then a wrong payload length LENGTH, then a port byte above 3 on a command that names
a port BADINDEX; the refusal changes no state (R173). A RELAY-DOWN of more than 28 payload bytes is refused LENGTH
(R178). That the length of a RELAY-DOWN is tested before its port is the model's reading (log entry 31), and the bytes
a reply cannot copy are free (log entry 5). -/
def Obligations.TakenFramesAreAnsweredOnce : Prop :=
  (∀ (s : State) (f : LinkFrame) (rest : List LinkFrame), s.headFrame f rest →
    (f.kind = 0x01 ∨ f.kind = 0x02 → f.isRestart = false →
      ∃ t body, exec (rowOfFrame f) s = .next t ∧ s.replies t f rest body)
    ∧ (f.kind = 0x01 → (∀ c ∈ commandCodes, f.code ≠ some c) →
        s.answersWith .unknownCommand f rest (.refused .unknown))
    ∧ (∀ c ∈ commandCodes, f.code = some c →
        (f.payload.length ≠ requiredLength c → s.answersWith (rowOfCode c) f rest (.refused .length))
          ∧ (f.payload.length = requiredLength c → c ∈ portCommands → 4 ≤ f.port.toNat →
              s.answersWith (rowOfCode c) f rest (.refused .badIndex)))
    ∧ (f.kind = 0x02 →
        (30 < f.payload.length → s.answersWith .relayDown f rest (.refused .length))
          ∧ (2 ≤ f.payload.length → f.payload.length ≤ 30 → 4 ≤ f.port.toNat →
              s.answersWith .relayDown f rest (.refused .badIndex))))
  ∧ ∀ (c : Instr) (s t : State), c ≠ .powerOnReset → c ≠ .restart → (∀ bytes, c ≠ .downlinkFrameStored bytes) →
      exec c s = .next t →
      t.link.receive = s.link.receive
        ∨ ∃ f rest body, s.headFrame f rest ∧ c = rowOfFrame f ∧ s.replies t f rest body
            ∧ ((∃ r, body = .refused r) ∨ body = .busy ∨ (∃ d, body = .invalid d) →
                ChangesOnly [.receive, .uplink] s t)

/-- READ commands and IDENTIFY answer DATA with a snapshot of the state they name, and a selector that names nothing is
refused BADINDEX, a pair with no record NO-RECORD; none changes any state, but for the latched view that READ PORT
clears (R21, R70, R83, R175). The shape of the data is the model's (log entry 10). -/
def Obligations.ReadsAnswerSnapshots : Prop :=
  ∀ (s : State) (f : LinkFrame) (rest : List LinkFrame),
    let asks := s.asked f rest
    let answers := fun (c : Instr) (body : ReplyBody) => s.answersWith c f rest body
    (asks 0x01 [] →
      answers .identify
        (.data (.identify Config.partCode Config.revision s.supervisor.straps (4 - s.supervisor.straps.toNat % 4)
          s.supervisor.autonomous)))
    ∧ (∀ p, f.names p →
        let m := s.monitor.get p
        let x := s.framer.get p
        let c := s.contract.get p
        let b := s.book.get p
        (asks 0x02 [] →
          ∃ t, exec .readPort s = .next t
            ∧ s.replies t f rest
                (.data (.port m.state (s.classView p) m.presence m.probeCount m.failures m.coolOff m.barred x.unsound
                  x.badCount x.latchedUnsound (s.rail.get p)))
            ∧ t.framer.get p = { x with latchedUnsound := false }
            ∧ ChangesOnly [.receive, .uplink, .framer p] s t)
        ∧ (asks 0x03 [0] →
            answers .readBook
              (.data (.bookHeader b.source b.generation b.points.length b.ratingEntry b.stamp b.firstBook s.msCount)))
        ∧ (∀ k : Byte, k ≠ 0 → asks 0x03 [k] →
            (∀ q, b.points[k.toNat - 1]? = some q → answers .readBook (.data (.bookPoint q)))
              ∧ (b.points.length < k.toNat → answers .readBook (.refused .badIndex)))
        ∧ (asks 0x04 [0] →
            answers .readContract
              (.data (.contractState c.state c.role c.drawClosed c.base c.settleCount c.lastOutcome)))
        ∧ (asks 0x04 [1] → answers .readContract (.data (.contractTerms c.established)))
        ∧ (asks 0x04 [2] → answers .readContract (.data (.contractPending c.pending c.details)))
        ∧ (∀ k : Byte, 2 < k.toNat → asks 0x04 [k] → answers .readContract (.refused .badIndex))
        ∧ (asks 0x05 [] →
            (6 < f.branch.toNat → answers .readPartner (.refused .badIndex))
              ∧ (f.branch.toNat ≤ 6 → s.hasRecord p f.branch.toNat = false →
                  answers .readPartner (.refused .noRecord))
              ∧ (f.branch.toNat ≤ 6 → s.hasRecord p f.branch.toNat = true →
                  answers .readPartner
                    (.data (.partner p f.branch.toNat (if f.branch.toNat = 0 then s.table.own.get p else none)
                      ((s.grantOf p f.branch.toNat).map fun g => { current := g.current, order := g.order }))))))
    ∧ (asks 0x06 [0] →
        answers .readLimit
          (.data (.limits s.limit.raw s.limit.ceiling s.limit.trim s.limit.trimBound s.limit.published
            s.limit.nextDuty s.limit.duty s.drawSet s.limit.recovery)))
    ∧ (asks 0x06 [1] →
        answers .readLimit (.data (.planHeader (s.lastPlan.map fun r => (r.plan.kind, r.cls, r.port, r.ms)))))
    ∧ (asks 0x06 [2] →
        (∀ r e sec, s.lastPlan = some r → r.plan = .draw e sec →
            answers .readLimit (.data (.planPrimary (some e) none)))
          ∧ (∀ r b, s.lastPlan = some r → r.plan = .base b →
              answers .readLimit (.data (.planPrimary none (some b))))
          ∧ ((∀ r, s.lastPlan = some r → r.plan = .empty) →
              answers .readLimit (.data (.planPrimary none none))))
    ∧ (asks 0x06 [3] →
        (∀ r e sec, s.lastPlan = some r → r.plan = .draw e sec →
            answers .readLimit (.data (.planSecondary sec)))
          ∧ ((∀ r e sec, s.lastPlan = some r → r.plan ≠ .draw e sec) →
              answers .readLimit (.data (.planSecondary none))))
    ∧ (∀ k : Byte, 3 < k.toNat → asks 0x06 [k] → answers .readLimit (.refused .badIndex))
    ∧ (asks 0x07 [0] →
        answers .readSupply
          (.data (.supplySummary s.supply.budget s.reserved s.supply.orderCounter s.supply.switchClosed
            s.grants.length s.supply.waitList.length)))
    ∧ (∀ (n : Fin 16) (k : Byte), k.toNat = 0x10 + n.val → asks 0x07 [k] →
        (∀ g, s.grantsByOrder[n.val]? = some g → answers .readSupply (.data (.supplyGrant g)))
          ∧ (s.grantsByOrder.length ≤ n.val → answers .readSupply (.refused .badIndex)))
    ∧ (∀ (n : Fin 8) (k : Byte), k.toNat = 0x40 + n.val → asks 0x07 [k] →
        (∀ w, s.supply.waitList[n.val]? = some w → answers .readSupply (.data (.supplyWait w)))
          ∧ (s.supply.waitList.length ≤ n.val → answers .readSupply (.refused .badIndex)))
    ∧ (∀ k : Byte,
        (0 < k.toNat ∧ k.toNat < 0x10) ∨ (0x20 ≤ k.toNat ∧ k.toNat < 0x40) ∨ 0x48 ≤ k.toNat →
        asks 0x07 [k] → answers .readSupply (.refused .badIndex))
    ∧ (s.grantsByOrder.Perm s.grants ∧ s.grantsByOrder.Pairwise fun g h => g.grant.order ≤ h.grant.order)
    ∧ (let status : MeterStatus :=
        { loStatus := s.meter.refLo.status, loPeriod := s.meter.refLo.period, hiStatus := s.meter.refHi.status
          hiPeriod := s.meter.refHi.period, refreshCount := s.meter.refreshCount
          inFlight := s.meter.inFlight.map Conversion.channel, queue := s.meter.queue }
      (∀ (p : Port) (k : Byte), k.toNat = p.val → asks 0x08 [k] →
        answers .readMeter (.data (.meterPort (s.meter.port.get p) status)))
      ∧ (asks 0x08 [4] → answers .readMeter (.data (.meterReference s.meter.refLo status)))
      ∧ (asks 0x08 [5] → answers .readMeter (.data (.meterReference s.meter.refHi status)))
      ∧ ∀ k : Byte, 5 < k.toNat → asks 0x08 [k] → answers .readMeter (.refused .badIndex))
    ∧ (∀ bank : Bool,
        let k : Byte := if bank then 1 else 0
        let i := if bank then s.policy.pendingBank else s.policy.active
        (∀ index, asks 0x15 [k, 4, index] →
          answers .readPolicy (.data (.policy (.storeStatus s.policy.pendingOpen s.policy.origin))))
        ∧ (bank = false ∨ s.policy.pendingOpen = true →
            (∀ (n : Fin 48) (index : Byte), index.toNat = n.val → asks 0x15 [k, 0, index] →
              answers .readPolicy (.data (.policy (.rule i.rules[n]))))
            ∧ (∀ index, asks 0x15 [k, 1, index] →
                answers .readPolicy (.data (.policy (.heads i.supplierHead i.dockHead i.legacyHead))))
            ∧ (∀ (n : Fin 12) (index : Byte), index.toNat = n.val → asks 0x15 [k, 2, index] →
                answers .readPolicy (.data (.policy (.rating i.ratings[n]))))
            ∧ (∀ (n : Fin 15) (index : Byte), index.toNat = n.val → asks 0x15 [k, 3, index] →
                answers .readPolicy (.data (.policy (.param n.val i.params[n]))))
            ∧ (∀ index : Byte, 47 < index.toNat → asks 0x15 [k, 0, index] →
                answers .readPolicy (.refused .badIndex))
            ∧ (∀ index : Byte, 11 < index.toNat → asks 0x15 [k, 2, index] →
                answers .readPolicy (.refused .badIndex))
            ∧ (∀ index : Byte, 14 < index.toNat → asks 0x15 [k, 3, index] →
                answers .readPolicy (.refused .badIndex)))
        ∧ (bank = true → s.policy.pendingOpen = false → ∀ n index : Byte, n.toNat < 4 →
            (n = 0 → index.toNat < 48) → (n = 2 → index.toNat < 12) → (n = 3 → index.toNat < 15) →
            asks 0x15 [k, n, index] → answers .readPolicy (.refused .notOpen)))
    ∧ (∀ bank item index : Byte, 1 < bank.toNat ∨ 4 < item.toNat → asks 0x15 [bank, item, index] →
        answers .readPolicy (.refused .badIndex))

/-! ### Commands that change settings (05, 10, 11) -/

/-- OPEN POLICY copies the whole ACTIVE image into PENDING, sets pending-open and replies OK, and changes nothing else
(R79). An APPLY that follows with no write between, from any state that holds the same Policy Store, passes if the
ACTIVE image does, and leaves an equal image ACTIVE. -/
def Obligations.OpenPolicyCopiesTheActiveImage : Prop :=
  ∀ (s : State) (f : LinkFrame) (rest : List LinkFrame), s.asked f rest 0x10 [] →
    ∃ t, exec .openPolicy s = .next t ∧ s.replies t f rest .ok
      ∧ t.policy.pendingBank = s.policy.active ∧ t.policy.pendingOpen = true
      ∧ t.policy.active = s.policy.active ∧ t.policy.origin = s.policy.origin
      ∧ ChangesOnly [.receive, .uplink, .policy] s t
      ∧ ∀ u g rest', u.policy = t.policy → s.imageValid → u.asked g rest' 0x16 [] →
          ∃ v, exec .applyPolicy u = .next v ∧ u.replies v g rest' .applied ∧ v.policy.active = s.policy.active

/-- WRITE RULE, WRITE HEADS, WRITE RATING and WRITE PARAMS put exactly the fields they carry into PENDING, out of
range or not, touch no other item and reply OK; each is refused NOT-OPEN while PENDING is closed, and BADINDEX where
the index names no item (R80 to R82). That WRITE RATING and WRITE PARAMS test NOT-OPEN first is the model's reading
(log entry 30). -/
def Obligations.WritesPutTheirRecordInPending : Prop :=
  ∀ (s : State) (f : LinkFrame) (rest : List LinkFrame),
    let old := s.policy.pendingBank
    let writes := fun (c : Instr) (i : PolicyImage) =>
      ∃ t, exec c s = .next t ∧ s.replies t f rest .ok
        ∧ t.policy = { s.policy with pendingBank := i } ∧ ChangesOnly [.receive, .uplink, .policy] s t
    (s.policy.pendingOpen = false →
      (∀ a, (s.asked f rest 0x11 a ∧ a.length = 13 → s.answersWith .writeRule f rest (.refused .notOpen))
        ∧ (s.asked f rest 0x12 a ∧ a.length = 3 → s.answersWith .writeHeads f rest (.refused .notOpen))
        ∧ (s.asked f rest 0x13 a ∧ a.length = 12 → s.answersWith .writeRating f rest (.refused .notOpen))
        ∧ (s.asked f rest 0x14 a ∧ a.length = 5 → s.answersWith .writeParams f rest (.refused .notOpen))))
    ∧ (s.policy.pendingOpen = true → ∀ index : Byte,
        (∀ r : Rule, r.storable = true → s.asked f rest 0x11 (index :: bytesOfRule r) →
          (∀ h : index.toNat < 48, writes .writeRule { old with rules := old.rules.set index.toNat r h })
            ∧ (47 < index.toNat → s.answersWith .writeRule f rest (.refused .badIndex)))
        ∧ (∀ a b c : BitVec 6, s.asked f rest 0x12 [a.zeroExtend 8, b.zeroExtend 8, c.zeroExtend 8] →
            writes .writeHeads
              { old with supplierHead := a.toNat, dockHead := b.toNat, legacyHead := c.toNat })
        ∧ (∀ r : Rating, r.storable = true → s.asked f rest 0x13 (index :: bytesOfRating r) →
            (∀ h : index.toNat < 12, writes .writeRating { old with ratings := old.ratings.set index.toNat r h })
              ∧ (11 < index.toNat → s.answersWith .writeRating f rest (.refused .badIndex)))
        ∧ (∀ v : BitVec 32, s.asked f rest 0x14 (index :: fourBytes v.toNat) →
            (∀ h : index.toNat < 15,
              writes .writeParams
                { old with params := old.params.set index.toNat (v.toNat * paramStep index.toNat) h })
              ∧ (14 < index.toNat → s.answersWith .writeParams f rest (.refused .badIndex))))

/-- Every field of a rule and of a rating entry, at every value its bits can carry, is read back from the bytes of its
record (section 12.2). The bytes of an uplink frame are those of R195 to R197. A link frame begins with its start
byte, kind, port, branch and length and ends with its check; a REPLY's payload is the tag, the command code answered,
the status code, then the reason, the failing item of an INVALID, or the data, and a RELAY-UP's is the kind and the
payload of its frame. A taken notice, a rule and a rating are data in the manual's own bytes. Any other data are the
fields of its layout one after another, within the 29 bytes that are left, each field a number of items at their bits
and sent most significant byte first, or a run of bytes as it stands (R196). The layout, the number of a kind without a
code or of an absent item, and the number of steps of a value that is no whole number of them, are free (log entry 10),
and that data longer than 29 bytes, as a captured frame of 28 payload bytes may be, are cut there is the model's choice
(log entry 46). -/
def Obligations.RecordsAndRepliesAreLaidOut : Prop :=
  (∀ r : Rule, r.storable = true → ruleOfBytes (bytesOfRule r) = r ∧ (bytesOfRule r).length = 12)
  ∧ (∀ r : Rating, r.storable = true → ratingOfBytes (bytesOfRating r) = r ∧ (bytesOfRating r).length = 11)
  ∧ (∀ f : LinkFrame,
      let covered : List Byte := [f.kind, f.port, f.branch, BitVec.ofNat 8 f.payload.length] ++ f.payload
      let check := crc16 covered
      f.bytes = (0x7E : Byte) :: covered ++ [check.extractLsb' 8 8, check.extractLsb' 0 8])
  ∧ (∀ u : UplinkFrame, u.bytes = u.frame.bytes)
  ∧ (∀ (p : Port) (b : BitVec 3) (kind : BitVec 6) (payload : List Byte),
      (UplinkFrame.relayUp p b kind payload).frame
        = { kind := 0x82, port := BitVec.ofNat 8 p.val, branch := b.zeroExtend 8
            payload := kind.zeroExtend 8 :: payload })
  ∧ ∀ (port branch tag code : Byte) (body : ReplyBody),
      let u := UplinkFrame.reply port branch tag code body
      let sends := fun (rest : List Byte) =>
        u.frame = { kind := 0x81, port := port, branch := branch, payload := tag :: code :: rest }
      let reasons : List (RefusalReason × Byte) :=
        [(.unknown, 0x01), (.length, 0x02), (.badIndex, 0x03), (.notOpen, 0x04), (.invalid, 0x05), (.powerKind, 0x06),
         (.notAttached, 0x07), (.badBranch, 0x08), (.range, 0x09), (.noRecord, 0x0A), (.empty, 0x0B)]
      let parts : List (ImagePart × Byte) :=
        [(.params, 0x01), (.rule, 0x02), (.head, 0x03), (.chain, 0x04), (.rating, 0x05)]
      let kinds : List (NoticeFlag × Byte × Byte) :=
        [(.silence, 0x01, 0), (.supply, 0x05, 0), (.meter, 0x07, 0), (.link, 0x08, 0)]
          ++ allPorts.flatMap fun p =>
              let n := BitVec.ofNat 8 p.val
              [(.fault p, 0x02, n), (.contract p, 0x03, n), (.partner p, 0x04, n), (.capture p, 0x06, n)]
      u.frame.payload.length ≤ 32
      ∧ (body = .ok → sends [0x00]) ∧ (body = .applied → sends [0x02]) ∧ (body = .busy → sends [0x03])
      ∧ (∀ r b, (r, b) ∈ reasons → body = .refused r → sends [0x04, b])
      ∧ (∀ part b k d, (part, b) ∈ parts → body = .invalid { part := part, index := k, detail := d } →
          sends [0x04, 0x05, b, BitVec.ofNat 8 k, BitVec.ofNat 8 d])
      ∧ (body = .data (.notice none) → sends (0x01 :: List.replicate 12 0))
      ∧ (∀ flag kind n notice, (flag, kind, n) ∈ kinds →
          body = .data (.notice (some { flag := flag, notice := notice })) →
          let s4 := fun (x : BitVec 32) (rest : List Byte) =>
            x.extractLsb' 24 8 :: x.extractLsb' 16 8 :: x.extractLsb' 8 8 :: x.extractLsb' 0 8 :: rest
          sends (0x01 :: kind :: n :: notice.code
            :: s4 notice.snapshot (s4 notice.ms [BitVec.ofNat 8 notice.posts])))
      ∧ (∀ r, body = .data (.policy (.rule r)) → sends (0x01 :: bytesOfRule r))
      ∧ (∀ r, body = .data (.policy (.rating r)) → sends (0x01 :: bytesOfRating r))
      ∧ (∀ d, body = .data d → ∃ rest, rest.length ≤ 29 ∧ sends (0x01 :: rest))
      ∧ (∀ d, body = .data d → (∀ n, d ≠ .notice n) → (∀ r, d ≠ .policy (.rule r)) →
          (∀ r, d ≠ .policy (.rating r)) →
          sends (0x01 :: ((Config.replyLayout d.command (d.items.map ReplyItem.blank)).flatMap
            (ReplyField.bytes d.command d.items)).take 29))
      ∧ (∀ (command : Nat) (items : List ReplyItem) (w : Nat) (parts : List (Nat × Nat)),
          let sent := ReplyField.bytes command items (.number w parts)
          sent.length = w
            ∧ sent.foldl (fun n b => n * 256 + b.toNat) 0
                = (parts.map fun q => (items.getD q.1 .absent).value command q.1 * 2 ^ q.2).sum % 256 ^ w)
      ∧ (∀ (command k : Nat) (items : List ReplyItem) (l : List Byte), items[k]? = some (.bytes l) →
          ReplyField.bytes command items (.run k) = l)

/-- An image passes the validation of APPLY exactly when none of its items fails a check; a failing one is answered with
the first item that fails, parameters before rules, heads, chains and ratings and each by index, and with the detail of
its first failing test (R84 to R87, R196). -/
def Obligations.ValidationFindsTheFirstFault : Prop :=
  ∀ i : PolicyImage,
    (validate i = none ↔ ∀ part k d, ¬itemFails i part k d)
    ∧ ∀ f, validate i = some f ↔
        itemFails i f.part f.index f.detail
          ∧ ∀ part k d, itemFails i part k d → ¬checkedBefore part k f.part f.index

/-- APPLY is refused NOT-OPEN while PENDING is closed. A PENDING image that fails a check is refused INVALID with that
item, and the store, the demands and every other state stand as they were (R84, R89). One that passes becomes ACTIVE
with origin LOADED and closes PENDING, raises REVIEW on every attached port, the Supply Unit rebalances from the old
source port limit and serves its wait list, as GrantsGiveWayFromTheNewest and ServiceTakesTheWaitListFromItsHead
state, and the limit is recomputed (R88). That all of these are done in the one event of APPLY, before any of the
REVIEWs can be taken, is the model's choice (log entry 45). -/
def Obligations.ApplyInstallsAValidImage : Prop :=
  ∀ (s : State) (f : LinkFrame) (rest : List LinkFrame), s.asked f rest 0x16 [] →
    (s.policy.pendingOpen = false → s.answersWith .applyPolicy f rest (.refused .notOpen))
    ∧ (∀ d, s.policy.pendingOpen = true → validate s.policy.pendingBank = some d →
        s.answersWith .applyPolicy f rest (.invalid d))
    ∧ (s.policy.pendingOpen = true → validate s.policy.pendingBank = none →
        ∃ t, exec .applyPolicy s = .next t ∧ s.replies t f rest .applied
          ∧ t.policy = { active := s.policy.pendingBank, pendingBank := s.policy.pendingBank,
                         pendingOpen := false, origin := .loaded }
          ∧ (∀ p, t.sequencer.demands.get p
              = if s.attached p then { s.sequencer.demands.get p with review := true }
                else s.sequencer.demands.get p)
          ∧ (let v := serve (rebalance s.policy.active.params[13]
                (reviewAttached { s.taken rest with policy := t.policy }))
            t.table = v.table ∧ t.supply = v.supply ∧ t.framer = v.framer
              ∧ t.link.notices = v.link.notices)
          ∧ t.limit.ceiling = s.limit.ceiling ∧ t.limit.duty = s.limit.duty
          ∧ t.limit.allowanceSum = allowanceSumOf s.contract
          ∧ t.limit.raw = min (t.limit.allowanceSum - s.policy.pendingBank.params[8] - t.limit.trim)
              s.policy.pendingBank.params[9]
          ∧ ChangesOnly ([.receive, .uplink, .policy, .limit] ++ everyPort .demands ++ supplyParts) s t)

/-- SET PLATFORM is checked whole and takes all four values together, or none with RANGE; a changed demand or
battery-present value raises REVIEW on every attached port, and a changed silence period restarts the timer (R177,
R188); the new budget is taken and the wait list served, as GrantsGiveWayFromTheNewest and
ServiceTakesTheWaitListFromItsHead state (R164). BAR PORT sets or clears the flag, raising REVIEW where it changes on
an attached port (R13). While the autonomous flag is set the timer stays stopped (log entry 26). That the battery and
action bytes are tested whole is the model's reading (log entry 32). -/
def Obligations.PlatformAndBarCommandsTakeTheirValues : Prop :=
  ∀ (s : State) (f : LinkFrame) (rest : List LinkFrame),
    let u := s.supervisor
    (∀ (demand : BitVec 32) (budget : BitVec 16) (battery silence : Byte),
      s.asked f rest 0x20 (fourBytes demand.toNat ++ twoBytes budget.toNat ++ [battery, silence]) →
      let accepted : Prop :=
        demand.toNat ≤ 100000 ∧ budget.toNat ≤ 60000 ∧ battery.toNat ≤ 1 ∧ silence.toNat ≠ 0
      let changed : Prop := demand.toNat ≠ u.demand ∨ (battery = 1) ≠ (u.batteryPresent = true)
      (¬accepted → s.answersWith .setPlatform f rest (.refused .range))
      ∧ (accepted →
          ∃ t, exec .setPlatform s = .next t ∧ s.replies t f rest .ok
            ∧ t.supervisor.demand = demand.toNat ∧ (t.supervisor.batteryPresent = true ↔ battery = 1)
            ∧ t.supervisor.silencePeriod = silence.toNat * 100 ∧ t.supervisor.straps = u.straps
            ∧ t.supervisor.autonomous = u.autonomous ∧ t.supply.budget = budget.toNat
            ∧ (u.autonomous = false → silence.toNat * 100 ≠ u.silencePeriod → t.supervisor.silenceTimer = some 0)
            ∧ (silence.toNat * 100 = u.silencePeriod → t.supervisor.silenceTimer = u.silenceTimer)
            ∧ (u.autonomous = true → t.supervisor.silenceTimer = u.silenceTimer)
            ∧ (changed → ∀ p, t.sequencer.demands.get p
                = if s.attached p then { s.sequencer.demands.get p with review := true }
                  else s.sequencer.demands.get p)
            ∧ (¬changed → t.sequencer.demands = s.sequencer.demands)
            ∧ (let v := serve (takeBudget budget.toNat { s.taken rest with supervisor := t.supervisor })
              t.table = v.table ∧ t.supply = v.supply ∧ t.framer = v.framer ∧ t.link.notices = v.link.notices)
            ∧ (s.supply.budget ≤ budget.toNat → s.supply.waitList = [] →
                t.table = s.table ∧ t.framer = s.framer)
            ∧ ChangesOnly
                ([.receive, .uplink, .supervisor, .budget] ++ everyPort .demands ++ supplyParts) s t))
    ∧ ∀ (p : Port) (action : Byte), f.names p → s.asked f rest 0x21 [action] →
        (1 < action.toNat → s.answersWith .barPort f rest (.refused .range))
        ∧ (action.toNat ≤ 1 →
            ∃ t, exec .barPort s = .next t ∧ s.replies t f rest .ok
              ∧ t.monitor.get p = { s.monitor.get p with barred := action == 1 }
              ∧ t.sequencer.demands.get p
                  = (if (s.monitor.get p).barred ≠ (action == 1) ∧ s.attached p = true then
                      { s.sequencer.demands.get p with review := true }
                    else s.sequencer.demands.get p)
              ∧ ChangesOnly [.receive, .uplink, .monitor p, .demands p] s t)

/-- MEASURE starts or joins a port's measurement with the measure flag set, or queues a reference with its flag set
(R61, R70). SET FRAME CLASS replaces one entry of the table (R25, R176). RELEASE CAPTURE answers the captured frame,
empties the slot and clears its notice, or is refused EMPTY (R179). TAKE NOTICE answers and clears the set flag of the
highest priority, or answers NONE (R181). That the kind and class bytes are tested whole is the model's reading (log
entry 32). -/
def Obligations.LinkCommandsActOnWhatTheyName : Prop :=
  ∀ (s : State) (f : LinkFrame) (rest : List LinkFrame),
    (∀ (p : Port) (k : Byte), k.toNat = p.val → s.asked f rest 0x09 [k] →
      ∃ t, exec .measure s = .next t ∧ s.replies t f rest .ok
        ∧ (t.meter.port.get p).measureFlag = true
        ∧ ((s.meter.port.get p).phase = .idle →
            (t.meter.port.get p).attempts = 0 ∧ (t.meter.port.get p).previous = none
              ∧ ((t.meter.port.get p).phase = .queued ∨ (t.meter.port.get p).phase = .converting))
        ∧ ((s.meter.port.get p).phase ≠ .idle →
            t.meter.port.get p = { s.meter.port.get p with measureFlag := true }
              ∧ t.meter.queue = s.meter.queue ∧ t.meter.inFlight = s.meter.inFlight)
        ∧ ChangesOnly ([.receive, .uplink, .converter] ++ everyPort .measure) s t)
    ∧ (∀ hi : Bool, s.asked f rest 0x09 [if hi then 5 else 4] →
        let c : Channel := if hi then .refHi else .refLo
        ∃ t, exec .measure s = .next t ∧ s.replies t f rest .ok
          ∧ (if hi then t.meter.refHi else t.meter.refLo)
              = { (if hi then s.meter.refHi else s.meter.refLo) with measureFlag := true }
          ∧ (if hi then t.meter.refLo else t.meter.refHi) = (if hi then s.meter.refLo else s.meter.refHi)
          ∧ (c ∈ t.meter.queue ∨ t.meter.inFlightChannel = some c)
          ∧ ChangesOnly ([.receive, .uplink, .converter, .references] ++ everyPort .measure) s t)
    ∧ (∀ k : Byte, 5 < k.toNat → s.asked f rest 0x09 [k] → s.answersWith .measure f rest (.refused .badIndex))
    ∧ (∀ kind code : Byte, s.asked f rest 0x22 [kind, code] →
        (kind.toNat < 0x10 ∨ 0x2F < kind.toNat → s.answersWith .setFrameClass f rest (.refused .badIndex))
        ∧ (0x10 ≤ kind.toNat → kind.toNat ≤ 0x2F → 2 < code.toNat →
            s.answersWith .setFrameClass f rest (.refused .range))
        ∧ (∀ n : Fin 32, kind.toNat = 0x10 + n.val → code.toNat ≤ 2 →
            ∃ t, exec .setFrameClass s = .next t ∧ s.replies t f rest .ok
              ∧ t.link.frameClass[n]
                  = (if code = 0 then .forward else if code = 1 then .discard else .capture)
              ∧ (∀ m : Fin 32, m ≠ n → t.link.frameClass[m] = s.link.frameClass[m])
              ∧ ChangesOnly [.receive, .uplink, .frameClass] s t))
    ∧ (∀ p : Port, f.names p → s.asked f rest 0x23 [] →
        ((s.framer.get p).capture = none → s.answersWith .releaseCapture f rest (.refused .empty))
        ∧ ∀ c, (s.framer.get p).capture = some c →
            ∃ t, exec .releaseCapture s = .next t ∧ s.replies t f rest (.data (.capture c))
              ∧ t.framer.get p = { s.framer.get p with capture := none }
              ∧ t.link.notices.get (.capture p) = none
              ∧ ChangesOnly [.receive, .uplink, .framer p, .notice (.capture p)] s t)
    ∧ (s.asked f rest 0x24 [] →
        ((∀ g, s.link.notices.get g = none) → s.answersWith .takeNotice f rest (.data (.notice none)))
        ∧ ∀ (before after : List NoticeFlag) (g : NoticeFlag) (n : Notice),
            noticeOrder = before ++ g :: after → (∀ h ∈ before, s.link.notices.get h = none) →
            s.link.notices.get g = some n →
            ∃ t, exec .takeNotice s = .next t
              ∧ s.replies t f rest (.data (.notice (some { flag := g, notice := n })))
              ∧ t.link.notices.get g = none ∧ ChangesOnly [.receive, .uplink, .notice g] s t)

/-- RELAY-DOWN is tested in order: a talk-line payload above 28 bytes LENGTH, a power kind POWER-KIND, a port that is
not TALKING NOT-ATTACHED, a branch the port does not have BADBRANCH, a relay queue of two BUSY; otherwise the frame
joins the tail of the relay queue, or begins to be sent on a quiet line, with OK (R178). -/
def Obligations.RelayDownQueuesOneFrame : Prop :=
  ∀ (s : State) (f : LinkFrame) (rest : List LinkFrame) (p : Port) (tag kind : Byte) (payload : List Byte),
    s.headFrame f rest → f.kind = 0x02 → f.payload = tag :: kind :: payload → f.names p → kind.toNat < 64 →
    let b := f.branch.toNat
    let power : Prop := 0x01 ≤ kind.toNat ∧ kind.toNat ≤ 0x0D
    let talking : Prop := (s.monitor.get p).state = .talking
    let badBranch : Prop := 7 ≤ b ∨ (1 ≤ b ∧ s.branchCount p < b)
    let relayed : RelayFrame := { kind := kind.truncate 6, branch := f.branch.truncate 3, payload := payload }
    (28 < payload.length → s.answersWith .relayDown f rest (.refused .length))
    ∧ (payload.length ≤ 28 →
        (power → s.answersWith .relayDown f rest (.refused .powerKind))
        ∧ (¬power → ¬talking → s.answersWith .relayDown f rest (.refused .notAttached))
        ∧ (¬power → talking → badBranch → s.answersWith .relayDown f rest (.refused .badBranch))
        ∧ (¬power → talking → ¬badBranch → 2 ≤ (s.framer.get p).relay.length →
            s.answersWith .relayDown f rest .busy)
        ∧ (¬power → talking → ¬badBranch → (s.framer.get p).relay.length < 2 →
            ∃ t, exec .relayDown s = .next t ∧ s.replies t f rest .ok
              ∧ (s.lineQuiet p → (t.framer.get p).sending = some (.relay relayed) ∧ (t.framer.get p).relay = [])
              ∧ ((s.framer.get p).sending ≠ none ∨ (s.framer.get p).incoming ≠ .quiet →
                  t.framer.get p = { s.framer.get p with relay := (s.framer.get p).relay ++ [relayed] })
              ∧ ChangesOnly [.receive, .uplink, .framer p, .monitor p] s t))

/-- RESTART is taken even where the upstream queue is full; it empties the receive buffer, the upstream queue, the
notices, the capture slots and the relay queues, closes PENDING, restores the default frame classes, and its reply is
the first frame placed (R38, R92, R183, R193). An expiry of the silence timer, at the silence period, with the SILENCE
flag clear posts it and restarts the timer; with the flag set it enters autonomous mode: the straps' demand, the
fallback image, the rebalance, the smaller budget and one service of the wait list, as GrantsGiveWayFromTheNewest and
ServiceTakesTheWaitListFromItsHead state, and REVIEW (R164, R165, R190, R191). A row of the expiry whose time has not
come changes nothing (the model's choice: log entries 13 and 15). -/
def Obligations.RestartAndSilenceReachTheirBlocks : Prop :=
  (∀ (s : State) (f : LinkFrame) (rest : List LinkFrame) (tag : Byte), s.inReset = false →
    s.link.receive = f :: rest → f.isCommand tag 0x3F [] →
    ∃ t, exec .restart s = .next t
      ∧ t.link.receive = [] ∧ t.link.reception = none
      ∧ t.link.outgoing = s.link.uplink.toList ++ [replyTo f .ok]
      ∧ (∀ g, t.link.notices.get g = none)
      ∧ (∀ i : Fin 32, t.link.frameClass[i] = if i.val < 16 then .forward else .capture)
      ∧ (∀ p, t.framer.get p = { s.framer.get p with relay := [], capture := none })
      ∧ t.policy = { s.policy with pendingOpen := false }
      ∧ t.supervisor = { s.supervisor with silenceTimer := some 0, autonomous := false }
      ∧ ChangesOnly
          ([.receive, .uplink, .frameClass, .policy, .supervisor] ++ everyNotice ++ everyPort .framer) s t)
  ∧ ∀ s : State, s.inReset = false →
      (¬hasRun s.supervisor.silenceTimer s.supervisor.silencePeriod → exec .silenceTimerExpiry s = .next s)
      ∧ (hasRun s.supervisor.silenceTimer s.supervisor.silencePeriod → s.link.notices.silence = none →
        ∃ t, exec .silenceTimerExpiry s = .next t
          ∧ t.link.notices.get .silence
              = some { code := 0x01
                       snapshot := BitVec.ofNat 32 (s.supervisor.silencePeriod % 65536)
                       ms := s.msCount, posts := 1 }
          ∧ t.supervisor = { s.supervisor with silenceTimer := some 0 }
          ∧ ChangesOnly [.notice .silence, .supervisor] s t)
      ∧ (hasRun s.supervisor.silenceTimer s.supervisor.silencePeriod → s.link.notices.silence ≠ none →
          ∃ t, exec .silenceTimerExpiry s = .next t
            ∧ t.supervisor
                = { s.supervisor with
                    autonomous := true, silenceTimer := none
                    demand :=
                      if s.supervisor.straps.getLsbD 4 then
                        (if s.supervisor.straps.getLsbD 3 then 65000 else 45000)
                      else (if s.supervisor.straps.getLsbD 3 then 27000 else 15000) }
            ∧ t.policy.active = fallbackImage (s.supervisor.straps.getLsbD 2) ∧ t.policy.origin = .fallback
            ∧ t.policy.pendingOpen = false
            ∧ t.supply.budget = min s.supply.budget (if s.supervisor.straps.getLsbD 6 then 7500 else 0)
            ∧ (∀ p, t.sequencer.demands.get p
                = if s.attached p then { s.sequencer.demands.get p with review := true }
                  else s.sequencer.demands.get p)
            ∧ (let u := rebalance s.policy.active.params[13] { s with supervisor := t.supervisor, policy := t.policy }
              let v := serve (takeBudget (min s.supply.budget (if s.supervisor.straps.getLsbD 6 then 7500 else 0)) u)
              t.table = v.table ∧ t.supply = v.supply ∧ t.framer = v.framer ∧ t.link = v.link)
            ∧ t.limit.ceiling = s.limit.ceiling ∧ t.limit.allowanceSum = allowanceSumOf s.contract
            ∧ t.link.notices.silence = s.link.notices.silence
            ∧ ChangesOnly ([.supervisor, .policy, .budget, .limit] ++ everyPort .demands ++ supplyParts) s t)

/-! ### The whole machine -/

/-- The shared settings change at the events the manual names alone: the straps and the held reset at power-on reset and
its end (R185, R187), the ACTIVE image there, at APPLY and at autonomous entry (R72), the barred flag at BAR PORT and
power-on reset (R13), the budget and the platform values at SET PLATFORM, autonomous entry and reset (R164, R186), the
frame classes at SET FRAME CLASS, RESTART and reset (R25), and the millisecond count at no command. -/
def Obligations.SharedSettingsHaveTheirOwnCommands : Prop :=
  ∀ (c : Instr) (s t : State), exec c s = .next t → c ≠ .powerOnReset → (∀ a b d, c ≠ .resetEnd a b d) →
    t.supervisor.straps = s.supervisor.straps ∧ t.inReset = s.inReset ∧ t.msCount = s.msCount
      ∧ (c ≠ .applyPolicy → c ≠ .silenceTimerExpiry →
          t.policy.active = s.policy.active ∧ t.policy.origin = s.policy.origin)
      ∧ (c ≠ .barPort → ∀ p, (t.monitor.get p).barred = (s.monitor.get p).barred)
      ∧ (c ≠ .setPlatform → c ≠ .silenceTimerExpiry →
          t.supply.budget = s.supply.budget ∧ t.supervisor.demand = s.supervisor.demand)
      ∧ (c ≠ .setPlatform →
          t.supervisor.batteryPresent = s.supervisor.batteryPresent
            ∧ t.supervisor.silencePeriod = s.supervisor.silencePeriod)
      ∧ (c ≠ .setFrameClass → c ≠ .restart → t.link.frameClass = s.link.frameClass)

/-- Every step keeps five conditions: the ACTIVE image passes every check of APPLY (R73, R77, R84); an unpopulated
port is EMPTY (R1); the silence timer is stopped exactly while the autonomous flag is set (R189); no queue or table
holds more than the manual gives it room for (R14, R35, R158, R168); and the counts of a suspended test are 0 (R143).
-/
def Obligations.StepsKeepImagePortsSilenceAndQueues : Prop :=
  ∀ s t : State, step s = .next t →
    (s.imageValid → t.imageValid) ∧ (s.unpopulatedEmpty → t.unpopulatedEmpty) ∧ (s.silenceTimed → t.silenceTimed)
      ∧ (s.queuesBounded → t.queuesBounded) ∧ (s.suspendedHeld → t.suspendedHeld)

/-- Every step keeps the limit as R137 to R141 form it from the draw switches, the terms, the ACTIVE image, the trim and
the ceiling, with the trim within its bound and the recovery timer running exactly while the trim is above 0. -/
def Obligations.StepsKeepTheLimitFormed : Prop :=
  ∀ s t : State, s.limitFormed → step s = .next t → t.limitFormed

/-- Every step keeps the switches safe: a port's supply switch is closed exactly while the port holds a grant (R163),
with records standing where grants and entries need them (R10, R14 to R17), and no port's draw switch and supply switch
are ever closed together (R119). -/
def Obligations.StepsKeepTheSwitchesApart : Prop :=
  ∀ s t : State, step s = .next t →
    (s.suppliesGranted → t.suppliesGranted) ∧ (s.suppliesGranted ∧ s.switchesApart → t.switchesApart)

/-- Every step keeps the engine lists in the arrangements of R36, each with the queued exchange and its frame together
and at most twelve frames, of them three answers; and keeps the meter's queue without repeats, with every port's phase
standing for its channel's place (R28, R31, R32, R36, R57, R61, R63). The engine lists are kept where branches stay
within the seven of R33, which the records and the wait list of the first premise give. -/
def Obligations.StepsKeepTheLinesAndTheMeterFormed : Prop :=
  ∀ s t : State, step s = .next t →
    (s.suppliesGranted ∧ s.linesFormed → t.linesFormed) ∧ (s.meterFormed → t.meterFormed)

/-- Every step keeps the reserved power within the budget and each port's granted currents within the source port
limit, with no grant below 500 mA and the order numbers distinct and at most the counter's (R154, R157). The other
premises are kept by statements of their own. -/
def Obligations.StepsKeepTheBudget : Prop :=
  ∀ s t : State, s.suppliesGranted → s.queuesBounded → s.imageValid → s.budgetKept → step s = .next t → t.budgetKept

/-- Every step keeps the invariant of R124: at most two draw switches are closed, and two only where both contracts are
ACTIVE at one effective voltage; with it what a transition in service has done so far (R113, R117, R120). -/
def Obligations.StepsKeepTheDrawsInAgreement : Prop :=
  ∀ s t : State, s.drawsAgree → step s = .next t → t.drawsAgree

/-- The machine after reset meets every condition that steps keep. -/
def Obligations.ResetMeetsEveryKeptCondition : Prop :=
  State.reset.imageValid ∧ State.reset.unpopulatedEmpty ∧ State.reset.silenceTimed ∧ State.reset.queuesBounded
    ∧ State.reset.limitFormed ∧ State.reset.suppliesGranted ∧ State.reset.switchesApart
    ∧ State.reset.linesFormed ∧ State.reset.meterFormed ∧ State.reset.suspendedHeld ∧ State.reset.budgetKept
    ∧ State.reset.drawsAgree
end

