-- ==== Sys2Proof/Laws/State.lean ====
section
/-! SUPPORT. Reading a field after an update: what each named update of the state leaves and what it writes. -/

namespace Sys2Proof

/-! ### One value for each port -/

@[simp] theorem Four.get_set {α : Type} (f : Four α) (p q : Port) (a : α) :
    (f.set p a).get q = if q = p then a else f.get q := by
  fin_cases p <;> fin_cases q <;> rfl

theorem Four.get_set_same {α : Type} (f : Four α) (p : Port) (a : α) : (f.set p a).get p = a := by simp

theorem Four.get_set_other {α : Type} (f : Four α) {p q : Port} (h : q ≠ p) (a : α) :
    (f.set p a).get q = f.get q := by simp [h]

@[simp] theorem Four.get_const {α : Type} (a : α) (p : Port) : (Four.const a).get p = a := by
  fin_cases p <;> rfl

@[simp] theorem Four.get_map {α β : Type} (g : α → β) (f : Four α) (p : Port) : (f.map g).get p = g (f.get p) := by
  fin_cases p <;> rfl

theorem Four.ext_get {α : Type} {f g : Four α} (h : ∀ p, f.get p = g.get p) : f = g := by
  obtain ⟨a0, a1, a2, a3⟩ := f; obtain ⟨b0, b1, b2, b3⟩ := g
  have h0 := h 0; have h1 := h 1; have h2 := h 2; have h3 := h 3
  simp only [Four.get] at h0 h1 h2 h3; subst h0 h1 h2 h3; rfl

namespace Machine

/-! ### modMonitor -/

@[simp] theorem State.modMonitor_pending (s : State) (p : Port) (f : Monitor → Monitor) : (s.modMonitor p f).pending = s.pending := rfl
@[simp] theorem State.modMonitor_freeCount (s : State) (p : Port) (f : Monitor → Monitor) : (s.modMonitor p f).freeCount = s.freeCount := rfl
@[simp] theorem State.modMonitor_inReset (s : State) (p : Port) (f : Monitor → Monitor) : (s.modMonitor p f).inReset = s.inReset := rfl
@[simp] theorem State.modMonitor_msCount (s : State) (p : Port) (f : Monitor → Monitor) : (s.modMonitor p f).msCount = s.msCount := rfl
@[simp] theorem State.modMonitor_rail (s : State) (p : Port) (f : Monitor → Monitor) : (s.modMonitor p f).rail = s.rail := rfl
@[simp] theorem State.modMonitor_table (s : State) (p : Port) (f : Monitor → Monitor) : (s.modMonitor p f).table = s.table := rfl
@[simp] theorem State.modMonitor_framer (s : State) (p : Port) (f : Monitor → Monitor) : (s.modMonitor p f).framer = s.framer := rfl
@[simp] theorem State.modMonitor_book (s : State) (p : Port) (f : Monitor → Monitor) : (s.modMonitor p f).book = s.book := rfl
@[simp] theorem State.modMonitor_meter (s : State) (p : Port) (f : Monitor → Monitor) : (s.modMonitor p f).meter = s.meter := rfl
@[simp] theorem State.modMonitor_policy (s : State) (p : Port) (f : Monitor → Monitor) : (s.modMonitor p f).policy = s.policy := rfl
@[simp] theorem State.modMonitor_lastPlan (s : State) (p : Port) (f : Monitor → Monitor) : (s.modMonitor p f).lastPlan = s.lastPlan := rfl
@[simp] theorem State.modMonitor_contract (s : State) (p : Port) (f : Monitor → Monitor) : (s.modMonitor p f).contract = s.contract := rfl
@[simp] theorem State.modMonitor_sequencer (s : State) (p : Port) (f : Monitor → Monitor) : (s.modMonitor p f).sequencer = s.sequencer := rfl
@[simp] theorem State.modMonitor_limit (s : State) (p : Port) (f : Monitor → Monitor) : (s.modMonitor p f).limit = s.limit := rfl
@[simp] theorem State.modMonitor_drawMonitor (s : State) (p : Port) (f : Monitor → Monitor) : (s.modMonitor p f).drawMonitor = s.drawMonitor := rfl
@[simp] theorem State.modMonitor_supply (s : State) (p : Port) (f : Monitor → Monitor) : (s.modMonitor p f).supply = s.supply := rfl
@[simp] theorem State.modMonitor_link (s : State) (p : Port) (f : Monitor → Monitor) : (s.modMonitor p f).link = s.link := rfl
@[simp] theorem State.modMonitor_supervisor (s : State) (p : Port) (f : Monitor → Monitor) : (s.modMonitor p f).supervisor = s.supervisor := rfl
@[simp] theorem State.modMonitor_monitor (s : State) (p : Port) (f : Monitor → Monitor) :
    (s.modMonitor p f).monitor = s.monitor.set p (f (s.monitor.get p)) := rfl

/-! ### modFramer -/

@[simp] theorem State.modFramer_pending (s : State) (p : Port) (f : Framer → Framer) : (s.modFramer p f).pending = s.pending := rfl
@[simp] theorem State.modFramer_freeCount (s : State) (p : Port) (f : Framer → Framer) : (s.modFramer p f).freeCount = s.freeCount := rfl
@[simp] theorem State.modFramer_inReset (s : State) (p : Port) (f : Framer → Framer) : (s.modFramer p f).inReset = s.inReset := rfl
@[simp] theorem State.modFramer_msCount (s : State) (p : Port) (f : Framer → Framer) : (s.modFramer p f).msCount = s.msCount := rfl
@[simp] theorem State.modFramer_rail (s : State) (p : Port) (f : Framer → Framer) : (s.modFramer p f).rail = s.rail := rfl
@[simp] theorem State.modFramer_monitor (s : State) (p : Port) (f : Framer → Framer) : (s.modFramer p f).monitor = s.monitor := rfl
@[simp] theorem State.modFramer_table (s : State) (p : Port) (f : Framer → Framer) : (s.modFramer p f).table = s.table := rfl
@[simp] theorem State.modFramer_book (s : State) (p : Port) (f : Framer → Framer) : (s.modFramer p f).book = s.book := rfl
@[simp] theorem State.modFramer_meter (s : State) (p : Port) (f : Framer → Framer) : (s.modFramer p f).meter = s.meter := rfl
@[simp] theorem State.modFramer_policy (s : State) (p : Port) (f : Framer → Framer) : (s.modFramer p f).policy = s.policy := rfl
@[simp] theorem State.modFramer_lastPlan (s : State) (p : Port) (f : Framer → Framer) : (s.modFramer p f).lastPlan = s.lastPlan := rfl
@[simp] theorem State.modFramer_contract (s : State) (p : Port) (f : Framer → Framer) : (s.modFramer p f).contract = s.contract := rfl
@[simp] theorem State.modFramer_sequencer (s : State) (p : Port) (f : Framer → Framer) : (s.modFramer p f).sequencer = s.sequencer := rfl
@[simp] theorem State.modFramer_limit (s : State) (p : Port) (f : Framer → Framer) : (s.modFramer p f).limit = s.limit := rfl
@[simp] theorem State.modFramer_drawMonitor (s : State) (p : Port) (f : Framer → Framer) : (s.modFramer p f).drawMonitor = s.drawMonitor := rfl
@[simp] theorem State.modFramer_supply (s : State) (p : Port) (f : Framer → Framer) : (s.modFramer p f).supply = s.supply := rfl
@[simp] theorem State.modFramer_link (s : State) (p : Port) (f : Framer → Framer) : (s.modFramer p f).link = s.link := rfl
@[simp] theorem State.modFramer_supervisor (s : State) (p : Port) (f : Framer → Framer) : (s.modFramer p f).supervisor = s.supervisor := rfl
@[simp] theorem State.modFramer_framer (s : State) (p : Port) (f : Framer → Framer) :
    (s.modFramer p f).framer = s.framer.set p (f (s.framer.get p)) := rfl

/-! ### modBook -/

@[simp] theorem State.modBook_pending (s : State) (p : Port) (f : Book → Book) : (s.modBook p f).pending = s.pending := rfl
@[simp] theorem State.modBook_freeCount (s : State) (p : Port) (f : Book → Book) : (s.modBook p f).freeCount = s.freeCount := rfl
@[simp] theorem State.modBook_inReset (s : State) (p : Port) (f : Book → Book) : (s.modBook p f).inReset = s.inReset := rfl
@[simp] theorem State.modBook_msCount (s : State) (p : Port) (f : Book → Book) : (s.modBook p f).msCount = s.msCount := rfl
@[simp] theorem State.modBook_rail (s : State) (p : Port) (f : Book → Book) : (s.modBook p f).rail = s.rail := rfl
@[simp] theorem State.modBook_monitor (s : State) (p : Port) (f : Book → Book) : (s.modBook p f).monitor = s.monitor := rfl
@[simp] theorem State.modBook_table (s : State) (p : Port) (f : Book → Book) : (s.modBook p f).table = s.table := rfl
@[simp] theorem State.modBook_framer (s : State) (p : Port) (f : Book → Book) : (s.modBook p f).framer = s.framer := rfl
@[simp] theorem State.modBook_meter (s : State) (p : Port) (f : Book → Book) : (s.modBook p f).meter = s.meter := rfl
@[simp] theorem State.modBook_policy (s : State) (p : Port) (f : Book → Book) : (s.modBook p f).policy = s.policy := rfl
@[simp] theorem State.modBook_lastPlan (s : State) (p : Port) (f : Book → Book) : (s.modBook p f).lastPlan = s.lastPlan := rfl
@[simp] theorem State.modBook_contract (s : State) (p : Port) (f : Book → Book) : (s.modBook p f).contract = s.contract := rfl
@[simp] theorem State.modBook_sequencer (s : State) (p : Port) (f : Book → Book) : (s.modBook p f).sequencer = s.sequencer := rfl
@[simp] theorem State.modBook_limit (s : State) (p : Port) (f : Book → Book) : (s.modBook p f).limit = s.limit := rfl
@[simp] theorem State.modBook_drawMonitor (s : State) (p : Port) (f : Book → Book) : (s.modBook p f).drawMonitor = s.drawMonitor := rfl
@[simp] theorem State.modBook_supply (s : State) (p : Port) (f : Book → Book) : (s.modBook p f).supply = s.supply := rfl
@[simp] theorem State.modBook_link (s : State) (p : Port) (f : Book → Book) : (s.modBook p f).link = s.link := rfl
@[simp] theorem State.modBook_supervisor (s : State) (p : Port) (f : Book → Book) : (s.modBook p f).supervisor = s.supervisor := rfl
@[simp] theorem State.modBook_book (s : State) (p : Port) (f : Book → Book) :
    (s.modBook p f).book = s.book.set p (f (s.book.get p)) := rfl

/-! ### modContract -/

@[simp] theorem State.modContract_pending (s : State) (p : Port) (f : Contract → Contract) : (s.modContract p f).pending = s.pending := rfl
@[simp] theorem State.modContract_freeCount (s : State) (p : Port) (f : Contract → Contract) : (s.modContract p f).freeCount = s.freeCount := rfl
@[simp] theorem State.modContract_inReset (s : State) (p : Port) (f : Contract → Contract) : (s.modContract p f).inReset = s.inReset := rfl
@[simp] theorem State.modContract_msCount (s : State) (p : Port) (f : Contract → Contract) : (s.modContract p f).msCount = s.msCount := rfl
@[simp] theorem State.modContract_rail (s : State) (p : Port) (f : Contract → Contract) : (s.modContract p f).rail = s.rail := rfl
@[simp] theorem State.modContract_monitor (s : State) (p : Port) (f : Contract → Contract) : (s.modContract p f).monitor = s.monitor := rfl
@[simp] theorem State.modContract_table (s : State) (p : Port) (f : Contract → Contract) : (s.modContract p f).table = s.table := rfl
@[simp] theorem State.modContract_framer (s : State) (p : Port) (f : Contract → Contract) : (s.modContract p f).framer = s.framer := rfl
@[simp] theorem State.modContract_book (s : State) (p : Port) (f : Contract → Contract) : (s.modContract p f).book = s.book := rfl
@[simp] theorem State.modContract_meter (s : State) (p : Port) (f : Contract → Contract) : (s.modContract p f).meter = s.meter := rfl
@[simp] theorem State.modContract_policy (s : State) (p : Port) (f : Contract → Contract) : (s.modContract p f).policy = s.policy := rfl
@[simp] theorem State.modContract_lastPlan (s : State) (p : Port) (f : Contract → Contract) : (s.modContract p f).lastPlan = s.lastPlan := rfl
@[simp] theorem State.modContract_sequencer (s : State) (p : Port) (f : Contract → Contract) : (s.modContract p f).sequencer = s.sequencer := rfl
@[simp] theorem State.modContract_limit (s : State) (p : Port) (f : Contract → Contract) : (s.modContract p f).limit = s.limit := rfl
@[simp] theorem State.modContract_drawMonitor (s : State) (p : Port) (f : Contract → Contract) : (s.modContract p f).drawMonitor = s.drawMonitor := rfl
@[simp] theorem State.modContract_supply (s : State) (p : Port) (f : Contract → Contract) : (s.modContract p f).supply = s.supply := rfl
@[simp] theorem State.modContract_link (s : State) (p : Port) (f : Contract → Contract) : (s.modContract p f).link = s.link := rfl
@[simp] theorem State.modContract_supervisor (s : State) (p : Port) (f : Contract → Contract) : (s.modContract p f).supervisor = s.supervisor := rfl
@[simp] theorem State.modContract_contract (s : State) (p : Port) (f : Contract → Contract) :
    (s.modContract p f).contract = s.contract.set p (f (s.contract.get p)) := rfl

/-! ### modDrawMonitor -/

@[simp] theorem State.modDrawMonitor_pending (s : State) (p : Port) (f : DrawMonitor → DrawMonitor) : (s.modDrawMonitor p f).pending = s.pending := rfl
@[simp] theorem State.modDrawMonitor_freeCount (s : State) (p : Port) (f : DrawMonitor → DrawMonitor) : (s.modDrawMonitor p f).freeCount = s.freeCount := rfl
@[simp] theorem State.modDrawMonitor_inReset (s : State) (p : Port) (f : DrawMonitor → DrawMonitor) : (s.modDrawMonitor p f).inReset = s.inReset := rfl
@[simp] theorem State.modDrawMonitor_msCount (s : State) (p : Port) (f : DrawMonitor → DrawMonitor) : (s.modDrawMonitor p f).msCount = s.msCount := rfl
@[simp] theorem State.modDrawMonitor_rail (s : State) (p : Port) (f : DrawMonitor → DrawMonitor) : (s.modDrawMonitor p f).rail = s.rail := rfl
@[simp] theorem State.modDrawMonitor_monitor (s : State) (p : Port) (f : DrawMonitor → DrawMonitor) : (s.modDrawMonitor p f).monitor = s.monitor := rfl
@[simp] theorem State.modDrawMonitor_table (s : State) (p : Port) (f : DrawMonitor → DrawMonitor) : (s.modDrawMonitor p f).table = s.table := rfl
@[simp] theorem State.modDrawMonitor_framer (s : State) (p : Port) (f : DrawMonitor → DrawMonitor) : (s.modDrawMonitor p f).framer = s.framer := rfl
@[simp] theorem State.modDrawMonitor_book (s : State) (p : Port) (f : DrawMonitor → DrawMonitor) : (s.modDrawMonitor p f).book = s.book := rfl
@[simp] theorem State.modDrawMonitor_meter (s : State) (p : Port) (f : DrawMonitor → DrawMonitor) : (s.modDrawMonitor p f).meter = s.meter := rfl
@[simp] theorem State.modDrawMonitor_policy (s : State) (p : Port) (f : DrawMonitor → DrawMonitor) : (s.modDrawMonitor p f).policy = s.policy := rfl
@[simp] theorem State.modDrawMonitor_lastPlan (s : State) (p : Port) (f : DrawMonitor → DrawMonitor) : (s.modDrawMonitor p f).lastPlan = s.lastPlan := rfl
@[simp] theorem State.modDrawMonitor_contract (s : State) (p : Port) (f : DrawMonitor → DrawMonitor) : (s.modDrawMonitor p f).contract = s.contract := rfl
@[simp] theorem State.modDrawMonitor_sequencer (s : State) (p : Port) (f : DrawMonitor → DrawMonitor) : (s.modDrawMonitor p f).sequencer = s.sequencer := rfl
@[simp] theorem State.modDrawMonitor_limit (s : State) (p : Port) (f : DrawMonitor → DrawMonitor) : (s.modDrawMonitor p f).limit = s.limit := rfl
@[simp] theorem State.modDrawMonitor_supply (s : State) (p : Port) (f : DrawMonitor → DrawMonitor) : (s.modDrawMonitor p f).supply = s.supply := rfl
@[simp] theorem State.modDrawMonitor_link (s : State) (p : Port) (f : DrawMonitor → DrawMonitor) : (s.modDrawMonitor p f).link = s.link := rfl
@[simp] theorem State.modDrawMonitor_supervisor (s : State) (p : Port) (f : DrawMonitor → DrawMonitor) : (s.modDrawMonitor p f).supervisor = s.supervisor := rfl
@[simp] theorem State.modDrawMonitor_drawMonitor (s : State) (p : Port) (f : DrawMonitor → DrawMonitor) :
    (s.modDrawMonitor p f).drawMonitor = s.drawMonitor.set p (f (s.drawMonitor.get p)) := rfl

/-! ### modMeter -/

@[simp] theorem State.modMeter_pending (s : State) (f : Meter → Meter) : (s.modMeter f).pending = s.pending := rfl
@[simp] theorem State.modMeter_freeCount (s : State) (f : Meter → Meter) : (s.modMeter f).freeCount = s.freeCount := rfl
@[simp] theorem State.modMeter_inReset (s : State) (f : Meter → Meter) : (s.modMeter f).inReset = s.inReset := rfl
@[simp] theorem State.modMeter_msCount (s : State) (f : Meter → Meter) : (s.modMeter f).msCount = s.msCount := rfl
@[simp] theorem State.modMeter_rail (s : State) (f : Meter → Meter) : (s.modMeter f).rail = s.rail := rfl
@[simp] theorem State.modMeter_monitor (s : State) (f : Meter → Meter) : (s.modMeter f).monitor = s.monitor := rfl
@[simp] theorem State.modMeter_table (s : State) (f : Meter → Meter) : (s.modMeter f).table = s.table := rfl
@[simp] theorem State.modMeter_framer (s : State) (f : Meter → Meter) : (s.modMeter f).framer = s.framer := rfl
@[simp] theorem State.modMeter_book (s : State) (f : Meter → Meter) : (s.modMeter f).book = s.book := rfl
@[simp] theorem State.modMeter_policy (s : State) (f : Meter → Meter) : (s.modMeter f).policy = s.policy := rfl
@[simp] theorem State.modMeter_lastPlan (s : State) (f : Meter → Meter) : (s.modMeter f).lastPlan = s.lastPlan := rfl
@[simp] theorem State.modMeter_contract (s : State) (f : Meter → Meter) : (s.modMeter f).contract = s.contract := rfl
@[simp] theorem State.modMeter_sequencer (s : State) (f : Meter → Meter) : (s.modMeter f).sequencer = s.sequencer := rfl
@[simp] theorem State.modMeter_limit (s : State) (f : Meter → Meter) : (s.modMeter f).limit = s.limit := rfl
@[simp] theorem State.modMeter_drawMonitor (s : State) (f : Meter → Meter) : (s.modMeter f).drawMonitor = s.drawMonitor := rfl
@[simp] theorem State.modMeter_supply (s : State) (f : Meter → Meter) : (s.modMeter f).supply = s.supply := rfl
@[simp] theorem State.modMeter_link (s : State) (f : Meter → Meter) : (s.modMeter f).link = s.link := rfl
@[simp] theorem State.modMeter_supervisor (s : State) (f : Meter → Meter) : (s.modMeter f).supervisor = s.supervisor := rfl
@[simp] theorem State.modMeter_meter (s : State) (f : Meter → Meter) : (s.modMeter f).meter = f s.meter := rfl

/-! ### modSequencer -/

@[simp] theorem State.modSequencer_pending (s : State) (f : Sequencer → Sequencer) : (s.modSequencer f).pending = s.pending := rfl
@[simp] theorem State.modSequencer_freeCount (s : State) (f : Sequencer → Sequencer) : (s.modSequencer f).freeCount = s.freeCount := rfl
@[simp] theorem State.modSequencer_inReset (s : State) (f : Sequencer → Sequencer) : (s.modSequencer f).inReset = s.inReset := rfl
@[simp] theorem State.modSequencer_msCount (s : State) (f : Sequencer → Sequencer) : (s.modSequencer f).msCount = s.msCount := rfl
@[simp] theorem State.modSequencer_rail (s : State) (f : Sequencer → Sequencer) : (s.modSequencer f).rail = s.rail := rfl
@[simp] theorem State.modSequencer_monitor (s : State) (f : Sequencer → Sequencer) : (s.modSequencer f).monitor = s.monitor := rfl
@[simp] theorem State.modSequencer_table (s : State) (f : Sequencer → Sequencer) : (s.modSequencer f).table = s.table := rfl
@[simp] theorem State.modSequencer_framer (s : State) (f : Sequencer → Sequencer) : (s.modSequencer f).framer = s.framer := rfl
@[simp] theorem State.modSequencer_book (s : State) (f : Sequencer → Sequencer) : (s.modSequencer f).book = s.book := rfl
@[simp] theorem State.modSequencer_meter (s : State) (f : Sequencer → Sequencer) : (s.modSequencer f).meter = s.meter := rfl
@[simp] theorem State.modSequencer_policy (s : State) (f : Sequencer → Sequencer) : (s.modSequencer f).policy = s.policy := rfl
@[simp] theorem State.modSequencer_lastPlan (s : State) (f : Sequencer → Sequencer) : (s.modSequencer f).lastPlan = s.lastPlan := rfl
@[simp] theorem State.modSequencer_contract (s : State) (f : Sequencer → Sequencer) : (s.modSequencer f).contract = s.contract := rfl
@[simp] theorem State.modSequencer_limit (s : State) (f : Sequencer → Sequencer) : (s.modSequencer f).limit = s.limit := rfl
@[simp] theorem State.modSequencer_drawMonitor (s : State) (f : Sequencer → Sequencer) : (s.modSequencer f).drawMonitor = s.drawMonitor := rfl
@[simp] theorem State.modSequencer_supply (s : State) (f : Sequencer → Sequencer) : (s.modSequencer f).supply = s.supply := rfl
@[simp] theorem State.modSequencer_link (s : State) (f : Sequencer → Sequencer) : (s.modSequencer f).link = s.link := rfl
@[simp] theorem State.modSequencer_supervisor (s : State) (f : Sequencer → Sequencer) : (s.modSequencer f).supervisor = s.supervisor := rfl
@[simp] theorem State.modSequencer_sequencer (s : State) (f : Sequencer → Sequencer) : (s.modSequencer f).sequencer = f s.sequencer := rfl

/-! ### modLimit -/

@[simp] theorem State.modLimit_pending (s : State) (f : LimitUnit → LimitUnit) : (s.modLimit f).pending = s.pending := rfl
@[simp] theorem State.modLimit_freeCount (s : State) (f : LimitUnit → LimitUnit) : (s.modLimit f).freeCount = s.freeCount := rfl
@[simp] theorem State.modLimit_inReset (s : State) (f : LimitUnit → LimitUnit) : (s.modLimit f).inReset = s.inReset := rfl
@[simp] theorem State.modLimit_msCount (s : State) (f : LimitUnit → LimitUnit) : (s.modLimit f).msCount = s.msCount := rfl
@[simp] theorem State.modLimit_rail (s : State) (f : LimitUnit → LimitUnit) : (s.modLimit f).rail = s.rail := rfl
@[simp] theorem State.modLimit_monitor (s : State) (f : LimitUnit → LimitUnit) : (s.modLimit f).monitor = s.monitor := rfl
@[simp] theorem State.modLimit_table (s : State) (f : LimitUnit → LimitUnit) : (s.modLimit f).table = s.table := rfl
@[simp] theorem State.modLimit_framer (s : State) (f : LimitUnit → LimitUnit) : (s.modLimit f).framer = s.framer := rfl
@[simp] theorem State.modLimit_book (s : State) (f : LimitUnit → LimitUnit) : (s.modLimit f).book = s.book := rfl
@[simp] theorem State.modLimit_meter (s : State) (f : LimitUnit → LimitUnit) : (s.modLimit f).meter = s.meter := rfl
@[simp] theorem State.modLimit_policy (s : State) (f : LimitUnit → LimitUnit) : (s.modLimit f).policy = s.policy := rfl
@[simp] theorem State.modLimit_lastPlan (s : State) (f : LimitUnit → LimitUnit) : (s.modLimit f).lastPlan = s.lastPlan := rfl
@[simp] theorem State.modLimit_contract (s : State) (f : LimitUnit → LimitUnit) : (s.modLimit f).contract = s.contract := rfl
@[simp] theorem State.modLimit_sequencer (s : State) (f : LimitUnit → LimitUnit) : (s.modLimit f).sequencer = s.sequencer := rfl
@[simp] theorem State.modLimit_drawMonitor (s : State) (f : LimitUnit → LimitUnit) : (s.modLimit f).drawMonitor = s.drawMonitor := rfl
@[simp] theorem State.modLimit_supply (s : State) (f : LimitUnit → LimitUnit) : (s.modLimit f).supply = s.supply := rfl
@[simp] theorem State.modLimit_link (s : State) (f : LimitUnit → LimitUnit) : (s.modLimit f).link = s.link := rfl
@[simp] theorem State.modLimit_supervisor (s : State) (f : LimitUnit → LimitUnit) : (s.modLimit f).supervisor = s.supervisor := rfl
@[simp] theorem State.modLimit_limit (s : State) (f : LimitUnit → LimitUnit) : (s.modLimit f).limit = f s.limit := rfl

/-! ### modSupply -/

@[simp] theorem State.modSupply_pending (s : State) (f : SupplyUnit → SupplyUnit) : (s.modSupply f).pending = s.pending := rfl
@[simp] theorem State.modSupply_freeCount (s : State) (f : SupplyUnit → SupplyUnit) : (s.modSupply f).freeCount = s.freeCount := rfl
@[simp] theorem State.modSupply_inReset (s : State) (f : SupplyUnit → SupplyUnit) : (s.modSupply f).inReset = s.inReset := rfl
@[simp] theorem State.modSupply_msCount (s : State) (f : SupplyUnit → SupplyUnit) : (s.modSupply f).msCount = s.msCount := rfl
@[simp] theorem State.modSupply_rail (s : State) (f : SupplyUnit → SupplyUnit) : (s.modSupply f).rail = s.rail := rfl
@[simp] theorem State.modSupply_monitor (s : State) (f : SupplyUnit → SupplyUnit) : (s.modSupply f).monitor = s.monitor := rfl
@[simp] theorem State.modSupply_table (s : State) (f : SupplyUnit → SupplyUnit) : (s.modSupply f).table = s.table := rfl
@[simp] theorem State.modSupply_framer (s : State) (f : SupplyUnit → SupplyUnit) : (s.modSupply f).framer = s.framer := rfl
@[simp] theorem State.modSupply_book (s : State) (f : SupplyUnit → SupplyUnit) : (s.modSupply f).book = s.book := rfl
@[simp] theorem State.modSupply_meter (s : State) (f : SupplyUnit → SupplyUnit) : (s.modSupply f).meter = s.meter := rfl
@[simp] theorem State.modSupply_policy (s : State) (f : SupplyUnit → SupplyUnit) : (s.modSupply f).policy = s.policy := rfl
@[simp] theorem State.modSupply_lastPlan (s : State) (f : SupplyUnit → SupplyUnit) : (s.modSupply f).lastPlan = s.lastPlan := rfl
@[simp] theorem State.modSupply_contract (s : State) (f : SupplyUnit → SupplyUnit) : (s.modSupply f).contract = s.contract := rfl
@[simp] theorem State.modSupply_sequencer (s : State) (f : SupplyUnit → SupplyUnit) : (s.modSupply f).sequencer = s.sequencer := rfl
@[simp] theorem State.modSupply_limit (s : State) (f : SupplyUnit → SupplyUnit) : (s.modSupply f).limit = s.limit := rfl
@[simp] theorem State.modSupply_drawMonitor (s : State) (f : SupplyUnit → SupplyUnit) : (s.modSupply f).drawMonitor = s.drawMonitor := rfl
@[simp] theorem State.modSupply_link (s : State) (f : SupplyUnit → SupplyUnit) : (s.modSupply f).link = s.link := rfl
@[simp] theorem State.modSupply_supervisor (s : State) (f : SupplyUnit → SupplyUnit) : (s.modSupply f).supervisor = s.supervisor := rfl
@[simp] theorem State.modSupply_supply (s : State) (f : SupplyUnit → SupplyUnit) : (s.modSupply f).supply = f s.supply := rfl

/-! ### modLink -/

@[simp] theorem State.modLink_pending (s : State) (f : LinkUnit → LinkUnit) : (s.modLink f).pending = s.pending := rfl
@[simp] theorem State.modLink_freeCount (s : State) (f : LinkUnit → LinkUnit) : (s.modLink f).freeCount = s.freeCount := rfl
@[simp] theorem State.modLink_inReset (s : State) (f : LinkUnit → LinkUnit) : (s.modLink f).inReset = s.inReset := rfl
@[simp] theorem State.modLink_msCount (s : State) (f : LinkUnit → LinkUnit) : (s.modLink f).msCount = s.msCount := rfl
@[simp] theorem State.modLink_rail (s : State) (f : LinkUnit → LinkUnit) : (s.modLink f).rail = s.rail := rfl
@[simp] theorem State.modLink_monitor (s : State) (f : LinkUnit → LinkUnit) : (s.modLink f).monitor = s.monitor := rfl
@[simp] theorem State.modLink_table (s : State) (f : LinkUnit → LinkUnit) : (s.modLink f).table = s.table := rfl
@[simp] theorem State.modLink_framer (s : State) (f : LinkUnit → LinkUnit) : (s.modLink f).framer = s.framer := rfl
@[simp] theorem State.modLink_book (s : State) (f : LinkUnit → LinkUnit) : (s.modLink f).book = s.book := rfl
@[simp] theorem State.modLink_meter (s : State) (f : LinkUnit → LinkUnit) : (s.modLink f).meter = s.meter := rfl
@[simp] theorem State.modLink_policy (s : State) (f : LinkUnit → LinkUnit) : (s.modLink f).policy = s.policy := rfl
@[simp] theorem State.modLink_lastPlan (s : State) (f : LinkUnit → LinkUnit) : (s.modLink f).lastPlan = s.lastPlan := rfl
@[simp] theorem State.modLink_contract (s : State) (f : LinkUnit → LinkUnit) : (s.modLink f).contract = s.contract := rfl
@[simp] theorem State.modLink_sequencer (s : State) (f : LinkUnit → LinkUnit) : (s.modLink f).sequencer = s.sequencer := rfl
@[simp] theorem State.modLink_limit (s : State) (f : LinkUnit → LinkUnit) : (s.modLink f).limit = s.limit := rfl
@[simp] theorem State.modLink_drawMonitor (s : State) (f : LinkUnit → LinkUnit) : (s.modLink f).drawMonitor = s.drawMonitor := rfl
@[simp] theorem State.modLink_supply (s : State) (f : LinkUnit → LinkUnit) : (s.modLink f).supply = s.supply := rfl
@[simp] theorem State.modLink_supervisor (s : State) (f : LinkUnit → LinkUnit) : (s.modLink f).supervisor = s.supervisor := rfl
@[simp] theorem State.modLink_link (s : State) (f : LinkUnit → LinkUnit) : (s.modLink f).link = f s.link := rfl

/-! ### modSupervisor -/

@[simp] theorem State.modSupervisor_pending (s : State) (f : Supervisor → Supervisor) : (s.modSupervisor f).pending = s.pending := rfl
@[simp] theorem State.modSupervisor_freeCount (s : State) (f : Supervisor → Supervisor) : (s.modSupervisor f).freeCount = s.freeCount := rfl
@[simp] theorem State.modSupervisor_inReset (s : State) (f : Supervisor → Supervisor) : (s.modSupervisor f).inReset = s.inReset := rfl
@[simp] theorem State.modSupervisor_msCount (s : State) (f : Supervisor → Supervisor) : (s.modSupervisor f).msCount = s.msCount := rfl
@[simp] theorem State.modSupervisor_rail (s : State) (f : Supervisor → Supervisor) : (s.modSupervisor f).rail = s.rail := rfl
@[simp] theorem State.modSupervisor_monitor (s : State) (f : Supervisor → Supervisor) : (s.modSupervisor f).monitor = s.monitor := rfl
@[simp] theorem State.modSupervisor_table (s : State) (f : Supervisor → Supervisor) : (s.modSupervisor f).table = s.table := rfl
@[simp] theorem State.modSupervisor_framer (s : State) (f : Supervisor → Supervisor) : (s.modSupervisor f).framer = s.framer := rfl
@[simp] theorem State.modSupervisor_book (s : State) (f : Supervisor → Supervisor) : (s.modSupervisor f).book = s.book := rfl
@[simp] theorem State.modSupervisor_meter (s : State) (f : Supervisor → Supervisor) : (s.modSupervisor f).meter = s.meter := rfl
@[simp] theorem State.modSupervisor_policy (s : State) (f : Supervisor → Supervisor) : (s.modSupervisor f).policy = s.policy := rfl
@[simp] theorem State.modSupervisor_lastPlan (s : State) (f : Supervisor → Supervisor) : (s.modSupervisor f).lastPlan = s.lastPlan := rfl
@[simp] theorem State.modSupervisor_contract (s : State) (f : Supervisor → Supervisor) : (s.modSupervisor f).contract = s.contract := rfl
@[simp] theorem State.modSupervisor_sequencer (s : State) (f : Supervisor → Supervisor) : (s.modSupervisor f).sequencer = s.sequencer := rfl
@[simp] theorem State.modSupervisor_limit (s : State) (f : Supervisor → Supervisor) : (s.modSupervisor f).limit = s.limit := rfl
@[simp] theorem State.modSupervisor_drawMonitor (s : State) (f : Supervisor → Supervisor) : (s.modSupervisor f).drawMonitor = s.drawMonitor := rfl
@[simp] theorem State.modSupervisor_supply (s : State) (f : Supervisor → Supervisor) : (s.modSupervisor f).supply = s.supply := rfl
@[simp] theorem State.modSupervisor_link (s : State) (f : Supervisor → Supervisor) : (s.modSupervisor f).link = s.link := rfl
@[simp] theorem State.modSupervisor_supervisor (s : State) (f : Supervisor → Supervisor) : (s.modSupervisor f).supervisor = f s.supervisor := rfl

/-! ### modPolicy -/

@[simp] theorem State.modPolicy_pending (s : State) (f : PolicyStore → PolicyStore) : (s.modPolicy f).pending = s.pending := rfl
@[simp] theorem State.modPolicy_freeCount (s : State) (f : PolicyStore → PolicyStore) : (s.modPolicy f).freeCount = s.freeCount := rfl
@[simp] theorem State.modPolicy_inReset (s : State) (f : PolicyStore → PolicyStore) : (s.modPolicy f).inReset = s.inReset := rfl
@[simp] theorem State.modPolicy_msCount (s : State) (f : PolicyStore → PolicyStore) : (s.modPolicy f).msCount = s.msCount := rfl
@[simp] theorem State.modPolicy_rail (s : State) (f : PolicyStore → PolicyStore) : (s.modPolicy f).rail = s.rail := rfl
@[simp] theorem State.modPolicy_monitor (s : State) (f : PolicyStore → PolicyStore) : (s.modPolicy f).monitor = s.monitor := rfl
@[simp] theorem State.modPolicy_table (s : State) (f : PolicyStore → PolicyStore) : (s.modPolicy f).table = s.table := rfl
@[simp] theorem State.modPolicy_framer (s : State) (f : PolicyStore → PolicyStore) : (s.modPolicy f).framer = s.framer := rfl
@[simp] theorem State.modPolicy_book (s : State) (f : PolicyStore → PolicyStore) : (s.modPolicy f).book = s.book := rfl
@[simp] theorem State.modPolicy_meter (s : State) (f : PolicyStore → PolicyStore) : (s.modPolicy f).meter = s.meter := rfl
@[simp] theorem State.modPolicy_lastPlan (s : State) (f : PolicyStore → PolicyStore) : (s.modPolicy f).lastPlan = s.lastPlan := rfl
@[simp] theorem State.modPolicy_contract (s : State) (f : PolicyStore → PolicyStore) : (s.modPolicy f).contract = s.contract := rfl
@[simp] theorem State.modPolicy_sequencer (s : State) (f : PolicyStore → PolicyStore) : (s.modPolicy f).sequencer = s.sequencer := rfl
@[simp] theorem State.modPolicy_limit (s : State) (f : PolicyStore → PolicyStore) : (s.modPolicy f).limit = s.limit := rfl
@[simp] theorem State.modPolicy_drawMonitor (s : State) (f : PolicyStore → PolicyStore) : (s.modPolicy f).drawMonitor = s.drawMonitor := rfl
@[simp] theorem State.modPolicy_supply (s : State) (f : PolicyStore → PolicyStore) : (s.modPolicy f).supply = s.supply := rfl
@[simp] theorem State.modPolicy_link (s : State) (f : PolicyStore → PolicyStore) : (s.modPolicy f).link = s.link := rfl
@[simp] theorem State.modPolicy_supervisor (s : State) (f : PolicyStore → PolicyStore) : (s.modPolicy f).supervisor = s.supervisor := rfl
@[simp] theorem State.modPolicy_policy (s : State) (f : PolicyStore → PolicyStore) : (s.modPolicy f).policy = f s.policy := rfl

/-! ### setOwn -/

@[simp] theorem State.setOwn_pending (s : State) (p : Port) (r : Option PartnerRecord) : (s.setOwn p r).pending = s.pending := rfl
@[simp] theorem State.setOwn_freeCount (s : State) (p : Port) (r : Option PartnerRecord) : (s.setOwn p r).freeCount = s.freeCount := rfl
@[simp] theorem State.setOwn_inReset (s : State) (p : Port) (r : Option PartnerRecord) : (s.setOwn p r).inReset = s.inReset := rfl
@[simp] theorem State.setOwn_msCount (s : State) (p : Port) (r : Option PartnerRecord) : (s.setOwn p r).msCount = s.msCount := rfl
@[simp] theorem State.setOwn_rail (s : State) (p : Port) (r : Option PartnerRecord) : (s.setOwn p r).rail = s.rail := rfl
@[simp] theorem State.setOwn_monitor (s : State) (p : Port) (r : Option PartnerRecord) : (s.setOwn p r).monitor = s.monitor := rfl
@[simp] theorem State.setOwn_framer (s : State) (p : Port) (r : Option PartnerRecord) : (s.setOwn p r).framer = s.framer := rfl
@[simp] theorem State.setOwn_book (s : State) (p : Port) (r : Option PartnerRecord) : (s.setOwn p r).book = s.book := rfl
@[simp] theorem State.setOwn_meter (s : State) (p : Port) (r : Option PartnerRecord) : (s.setOwn p r).meter = s.meter := rfl
@[simp] theorem State.setOwn_policy (s : State) (p : Port) (r : Option PartnerRecord) : (s.setOwn p r).policy = s.policy := rfl
@[simp] theorem State.setOwn_lastPlan (s : State) (p : Port) (r : Option PartnerRecord) : (s.setOwn p r).lastPlan = s.lastPlan := rfl
@[simp] theorem State.setOwn_contract (s : State) (p : Port) (r : Option PartnerRecord) : (s.setOwn p r).contract = s.contract := rfl
@[simp] theorem State.setOwn_sequencer (s : State) (p : Port) (r : Option PartnerRecord) : (s.setOwn p r).sequencer = s.sequencer := rfl
@[simp] theorem State.setOwn_limit (s : State) (p : Port) (r : Option PartnerRecord) : (s.setOwn p r).limit = s.limit := rfl
@[simp] theorem State.setOwn_drawMonitor (s : State) (p : Port) (r : Option PartnerRecord) : (s.setOwn p r).drawMonitor = s.drawMonitor := rfl
@[simp] theorem State.setOwn_supply (s : State) (p : Port) (r : Option PartnerRecord) : (s.setOwn p r).supply = s.supply := rfl
@[simp] theorem State.setOwn_link (s : State) (p : Port) (r : Option PartnerRecord) : (s.setOwn p r).link = s.link := rfl
@[simp] theorem State.setOwn_supervisor (s : State) (p : Port) (r : Option PartnerRecord) : (s.setOwn p r).supervisor = s.supervisor := rfl
@[simp] theorem State.setOwn_own (s : State) (p : Port) (r : Option PartnerRecord) :
    (s.setOwn p r).table.own = s.table.own.set p r := rfl
@[simp] theorem State.setOwn_pool (s : State) (p : Port) (r : Option PartnerRecord) :
    (s.setOwn p r).table.pool = s.table.pool := rfl

/-! ### setPool -/

@[simp] theorem State.setPool_pending (s : State) (l : List PooledRecord) : (s.setPool l).pending = s.pending := rfl
@[simp] theorem State.setPool_freeCount (s : State) (l : List PooledRecord) : (s.setPool l).freeCount = s.freeCount := rfl
@[simp] theorem State.setPool_inReset (s : State) (l : List PooledRecord) : (s.setPool l).inReset = s.inReset := rfl
@[simp] theorem State.setPool_msCount (s : State) (l : List PooledRecord) : (s.setPool l).msCount = s.msCount := rfl
@[simp] theorem State.setPool_rail (s : State) (l : List PooledRecord) : (s.setPool l).rail = s.rail := rfl
@[simp] theorem State.setPool_monitor (s : State) (l : List PooledRecord) : (s.setPool l).monitor = s.monitor := rfl
@[simp] theorem State.setPool_framer (s : State) (l : List PooledRecord) : (s.setPool l).framer = s.framer := rfl
@[simp] theorem State.setPool_book (s : State) (l : List PooledRecord) : (s.setPool l).book = s.book := rfl
@[simp] theorem State.setPool_meter (s : State) (l : List PooledRecord) : (s.setPool l).meter = s.meter := rfl
@[simp] theorem State.setPool_policy (s : State) (l : List PooledRecord) : (s.setPool l).policy = s.policy := rfl
@[simp] theorem State.setPool_lastPlan (s : State) (l : List PooledRecord) : (s.setPool l).lastPlan = s.lastPlan := rfl
@[simp] theorem State.setPool_contract (s : State) (l : List PooledRecord) : (s.setPool l).contract = s.contract := rfl
@[simp] theorem State.setPool_sequencer (s : State) (l : List PooledRecord) : (s.setPool l).sequencer = s.sequencer := rfl
@[simp] theorem State.setPool_limit (s : State) (l : List PooledRecord) : (s.setPool l).limit = s.limit := rfl
@[simp] theorem State.setPool_drawMonitor (s : State) (l : List PooledRecord) : (s.setPool l).drawMonitor = s.drawMonitor := rfl
@[simp] theorem State.setPool_supply (s : State) (l : List PooledRecord) : (s.setPool l).supply = s.supply := rfl
@[simp] theorem State.setPool_link (s : State) (l : List PooledRecord) : (s.setPool l).link = s.link := rfl
@[simp] theorem State.setPool_supervisor (s : State) (l : List PooledRecord) : (s.setPool l).supervisor = s.supervisor := rfl
@[simp] theorem State.setPool_own (s : State) (l : List PooledRecord) :
    (s.setPool l).table.own = s.table.own := rfl
@[simp] theorem State.setPool_pool (s : State) (l : List PooledRecord) :
    (s.setPool l).table.pool = l := rfl

/-! ### The notice set -/

theorem NoticeSet.get_put (n : NoticeSet) (f g : NoticeFlag) (v : Option Notice) :
    (n.put f v).get g = if g = f then v else n.get g := by
  cases f <;> cases g <;> simp [NoticeSet.put, NoticeSet.get]

/-! ### Commands that the held reset ignores -/

theorem running_held (f : State → State) {s : State} (h : s.inReset = true) : running f s = .next s := by
  simp [running, h]

theorem running_free (f : State → State) {s : State} (h : s.inReset = false) : running f s = .next (f s) := by
  simp [running, h]

end Machine

end Sys2Proof
end

