-- ==== Sys2Proof/Laws/Frames.lean ====
section
/-! SUPPORT. What a change leaves alone: composing changes, and what each named operation of Ops, Flags and LimitOps may
change. -/

namespace Sys2Proof.Machine

open Sys2Proof

/-! ### Composing changes -/

theorem Part.same_refl (part : Part) (s : State) : part.same s s := by cases part <;> simp [Part.same]

theorem Part.same_trans {part : Part} {s t u : State} (h1 : part.same s t) (h2 : part.same t u) : part.same s u := by
  cases part <;> simp_all [Part.same]

theorem ChangesOnly.refl (l : List Part) (s : State) : ChangesOnly l s s := fun part _ => part.same_refl s

theorem ChangesOnly.trans {l : List Part} {s t u : State} (h1 : ChangesOnly l s t) (h2 : ChangesOnly l t u) :
    ChangesOnly l s u := fun part h => Part.same_trans (h1 part h) (h2 part h)

theorem ChangesOnly.mono {l l' : List Part} {s t : State} (h : ChangesOnly l s t) (sub : l ⊆ l') :
    ChangesOnly l' s t := fun part hp => h part fun hm => hp (sub hm)

theorem ChangesOnly.then {l1 l2 l : List Part} {s t u : State} (h1 : ChangesOnly l1 s t) (h2 : ChangesOnly l2 t u)
    (sub1 : l1 ⊆ l) (sub2 : l2 ⊆ l) : ChangesOnly l s u := (h1.mono sub1).trans (h2.mono sub2)

theorem ChangesOnly.foldl {α : Type} {l : List Part} {f : State → α → State} (h : ∀ s a, ChangesOnly l s (f s a))
    (xs : List α) (s : State) : ChangesOnly l s (xs.foldl f s) := by
  induction xs generalizing s with
  | nil => exact .refl l s
  | cons x xs ih => exact (h s x).trans (ih _)

theorem ChangesOnly.ite {c : Prop} [Decidable c] {l : List Part} {s t u : State} (h1 : ChangesOnly l s t)
    (h2 : ChangesOnly l s u) : ChangesOnly l s (if c then t else u) := by split <;> assumption

@[simp] theorem mem_everyPort (f : Port → Part) (x : Part) : x ∈ everyPort f ↔ ∃ p, f p = x := by
  have hp : ∀ p : Port, p ∈ allPorts := by decide
  simp [everyPort, hp]

theorem mem_noticeOrder (f : NoticeFlag) : f ∈ noticeOrder := by
  have hp : ∀ p : Port, p ∈ allPorts := by decide
  cases f <;> simp [noticeOrder, hp]

theorem mem_everyNotice (f : NoticeFlag) : .notice f ∈ everyNotice := by simp [everyNotice, mem_noticeOrder]

/-! ### The named updates -/

theorem modMonitor_changes (s : State) (p : Port) (f : Monitor → Monitor) :
    ChangesOnly [.monitor p] s (s.modMonitor p f) := by
  intro part h; cases part <;> simp_all [Part.same]

theorem modFramer_changes (s : State) (p : Port) (f : Framer → Framer) :
    ChangesOnly [.framer p] s (s.modFramer p f) := by
  intro part h; cases part <;> simp_all [Part.same]

theorem modBook_changes (s : State) (p : Port) (f : Book → Book) : ChangesOnly [.book p] s (s.modBook p f) := by
  intro part h; cases part <;> simp_all [Part.same]

theorem modContract_changes (s : State) (p : Port) (f : Contract → Contract) :
    ChangesOnly [.contract p] s (s.modContract p f) := by
  intro part h; cases part <;> simp_all [Part.same]

theorem modDrawMonitor_changes (s : State) (p : Port) (f : DrawMonitor → DrawMonitor) :
    ChangesOnly [.drawMonitor p] s (s.modDrawMonitor p f) := by
  intro part h; cases part <;> simp_all [Part.same]

theorem setOwn_changes (s : State) (p : Port) (r : Option PartnerRecord) : ChangesOnly [.own p] s (s.setOwn p r) := by
  intro part h; cases part <;> simp_all [Part.same]

theorem setPool_changes (s : State) (l : List PooledRecord) : ChangesOnly [.pool] s (s.setPool l) := by
  intro part h; cases part <;> simp_all [Part.same]

theorem modLimit_changes (s : State) (f : LimitUnit → LimitUnit) : ChangesOnly [.limit] s (s.modLimit f) := by
  intro part h; cases part <;> simp_all [Part.same]

theorem modPolicy_changes (s : State) (f : PolicyStore → PolicyStore) : ChangesOnly [.policy] s (s.modPolicy f) := by
  intro part h; cases part <;> simp_all [Part.same]

theorem modSupervisor_changes (s : State) (f : Supervisor → Supervisor) :
    ChangesOnly [.supervisor] s (s.modSupervisor f) := by
  intro part h; cases part <;> simp_all [Part.same]

theorem modPortMeasure_changes (s : State) (p : Port) (f : PortMeasure → PortMeasure) :
    ChangesOnly [.measure p] s (s.modPortMeasure p f) := by
  intro part h; cases part <;> simp_all [Part.same, State.modPortMeasure]

theorem takeFree_changes (s : State) : ChangesOnly [.freeCount] s (takeFree s).2 := by
  intro part h; cases part <;> simp_all [Part.same, takeFree]

/-! ### Demands and notices -/

theorem raiseDemand_changes (c : DemandClass) (p : Port) (s : State) :
    ChangesOnly [.demands p] s (raiseDemand c p s) := by
  intro part h; cases part <;> simp_all [Part.same, raiseDemand]

theorem reviewAttached_changes (s : State) : ChangesOnly (everyPort .demands) s (reviewAttached s) :=
  .foldl (fun _ _ => .ite ((raiseDemand_changes _ _ _).mono (by simp)) (.refl _ _)) _ _

theorem post_changes (f : NoticeFlag) (code : Byte) (sn : BitVec 32) (s : State) :
    ChangesOnly [.notice f] s (post f code sn s) := by
  intro part h
  cases part <;> simp_all [Part.same, post, NoticeSet.get_put]

theorem clearNotice_changes (f : NoticeFlag) (s : State) : ChangesOnly [.notice f] s (clearNotice f s) := by
  intro part h
  cases part <;> simp_all [Part.same, clearNotice, NoticeSet.get_put]

theorem postPartner_changes (code : Byte) (p : Port) (s : State) :
    ChangesOnly [.notice (.partner p)] s (postPartner code p s) := post_changes _ _ _ _

theorem protocolError_changes (p : Port) (s : State) : ChangesOnly [.notice (.partner p)] s (protocolError p s) :=
  post_changes _ _ _ _

theorem postContract_changes (o : ContractOutcome) (p : Port) (s : State) :
    ChangesOnly [.notice (.contract p)] s (postContract o p s) := post_changes _ _ _ _

theorem postSupply_changes (code : Byte) (p : Port) (b : Nat) (s : State) :
    ChangesOnly [.notice .supply] s (postSupply code p b s) := post_changes _ _ _ _

theorem postMeter_changes (code : Byte) (c : Channel) (s : State) :
    ChangesOnly [.notice .meter] s (postMeter code c s) := post_changes _ _ _ _

theorem postLink_changes (code : Byte) (s : State) : ChangesOnly [.notice .link] s (postLink code s) :=
  post_changes _ _ _ _

/-! ### The Limit Unit and the draw switches -/

theorem recompute_changes (s : State) : ChangesOnly [.limit] s (recompute s) := modLimit_changes _ _

theorem raiseTrim_changes (n : Nat) (s : State) : ChangesOnly [.limit] s (raiseTrim n s) :=
  (modLimit_changes _ _).trans (recompute_changes _)

theorem lowerTrim_changes (n : Nat) (s : State) : ChangesOnly [.limit] s (lowerTrim n s) :=
  (modLimit_changes _ _).trans (recompute_changes _)

theorem setCeiling_changes (n : Nat) (s : State) : ChangesOnly [.limit] s (setCeiling n s) :=
  (modLimit_changes _ _).trans (recompute_changes _)

theorem removeCeiling_changes (s : State) : ChangesOnly [.limit] s (removeCeiling s) :=
  (modLimit_changes _ _).trans (recompute_changes _)

/-- What opening or closing a draw switch may change (R140, R142). -/
def switchParts (p : Port) : List Part := [.contract p, .drawMonitor p, .limit]

theorem closeDraw_changes (p : Port) (s : State) : ChangesOnly (switchParts p) s (closeDraw p s) :=
  (((modContract_changes _ _ _).then (modDrawMonitor_changes _ _ _) (by simp [switchParts]) (by simp [switchParts])).then
    (recompute_changes _) (fun _ h => h) (by simp [switchParts]))

theorem openDraw_changes (p : Port) (s : State) : ChangesOnly (switchParts p) s (openDraw p s) :=
  (((modContract_changes _ _ _).then (modDrawMonitor_changes _ _ _) (by simp [switchParts]) (by simp [switchParts])).then
    (recompute_changes _) (fun _ h => h) (by simp [switchParts]))

end Sys2Proof.Machine
end

