-- ==== Sys2Proof/Laws/TalkLaws.lean ====
section
/-! SUPPORT. What each operation of the Talk Line Framer and of the Offer Book may change. -/

namespace Sys2Proof.Machine

open Sys2Proof

/-! ### Placing and sending -/

theorem framer_place_sub (p : Port) : [Part.framer p] ⊆ placeParts p := by simp [placeParts]

theorem transmit_changes (p : Port) (s : State) : ChangesOnly (placeParts p) s (transmit p s) := by
  unfold transmit
  exact .ite ((modFramer_changes _ _ _).then (modMonitor_changes _ _ _) (by simp [placeParts]) (by simp [placeParts]))
    ((modFramer_changes _ _ _).mono (framer_place_sub p))

theorem place_changes (p : Port) (f : EngineFrame) (s : State) : ChangesOnly (placeParts p) s (place p f s) :=
  (modFramer_changes _ _ _).then (transmit_changes _ _) (framer_place_sub p) (fun _ h => h)

theorem answerDeny_changes (p : Port) (b : Nat) (r : DenyReason) (s : State) :
    ChangesOnly (placeParts p) s (answerDeny p b r s) := place_changes _ _ _

theorem answerHold_changes (p : Port) (b : Nat) (s : State) : ChangesOnly (placeParts p) s (answerHold p b s) :=
  place_changes _ _ _

/-! ### Exchanges -/

theorem startExchange_changes (p : Port) (k : ExchangeKind) (s : State) :
    ChangesOnly (placeParts p) s (startExchange p k s) :=
  (modFramer_changes _ _ _).then (place_changes _ _ _) (framer_place_sub p) (fun _ h => h)

theorem requestExchange_changes (p : Port) (k : ExchangeKind) (s : State) :
    ChangesOnly (placeParts p) s (requestExchange p k s) := by
  unfold requestExchange
  split
  · exact startExchange_changes _ _ _
  · exact (modFramer_changes _ _ _).mono (framer_place_sub p)

theorem endExchange_changes (p : Port) (s : State) : ChangesOnly (placeParts p) s (endExchange p s) := by
  unfold endExchange
  split
  · exact (modFramer_changes _ _ _).mono (framer_place_sub p)
  · exact (modFramer_changes _ _ _).then (startExchange_changes _ _ _) (framer_place_sub p) (fun _ h => h)

theorem withdrawClaim_changes (p : Port) (s : State) : ChangesOnly (placeParts p) s (withdrawClaim p s) := by
  have h0 := fun g => (modFramer_changes s p g).mono (framer_place_sub p)
  have h1 := fun t g => (modFramer_changes t p g).mono (framer_place_sub p)
  unfold withdrawClaim
  dsimp only
  split
  · split
    · exact (h0 _).trans (h1 _ _)
    · exact ((h0 _).trans (h1 _ _)).trans (endExchange_changes _ _)
  · exact (h0 _).trans (endExchange_changes _ _)
  · exact h0 _

theorem endProbe_changes (p : Port) (s : State) : ChangesOnly (placeParts p) s (endProbe p s) := by
  have h1 := fun t g => (modFramer_changes t p g).mono (framer_place_sub p)
  unfold endProbe
  dsimp only
  split
  · exact ((h1 _ _).trans (h1 _ _)).trans (endExchange_changes _ _)
  · exact h1 _ _

theorem frameSent_changes (p : Port) (s : State) : ChangesOnly (placeParts p) s (frameSent p s) := by
  have h1 := fun t g => (modFramer_changes t p g).mono (framer_place_sub p)
  unfold frameSent
  split
  · exact .refl _ _
  · refine ChangesOnly.trans ?_ (transmit_changes _ _)
    split
    · exact (h1 _ _).trans (h1 _ _)
    · exact (h1 _ _).trans (endExchange_changes _ _)
    · exact h1 _ _

theorem holdExchange_changes (p : Port) (s : State) : ChangesOnly (placeParts p) s (holdExchange p s) :=
  (modFramer_changes _ _ _).mono (framer_place_sub p)

theorem resend_changes (p : Port) (s : State) : ChangesOnly (placeParts p) s (resend p s) := by
  unfold resend
  split
  · exact (modFramer_changes _ _ _).then (place_changes _ _ _) (framer_place_sub p) (fun _ h => h)
  · exact .refl _ _

/-! ### Received frames -/

/-- What counting and discarding a received frame may change. -/
def lineParts (p : Port) : List Part := [.framer p, .monitor p, .notice (.partner p)]

theorem place_line_sub (p : Port) : placeParts p ⊆ lineParts p := by simp [placeParts, lineParts]

theorem countBad_changes (p : Port) (s : State) : ChangesOnly [.framer p, .notice (.partner p)] s (countBad p s) := by
  have h1 := fun (t : State) g =>
    (modFramer_changes t p g).mono (l' := [.framer p, .notice (.partner p)]) (by simp)
  unfold countBad
  dsimp only
  split
  · exact ((h1 _ _).trans (h1 _ _)).trans ((postPartner_changes _ _ _).mono (by simp))
  · exact h1 _ _

theorem lineCleared_changes (p : Port) (s : State) : ChangesOnly [.framer p] s (lineCleared p s) :=
  modFramer_changes _ _ _

theorem countGood_changes (p : Port) (s : State) : ChangesOnly [.framer p] s (countGood p s) :=
  modFramer_changes _ _ _

/-- A received frame changes only what taking it may change, and what counting and discarding it may. -/
theorem receiveFrame_changes {p : Port} {kind : BitVec 6} {f : RawFrame} {take : State → State} {l : List Part}
    (ht : ∀ s, ChangesOnly l s (take s)) (hl : lineParts p ⊆ l) (s : State) :
    ChangesOnly l s (receiveFrame p kind f take s) := by
  have hp : placeParts p ⊆ l := fun _ h => hl (place_line_sub p h)
  have hf : [Part.framer p] ⊆ l := fun _ h => hp (framer_place_sub p h)
  have hb : [Part.framer p, .notice (.partner p)] ⊆ l := fun x h => hl (by simp [lineParts] at h ⊢; tauto)
  have hc := (lineCleared_changes p s).mono hf
  unfold receiveFrame
  refine .ite ((modFramer_changes _ _ _).mono hf) (.ite hc (.ite (hc.trans ((transmit_changes _ _).mono hp)) (.ite ?_ ?_)))
  · exact ((hc.trans ((countGood_changes _ _).mono hf)).trans (ht _)).trans ((transmit_changes _ _).mono hp)
  · exact (hc.trans ((countBad_changes _ _).mono hb)).trans ((transmit_changes _ _).mono hp)

/-- The tests of R22 change only what routing the frame may change, and what discarding it may. -/
theorem takeTalking_changes {p : Port} {kind : BitVec 6} {f : RawFrame} {route : State → State} {l : List Part}
    (hr : ∀ s, ChangesOnly l s (route s)) (hl : lineParts p ⊆ l) (s : State) :
    ChangesOnly l s (takeTalking p kind f route s) := by
  have hp : placeParts p ⊆ l := fun _ h => hl (place_line_sub p h)
  have hn : [Part.notice (.partner p)] ⊆ l := fun x h => hl (by simp_all [lineParts])
  have he := fun s => (protocolError_changes p s).mono hn
  unfold takeTalking
  exact .ite (he _) (.ite (he _) (.ite ((answerDeny_changes _ _ _ _).mono hp) (.ite (he _) (hr _))))

/-! ### The Offer Book -/

/-- What a filling or emptying of a book may change (R45, R48). -/
def bookParts (p : Port) : List Part := [.book p, .monitor p, .demands p]

theorem raiseBookDemand_changes (p : Port) (s : State) : ChangesOnly (bookParts p) s (raiseBookDemand p s) :=
  (modBook_changes _ _ _).then (raiseDemand_changes _ _ _) (by simp [bookParts]) (by simp [bookParts])

theorem replaceBook_changes (p : Port) (q : List OfferPoint) (s : State) :
    ChangesOnly (bookParts p) s (replaceBook p q s) := by
  have h : ∀ g, ChangesOnly (bookParts p) s (offerAccepted p (s.modBook p g)) := fun g =>
    (modBook_changes _ _ _).then (modMonitor_changes _ _ _) (by simp [bookParts]) (by simp [bookParts])
  unfold replaceBook
  dsimp only
  split
  · exact (h _).trans ((raiseDemand_changes _ _ _).mono (by simp [bookParts]))
  · exact (h _).trans (raiseBookDemand_changes _ _)

theorem emptyBook_changes (p : Port) (s : State) : ChangesOnly (bookParts p) s (emptyBook p s) :=
  (modBook_changes _ _ _).then (raiseDemand_changes _ _ _) (by simp [bookParts]) (by simp [bookParts])

theorem buildLegacy_changes (p : Port) (e : Nat) (r : Rating) (s : State) :
    ChangesOnly (bookParts p) s (buildLegacy p e r s) :=
  (modBook_changes _ _ _).then (raiseBookDemand_changes _ _) (by simp [bookParts]) (fun _ h => h)

theorem rebuildLegacy_changes (p : Port) (e : Nat) (r : Rating) (s : State) :
    ChangesOnly (bookParts p) s (rebuildLegacy p e r s) := by
  unfold rebuildLegacy
  exact .ite (.refl _ _)
    ((modBook_changes _ _ _).then (raiseDemand_changes _ _ _) (by simp [bookParts]) (by simp [bookParts]))

/-- What a meter result may change at the Port Monitor and the book (R9). -/
def resultParts (p : Port) : List Part := [.book p, .monitor p, .demands p, .notice (.partner p)]

theorem deliverRated_changes (p : Port) (e : Nat) (r : Rating) (s : State) :
    ChangesOnly (resultParts p) s (deliverRated p e r s) := by
  have hb : bookParts p ⊆ resultParts p := by simp [bookParts, resultParts]
  have hn : [Part.notice (.partner p)] ⊆ resultParts p := by simp [resultParts]
  unfold deliverRated
  split
  · exact (((modMonitor_changes _ _ _).mono (by simp [resultParts])).trans ((buildLegacy_changes _ _ _ _).mono hb)).trans
      ((postPartner_changes _ _ _).mono hn)
  · exact (((modMonitor_changes _ _ _).mono (by simp [resultParts])).trans ((buildLegacy_changes _ _ _ _).mono hb)).trans
      ((postPartner_changes _ _ _).mono hn)
  · exact (rebuildLegacy_changes _ _ _ _).mono hb
  all_goals exact .refl _ _

theorem deliverUnrated_changes (p : Port) (s : State) : ChangesOnly (resultParts p) s (deliverUnrated p s) := by
  have hb : bookParts p ⊆ resultParts p := by simp [bookParts, resultParts]
  have hn : [Part.notice (.partner p)] ⊆ resultParts p := by simp [resultParts]
  have hm := fun (t : State) g => (modMonitor_changes t p g).mono (l' := resultParts p) (by simp [resultParts])
  unfold deliverUnrated
  split
  · exact (hm _ _).trans ((postPartner_changes _ _ _).mono hn)
  · exact ((hm _ _).trans ((emptyBook_changes _ _).mono hb)).trans ((postPartner_changes _ _ _).mono hn)
  all_goals exact .refl _ _

end Sys2Proof.Machine
end

