-- ==== Sys2Proof/Laws/MeterLaws.lean ====
section
/-! SUPPORT. What each operation of the ID Meter may change: all of it lies within `meterParts`. -/

namespace Sys2Proof.Machine

open Sys2Proof

/-- Every change of the meter's own record. -/
theorem modMeter_changes (f : Meter → Meter) (s : State) : ChangesOnly meterParts s (s.modMeter f) := by
  intro part h
  cases part <;> simp_all [Part.same, meterParts]

theorem measure_meter_changes (p : Port) (f : PortMeasure → PortMeasure) (s : State) :
    ChangesOnly meterParts s (s.modPortMeasure p f) := modMeter_changes _ _

theorem takeChannel_changes (s : State) : ChangesOnly meterParts s (takeChannel s) := modMeter_changes _ _

theorem addChannel_changes (c : Channel) (s : State) : ChangesOnly meterParts s (addChannel c s) :=
  modMeter_changes _ _

theorem queuePair_changes (s : State) : ChangesOnly meterParts s (queuePair s) := modMeter_changes _ _

theorem postMeter_meter_changes (code : Byte) (c : Channel) (s : State) :
    ChangesOnly meterParts s (postMeter code c s) := (postMeter_changes _ _ _).mono (by simp [meterParts])

theorem startMeasure_changes (p : Port) (c : Bool) (s : State) : ChangesOnly meterParts s (startMeasure p c s) := by
  unfold startMeasure
  split
  · exact ((measure_meter_changes _ _ _).trans (addChannel_changes _ _)).trans (takeChannel_changes _)
  all_goals exact .ite (measure_meter_changes _ _ _) (.refl _ _)

theorem result_meter_sub (p : Port) : resultParts p ⊆ meterParts := by simp [resultParts, meterParts]

theorem finishFlag_changes (p : Port) (c : Option UnratedCode) (s : State) :
    ChangesOnly meterParts s (finishFlag p c s) := by
  unfold finishFlag
  exact .ite ((measure_meter_changes _ _ _).trans (postMeter_meter_changes _ _ _)) (measure_meter_changes _ _ _)

theorem endRated_changes (p : Port) (e : Nat) (r : Rating) (n : Nat) (s : State) :
    ChangesOnly meterParts s (endRated p e r n s) :=
  ((measure_meter_changes _ _ _).trans ((deliverRated_changes _ _ _ _).mono (result_meter_sub p))).trans
    (finishFlag_changes _ _ _)

theorem endUnrated_changes (p : Port) (c : UnratedCode) (n : Option Nat) (s : State) :
    ChangesOnly meterParts s (endUnrated p c n s) :=
  ((measure_meter_changes _ _ _).trans ((deliverUnrated_changes _ _).mono (result_meter_sub p))).trans
    (finishFlag_changes _ _ _)

theorem rate_changes (p : Port) (n : Nat) (s : State) : ChangesOnly meterParts s (rate p n s) := by
  unfold rate
  split
  · exact endUnrated_changes _ _ _ _
  · exact .ite (endRated_changes _ _ _ _ _) (endUnrated_changes _ _ _ _)

theorem measureAgain_changes (p : Port) (n : Nat) (s : State) : ChangesOnly meterParts s (measureAgain p n s) :=
  (measure_meter_changes _ _ _).trans (addChannel_changes _ _)

theorem acceptResistance_changes (p : Port) (n : Nat) (s : State) :
    ChangesOnly meterParts s (acceptResistance p n s) := by
  unfold acceptResistance
  split
  · exact measureAgain_changes _ _ _
  · exact .ite (rate_changes _ _ _) (.ite (measureAgain_changes _ _ _) (endUnrated_changes _ _ _ _))

theorem referenceFault_changes (p : Port) (s : State) : ChangesOnly meterParts s (referenceFault p s) :=
  (((endUnrated_changes _ _ _ _).trans (postMeter_meter_changes _ _ _)).trans (modMeter_changes _ _)).trans
    (queuePair_changes _)

theorem resolve_changes (p : Port) (n : Nat) (s : State) : ChangesOnly meterParts s (resolve p n s) := by
  unfold resolve
  exact .ite (referenceFault_changes _ _) (acceptResistance_changes _ _ _)

theorem holdConversion_changes (p : Port) (n : Nat) (s : State) : ChangesOnly meterParts s (holdConversion p n s) :=
  (measure_meter_changes _ _ _).trans (queuePair_changes _)

theorem resolveHeld_changes (p : Port) (s : State) : ChangesOnly meterParts s (resolveHeld p s) := by
  unfold resolveHeld
  split
  · exact resolve_changes _ _ _
  · exact .refl _ _

theorem countConversion_changes (p : Port) (s : State) : ChangesOnly meterParts s (countConversion p s) := by
  unfold countConversion
  exact .ite (((measure_meter_changes _ _ _).trans (modMeter_changes _ _)).trans (queuePair_changes _))
    ((measure_meter_changes _ _ _).trans (modMeter_changes _ _))

theorem portCompleted_changes (p : Port) (o : ConversionOutcome) (s : State) :
    ChangesOnly meterParts s (portCompleted p o s) := by
  have h0 : ChangesOnly meterParts s (countConversion p (s.modMeter fun m => { m with inFlight := none })) :=
    (modMeter_changes _ _).trans (countConversion_changes _ _)
  unfold portCompleted
  dsimp only
  refine ChangesOnly.trans ?_ (takeChannel_changes _)
  split
  · exact h0.trans (endUnrated_changes _ _ _ _)
  · exact h0.trans ((measure_meter_changes _ _ _).trans (endUnrated_changes _ _ _ _))
  · split
    · exact h0.trans ((measure_meter_changes _ _ _).trans (resolve_changes _ _ _))
    · exact h0.trans ((measure_meter_changes _ _ _).trans (holdConversion_changes _ _ _))

theorem settleHeld_changes (o : ConversionOutcome) (s : State) : ChangesOnly meterParts s (settleHeld o s) := by
  unfold settleHeld
  split
  · exact .refl _ _
  · dsimp only
    refine ChangesOnly.trans ((takeFree_changes s).mono (by simp [meterParts])) (.foldl (fun _ _ => ?_) _ _)
    exact .ite (resolveHeld_changes _ _) (endUnrated_changes _ _ _ _)

theorem referenceCompleted_changes (hi : Bool) (o : ConversionOutcome) (s : State) :
    ChangesOnly meterParts s (referenceCompleted hi o s) := by
  have hf := fun t => (takeFree_changes t).mono (l' := meterParts) (by simp [meterParts])
  have h0 : ChangesOnly meterParts s (s.modMeter fun m =>
      { m.setReference hi ((m.reference hi).updated o) with inFlight := none }) := modMeter_changes _ _
  unfold referenceCompleted
  dsimp only
  refine ChangesOnly.trans ?_ (takeChannel_changes _)
  split
  · exact h0.trans ((postMeter_meter_changes _ _ _).trans (settleHeld_changes _ _))
  · split
    · exact h0.trans (settleHeld_changes _ _)
    · split
      · exact h0.trans (((hf _).trans (postMeter_meter_changes _ _ _)).trans (settleHeld_changes _ _))
      · exact h0.trans (((hf _).trans (settleHeld_changes _ _)).trans (postMeter_meter_changes _ _ _))

theorem endConversion_changes (c : Channel) (o : ConversionOutcome) (s : State) :
    ChangesOnly meterParts s (endConversion c o s) := by
  cases c
  · exact portCompleted_changes _ _ _
  · exact referenceCompleted_changes _ _ _
  · exact referenceCompleted_changes _ _ _

theorem abandonMeasure_changes (p : Port) (s : State) : ChangesOnly meterParts s (abandonMeasure p s) := by
  unfold abandonMeasure
  dsimp only
  split
  · exact measure_meter_changes _ _ _
  · exact (modMeter_changes _ _).trans (measure_meter_changes _ _ _)
  · exact measure_meter_changes _ _ _
  · exact ((modMeter_changes _ _).trans (measure_meter_changes _ _ _)).trans (takeChannel_changes _)

end Sys2Proof.Machine
end

