-- ==== Sys2Proof/Laws/SupplyLaws.lean ====
section
/-! SUPPORT. What each operation of the Supply Unit may change: all of it lies within `supplyParts`. -/

namespace Sys2Proof.Machine

open Sys2Proof

theorem place_supply_sub (p : Port) : placeParts p ⊆ supplyParts := by simp [placeParts, supplyParts]

theorem setGrant_changes (p : Port) (b : Nat) (g : Option Grant) (s : State) :
    ChangesOnly supplyParts s (setGrant p b g s) := by
  unfold setGrant
  exact .ite ((setOwn_changes _ _ _).mono (by simp [supplyParts])) ((setPool_changes _ _).mono (by simp [supplyParts]))

theorem mapGrants_changes (f : Grant → Grant) (s : State) : ChangesOnly supplyParts s (mapGrants f s) := by
  intro part h
  cases part <;> simp_all [Part.same, mapGrants, supplyParts]

theorem modSupply_changes {l : List Part} (s : State) (f : SupplyUnit → SupplyUnit)
    (h : ∀ u : SupplyUnit, (f u).budget = u.budget) (hl : supplyParts ⊆ l) : ChangesOnly l s (s.modSupply f) := by
  refine ChangesOnly.mono (l := supplyParts) ?_ hl
  intro part hp
  cases part <;> simp_all [Part.same, supplyParts]

theorem place_supply_changes (p : Port) (f : EngineFrame) (s : State) : ChangesOnly supplyParts s (place p f s) :=
  (place_changes _ _ _).mono (place_supply_sub p)

theorem postSupply_supply_changes (c : Byte) (p : Port) (b : Nat) (s : State) :
    ChangesOnly supplyParts s (postSupply c p b s) := (postSupply_changes _ _ _ _).mono (by simp [supplyParts])

theorem setWaitList_changes (l : List WaitEntry) (s : State) : ChangesOnly supplyParts s (setWaitList l s) :=
  modSupply_changes _ _ (fun _ => rfl) (fun _ h => h)

theorem setSupplySwitch_changes (p : Port) (c : Bool) (s : State) :
    ChangesOnly supplyParts s (setSupplySwitch p c s) := modSupply_changes _ _ (fun _ => rfl) (fun _ h => h)

theorem openIfUnused_changes (p : Port) (s : State) : ChangesOnly supplyParts s (openIfUnused p s) :=
  .ite (setSupplySwitch_changes _ _ _) (.refl _ _)

theorem removeWait_changes (p : Port) (b : Nat) (s : State) : ChangesOnly supplyParts s (removeWait p b s) :=
  setWaitList_changes _ _

theorem renumber_changes (s : State) : ChangesOnly supplyParts s (renumber s) :=
  (mapGrants_changes _ _).trans (modSupply_changes _ _ (fun _ => rfl) (fun _ h => h))

theorem takeOrder_changes (s : State) : ChangesOnly supplyParts s (takeOrder s) :=
  (ChangesOnly.ite (renumber_changes _) (.refl _ _)).trans (modSupply_changes _ _ (fun _ => rfl) (fun _ h => h))

theorem makeGrant_changes (p : Port) (b c r : Nat) (s : State) : ChangesOnly supplyParts s (makeGrant p b c r s) :=
  ((((takeOrder_changes _).trans (setGrant_changes _ _ _ _)).trans (place_supply_changes _ _ _)).trans
    (setSupplySwitch_changes _ _ _)).trans (postSupply_supply_changes _ _ _ _)

theorem answerDeny_supply_changes (p : Port) (b : Nat) (r : DenyReason) (s : State) :
    ChangesOnly supplyParts s (answerDeny p b r s) := place_supply_changes _ _ _

theorem answerHold_supply_changes (p : Port) (b : Nat) (s : State) :
    ChangesOnly supplyParts s (answerHold p b s) := place_supply_changes _ _ _

theorem serveHead_changes {s t : State} (h : serveHead s = some t) : ChangesOnly supplyParts s t := by
  unfold serveHead at h
  split at h
  · cases h
  · split at h
    · cases h
      exact (setWaitList_changes _ _).trans (answerDeny_supply_changes _ _ _ _)
    · dsimp only at h
      split at h
      · cases h
        exact (setWaitList_changes _ _).trans (makeGrant_changes _ _ _ _ _)
      · cases h

theorem lowerHead_changes (s : State) : ChangesOnly supplyParts s (lowerHead s) := by
  unfold lowerHead
  split
  · exact .refl _ _
  · exact setWaitList_changes _ _

theorem serveRounds_changes (n : Nat) (s : State) : ChangesOnly supplyParts s (serveRounds n s) := by
  induction n generalizing s with
  | zero => exact .refl _ _
  | succ n ih =>
    unfold serveRounds
    split
    · rename_i t ht
      exact (serveHead_changes ht).trans (ih t)
    · exact lowerHead_changes s

theorem serve_changes (s : State) : ChangesOnly supplyParts s (serve s) := serveRounds_changes _ _

theorem joinWaitList_changes (p : Port) (b r : Nat) (s : State) :
    ChangesOnly supplyParts s (joinWaitList p b r s) :=
  .ite ((setWaitList_changes _ _).trans (answerHold_supply_changes _ _ _)) (answerDeny_supply_changes _ _ _ _)

theorem demandNew_changes (p : Port) (b r : Nat) (s : State) : ChangesOnly supplyParts s (demandNew p b r s) :=
  .ite (makeGrant_changes _ _ _ _ _) (joinWaitList_changes _ _ _ _)

theorem demandRenew_changes (p : Port) (b : Nat) (g : Grant) (r : Nat) (s : State) :
    ChangesOnly supplyParts s (demandRenew p b g r s) := by
  have h : ∀ (c : Prop) [Decidable c], ChangesOnly supplyParts s (if c then takeOrder s else s) :=
    fun _ _ => .ite (takeOrder_changes s) (.refl _ _)
  unfold demandRenew
  dsimp only
  split
  · exact (((h _).trans (setGrant_changes _ _ _ _)).trans (place_supply_changes _ _ _)).trans
      (postSupply_supply_changes _ _ _ _)
  · exact ((h _).trans (setGrant_changes _ _ _ _)).trans (place_supply_changes _ _ _)

theorem demandWaiting_changes (p : Port) (b r : Nat) (s : State) :
    ChangesOnly supplyParts s (demandWaiting p b r s) :=
  (setWaitList_changes _ _).trans (answerHold_supply_changes _ _ _)

theorem supplyDemand_changes (p : Port) (b v c : Nat) (s : State) :
    ChangesOnly supplyParts s (supplyDemand p b v c s) := by
  unfold supplyDemand
  split
  · exact answerDeny_supply_changes _ _ _ _
  · dsimp only
    split
    · exact (demandRenew_changes _ _ _ _ _).trans (serve_changes _)
    · exact .ite ((demandWaiting_changes _ _ _ _).trans (serve_changes _))
        ((demandNew_changes _ _ _ _).trans (serve_changes _))

theorem giveUp_changes (p : Port) (b : Nat) (s : State) : ChangesOnly supplyParts s (giveUp p b s) := by
  unfold giveUp
  dsimp only
  split
  · exact ((removeWait_changes _ _ _).trans (setGrant_changes _ _ _ _)).trans (openIfUnused_changes _ _)
  · exact removeWait_changes _ _ _

theorem freePooled_changes (p : Port) (b : Nat) (s : State) : ChangesOnly supplyParts s (freePooled p b s) :=
  (setPool_changes _ _).mono (by simp [supplyParts])

theorem supplyRetire_changes (p : Port) (b : Nat) (s : State) : ChangesOnly supplyParts s (supplyRetire p b s) := by
  unfold supplyRetire
  refine ChangesOnly.trans ?_ (serve_changes _)
  exact .ite (giveUp_changes _ _ _) ((giveUp_changes _ _ _).trans (freePooled_changes _ _ _))

theorem freeAbove_changes (p : Port) (n : Nat) (s : State) : ChangesOnly supplyParts s (freeAbove p n s) := by
  unfold freeAbove
  dsimp only
  exact .ite (.refl _ _)
    ((ChangesOnly.foldl (fun _ _ => (giveUp_changes _ _ _).trans (freePooled_changes _ _ _)) _ _).trans (serve_changes _))

/-- Allocating a record changes only what the frame that needs it may change, within these parts. -/
theorem withRecord_changes {p : Port} {b : Nat} {go : State → State} {l : List Part}
    (hg : ∀ s, ChangesOnly l s (go s)) (hl : [Part.pool, .framer p, .monitor p, .notice (.partner p)] ⊆ l) (s : State) :
    ChangesOnly l s (withRecord p b go s) := by
  unfold withRecord
  refine .ite (hg _) (.ite (((setPool_changes _ _).mono fun x h => hl (by simp_all)).trans (hg _)) ?_)
  exact ((answerDeny_changes _ _ _ _).mono fun x h => hl (by simp [placeParts] at h ⊢; tauto)).trans
    ((postPartner_changes _ _ _).mono fun x h => hl (by simp_all))

/-! ### Decrease, rebalance, cut and detach -/

theorem cutGrant_changes (g : GrantView) (s : State) : ChangesOnly supplyParts s (cutGrant g s) := by
  have h : ChangesOnly supplyParts s (postSupply noticeCut g.port g.branch
      (openIfUnused g.port (place g.port (.cut g.branch) (setGrant g.port g.branch none s)))) :=
    (((setGrant_changes _ _ _ _).trans (place_supply_changes _ _ _)).trans (openIfUnused_changes _ _)).trans
      (postSupply_supply_changes _ _ _ _)
  unfold cutGrant
  dsimp only
  split
  · exact h.trans (setWaitList_changes _ _)
  · exact h.trans (postSupply_supply_changes _ _ _ _)

theorem reduceGrant_changes (g : GrantView) (n : Nat) (s : State) : ChangesOnly supplyParts s (reduceGrant g n s) :=
  ((setGrant_changes _ _ _ _).trans (place_supply_changes _ _ _)).trans (postSupply_supply_changes _ _ _ _)

theorem giveWay_changes (g : GrantView) (n : Nat) (s : State) : ChangesOnly supplyParts s (giveWay g n s) :=
  .ite (reduceGrant_changes _ _ _) (cutGrant_changes _ _)

theorem decreaseSteps_changes (n : Nat) (s : State) : ChangesOnly supplyParts s (decreaseSteps n s) := by
  induction n generalizing s with
  | zero => exact .refl _ _
  | succ n ih =>
    unfold decreaseSteps
    split
    · split
      · exact (giveWay_changes _ _ _).trans (ih _)
      · exact .refl _ _
    · exact .refl _ _

/-- Setting the budget changes the budget and what the decrease may. -/
theorem takeBudget_changes (n : Nat) (s : State) : ChangesOnly (.budget :: supplyParts) s (takeBudget n s) := by
  have h : ChangesOnly (.budget :: supplyParts) s (s.modSupply fun u => { u with budget := n }) := by
    intro part hp
    cases part <;> simp_all [Part.same, supplyParts]
  unfold takeBudget
  dsimp only
  exact .ite (h.trans ((decreaseSteps_changes _ _).mono (List.subset_cons_self _ _))) h

theorem setBudget_changes (n : Nat) (s : State) : ChangesOnly (.budget :: supplyParts) s (setBudget n s) :=
  (takeBudget_changes _ _).trans ((serve_changes _).mono (List.subset_cons_self _ _))

theorem rebalancePort_changes (p : Port) (limit n : Nat) (s : State) :
    ChangesOnly supplyParts s (rebalancePort p limit n s) := by
  induction n generalizing s with
  | zero => exact .refl _ _
  | succ n ih =>
    unfold rebalancePort
    split
    · split
      · exact (giveWay_changes _ _ _).trans (ih _)
      · exact .refl _ _
    · exact .refl _ _

theorem lowerRequests_changes (n : Nat) (s : State) : ChangesOnly supplyParts s (lowerRequests n s) :=
  (mapGrants_changes _ _).trans (setWaitList_changes _ _)

theorem rebalance_changes (old : Nat) (s : State) : ChangesOnly supplyParts s (rebalance old s) := by
  unfold rebalance
  dsimp only
  refine ChangesOnly.trans ?_ (lowerRequests_changes _ _)
  exact .ite (.foldl (fun _ _ => rebalancePort_changes _ _ _ _) _ _) (.refl _ _)

theorem dropWaits_changes (p : Port) (s : State) : ChangesOnly supplyParts s (dropWaits p s) :=
  setWaitList_changes _ _

theorem dropGrants_changes (p : Port) (s : State) : ChangesOnly supplyParts s (dropGrants p s) :=
  .foldl (fun _ _ => setGrant_changes _ _ _ _) _ _

theorem supplyDetach_changes (p : Port) (s : State) : ChangesOnly supplyParts s (supplyDetach p s) :=
  ((dropGrants_changes _ _).trans (dropWaits_changes _ _)).trans (setSupplySwitch_changes _ _ _)

/-- The cut of a port takes one free choice besides. -/
theorem cutPort_changes (p : Port) (s : State) : ChangesOnly (.freeCount :: supplyParts) s (cutPort p s) := by
  have up : ∀ {t u : State}, ChangesOnly supplyParts t u → ChangesOnly (.freeCount :: supplyParts) t u :=
    fun h => h.mono (List.subset_cons_self _ _)
  unfold cutPort
  dsimp only
  refine ChangesOnly.trans ((takeFree_changes s).mono (by simp)) (up ?_)
  refine ChangesOnly.trans ?_ (serve_changes _)
  have h4 : ∀ (l : List GrantView) (t : State), ChangesOnly supplyParts t
      (l.foldl (fun t g => place p (.cut g.branch) (setGrant p g.branch none t)) t) :=
    fun l t => .foldl (fun _ _ => (setGrant_changes _ _ _ _).trans (place_supply_changes _ _ _)) l t
  have h5 : ∀ (l : List WaitEntry) (t : State), ChangesOnly supplyParts t
      (l.foldl (fun t w => answerDeny p w.branch .unavailable t) t) :=
    fun l t => .foldl (fun _ _ => answerDeny_supply_changes _ _ _ _) l t
  split
  · exact ((((h4 _ _).trans (setSupplySwitch_changes _ _ _)).trans (dropWaits_changes _ _)).trans (h5 _ _)).trans
      (postSupply_supply_changes _ _ _ _)
  · exact (((h4 _ _).trans (setSupplySwitch_changes _ _ _)).trans (dropWaits_changes _ _)).trans (h5 _ _)

end Sys2Proof.Machine
end

