-- ==== Sys2Proof/Laws/SequencerLaws.lean ====
section
/-! SUPPORT. What each operation of the Path Sequencer may change: all of it lies within `sequencerParts`. -/

namespace Sys2Proof.Machine

open Sys2Proof

/-! ### Changes within the sequencer's parts -/

theorem supply_seq_sub : supplyParts ⊆ sequencerParts := by
  intro x h
  simp only [sequencerParts, List.mem_append]
  tauto

theorem place_seq_sub (p : Port) : placeParts p ⊆ sequencerParts :=
  fun _ h => supply_seq_sub (place_supply_sub p h)

theorem contract_seq (s : State) (p : Port) (f : Contract → Contract) :
    ChangesOnly sequencerParts s (s.modContract p f) := (modContract_changes _ _ _).mono (by simp [sequencerParts])

theorem monitor_seq (s : State) (p : Port) (f : Monitor → Monitor) :
    ChangesOnly sequencerParts s (s.modMonitor p f) :=
  (modMonitor_changes _ _ _).mono (by simp [sequencerParts, supplyParts])

theorem drawMonitor_seq (s : State) (p : Port) (f : DrawMonitor → DrawMonitor) :
    ChangesOnly sequencerParts s (s.modDrawMonitor p f) :=
  (modDrawMonitor_changes _ _ _).mono (by simp [sequencerParts])

theorem recompute_seq (s : State) : ChangesOnly sequencerParts s (recompute s) :=
  (recompute_changes _).mono (by simp [sequencerParts])

theorem demand_seq (c : DemandClass) (p : Port) (s : State) : ChangesOnly sequencerParts s (raiseDemand c p s) :=
  (raiseDemand_changes _ _ _).mono (by simp [sequencerParts])

theorem place_seq (p : Port) (f : EngineFrame) (s : State) : ChangesOnly sequencerParts s (place p f s) :=
  (place_changes _ _ _).mono (place_seq_sub p)

theorem openDraw_seq (p : Port) (s : State) : ChangesOnly sequencerParts s (openDraw p s) :=
  (openDraw_changes _ _).mono (by simp [switchParts, sequencerParts])

theorem closeDraw_seq (p : Port) (s : State) : ChangesOnly sequencerParts s (closeDraw p s) :=
  (closeDraw_changes _ _).mono (by simp [switchParts, sequencerParts])

theorem setOutcome_changes (p : Port) (o : ContractOutcome) (s : State) :
    ChangesOnly [.contract p] s (setOutcome p o s) := modContract_changes _ _ _

theorem setOutcome_seq (p : Port) (o : ContractOutcome) (s : State) :
    ChangesOnly sequencerParts s (setOutcome p o s) := contract_seq _ _ _

theorem fallToBase_changes (p : Port) (v : Nat) (s : State) :
    ChangesOnly (switchParts p) s (fallToBase p v s) :=
  (((modContract_changes _ _ _).then (modDrawMonitor_changes _ _ _) (by simp [switchParts]) (by simp [switchParts])).then
    (recompute_changes _) (fun _ h => h) (by simp [switchParts]))

theorem fallToBase_seq (p : Port) (v : Nat) (s : State) : ChangesOnly sequencerParts s (fallToBase p v s) :=
  (fallToBase_changes _ _ _).mono (by simp [switchParts, sequencerParts])

/-- A change of the transition in service alone. -/
theorem service_changes (s : State) (f : Sequencer → Sequencer) (h : ∀ q, (f q).demands = q.demands) :
    ChangesOnly [.service] s (s.modSequencer f) := by
  intro part hp
  cases part <;> simp_all [Part.same]

theorem service_seq (s : State) (f : Sequencer → Sequencer) (h : ∀ q, (f q).demands = q.demands) :
    ChangesOnly sequencerParts s (s.modSequencer f) := (service_changes s f h).mono (by simp [sequencerParts])

theorem setTransition_seq (t : Option Transition) (s : State) : ChangesOnly sequencerParts s (setTransition t s) :=
  service_seq _ _ fun _ => rfl

theorem setStage_seq (g : Stage) (s : State) : ChangesOnly sequencerParts s (setStage g s) :=
  service_seq _ _ fun _ => rfl

theorem endService_changes (s : State) : ChangesOnly [.service] s (endService s) := service_changes _ _ fun _ => rfl

/-- The end of a transition touches the limit, the service and one CONTRACT notice. -/
theorem endTransition_changes (o : ContractOutcome) (p : Port) (s : State) :
    ChangesOnly [.limit, .service, .notice (.contract p)] s (endTransition o p s) :=
  (((removeCeiling_changes _).then (postContract_changes _ _ _) (by simp) (by simp)).trans
    ((endService_changes _).mono (by simp)))

theorem endTransition_seq (o : ContractOutcome) (p : Port) (s : State) :
    ChangesOnly sequencerParts s (endTransition o p s) :=
  (endTransition_changes _ _ _).mono (by simp [sequencerParts])

/-! ### Claims, release and switching -/

theorem stepOut_seq (p : Port) (s : State) : ChangesOnly sequencerParts s (stepOut p s) :=
  .ite ((openDraw_seq _ _).trans (service_seq _ _ fun _ => rfl)) (.refl _ _)

theorem startClaim_seq (e : PlanEntry) (g : Stage) (s : State) : ChangesOnly sequencerParts s (startClaim e g s) := by
  have h : ChangesOnly sequencerParts s (stepOut e.port (setStage g s)) := (setStage_seq _ _).trans (stepOut_seq _ _)
  unfold startClaim
  dsimp only
  split
  · exact (h.trans (contract_seq _ _ _)).trans ((requestExchange_changes _ _ _).mono (place_seq_sub _))
  · exact (h.trans (contract_seq _ _ _)).trans (drawMonitor_seq _ _ _)

theorem leavePort_seq (p : Port) (s : State) : ChangesOnly sequencerParts s (leavePort p s) := by
  unfold leavePort
  exact ChangesOnly.trans (.ite (place_seq _ _ _) (.refl _ _)) (contract_seq _ _ _)

theorem setRoles_seq (pl : Plan) (s : State) : ChangesOnly sequencerParts s (setRoles pl s) :=
  .foldl (fun _ _ => contract_seq _ _ _) _ _

theorem releaseAndEnd_seq (t : Transition) (s : State) : ChangesOnly sequencerParts s (releaseAndEnd t s) := by
  have h1 : ∀ (l : List Port) (u : State), ChangesOnly sequencerParts u (l.foldl (fun u p => leavePort p u) u) :=
    fun l u => .foldl (fun _ _ => leavePort_seq _ _) l u
  have h2 : ∀ (l : List Port) (u : State), ChangesOnly sequencerParts u
      (l.foldl (fun u p => if (u.contract.get p).drawClosed then setOutcome p .settled u else u) u) :=
    fun l u => .foldl (fun _ _ => .ite (setOutcome_seq _ _ _) (.refl _ _)) l u
  exact (((h1 _ _).trans (setRoles_seq _ _)).trans (h2 _ _)).trans (endTransition_seq _ _ _)

theorem closeJoining_seq (pl : Plan) (p : Port) (s : State) : ChangesOnly sequencerParts s (closeJoining pl p s) := by
  unfold closeJoining
  split
  · exact (contract_seq _ _ _).trans (closeDraw_seq _ _)
  all_goals exact closeDraw_seq _ _

theorem baseFall_seq (pl : Plan) (s : State) : ChangesOnly sequencerParts s (baseFall pl s) := by
  unfold baseFall
  split
  · exact .ite (fallToBase_seq _ _ _) (.refl _ _)
  all_goals exact .refl _ _

theorem openAll_seq (l : List Port) (s : State) : ChangesOnly sequencerParts s (openAll l s) :=
  .foldl (fun _ _ => openDraw_seq _ _) _ _

theorem makeBeforeBreak_seq (t : Transition) (l : List Port) (s : State) :
    ChangesOnly sequencerParts s (makeBeforeBreak t l s) := by
  unfold makeBeforeBreak
  refine ChangesOnly.trans ?_ (openAll_seq _ _)
  exact .foldl (fun _ _ => ChangesOnly.trans (.ite (openAll_seq _ _) (.refl _ _)) (closeJoining_seq _ _ _)) _ _

theorem closeAndEnd_seq (t : Transition) (s : State) : ChangesOnly sequencerParts s (closeAndEnd t s) :=
  ((ChangesOnly.foldl (fun _ _ => closeJoining_seq _ _ _) _ _).trans (baseFall_seq _ _)).trans (releaseAndEnd_seq _ _)

theorem holdSwitching_seq (t : Transition) (s : State) : ChangesOnly sequencerParts s (holdSwitching t s) :=
  (ChangesOnly.foldl (fun _ _ => contract_seq _ _ _) _ _).trans (endTransition_seq _ _ _)

theorem switching_seq (s : State) : ChangesOnly sequencerParts s (switching s) := by
  unfold switching
  split
  · exact .refl _ _
  · dsimp only
    exact .ite (((makeBeforeBreak_seq _ _ _).trans (baseFall_seq _ _)).trans (releaseAndEnd_seq _ _))
      (.ite (closeAndEnd_seq _ _)
        (.ite (((openAll_seq _ _).trans (baseFall_seq _ _)).trans (setStage_seq _ _)) (holdSwitching_seq _ _)))

theorem claimSecondary_seq (pl : Plan) (s : State) : ChangesOnly sequencerParts s (claimSecondary pl s) := by
  unfold claimSecondary
  split
  · exact .ite (startClaim_seq _ _ _) (switching_seq _)
  all_goals exact switching_seq _

theorem runClaims_seq (pl : Plan) (s : State) : ChangesOnly sequencerParts s (runClaims pl s) := by
  unfold runClaims
  split
  · exact .ite (startClaim_seq _ _ _) (claimSecondary_seq _ _)
  all_goals exact claimSecondary_seq _ _

theorem settleContract_changes (p : Port) (s : State) :
    ChangesOnly [.contract p, .drawMonitor p, .monitor p, .limit] s (settleContract p s) := by
  unfold settleContract
  split
  · exact (((modContract_changes _ _ _).then (modDrawMonitor_changes _ _ _) (by simp) (by simp)).trans
      ((modMonitor_changes _ _ _).mono (by simp))).trans ((recompute_changes _).mono (by simp))
  · exact .refl _ _

theorem settleContract_seq (p : Port) (s : State) : ChangesOnly sequencerParts s (settleContract p s) :=
  (settleContract_changes _ _).mono (by simp [sequencerParts, supplyParts])

theorem continueClaims_seq (s : State) : ChangesOnly sequencerParts s (continueClaims s) := by
  unfold continueClaims
  split
  · exact .refl _ _
  · split
    · exact claimSecondary_seq _ _
    all_goals exact switching_seq _

/-! ### Failed claims, aborts, protection -/

theorem raiseFailure_changes (p : Port) (s : State) : ChangesOnly [.monitor p] s (raiseFailure p s) :=
  modMonitor_changes _ _ _

theorem failClaim_seq (p : Port) (o : ContractOutcome) (s : State) : ChangesOnly sequencerParts s (failClaim p o s) := by
  unfold failClaim
  dsimp only
  refine ChangesOnly.trans (ChangesOnly.trans ?_ (endTransition_seq _ _ _)) (demand_seq _ _ _)
  refine ChangesOnly.trans (ChangesOnly.trans ?_ (contract_seq _ _ _)) (recompute_seq _)
  have h1 : ∀ b : Bool, ChangesOnly sequencerParts s (raiseFailure p (if b = true then place p .release s else s)) :=
    fun b => ChangesOnly.trans (.ite (place_seq _ _ _) (.refl _ _)) (monitor_seq _ _ _)
  have h2 : ∀ b b' : Bool, ChangesOnly sequencerParts s
      (if b' = true then openDraw p (raiseFailure p (if b = true then place p .release s else s))
        else raiseFailure p (if b = true then place p .release s else s)) :=
    fun b b' => .ite ((h1 b).trans (openDraw_seq _ _)) (h1 b)
  exact .ite ((h2 _ _).trans (demand_seq _ _ _)) (h2 _ _)

theorem staleClaim_seq (p : Port) (r : Bool) (s : State) : ChangesOnly sequencerParts s (staleClaim p r s) := by
  unfold staleClaim
  exact ChangesOnly.trans
    (ChangesOnly.trans (.ite (fallToBase_seq _ _ _) (contract_seq _ _ _)) (setOutcome_seq _ _ _))
    (endTransition_seq _ _ _)

theorem withdrawClaim_seq (p : Port) (s : State) : ChangesOnly sequencerParts s (withdrawClaim p s) :=
  (withdrawClaim_changes _ _).mono (place_seq_sub _)

theorem abortClaim_seq (p : Port) (s : State) : ChangesOnly sequencerParts s (abortClaim p s) := by
  unfold abortClaim
  dsimp only
  have h1 : ∀ b : Bool, ChangesOnly sequencerParts s (if b = true then withdrawClaim p s else s) :=
    fun b => .ite (withdrawClaim_seq _ _) (.refl _ _)
  split
  · exact (h1 _).trans (contract_seq _ _ _)
  · split
    · exact ((h1 _).trans (place_seq _ _ _)).trans (fallToBase_seq _ _ _)
    · exact (((h1 _).trans (place_seq _ _ _)).trans (contract_seq _ _ _)).trans (recompute_seq _)

theorem abortIfInvolved_seq (p : Port) (l : List Port) (s : State) :
    ChangesOnly sequencerParts s (abortIfInvolved p l s) := by
  unfold abortIfInvolved
  split
  · exact .refl _ _
  · dsimp only
    refine .ite (ChangesOnly.trans (ChangesOnly.trans (.foldl (fun _ _ => ?_) _ _)
      (.foldl (fun _ _ => setOutcome_seq _ _ _) _ _)) (endTransition_seq _ _ _)) (.refl _ _)
    exact .ite (abortClaim_seq _ _) (.refl _ _)

theorem clearContract_changes (p : Port) (s : State) : ChangesOnly (switchParts p) s (clearContract p s) := by
  unfold clearContract
  exact ChangesOnly.trans (ChangesOnly.trans (.ite (openDraw_changes _ _) (.refl _ _))
    ((modContract_changes _ _ _).mono (by simp [switchParts]))) ((recompute_changes _).mono (by simp [switchParts]))

theorem clearContract_seq (p : Port) (s : State) : ChangesOnly sequencerParts s (clearContract p s) :=
  (clearContract_changes _ _).mono (by simp [switchParts, sequencerParts])

theorem protect_seq (p : Port) (s : State) : ChangesOnly sequencerParts s (protect p s) := by
  unfold protect
  exact ChangesOnly.trans (ChangesOnly.trans (ChangesOnly.trans (.ite (withdrawClaim_seq _ _) (.refl _ _))
    (clearContract_seq _ _)) (demand_seq _ _ _)) (abortIfInvolved_seq _ _ _)

/-! ### Taking a demand -/

theorem ceilingFor_seq (pl : Plan) (s : State) : ChangesOnly sequencerParts s (ceilingFor pl s) := by
  unfold ceilingFor
  split
  · exact .refl _ _
  all_goals exact (setCeiling_changes _ _).mono (by simp [sequencerParts])

theorem cutPort_seq (p : Port) (s : State) : ChangesOnly sequencerParts s (cutPort p s) :=
  (cutPort_changes _ _).mono fun x h => by
    rcases List.mem_cons.mp h with h | h
    · simp [h, sequencerParts]
    · exact supply_seq_sub h

theorem cutJoining_seq (l : List Port) (s : State) : ChangesOnly sequencerParts s (cutJoining l s) := by
  unfold cutJoining
  dsimp only
  refine ChangesOnly.trans ?_ (.foldl (fun _ _ => cutPort_seq _ _) _ _)
  split
  · exact (takeFree_changes s).mono (by simp [sequencerParts])
  · exact .refl _ _

theorem beginTransition_seq (pl : Plan) (s : State) : ChangesOnly sequencerParts s (beginTransition pl s) :=
  (((setTransition_seq _ _).trans (ceilingFor_seq _ _)).trans (cutJoining_seq _ _)).trans (runClaims_seq _ _)

/-- The service of a demand also writes the last plan. -/
theorem serveDemand_changes (c : DemandClass) (p : Port) (s : State) :
    ChangesOnly (.lastPlan :: sequencerParts) s (serveDemand c p s) := by
  have up : ∀ {t u : State}, ChangesOnly sequencerParts t u → ChangesOnly (.lastPlan :: sequencerParts) t u :=
    fun h => h.mono (List.subset_cons_self _ _)
  have h1 : ∀ v, ChangesOnly (.lastPlan :: sequencerParts) s
      { s.modSequencer fun q => { q with demands := q.demands.set p DemandSet.none, inService := some p }
        with lastPlan := v } := by
    intro v part hp
    cases part <;> simp_all [Part.same, sequencerParts]
  unfold serveDemand
  dsimp only
  split
  · exact (h1 _).trans (up ((endService_changes _).mono (by simp [sequencerParts])))
  · exact (h1 _).trans (up (beginTransition_seq _ _))

end Sys2Proof.Machine
end

