-- ==== Sys2Proof/Laws/LinkLaws.lean ====
section
/-! SUPPORT. What the operations of the Link Interface, the Policy Store and the Supervisor may change, and how the
taking of a command reads. -/

namespace Sys2Proof.Machine

open Sys2Proof

/-! ### Numbers as bytes (R196) -/

@[simp] theorem bytesOfNumber_length (w n : Nat) : (bytesOfNumber w n).length = w := by
  induction w generalizing n with
  | zero => rfl
  | succ w ih => simp [bytesOfNumber, ih]

theorem bytesOfNumber_two (n : Nat) : bytesOfNumber 2 n = twoBytes n := rfl

/-- Reply data without a layout of the manual's leave room for tag, code and status in a payload of 32 bytes. -/
theorem laidOut_length (command : Nat) (items : List ReplyItem) : (laidOut command items).length ≤ 29 :=
  List.length_take_le ..

/-! ### The upstream queue -/

theorem placeUplink_changes (f : UplinkFrame) (s : State) : ChangesOnly [.uplink] s (placeUplink f s) := by
  intro part h
  have hl : ∀ l : LinkUnit, l.look.receive = l.receive ∧ l.look.reception = l.reception
      ∧ l.look.frameClass = l.frameClass ∧ l.look.notices = l.notices := by
    intro l
    unfold LinkUnit.look
    split
    · split <;> simp
    · simp
  cases part <;> simp_all [Part.same, placeUplink]

/-- A placed frame goes behind every frame that waits or is being sent. -/
theorem placeUplink_outgoing (f : UplinkFrame) (s : State) :
    (placeUplink f s).link.outgoing = s.link.outgoing ++ [f] := by
  unfold placeUplink LinkUnit.look
  simp only [State.modLink_link]
  cases hu : s.link.uplink <;> cases hq : s.link.upstream <;> cases hh : s.link.uhold <;>
    simp [LinkUnit.outgoing, hu, hq]

theorem taken_changes (s : State) (rest : List LinkFrame) : ChangesOnly [.receive] s (s.taken rest) := by
  intro part h
  cases part <;> simp_all [Part.same, State.taken]

/-! ### Taking a command -/

/-- The decoder takes the wanted head frame: the command is carried out and its reply placed. -/
theorem takeCommand_takes {s : State} {f : LinkFrame} {rest : List LinkFrame} (h : s.headFrame f rest)
    {wanted : LinkFrame → Bool} (hw : wanted f = true) (carry : LinkFrame → State → State × ReplyBody) :
    takeCommand wanted carry s
      = placeUplink (replyTo f (carry f (s.taken rest)).2) (carry f (s.taken rest)).1 := by
  obtain ⟨-, h2, h3⟩ := h
  have ht : (s.modLink fun l => { l with receive := l.receive.tail }) = s.taken rest := by
    simp [State.taken, State.modLink, h2]
  simp [takeCommand, LinkUnit.takable, h2, h3, hw, ht]

/-- A command changes only what carrying it out may, the receive buffer and the uplink. -/
theorem takeCommand_changes {wanted : LinkFrame → Bool} {carry : LinkFrame → State → State × ReplyBody}
    {l : List Part} (hc : ∀ f s, ChangesOnly l s (carry f s).1) (s : State) :
    ChangesOnly (.receive :: .uplink :: l) s (takeCommand wanted carry s) := by
  unfold takeCommand
  split
  · exact .refl _ _
  · split
    · exact ((((taken_changes s _).mono (by simp)).trans
        ((hc _ _).mono fun _ h => by simp [h]))).trans ((placeUplink_changes _ _).mono (by simp))
    · exact .refl _ _

/-! ### Receiving bytes -/

/-- What received downlink bytes may change. -/
def byteParts : List Part := [.receive, .notice .link, .supervisor]

theorem setReception_changes (r : Option Reception) (s : State) : ChangesOnly byteParts s (setReception r s) := by
  intro part h
  cases part <;> simp_all [Part.same, setReception, byteParts]

theorem postLink_byte (c : Byte) (s : State) : ChangesOnly byteParts s (postLink c s) :=
  (postLink_changes _ _).mono (by simp [byteParts])

theorem endReception_changes (bytes : List Byte) (s : State) : ChangesOnly byteParts s (endReception bytes s) := by
  have h : ∀ g : LinkUnit → LinkUnit, (∀ l, (g l).reception = l.reception ∧ (g l).upstream = l.upstream
      ∧ (g l).uplink = l.uplink ∧ (g l).uhold = l.uhold ∧ (g l).frameClass = l.frameClass
      ∧ (g l).notices = l.notices) → ChangesOnly byteParts s (validFrameSeen (s.modLink g)) := by
    intro g hg part hp
    have := hg s.link
    cases part <;> simp_all [Part.same, validFrameSeen, byteParts]
  unfold endReception
  dsimp only
  exact .ite (postLink_byte _ _) (.ite (postLink_byte _ _) (.ite (postLink_byte _ _) (h _ fun _ => by simp)))

theorem receiveByte_changes (s : State) (b : Byte) : ChangesOnly byteParts s (receiveByte s b) := by
  unfold receiveByte
  split
  · exact .ite (setReception_changes _ _) (.refl _ _)
  · dsimp only
    exact .ite (setReception_changes _ _) (.ite ((setReception_changes _ _).trans (postLink_byte _ _))
      (.ite (setReception_changes _ _) ((setReception_changes _ _).trans (endReception_changes _ _))))

/-! ### Changes of the policy and of the platform values -/

/-- What a change of the ACTIVE image may change. -/
def imageParts : List Part := supplyParts ++ everyPort .demands ++ [.policy, .limit, .budget, .supervisor]

theorem supply_image_sub : supplyParts ⊆ imageParts := by
  intro x h
  simp only [imageParts, List.mem_append]
  tauto

theorem policy_image (s : State) (f : PolicyStore → PolicyStore) : ChangesOnly imageParts s (s.modPolicy f) :=
  (modPolicy_changes _ _).mono (by simp [imageParts])

theorem supervisor_image (s : State) (f : Supervisor → Supervisor) : ChangesOnly imageParts s (s.modSupervisor f) :=
  (modSupervisor_changes _ _).mono (by simp [imageParts])

theorem review_image (s : State) : ChangesOnly imageParts s (reviewAttached s) :=
  (reviewAttached_changes _).mono (by simp [imageParts])

theorem recompute_image (s : State) : ChangesOnly imageParts s (recompute s) :=
  (recompute_changes _).mono (by simp [imageParts])

theorem serve_image (s : State) : ChangesOnly imageParts s (serve s) := (serve_changes _).mono supply_image_sub

theorem rebalance_image (n : Nat) (s : State) : ChangesOnly imageParts s (rebalance n s) :=
  (rebalance_changes _ _).mono supply_image_sub

theorem takeBudget_image (n : Nat) (s : State) : ChangesOnly imageParts s (takeBudget n s) :=
  (takeBudget_changes _ _).mono fun x h => by
    rcases List.mem_cons.mp h with h | h
    · simp [h, imageParts]
    · exact supply_image_sub h

theorem applySuccess_changes (s : State) : ChangesOnly imageParts s (applySuccess s) :=
  ((((policy_image _ _).trans (review_image _)).trans (rebalance_image _ _)).trans (serve_image _)).trans
    (recompute_image _)

theorem autonomousEntry_changes (s : State) : ChangesOnly imageParts s (autonomousEntry s) :=
  ((((((supervisor_image _ _).trans (policy_image _ _)).trans (rebalance_image _ _)).trans
    (takeBudget_image _ _)).trans (serve_image _)).trans (recompute_image _)).trans (review_image _)

theorem takePlatform_changes (v : PlatformValues) (s : State) : ChangesOnly imageParts s (takePlatform v s) := by
  have h : ChangesOnly imageParts s (setBudget v.budget (s.modSupervisor fun u => u.taken v)) :=
    ((supervisor_image _ _).trans (takeBudget_image _ _)).trans (serve_image _)
  unfold takePlatform
  dsimp only
  split
  · exact h.trans (review_image _)
  · exact h

end Sys2Proof.Machine
end

