-- ==== Sys2Proof/Laws/TimerLaws.lean ====
section
/-! SUPPORT. When a timer has run out, what a suspension leaves of a draw monitor, and when the transmitter of a talk
line looks for a frame. -/

namespace Sys2Proof.Machine

open Sys2Proof

/-! ### Timers that have run out -/

theorem reached_iff (timer : Option Nat) (limit : Nat) : reached timer limit = true ↔ hasRun timer limit := by
  cases timer <;> simp [reached, hasRun]

theorem riseExpired_iff (m : Monitor) :
    m.riseExpired = true ↔ m.state = .sensing ∧ m.presence = true ∧ hasRun m.debounce 20 := by
  simp [Monitor.riseExpired, reached_iff, Config.riseTime, and_assoc]

theorem fallExpired_iff (m : Monitor) :
    m.fallExpired = true ↔ m.state = .sensing ∧ m.presence = false ∧ hasRun m.debounce 2 := by
  simp [Monitor.fallExpired, reached_iff, Config.fallTime, and_assoc]

theorem detachExpired_iff (m : Monitor) :
    m.detachExpired = true ↔ m.state.attached = true ∧ m.presence = false ∧ hasRun m.debounce 2 := by
  simp [Monitor.detachExpired, reached_iff, Config.fallTime, and_assoc]

theorem probeExpired_iff (m : Monitor) : m.probeExpired = true ↔ m.state = .probing ∧ hasRun m.probeTimer 150 := by
  simp [Monitor.probeExpired, reached_iff, Config.probeTime]

theorem coolOffExpired_iff (m : Monitor) : m.coolOffExpired = true ↔ hasRun m.coolOff 2000 := by
  simp [Monitor.coolOffExpired, reached_iff, Config.coolOffTime]

theorem answerExpired_iff (f : Framer) :
    f.answerExpired = true ↔ ∃ e n, f.exchange = some e ∧ e.condition = .answerDue n ∧ 30 ≤ n := by
  rcases h : f.exchange with _ | ⟨_, _ | n | _, _, _⟩ <;> simp [Framer.answerExpired, h, Config.answerTime]
  exact decide_eq_true_iff

theorem resendExpired_iff (f : Framer) :
    f.resendExpired = true ↔ ∃ e n, f.exchange = some e ∧ e.condition = .held n ∧ 50 ≤ n := by
  rcases h : f.exchange with _ | ⟨_, _ | _ | n, _, _⟩ <;> simp [Framer.resendExpired, h, Config.resendTime]
  exact decide_eq_true_iff

theorem openReached_iff (m : Meter) : m.openReached = true ↔ hasRun (m.inFlight.map Conversion.elapsed) 65 := by
  simp [Meter.openReached, reached_iff, Config.timebaseTime]

theorem readyExpired_iff (c : Contract) :
    c.readyExpired = true ↔
      c.state = .awaiting ∧ hasRun c.readyTimer ((c.details.bind GrantDetails.ready).getD 0 + 50) := by
  simp [Contract.readyExpired, reached_iff, Config.readyMargin]

theorem settleExpired_iff (c : Contract) :
    c.settleExpired = true ↔
      c.state = .settling ∧ c.settleCount ≠ 10 ∧ ∃ t, c.pending = some t ∧ hasRun c.settleTimer t.settle := by
  cases h : c.pending <;> simp [Contract.settleExpired, h, reached_iff, settleFull, and_assoc]

theorem breakExpired_iff (q : Sequencer) :
    q.breakExpired = true ↔ ∃ tr n, q.transition = some tr ∧ tr.stage = .breaking n ∧ 5 ≤ n := by
  rcases h : q.transition with _ | ⟨_, _, _, _, _ | _ | _ | n⟩ <;>
    simp [Sequencer.breakExpired, h, Config.breakTime]
  exact decide_eq_true_iff

theorem descentExpired_iff (d : DrawMonitor) : d.descentExpired = true ↔ hasRun d.descent 500 := by
  simp [DrawMonitor.descentExpired, reached_iff, Config.descentTime]

theorem recoveryExpired_iff (l : LimitUnit) : l.recoveryExpired = true ↔ hasRun l.recovery 2000 := by
  simp [LimitUnit.recoveryExpired, reached_iff, Config.recoveryTime]

theorem gapExpired_iff (l : LinkUnit) : l.gapExpired = true ↔ ∃ r, l.reception = some r ∧ 2 ≤ r.gap := by
  cases h : l.reception <;> simp [LinkUnit.gapExpired, h, reached_iff, hasRun, Config.gapTime]

theorem silenceExpired_iff (v : Supervisor) : v.silenceExpired = true ↔ hasRun v.silenceTimer v.silencePeriod := by
  simp [Supervisor.silenceExpired, reached_iff]

/-! ### Suspended tests (R143) -/

@[simp] theorem suspendTests_railLost (d : DrawMonitor) : d.suspendTests.railLost = d.railLost := rfl
@[simp] theorem suspendTests_overvoltage (d : DrawMonitor) : d.suspendTests.overvoltage = 0 := rfl
@[simp] theorem suspendTests_sag (d : DrawMonitor) : d.suspendTests.sag = 0 := rfl
@[simp] theorem suspendTests_overdraw (d : DrawMonitor) : d.suspendTests.overdraw = d.overdraw := rfl
@[simp] theorem suspendTests_descent (d : DrawMonitor) : d.suspendTests.descent = d.descent := rfl

theorem held_of_suspended {d : DrawMonitor} {c : Contract} (h : suspended c d = true) : d.held c = d.suspendTests := by
  simp [DrawMonitor.held, h]

theorem held_of_running {d : DrawMonitor} {c : Contract} (h : suspended c d = false) : d.held c = d := by
  simp [DrawMonitor.held, h]

theorem suspended_completes_nothing {d : DrawMonitor} {c : Contract} (h : suspended c d = true) :
    d.overvoltageDone c = false ∧ d.sagDone c = false := by
  simp [DrawMonitor.overvoltageDone, DrawMonitor.sagDone, held_of_suspended h, overvoltageFull, sagFull]

/-! ### The transmitter (R34) -/

theorem quiet_iff (f : Framer) : f.quiet = true ↔ f.sending = none ∧ f.incoming = .quiet := by
  simp [Framer.quiet]

/-- With a frame on the line in either direction the transmitter begins none. -/
theorem look_of_not_quiet {f : Framer} (h : f.quiet = false) : f.look = f := by simp [Framer.look, h]

/-- The transmitter moves nothing but the frame on the line and the lists it takes it from. -/
theorem look_keeps (f : Framer) :
    f.look.unsound = f.unsound ∧ f.look.badCount = f.badCount ∧ f.look.latchedUnsound = f.latchedUnsound
      ∧ f.look.exchange = f.exchange ∧ f.look.waiting = f.waiting ∧ f.look.capture = f.capture
      ∧ f.look.incoming = f.incoming := by
  unfold Framer.look
  split
  · split <;> simp
  · simp

end Sys2Proof.Machine
end

