-- ==== Sys2Proof/WellFormed.lean ====
section
/-! DEFINITION. Well-formed commands: the event the row names is the one its operands describe. -/

namespace Sys2Proof

open Sys2Proof.Machine

/-- A conversion that reaches its 256th edge does so before the timebase reaches 65,535 µs (R56). -/
def periodWf (period : BitVec 16) : Bool := period.toNat < 65535

/-- The operands describe the row's event: a received frame is good, or for BAD_FRAME bad (R19, R20); the kind of an
OTHER_KIND_FRAME is no power kind (R25); a period lies below the timebase limit (R56); bytes do arrive (R170). -/
def Instr.wf : Instr → Bool
  | .badFrame _ kind f => !frameGood kind f
  | .announce _ f => frameGood kindAnnounce f
  | .offer _ f => frameGood kindOffer f
  | .grant _ f => frameGood kindGrant f
  | .deny _ f => frameGood kindDeny f
  | .ready _ f => frameGood kindReady f
  | .hold _ f => frameGood kindHold f
  | .demand _ f => frameGood kindDemand f
  | .retire _ f => frameGood kindRetire f
  | .otherKindFrame _ kind f => !isPowerKind kind && frameGood kind f
  | .partOnlyKindFrame _ kind f => frameGood (partOnlyCode kind) f
  | .referenceConversionEnd period => periodWf period
  | .portConversionEnd period => periodWf period
  | .downlinkFrameStored bytes => !bytes.isEmpty
  | .powerOnReset | .resetEnd _ _ _ | .presenceRise _ | .presenceFall _ | .debounceRiseExpiry _
  | .sensingFallExpiry _ | .detach _ | .probeTimerExpiry _ | .coolOffExpiry _ | .talkFrameSent _
  | .answerTimerExpiry _ | .resendTimerExpiry _ | .conversionOpen | .takeDemand | .claimSettled _
  | .settleTimerExpiry _ | .readyTimerExpiry _ | .breakIntervalExpiry | .railSample _ _ _ | .railLost _
  | .overvoltage _ | .sagTrim _ | .overdrawTrim _ | .descentTimerExpiry _ | .recoveryTimerExpiry | .limitPeriod
  | .byteGapTimeout | .uholdChange _ | .uplinkFrameEnd | .unknownCommand | .identify | .readPort | .readBook
  | .readContract | .readPartner | .readLimit | .readSupply | .readMeter | .measure | .openPolicy | .writeRule
  | .writeHeads | .writeRating | .writeParams | .readPolicy | .applyPolicy | .setPlatform | .barPort
  | .setFrameClass | .releaseCapture | .takeNotice | .relayDown | .restart | .silenceTimerExpiry => true

end Sys2Proof
end

