-- ==== Sys2Proof/Tests/Slice0.lean ====
section
/-! SUPPORT. Tests: what WellFormed refuses, worked examples of the manual, one small step of each kind of command, and
for each statement a state and operands that meet its hypotheses. Expected values come from the manual's text and tables
or from hand calculation by its rules. -/

namespace Sys2Proof.Tests

set_option Elab.async false

open Sys2Proof Sys2Proof.Machine

/-! ### Builders -/

/-- The part running, with four populated ports, nothing attached, and no conversion under way. -/
def on : State := { State.reset with inReset := false }

/-- A frame as a partner sends it, with its correct check. -/
def frame (kind : BitVec 6) (branch : BitVec 3) (payload : List Byte) : RawFrame :=
  let f : RawFrame :=
    { spare := 0, branch := branch, length := BitVec.ofNat 5 payload.length, payload := payload, check := 0 }
  { f with check := crc16 (RawFrame.covered kind f) }

/-- The same frame with a wrong check. -/
def spoiled (kind : BitVec 6) (branch : BitVec 3) (payload : List Byte) : RawFrame :=
  let f := frame kind branch payload
  { f with check := f.check ^^^ 1 }

def record (cls : PartnerClass) (count : Nat) (supply : Bool) : PartnerRecord :=
  { cls := cls, branchCount := count, supplyPresent := supply, vendor := some 0x1234, model := some 0x5678,
    grant := none }

/-- Port `p` in a state, with a branch-0 record of this class. -/
def State.at (s : State) (p : Port) (a : Attach) (r : PartnerRecord) : State :=
  (s.modMonitor p fun m => { m with state := a, presence := true }).setOwn p (some r)

def blank : PartnerRecord := record .none 0 false

/-- A SUPPLIER, a dock of four branches that asks for power, and an ACCESSORY. -/
def supplier : State := State.at on 1 .talking (record .supplier 0 true)
def dock : State := (State.at on 1 .talking (record .dock 4 false)).modSupply fun u => { u with budget := 7500 }
def probing : State := (State.at on 0 .probing blank).modMonitor 0 fun m => { m with probeTimer := some 150 }

/-- A COMMAND. -/
def command (code : Byte) (args : List Byte) (port : Byte := 0) (branch : Byte := 0) : LinkFrame :=
  { kind := 0x01, port := port, branch := branch, payload := 0x2A :: code :: args }

/-- The frame stands at the head of the receive buffer. -/
def State.with (s : State) (f : LinkFrame) : State := s.modLink fun l => { l with receive := [f] }

/-- What the part holds after a command. -/
def after (c : Instr) (s : State) : State :=
  match exec c s with
  | .next t => t
  | .fault _ => s
  | .refused _ => s

/-- Milliseconds more on port `p`'s debounce timer, and on the silence timer. -/
def debounced (ms : Nat) (p : Port) (s : State) : State :=
  s.modMonitor p fun m => { m with debounce := m.debounce.map (· + ms) }
def silent (s : State) : State := s.modSupervisor fun v => { v with silenceTimer := some 2000 }

/-- The body of the reply being sent. -/
def replyBody (s : State) : Option ReplyBody :=
  match s.link.uplink with
  | some (.reply _ _ _ _ b) => some b
  | _ => none

/-- The reply to a command taken from `s`. -/
def replyOf (c : Instr) (f : LinkFrame) (s : State) : Option ReplyBody := replyBody (after c (State.with s f))

/-! ### WellFormed refuses -/

theorem test_wf_refuses_bad_frame_that_is_good : (Instr.badFrame 0 0x03 (frame 0x03 0 [0, 0, 50, 0, 0])).wf = false := by
  decide +kernel
theorem test_wf_refuses_announce_with_wrong_check :
    (Instr.announce 0 (spoiled kindAnnounce 0 [1, 0, 0, 0, 0, 0])).wf = false := by decide +kernel
theorem test_wf_refuses_offer_with_wrong_check : (Instr.offer 0 (spoiled kindOffer 0 [])).wf = false := by
  decide +kernel
theorem test_wf_refuses_grant_with_wrong_check : (Instr.grant 0 (spoiled kindGrant 0 [])).wf = false := by
  decide +kernel
theorem test_wf_refuses_deny_with_wrong_check : (Instr.deny 0 (spoiled kindDeny 0 [0, 1])).wf = false := by
  decide +kernel
theorem test_wf_refuses_ready_with_wrong_check : (Instr.ready 0 (spoiled kindReady 0 [0])).wf = false := by
  decide +kernel
theorem test_wf_refuses_hold_with_wrong_check : (Instr.hold 0 (spoiled kindHold 0 [])).wf = false := by decide +kernel
theorem test_wf_refuses_demand_with_wrong_check :
    (Instr.demand 0 (spoiled kindDemand 0 [0, 100, 0, 50])).wf = false := by decide +kernel
theorem test_wf_refuses_retire_with_wrong_check : (Instr.retire 0 (spoiled kindRetire 0 [])).wf = false := by
  decide +kernel
theorem test_wf_refuses_other_kind_that_is_power : (Instr.otherKindFrame 0 0x0D (frame 0x0D 0 [])).wf = false := by
  decide +kernel
theorem test_wf_refuses_other_kind_with_wrong_check : (Instr.otherKindFrame 0 0x12 (spoiled 0x12 0 [])).wf = false := by
  decide +kernel
theorem test_wf_refuses_part_only_with_wrong_check :
    (Instr.partOnlyKindFrame 0 .probe (spoiled 0x09 0 [])).wf = false := by decide +kernel
theorem test_wf_refuses_reference_period_at_the_limit : (Instr.referenceConversionEnd 65535).wf = false := by decide
theorem test_wf_refuses_port_period_at_the_limit : (Instr.portConversionEnd 65535).wf = false := by decide
theorem test_wf_refuses_no_bytes : (Instr.downlinkFrameStored []).wf = false := by decide
theorem test_wf_accepts_good_announce : (Instr.announce 0 (frame kindAnnounce 0 [1, 0, 0, 0, 0, 0])).wf = true := by
  decide +kernel

/-! ### Worked values of the manual -/

/-- The check of the nine digits "123456789" under R19's generator and start value, hand-known as 0x29B1. -/
theorem test_check_of_nine_digits : crc16 [0x31, 0x32, 0x33, 0x34, 0x35, 0x36, 0x37, 0x38, 0x39] = 0x29B1 := by
  decide +kernel

/-- R141's table: 2,749 and 2,750 of 10,000 mA, 4,235 of 6,000 and of 10,000 mA, and the ends. -/
theorem test_duty_table :
    dutyOf 0 10000 = 0 ∧ dutyOf 400 10000 = 40 ∧ dutyOf 2749 10000 = 274 ∧ dutyOf 2750 10000 = 275
      ∧ dutyOf 4235 10000 = 423 ∧ dutyOf 4235 6000 = 705 ∧ dutyOf 10000 10000 = 1000 := by decide

/-- R196: 180 steps of 50 mV from bit 0 and 3 from bit 12 of a field of two bytes, most significant byte first. -/
theorem test_reply_field_is_sent_high_byte_first :
    ReplyField.bytes 0x06 [.millivolts 9000, .number 3] (.number 2 [(0, 0), (1, 12)]) = [0x30, 0xB4]
      ∧ bytesOfNumber 3 150000 = [0x02, 0x49, 0xF0] := by decide +kernel

/-- R64, by hand: with T_lo 1,000 and T_hi 1,090 over 10,000..100,000 Ω one microsecond is 1,000 Ω; 2 × r = D rounds away
from zero on both sides, and the clamp holds below. -/
theorem test_resolution_rounds_half_away :
    resolvedResistance 1014 1000 1090 10000 100000 = 24000 ∧ resolvedResistance 1001 1000 1064 0 32 = 1
      ∧ resolvedResistance 999 1000 1064 100 132 = 99 ∧ resolvedResistance 0 1000 1090 10000 100000 = 0
      ∧ resolvedResistance 65000 1000 1090 10000 100000 = 250000 := by decide

/-- R185: the four strap counts and the four power classes. -/
theorem test_strap_tables :
    strapPopulated 0b00 = 4 ∧ strapPopulated 0b01 = 3 ∧ strapPopulated 0b10 = 2 ∧ strapPopulated 0b11 = 1
      ∧ strapPowerClass 0b00000 = 15000 ∧ strapPowerClass 0b01000 = 27000 ∧ strapPowerClass 0b10000 = 45000
      ∧ strapPowerClass 0b11000 = 65000 := by decide

/-- R194: a FIXED point of 5,000 mV and 3,000 mA (100 and 300 steps) is the bytes 01 91 2C; a SPAN one of 3,300..21,000
mV and 3,000 mA with the shared flag is C2 16 91 2C, marked RANGE because 3,300 mV lies below 4,500 (R44). -/
theorem test_offer_points_are_read :
    readPoints [0x01, 0x91, 0x2C, 0xC2, 0x16, 0x91, 0x2C]
      = some [{ form := .fixed, minVoltage := 5000, maxVoltage := 5000, maxCurrent := 3000, shared := false,
                mark := .usable, clamped := false },
              { form := .span, minVoltage := 3300, maxVoltage := 21000, maxCurrent := 3000, shared := true,
                mark := .range, clamped := false }] := by decide +kernel

/-- R77: the fallback image passes its own checks, whichever the connector strap. -/
theorem test_fallback_image_is_valid : validate (fallbackImage false) = none ∧ validate (fallbackImage true) = none := by
  decide +kernel

/-! ### Reset, presence and the Port Monitor -/

theorem test_reset_end_samples_straps :
    let t := after (.resetEnd 0b01010110 0b0010 false) State.reset
    t.supervisor.demand = 45000 ∧ t.supply.budget = 7500 ∧ t.policy.active.params[0] = 6000
      ∧ (t.monitor.get 1).state = .sensing ∧ (t.monitor.get 0).state = .empty ∧ t.drdy = true := by decide +kernel

theorem test_reset_ends_a_draw :
    ((after .powerOnReset (on.modContract 2 fun c => { c with drawClosed := true })).contract.get 2).drawClosed = false := by
  decide +kernel

theorem test_presence_rise_starts_sensing :
    ((after (.presenceRise 3) on).monitor.get 3).state = .sensing
      ∧ ((after (.presenceRise 3) on).monitor.get 3).debounce = some 0 := by decide +kernel

theorem test_presence_fall_in_sensing_times_the_fall :
    ((after (.presenceFall 2) (after (.presenceRise 2) on)).monitor.get 2).debounce = some 0 := by decide +kernel

theorem test_short_sensing_returns_to_empty :
    ((after (.sensingFallExpiry 2) (debounced 2 2 (after (.presenceFall 2) (after (.presenceRise 2) on)))).monitor.get
      2).state = .empty := by decide +kernel

theorem test_confirmed_rise_sends_a_probe :
    let t := after (.debounceRiseExpiry 0) (debounced 20 0 (after (.presenceRise 0) on))
    (t.monitor.get 0).state = .probing ∧ (t.framer.get 0).sending = some (.engine (.exchange .probe)) := by
  decide +kernel

/-- R2: 19 ms of presence confirm nothing. -/
theorem test_early_rise_expiry_changes_nothing :
    let s := debounced 19 0 (after (.presenceRise 0) on)
    after (.debounceRiseExpiry 0) s = s := by decide +kernel

theorem test_third_probe_expiry_measures :
    let t := after (.probeTimerExpiry 0) (probing.modMonitor 0 fun m => { m with probeCount := 3 })
    (t.monitor.get 0).state = .measuring ∧ t.meter.inFlightChannel = some (.id 0) := by decide +kernel

theorem test_detach_posts_detached :
    let t := after (.detach 1) (supplier.modMonitor 1 fun m => { m with presence := false, debounce := some 2 })
    (t.monitor.get 1).state = .empty ∧ (t.link.notices.get (.partner 1)).map Notice.code = some 0x04 := by
  decide +kernel

theorem test_cool_off_expiry_raises_review :
    ((after (.coolOffExpiry 1) (supplier.modMonitor 1 fun m => { m with coolOff := some 2000 })).sequencer.demands.get
      1).review = true := by decide +kernel

/-! ### Talk-line frames -/

theorem test_third_bad_frame_is_unsound :
    let s := supplier.modFramer 1 fun f => { f with badCount := 2 }
    ((after (.badFrame 1 0x02 (spoiled 0x02 0 [])) s).framer.get 1).unsound = true := by decide +kernel

/-- R34: while a partner's frame comes in the part begins none; at its end, here with a wrong check, it does. -/
theorem test_incoming_frame_holds_the_transmitter_off :
    let f := spoiled 0x02 0 []
    let s := after (.badFrame 1 0x02 { f with begins := true }) supplier
    let t := after .relayDown (State.with s { kind := 0x02, port := 1, branch := 0, payload := [0x2A, 0x12] })
    (t.framer.get 1).sending = none ∧ (t.framer.get 1).relay.length = 1
      ∧ ((after (.badFrame 1 0x02 f) t).framer.get 1).sending = some (.relay { kind := 0x12, branch := 0, payload := [] }) := by
  decide +kernel

/-- R34: a partner's frame that begins while the part sends is lost, though the part has ended first. -/
theorem test_overlapped_frame_is_lost :
    let f := spoiled 0x02 0 []
    let s := supplier.modFramer 1 fun x => { x with sending := some (.engine .release) }
    let t := after (.badFrame 1 0x02 f) (after (.talkFrameSent 1) (after (.badFrame 1 0x02 { f with begins := true }) s))
    (t.framer.get 1).badCount = 0 ∧ (t.framer.get 1).incoming = .quiet := by decide +kernel

theorem test_announce_in_probing_enters_talking :
    ((after (.announce 0 (frame kindAnnounce 0 [0x02, 0x83, 0, 1, 0, 2])) probing).table.own.get 0).map
      PartnerRecord.branchCount = some 3 := by decide +kernel

theorem test_offer_fills_the_book :
    let t := after (.offer 1 (frame kindOffer 0 [0x01, 0x91, 0x2C])) supplier
    (t.book.get 1).generation = 1 ∧ (t.book.get 1).points.length = 1 := by decide +kernel

theorem test_demand_is_granted :
    let t := after (.demand 1 (frame kindDemand 2 [0, 100, 0, 90])) dock
    (t.grantOf 1 2).map Grant.current = some 900 ∧ t.supply.switchClosed.get 1 = true := by decide +kernel

/-- R194: a DEMAND's voltage is the whole two-byte field: 0x0200 is 512 steps, 25,600 mV. -/
theorem test_demand_reads_the_whole_field :
    voltageField [0x02, 0x00, 0x04, 0x00] 0 = 25600 ∧ currentField [0x02, 0x00, 0x04, 0x00] 2 = 10240
      ∧ ((after (.demand 1 (frame kindDemand 2 [0x02, 0x00, 0, 90])) dock).grantOf 1 2).map Grant.current = some 900 := by
  decide +kernel

theorem test_demand_beyond_the_branch_count_is_denied :
    ((after (.demand 1 (frame kindDemand 5 [0, 100, 0, 90])) dock).framer.get 1).sending
      = some (.engine (.deny 5 .badBranch)) := by decide +kernel

theorem test_retire_opens_the_switch :
    (after (.retire 1 (frame kindRetire 2 [])) (after (.talkFrameSent 1)
      (after (.demand 1 (frame kindDemand 2 [0, 100, 0, 90])) dock))).supply.switchClosed.get 1 = false := by
  decide +kernel

theorem test_other_kind_is_forwarded :
    (after (.otherKindFrame 1 0x12 (frame 0x12 0 [7])) supplier).link.uplink = some (.relayUp 1 0 0x12 [7]) := by
  decide +kernel

theorem test_other_kind_is_captured :
    ((after (.otherKindFrame 1 0x22 (frame 0x22 0 [7])) supplier).framer.get 1).capture
      = some { branch := 0, kind := 0x22, payload := [7] } := by decide +kernel

theorem test_part_only_kind_is_a_protocol_error :
    ((after (.partOnlyKindFrame 1 .supply (frame 0x0C 0 [])) supplier).link.notices.get (.partner 1)).map Notice.code
      = some 0x05 := by decide +kernel

/-- A CLAIM of 1,000 mA of point 1 at 5,000 mV, answer-due, with its contract CLAIMING. -/
def claimOf (source : TermSource) (state : ContractState) : Contract :=
  { Contract.reset with
    state := state
    pending := some { point := 1, generation := 1, voltage := 5000, requested := 1000, rule := 0, weight := 1,
                      cap := 3000, derate := 10, settle := 250, source := source }
    details := some { current := 900, ready := some 100 }
    readyTimer := some 0, settleTimer := some 0 }

def claimFrame : ExchangeKind := .claim { generation := 1, point := 1, voltage := 5000, current := 1000 }

def exchange (k : ExchangeKind) (c : ExchangeCondition) (holds : Nat) : Exchange :=
  { kind := k, condition := c, holds := holds, withdrawn := false }

def bookOf (points : List OfferPoint) : Book :=
  { source := .talk, generation := 1, points := points, ratingEntry := none, stamp := 0, firstBook := false }

def fiveVolt : OfferPoint := markPoint .fixed 5000 5000 3000 false

def claiming : State :=
  ((supplier.modContract 1 fun _ => claimOf .talk .claiming).modFramer 1 fun f =>
    { f with exchange := some (exchange claimFrame (.answerDue 3) 0) }).modBook 1 fun _ => bookOf [fiveVolt]

/-- A GRANT of 900 mA ready after 100 ms. -/
def granted (generation point : Nat) (current : Nat) : RawFrame :=
  frame kindGrant 0 (BitVec.ofNat 8 (generation * 16 + point) :: (twoBytes (current / 10) ++ [0, 100]))

theorem test_grant_awaits_ready :
    ((after (.grant 1 (granted 1 1 900)) claiming).contract.get 1).state = .awaiting := by decide +kernel

/-- R143: the sag and overvoltage counts are 0 from the GRANT on. -/
theorem test_grant_holds_the_suspended_counts :
    let s := claiming.modDrawMonitor 1 fun d => { d with overvoltage := 2, sag := 7, railLost := 1 }
    (after (.grant 1 (granted 1 1 900)) s).drawMonitor.get 1
      = { railLost := 1, overvoltage := 0, sag := 0, overdraw := 0, descent := none } := by decide +kernel

theorem test_small_grant_is_released :
    ((after (.grant 1 (granted 1 1 490)) claiming).framer.get 1).sending = some (.engine .release) := by decide +kernel

theorem test_deny_starts_the_cool_off :
    ((after (.deny 1 (frame kindDeny 0 [0x10, 2])) claiming).monitor.get 1).coolOff = some 0 := by decide +kernel

theorem test_ready_starts_settling :
    ((after (.ready 1 (frame kindReady 0 [0x10])) (supplier.modContract 1 fun _ => claimOf .talk .awaiting)).contract.get
      1).state = .settling := by decide +kernel

theorem test_hold_makes_the_exchange_held :
    ((after (.hold 1 (frame kindHold 0 [])) claiming).framer.get 1).exchange
      = some (exchange claimFrame (.held 0) 1) := by decide +kernel

theorem test_frame_sent_sends_the_relay :
    let f : RelayFrame := { kind := 0x12, branch := 0, payload := [] }
    let s := supplier.modFramer 1 fun x => { x with sending := some (.engine .release), relay := [f] }
    ((after (.talkFrameSent 1) s).framer.get 1).sending = some (.relay f) := by decide +kernel

theorem test_no_answer_fails_the_claim :
    let s := claiming.modFramer 1 fun f => { f with exchange := some (exchange claimFrame (.answerDue 30) 0) }
    ((after (.answerTimerExpiry 1) s).contract.get 1).lastOutcome = .noAnswer := by decide +kernel

theorem test_resend_queues_the_frame_again :
    let s := claiming.modFramer 1 fun f => { f with exchange := some (exchange claimFrame (.held 50) 1) }
    ((after (.resendTimerExpiry 1) s).framer.get 1).sending = some (.engine (.exchange claimFrame)) := by decide +kernel

/-! ### The meter -/

/-- A conversion in flight on a channel, both references valid at 1,000 and 8,000 µs. -/
def converting (c : Channel) (s : State) : State :=
  s.modMeter fun m =>
    { m with
      inFlight := some { channel := c, elapsed := 3, timebase := 0, edges := 0 }
      refLo := { status := .valid, period := some 1000, measureFlag := false }
      refHi := { status := .valid, period := some 8000, measureFlag := false } }

theorem test_reference_below_640_is_short :
    (after (.referenceConversionEnd 639) (converting .refHi on)).meter.refHi.status = .short
      ∧ (after (.referenceConversionEnd 640) (converting .refHi on)).meter.refHi.status = .valid := by decide +kernel

theorem test_open_port_is_unrated :
    let running := fun ms => (converting (.id 2) on).modMeter fun m =>
      { m with inFlight := some { channel := .id 2, elapsed := ms, timebase := 0, edges := 0 } }
    ((after .conversionOpen (running 65)).meter.port.get 2).code = some .openCircuit
      ∧ after .conversionOpen (running 64) = running 64 := by decide +kernel

/-- 2,089 µs is 10,000 + (1,089 × 90,000 ÷ 7,000 = 14,001.4) = 24,001 Ω, within 24,000 ÷ 32 = 750 of 24,000: entry 1. -/
theorem test_agreeing_resistance_is_rated :
    let s := (State.at (converting (.id 2) on) 2 .measuring blank).modPortMeasure 2 fun r =>
      { r with phase := .converting, attempts := 1, previous := some 24000 }
    let t := after (.portConversionEnd 2089) { s with rail := s.rail.set 2 { mv := 19320, ma := 0 } }
    (t.meter.port.get 2).resistance = some 24001 ∧ (t.meter.port.get 2).entry = some 1
      ∧ (t.monitor.get 2).state = .legacy := by decide +kernel

/-! ### Selection and the sequencer -/

def nineVolt : OfferPoint := markPoint .fixed 9000 9000 3000 false

/-- Port 1 offers 9,000 mV at 3,000 mA with REVISE pending; the battery is present. -/
def offering : State :=
  ((supplier.modBook 1 fun _ => bookOf [nineVolt]).modSupervisor fun v => { v with batteryPresent := true }).modSequencer
    fun q => { q with demands := q.demands.set 1 { DemandSet.none with revise := true } }

/-- The fallback rule accepts 9,000 mV, and a demand of 15,000 mW needs 1,667 mA there, rounded up to 1,670 (R104). -/
theorem test_take_demand_claims_the_point :
    let t := after .takeDemand offering
    (t.contract.get 1).state = .claiming
      ∧ (t.framer.get 1).sending
          = some (.engine (.exchange (.claim { generation := 1, point := 1, voltage := 9000, current := 1670 }))) := by
  decide +kernel

/-- A battery-absent notebook with a live rail on port 1 draws at base level: 500 − 100 = 400 mA, duty 40. -/
def baseReady : State :=
  let s := (State.at on 1 .probing blank).modSequencer fun q =>
    { q with demands := q.demands.set 1 { DemandSet.none with attach := true } }
  { s with rail := s.rail.set 1 { mv := 5000, ma := 0 } }

theorem test_base_plan_is_switched :
    (after .breakIntervalExpiry (after .takeDemand baseReady)).limit.nextDuty = 40
      ∧ ((after .breakIntervalExpiry (after .takeDemand baseReady)).contract.get 1).drawClosed = true := by
  decide +kernel

/-- A plan entry for port `p`. -/
def entry (p : Port) (role : Role) : PlanEntry :=
  { role := role, port := p, source := .talk, point := 1, generation := 1, rule := 0, voltage := 5000, usable := 3000,
    derated := 13500, score := 13500, requested := 1000, weight := 1, cap := 3000, derate := 10, settle := 250,
    action := .claim }

/-- Port 1's claim in service at a stage of a transition that joins it. -/
def inTransition (sec : Option PlanEntry) (stage : Stage) (s : State) : State :=
  s.modSequencer fun q =>
    { q with
      inService := some 1
      transition := some { plan := .draw (entry 1 .primary) sec, joining := [1], leaving := [], steppedOut := []
                           stage := stage } }

def settling : State :=
  inTransition none .claimPrimary
    (supplier.modContract 1 fun _ => { claimOf .talk .settling with settleCount := 10 })

theorem test_settled_claim_is_established :
    ((after (.claimSettled 1) settling).contract.get 1).established.map Terms.granted = some 900 := by decide +kernel

theorem test_settle_timer_fails_the_claim :
    let s := inTransition none .claimPrimary (supplier.modContract 1 fun _ => { claimOf .talk .settling with settleTimer := some 250 })
    ((after (.settleTimerExpiry 1) s).contract.get 1).lastOutcome = .noSettle := by decide +kernel

theorem test_ready_timer_fails_the_claim :
    let s := inTransition none .claimPrimary (supplier.modContract 1 fun _ => { claimOf .talk .awaiting with readyTimer := some 150 })
    ((after (.readyTimerExpiry 1) s).contract.get 1).lastOutcome = .noReady := by decide +kernel

/-- Port 1 draws its established 1,000 mA at 9,000 mV. -/
def drawing : State :=
  recompute (supplier.modContract 1 fun c =>
    { c with
      state := .active, role := .primary, drawClosed := true
      established := some { point := 1, generation := 1, voltage := 9000, granted := 1000, derate := 10, weight := 1
                            settle := 250, source := .talk } })

theorem test_break_interval_closes_the_joining_port :
    let s := inTransition none (.breaking 5) (drawing.modContract 1 fun c => { c with drawClosed := false })
    ((after .breakIntervalExpiry s).contract.get 1).drawClosed = true := by decide +kernel

/-! ### The Limit Unit -/

theorem test_sample_below_4000_counts_rail_lost :
    ((after (.railSample 1 3999 0) drawing).drawMonitor.get 1).railLost = 1
      ∧ ((after (.railSample 1 4000 0) drawing).drawMonitor.get 1).railLost = 0 := by decide +kernel

theorem test_rail_lost_opens_the_switch :
    let s := drawing.modDrawMonitor 1 fun d => { d with railLost := 3 }
    ((after (.railLost 1) s).contract.get 1).drawClosed = false := by decide +kernel

theorem test_overvoltage_shuns :
    let s := drawing.modDrawMonitor 1 fun d => { d with overvoltage := 3 }
    ((after (.overvoltage 1) s).monitor.get 1).failures = 3 := by decide +kernel

/-- 1,000 mA less 10 % is 900, less the reserve of 100 is 800; a sag takes 100 off, an overdraw 200. -/
theorem test_sag_trims_100 :
    (after (.sagTrim 1) (drawing.modDrawMonitor 1 fun d => { d with sag := 8 })).limit.raw = 700 := by decide +kernel
theorem test_overdraw_trims_200 :
    (after (.overdrawTrim 1) (drawing.modDrawMonitor 1 fun d => { d with overdraw := 16 })).limit.raw = 600 := by
  decide +kernel
theorem test_recovery_gives_100_back :
    (after .recoveryTimerExpiry
      (recompute (drawing.modLimit fun l => { l with trim := 300, recovery := some 2000 }))).limit.raw = 600 := by
  decide +kernel
theorem test_period_takes_the_next_duty : (after .limitPeriod drawing).limit.duty = 80 := by decide +kernel
theorem test_descent_timer_stops :
    ((after (.descentTimerExpiry 1) (drawing.modDrawMonitor 1 fun d => { d with descent := some 500 })).drawMonitor.get
      1).descent = none := by decide +kernel

/-! ### The system link -/

theorem test_stored_frame_restarts_the_silence_timer :
    let t := after (.downlinkFrameStored (command 0x01 []).bytes)
      (on.modSupervisor fun v => { v with silenceTimer := none, autonomous := true })
    t.link.receive = [command 0x01 []] ∧ t.supervisor.autonomous = false := by decide +kernel

/-- The bytes of IDENTIFY with tag 0x2A: 7E 01 00 00 02 2A 01 and the check. -/
theorem test_link_frame_bytes : (command 0x01 []).bytes.take 7 = [0x7E, 0x01, 0x00, 0x00, 0x02, 0x2A, 0x01] := by
  decide +kernel

theorem test_byte_gap_is_a_format_error :
    ((after .byteGapTimeout (on.modLink fun l => { l with reception := some { bytes := [1], gap := 2 } })).link.notices.get
      .link).map Notice.code = some 0x01 := by decide +kernel

theorem test_uhold_low_begins_sending :
    (after (.uholdChange false)
      (on.modLink fun l => { l with uhold := true, upstream := [.relayUp 0 0 0x12 []] })).link.uplink
      = some (.relayUp 0 0 0x12 []) := by decide +kernel

theorem test_uplink_end_goes_idle :
    (after .uplinkFrameEnd (on.modLink fun l => { l with uplink := some (.relayUp 0 0 0x12 []) })).link.uplink = none := by
  decide +kernel

theorem test_unknown_code_is_refused :
    replyOf .unknownCommand (command 0x0A []) on = some (.refused .unknown) := by decide +kernel
theorem test_identify_reports_the_straps :
    replyOf .identify (command 0x01 []) on
      = some (.data (.identify Config.partCode Config.revision 0 4 false)) := by rfl
theorem test_read_port_refuses_port_4 :
    replyOf .readPort (command 0x02 [] 4) on = some (.refused .badIndex) := by decide +kernel
theorem test_read_port_clears_the_latched_view :
    ((after .readPort (State.with (on.modFramer 3 fun f => { f with latchedUnsound := true })
      (command 0x02 [] 3))).framer.get 3).latchedUnsound = false := by decide +kernel
theorem test_read_book_refuses_an_absent_point :
    replyOf .readBook (command 0x03 [1]) on = some (.refused .badIndex) := by decide +kernel
theorem test_read_contract_answers_terms :
    replyOf .readContract (command 0x04 [1]) on = some (.data (.contractTerms none)) := by decide +kernel
theorem test_read_partner_without_record :
    replyOf .readPartner (command 0x05 [] 1 6) dock = some (.refused .noRecord) := by decide +kernel
theorem test_read_limit_answers_the_plan :
    replyOf .readLimit (command 0x06 [1]) on = some (.data (.planHeader none)) := by decide +kernel
theorem test_read_supply_summary :
    replyOf .readSupply (command 0x07 [0]) dock
      = some (.data (.supplySummary 7500 0 0 (Four.const false) 0 0)) := by decide +kernel
theorem test_read_meter_refuses_channel_6 :
    replyOf .readMeter (command 0x08 [6]) on = some (.refused .badIndex) := by decide +kernel
theorem test_measure_queues_a_reference :
    (after .measure (State.with on (command 0x09 [5]))).meter.inFlightChannel = some .refHi := by decide +kernel
theorem test_read_policy_of_a_closed_bank :
    replyOf .readPolicy (command 0x15 [1, 1, 0]) on = some (.refused .notOpen) := by decide +kernel
theorem test_open_policy_opens :
    (after .openPolicy (State.with on (command 0x10 []))).policy.pendingOpen = true := by decide +kernel

def opened : State := on.modPolicy fun q => { q with pendingOpen := true }

/-- A rule of 5,000..20,000 mV, 500 mA, shared-only, accept, weight 3, 2,500 mA, 20 %, 100 ms, link END. -/
def ruleBytes : List Byte := [0x00, 0x64, 0x01, 0x90, 0x00, 0x32, 0x93, 0x00, 0xFA, 0x14, 0x0A, 0x3F]

theorem test_write_rule_stores_the_fields :
    (after .writeRule (State.with opened (command 0x11 (47 :: ruleBytes)))).policy.pendingBank.rules[47]
      = { minVoltage := 5000, maxVoltage := 20000, minCurrent := 500, shared := .sharedOnly, action := .accept,
          weight := 3, cap := 2500, derate := 20, settle := 100, next := 63 } := by decide +kernel
theorem test_write_heads_takes_six_bits :
    (after .writeHeads (State.with opened (command 0x12 [0x01, 0x82, 0x3F]))).policy.pendingBank.dockHead = 2 := by
  decide +kernel
theorem test_write_rating_stores_the_entry :
    (after .writeRating (State.with opened
      (command 0x13 [11, 1, 0, 0x20, 0x08, 3, 0xFF, 0xFF, 0x01, 0x86, 0x00, 0xE7]))).policy.pendingBank.ratings[11]
      = { used := true, minResistance := 8200, maxResistance := 262143, voltage := 19500, current := 2310 } := by
  decide +kernel
theorem test_write_params_scales_the_count :
    (after .writeParams (State.with opened (command 0x14 [4, 0, 0, 0, 180]))).policy.pendingBank.params[4] = 9000 := by
  decide +kernel
theorem test_apply_installs_the_image :
    let t := after .applyPolicy (State.with opened (command 0x16 []))
    replyBody t = some .applied ∧ t.policy.origin = .loaded := by decide +kernel
/-- R87: a SUPPLIER head of 48 fails as HEAD 0, NEXT (11). -/
theorem test_apply_refuses_a_bad_head :
    replyOf .applyPolicy (command 0x16 []) (opened.modPending fun i => { i with supplierHead := 48 })
      = some (.invalid { part := .head, index := 0, detail := 11 }) := by decide +kernel
theorem test_set_platform_takes_the_values :
    let t := after .setPlatform (State.with on (command 0x20 [0, 0, 0xAF, 0xC8, 0x1D, 0x4C, 1, 10]))
    t.supervisor.demand = 45000 ∧ t.supply.budget = 7500 ∧ t.supervisor.silencePeriod = 1000 := by decide +kernel
theorem test_set_platform_refuses_no_silence :
    replyOf .setPlatform (command 0x20 [0, 0, 0xAF, 0xC8, 0x1D, 0x4C, 1, 0]) on = some (.refused .range) := by
  decide +kernel
theorem test_bar_port_sets_the_flag :
    ((after .barPort (State.with supplier (command 0x21 [1] 1))).monitor.get 1).barred = true := by decide +kernel
theorem test_set_frame_class_replaces_one_entry :
    (after .setFrameClass (State.with on (command 0x22 [0x2F, 1]))).link.frameClass[31] = .discard := by decide +kernel
theorem test_release_capture_of_an_empty_slot :
    replyOf .releaseCapture (command 0x23 [] 2) on = some (.refused .empty) := by decide +kernel
theorem test_take_notice_takes_the_highest :
    let s := post .link 0x04 0 (post (.partner 2) 0x01 0 on)
    replyOf .takeNotice (command 0x24 []) s
      = some (.data (.notice (some { flag := .partner 2
                                     notice := { code := 0x01, snapshot := 0, ms := 0, posts := 1 } }))) := by
  decide +kernel

def relayDown (kind : Byte) (payload : List Byte) (branch : Byte := 0) : LinkFrame :=
  { kind := 0x02, port := 1, branch := branch, payload := 0x2A :: kind :: payload }

theorem test_relay_down_is_sent :
    ((after .relayDown (State.with supplier (relayDown 0x12 [7]))).framer.get 1).sending
      = some (.relay { kind := 0x12, branch := 0, payload := [7] }) := by decide +kernel
theorem test_relay_down_refuses_a_power_kind :
    replyOf .relayDown (relayDown 0x0D []) supplier = some (.refused .powerKind) := by decide +kernel
theorem test_restart_clears_the_link :
    let t := after .restart (State.with (post .meter 0x01 0 on) (command 0x3F []))
    t.link.receive = [] ∧ t.link.notices.get .meter = none ∧ replyBody t = some .ok := by decide +kernel
theorem test_first_silence_warns :
    ((after .silenceTimerExpiry (silent on)).link.notices.get .silence).map Notice.snapshot = some 2000 := by
  decide +kernel
theorem test_second_silence_is_autonomous :
    (after .silenceTimerExpiry (silent (after .silenceTimerExpiry (silent on)))).supervisor.autonomous = true
      ∧ (after .silenceTimerExpiry (after .silenceTimerExpiry (silent on))).supervisor.autonomous = false := by
  decide +kernel

/-- R195, R196, R197: the payloads of three replies: DATA with the notice kind NONE, REFUSED NO-RECORD, and REFUSED
INVALID of the SUPPLIER head. -/
theorem test_reply_payloads :
    (UplinkFrame.reply 0 0 0x2A 0x24 (.data (.notice none))).frame.payload
        = [0x2A, 0x24, 0x01, 0, 0, 0, 0, 0, 0, 0, 0, 0, 0, 0, 0]
      ∧ (UplinkFrame.reply 1 6 0x2A 0x05 (.refused .noRecord)).frame
          = { kind := 0x81, port := 1, branch := 6, payload := [0x2A, 0x05, 0x04, 0x0A] }
      ∧ (UplinkFrame.reply 0 0 0x2A 0x16 (.invalid { part := .head, index := 0, detail := 11 })).frame.payload
          = [0x2A, 0x16, 0x04, 0x05, 0x03, 0x00, 0x0B] := by decide +kernel

/-- A timer below a time has not come to it. -/
theorem not_hasRun {n ms : Nat} (h : n < ms) : ¬hasRun (some n) ms := by
  rintro ⟨k, hk, le⟩; cases hk; omega

/-! ### Each statement's hypotheses are met

One theorem for each statement that has hypotheses, or for each of its clauses, named `test_meets_<statement>` with the
clause. -/

theorem test_meets_StepRunsTheFrontCommand :
    ({ on with pending := [.limitPeriod, .takeDemand] } : State).pending = .limitPeriod :: [.takeDemand] := rfl

theorem test_meets_IdleStepMakesTheNextEventOrATick :
    (on.pending = [] ∧ on.inReset = false ∧ on.due = [])
      ∧ (offering.pending = [] ∧ offering.inReset = false ∧ offering.due ≠ [])
      ∧ (State.reset.pending = [] ∧ State.reset.inReset = true) := by decide +kernel

theorem test_meets_EveryCommandCompletesOrIsIgnoredInReset :
    State.reset.inReset = true ∧ Instr.limitPeriod ≠ .powerOnReset ∧ ∀ a b d, Instr.limitPeriod ≠ .resetEnd a b d :=
  ⟨rfl, by decide, fun _ _ _ h => by cases h⟩

/-- Port 1 SENSING with presence high or low. -/
def sensing (high : Bool) : State := on.modMonitor 1 fun m => { m with state := .sensing, presence := high }

/-- Three ports unpopulated: STRAP1 and STRAP0 high. -/
def onePort : State := on.modSupervisor fun v => { v with straps := 0b11 }

theorem test_meets_PresenceIsDebounced_rise :
    (onePort.inReset = false ∧ (onePort.monitor.get 1).presence = false ∧ onePort.populated 1 = false)
      ∧ ((on.monitor.get 3).presence = false ∧ on.populated 3 = true ∧ (on.monitor.get 3).state = .empty)
      ∧ (((sensing false).monitor.get 1).presence = false ∧ (sensing false).populated 1 = true
          ∧ ((sensing false).monitor.get 1).state = .sensing) := by decide +kernel

theorem test_meets_PresenceIsDebounced_attached_rise :
    let s := supplier.modMonitor 1 fun m => { m with presence := false }
    s.inReset = false ∧ (s.monitor.get 1).presence = false ∧ s.populated 1 = true ∧ s.attached 1 = true := by
  decide +kernel

/-- An event made at once, and timers at their time and a millisecond before it (R115, R150, R189). -/
theorem test_meets_EventsAreDueAtTheirTimes :
    Instr.takeDemand ∈ (raiseDemand .review 2 on).due
      ∧ Instr.recoveryTimerExpiry ∈ (on.modLimit fun l => { l with recovery := some 2000 }).due
      ∧ Instr.recoveryTimerExpiry ∉ (on.modLimit fun l => { l with recovery := some 1999 }).due
      ∧ Instr.silenceTimerExpiry ∈ (on.modSupervisor fun v => { v with silenceTimer := some 2000 }).due
      ∧ Instr.silenceTimerExpiry ∉ (on.modSupervisor fun v => { v with silenceTimer := some 1999 }).due := by
  decide +kernel

theorem test_meets_PresenceIsDebounced_fall :
    ((sensing true).inReset = false ∧ ((sensing true).monitor.get 1).presence = true
        ∧ ((sensing true).monitor.get 1).state ≠ .empty)
      ∧ (let s := on.modMonitor 1 fun m => { m with presence := true }
        (s.monitor.get 1).presence = true ∧ (s.monitor.get 1).state = .empty) := by decide +kernel

/-- The times of both confirmations, and a millisecond less. -/
theorem test_meets_PresenceIsDebounced_confirmed :
    (let s := (sensing false).modMonitor 1 fun m => { m with debounce := some 2 };
      s.inReset = false ∧ (s.monitor.get 1).state = .sensing ∧ (s.monitor.get 1).presence = false
        ∧ hasRun (s.monitor.get 1).debounce 2 ∧ ¬hasRun (some 1) 2)
      ∧ (let s := (sensing true).modMonitor 1 fun m => { m with debounce := some 20 }
        (s.monitor.get 1).state = .sensing ∧ (s.monitor.get 1).presence = true ∧ hasRun (s.monitor.get 1).debounce 20
          ∧ (s.framer.get 1).exchange = none ∧ s.lineQuiet 1 ∧ ¬hasRun (some 19) 20) :=
  ⟨⟨by decide +kernel, by decide +kernel, by decide +kernel, ⟨2, rfl, by decide⟩, not_hasRun (by decide)⟩,
    by decide +kernel, by decide +kernel, ⟨20, rfl, by decide⟩, by decide +kernel,
    by unfold State.lineQuiet State.lineIdle; decide +kernel, not_hasRun (by decide)⟩

/-- Port 1's partner has been unplugged for 2 ms; its measurement stands in a phase. -/
def leaving (phase : MeasurePhase) : State :=
  (supplier.modMonitor 1 fun m => { m with presence := false, debounce := some 2 }).modPortMeasure 1
    fun r => { r with phase := phase }

theorem test_meets_DetachClearsThePort :
    ((leaving .queued).inReset = false ∧ (leaving .queued).attached 1 = true
        ∧ ((leaving .queued).monitor.get 1).presence = false ∧ ((leaving .queued).meter.port.get 1).phase = .queued)
      ∧ (((leaving .converting).meter.port.get 1).phase = .converting
        ∧ .id 1 ∉ (leaving .converting).meter.queue) := by decide +kernel

theorem test_meets_DetachClearsThePort_time : hasRun ((leaving .queued).monitor.get 1).debounce 2 ∧ ¬hasRun (some 1) 2 :=
  ⟨⟨2, rfl, by decide⟩, not_hasRun (by decide)⟩

def probes (n : Nat) : State := probing.modMonitor 0 fun m => { m with probeCount := n, coolOff := some 2000 }

theorem test_meets_ProbeAndCoolOffTimersExpire_probe :
    ((probes 2).inReset = false ∧ ((probes 2).monitor.get 0).state = .probing
        ∧ ((probes 2).monitor.get 0).probeCount < 3
        ∧ ((probes 2).framer.get 0).exchange = none ∧ (probes 2).lineQuiet 0)
      ∧ (let s := (probes 2).modFramer 0 fun f => { f with exchange := some (exchange .probe (.held 3) 1) }
        (s.framer.get 0).exchange = some (exchange .probe (.held 3) 1)) := by
  unfold State.lineQuiet State.lineIdle; decide +kernel

theorem test_meets_ProbeAndCoolOffTimersExpire_times :
    hasRun ((probes 2).monitor.get 0).probeTimer 150 ∧ hasRun ((probes 3).monitor.get 0).coolOff 2000
      ∧ ¬hasRun (some 149) 150 ∧ ¬hasRun (some 1999) 2000 :=
  ⟨⟨150, rfl, by decide⟩, ⟨2000, rfl, by decide⟩, not_hasRun (by decide), not_hasRun (by decide)⟩

theorem test_meets_ProbeAndCoolOffTimersExpire_measure :
    ((probes 3).inReset = false ∧ ((probes 3).monitor.get 0).state = .probing
        ∧ 3 ≤ ((probes 3).monitor.get 0).probeCount
        ∧ ((probes 3).meter.port.get 0).phase = .idle ∧ .id 0 ∉ (probes 3).meter.queue
        ∧ (probes 3).meter.inFlight = none ∧ (probes 3).meter.queue = [])
      ∧ (let s := converting .refLo (probes 3)
        (s.meter.port.get 0).phase = .idle ∧ .id 0 ∉ s.meter.queue
          ∧ s.meter.inFlight = some { channel := .refLo, elapsed := 3, timebase := 0, edges := 0 })
      ∧ (let s := (probes 3).modPortMeasure 0 fun r => { r with phase := .unresolved }
        (s.meter.port.get 0).phase ≠ .idle) := by decide +kernel

def badCount (n : Nat) : State := supplier.modFramer 1 fun f => { f with badCount := n }

theorem test_meets_ReceivedFramesMoveTheLine_bad :
    let f := spoiled kindOffer 0 []
    receivedFrame (.offer 1 f) = some (1, kindOffer, f) ∧ frameGood kindOffer f = false
      ∧ ((badCount 2).inReset = false ∧ (badCount 2).attached 1 = true ∧ (badCount 2).hears 1 f)
      ∧ 3 ≤ ((badCount 2).framer.get 1).badCount + 1 ∧ ((badCount 2).framer.get 1).unsound = false
      ∧ ¬3 ≤ ((badCount 1).framer.get 1).badCount + 1 := by unfold State.hears; decide +kernel

theorem test_meets_ReceivedFramesMoveTheLine_good :
    let f := frame kindOffer 0 []
    receivedFrame (.offer 1 f) = some (1, kindOffer, f) ∧ f.begins = false ∧ on.attached 1 = false
      ∧ ((supplier.modFramer 1 fun x => { x with sending := some (.engine .release) }).framer.get 1).sending ≠ none
      ∧ (badCount 2).arrives 1 kindOffer f := by unfold State.arrives State.hears; decide +kernel

theorem test_meets_ReceivedFramesMoveTheLine_begins :
    let f := { frame kindOffer 0 [] with begins := true }
    let s := after (.offer 1 f) supplier
    receivedFrame (.offer 1 f) = some (1, kindOffer, f) ∧ f.begins = true ∧ (s.framer.get 1).incoming ≠ .quiet
      ∧ ((after (.relayDown) s).framer.get 1).incoming ≠ .quiet
      ∧ exec .relayDown s = .next (after .relayDown s) :=
  ⟨by decide +kernel, rfl, by decide +kernel, by decide +kernel, rfl⟩

/-! Frames that are protocol errors: of a part-only kind, of branch 7, of a wrong length, from a branch 1 to 6, on a
port that is not TALKING, an ANNOUNCE that fails, an OFFER that ends inside a point, and a HOLD with nothing due. -/

theorem test_meets_FramesAtFaultAreDiscarded_kind :
    supplier.arrives 1 0x0D (frame 0x0D 0 []) ∧ receivedFrame (.partOnlyKindFrame 1 .cut (frame 0x0D 0 []))
      = some (1, 0x0D, frame 0x0D 0 []) := by unfold State.arrives State.hears; decide +kernel

theorem test_meets_FramesAtFaultAreDiscarded_branch_7 :
    supplier.arrives 1 kindOffer (frame kindOffer 7 []) ∧ (supplier.monitor.get 1).state = .talking := by
  unfold State.arrives State.hears; decide +kernel

theorem test_meets_FramesAtFaultAreDiscarded_length :
    supplier.arrives 1 kindGrant (frame kindGrant 0 [0, 0, 0, 0]) ∧ (supplier.monitor.get 1).state = .talking
      ∧ lengthWrong kindGrant (frame kindGrant 0 [0, 0, 0, 0]) = true := by unfold State.arrives State.hears; decide +kernel

theorem test_meets_FramesAtFaultAreDiscarded_from_a_branch :
    dock.arrives 1 kindReady (frame kindReady 4 [0]) ∧ (4 : BitVec 3).toNat ≤ dock.branchCount 1 := by
  unfold State.arrives State.hears; decide +kernel

theorem test_meets_FramesAtFaultAreDiscarded_not_talking :
    probing.arrives 0 kindOffer (frame kindOffer 0 []) ∧ (probing.monitor.get 0).state ≠ .talking
      ∧ kindOffer ≠ kindAnnounce ∧ kindOffer ≠ kindHold
      ∧ probing.arrives 0 kindAnnounce (frame kindAnnounce 1 [1, 0, 0, 0, 0, 0]) := by
  unfold State.arrives State.hears; decide +kernel

theorem test_meets_FramesAtFaultAreDiscarded_fields :
    (probing.arrives 0 kindAnnounce (frame kindAnnounce 0 [2, 7, 0, 0, 0, 0])
        ∧ (announceFields [2, 7, 0, 0, 0, 0]).passes = false)
      ∧ (supplier.arrives 1 kindOffer (frame kindOffer 0 [0, 0]) ∧ readPoints [0, 0] = none)
      ∧ (dock.arrives 1 kindOffer (frame kindOffer 0 []) ∧ dock.supplies 1 = false)
      ∧ (supplier.arrives 1 kindHold (frame kindHold 0 []) ∧ (supplier.framer.get 1).exchangeDue = false) := by
  unfold State.arrives State.hears; decide +kernel

theorem test_meets_FramesAtFaultAreDiscarded_beyond_the_count :
    dock.arrives 1 kindDemand (frame kindDemand 5 [0, 100, 0, 50]) ∧ (dock.monitor.get 1).state = .talking
      ∧ dock.branchCount 1 < (5 : BitVec 3).toNat ∧ dock.lineIdle 1 := by
  unfold State.arrives State.hears State.lineIdle; decide +kernel

theorem test_meets_AnnounceEntersTalking :
    let f := frame kindAnnounce 0 [0x02, 0x86, 0, 1, 0, 2]
    probing.arrives 0 kindAnnounce f ∧ (probing.monitor.get 0).state ≠ .talking ∧ f.branch = 0
      ∧ f.payload.length = 6 ∧ (announceFields f.payload).passes = true
      ∧ (State.at on 0 .legacy blank).arrives 0 kindAnnounce f := by unfold State.arrives State.hears; decide +kernel

/-- Port 0 MEASURING in each phase: queued, in conversion with another channel behind it, and idle. -/
theorem test_meets_AnnounceEntersTalking_measuring :
    let f := frame kindAnnounce 0 [0x01, 0, 0, 1, 0, 2]
    let s := State.at on 0 .measuring blank
    let queued := (s.modPortMeasure 0 fun r => { r with phase := .queued }).modMeter fun m => { m with queue := [.id 0, .refHi] }
    let flying := (converting (.id 0) (s.modPortMeasure 0 fun r => { r with phase := .converting })).modMeter fun m =>
      { m with queue := [.id 2] }
    s.arrives 0 kindAnnounce f ∧ (s.meter.port.get 0).phase = .idle ∧ (s.monitor.get 0).state = .measuring
      ∧ (queued.arrives 0 kindAnnounce f ∧ (queued.meter.port.get 0).phase = .queued ∧ .id 0 ∈ queued.meter.queue)
      ∧ (flying.arrives 0 kindAnnounce f ∧ (flying.meter.port.get 0).phase = .converting
        ∧ flying.meter.inFlightChannel = some (.id 0) ∧ flying.meter.queue = .id 2 :: []
        ∧ .id 0 ∉ flying.meter.queue) := by unfold State.arrives State.hears; decide +kernel

theorem test_meets_AnnounceOnATalkingPortUpdatesTheRecord :
    let f := frame kindAnnounce 0 [0x02, 0x03, 0x12, 0x34, 0x56, 0x78]
    dock.takes 1 kindAnnounce f ∧ f.branch = 0 ∧ (announceFields f.payload).passes = true
      ∧ dock.table.own.get 1 = some (record .dock 4 false)
      ∧ supplier.takes 1 kindAnnounce f ∧ (record .supplier 0 true).supplies = true := by
  unfold State.takes State.hears; decide +kernel

theorem test_meets_OfferReplacesTheBook :
    let f := frame kindOffer 0 [0x01, 0x91, 0x2C]
    supplier.takes 1 kindOffer f ∧ f.branch = 0 ∧ supplier.supplies 1 = true
      ∧ readPoints f.payload = some [fiveVolt] ∧ readPoints [] = some [] := by unfold State.takes State.hears; decide +kernel

theorem test_meets_GrantIsTakenOrAnsweredWithRelease :
    (supplier.takes 1 kindGrant (granted 1 1 900) ∧ (supplier.framer.get 1).claimDue = false ∧ supplier.lineIdle 1)
      ∧ (claiming.takes 1 kindGrant (granted 1 1 500) ∧ (claiming.framer.get 1).claimDue = true
        ∧ (claiming.contract.get 1).state = .claiming ∧ (claiming.contract.get 1).pending.isSome = true
        ∧ (claiming.framer.get 1).waiting = [] ∧ claiming.lineIdle 1) := by
  unfold State.takes State.hears State.lineIdle; decide +kernel

/-- The three outcomes of a GRANT: 500 mA is enough, 490 mA is not, and generation 2 is stale. -/
theorem test_meets_GrantIsTakenOrAnsweredWithRelease_outcomes :
    (grantFields (granted 1 1 500).payload).current = 500 ∧ (grantFields (granted 1 1 490).payload).current = 490
      ∧ (grantFields (granted 2 1 900).payload).generation ≠ (claiming.book.get 1).generation := by decide +kernel

theorem test_meets_DenyEndsAndReadyAdvancesTheClaim_deny :
    let f := frame kindDeny 0 [0x10, 0x01]
    (supplier.takes 1 kindDeny f ∧ f.branch = 0 ∧ (supplier.framer.get 1).claimDue = false)
      ∧ claiming.takes 1 kindDeny f ∧ (claiming.framer.get 1).claimDue = true
      ∧ (claiming.contract.get 1).state = .claiming ∧ byteAt f.payload 1 = 0x01 := by unfold State.takes State.hears; decide +kernel

theorem test_meets_DenyEndsAndReadyAdvancesTheClaim_ready :
    let s := supplier.modContract 1 fun _ => claimOf .talk .awaiting
    s.takes 1 kindReady (frame kindReady 0 [0x10]) ∧ (s.contract.get 1).state = .awaiting
      ∧ ((s.contract.get 1).pending.map PendingTerms.generation) = some (generationOf [0x10])
      ∧ generationOf [0x20] ≠ 1 := by unfold State.takes State.hears; decide +kernel

def holds (k : ExchangeKind) (n : Nat) : State :=
  claiming.modFramer 1 fun f => { f with exchange := some (exchange k (.answerDue 3) n) }

theorem test_meets_HoldDelaysTheExchange :
    let f := frame kindHold 0 []
    ((holds claimFrame 3).arrives 1 kindHold f ∧ f.payload.length = 0 ∧ f.branch = 0
        ∧ ((holds claimFrame 3).framer.get 1).exchange = some (exchange claimFrame (.answerDue 3) 3))
      ∧ ((holds claimFrame 4).arrives 1 kindHold f ∧ ((holds claimFrame 4).contract.get 1).state = .claiming
        ∧ ((holds .probe 4).arrives 1 kindHold f)
      ∧ (dock.arrives 1 kindHold (frame kindHold 4 []) ∧ (dock.monitor.get 1).state = .talking
        ∧ (4 : BitVec 3).toNat ≤ dock.branchCount 1)) := by unfold State.arrives State.hears; decide +kernel

def sending (t : TalkTx) (withdrawn : Bool) : State :=
  claiming.modFramer 1 fun f =>
    { f with sending := some t, exchange := some { exchange claimFrame .queued 0 with withdrawn := withdrawn } }

theorem test_meets_ExchangesAreSentAndTimed_sent :
    let claim : TalkTx := .engine (.exchange claimFrame)
    ((sending claim false).inReset = false ∧ ((sending claim false).framer.get 1).sending = some claim
        ∧ ((sending claim false).framer.get 1).exchange = some (exchange claimFrame .queued 0))
      ∧ (((sending claim true).framer.get 1).exchange.map Exchange.withdrawn = some true
        ∧ ((sending claim true).framer.get 1).waiting = [])
      ∧ ((sending (.engine .release) false).framer.get 1).sending = some (.engine .release) := by decide +kernel

theorem test_meets_ExchangesAreSentAndTimed_timers :
    let late := claiming.modFramer 1 fun f => { f with exchange := some (exchange claimFrame (.answerDue 30) 0) }
    let held := claiming.modFramer 1 fun f => { f with exchange := some (exchange claimFrame (.held 50) 1) }
    late.inReset = false ∧ (late.framer.get 1).exchange = some (exchange claimFrame (.answerDue 30) 0)
      ∧ (late.contract.get 1).state = .claiming
      ∧ ((claiming.framer.get 1).exchange = some (exchange claimFrame (.answerDue 3) 0) ∧ 3 < 30)
      ∧ ((held.framer.get 1).exchange = some (exchange claimFrame (.held 50) 1) ∧ held.lineQuiet 1) := by
  unfold State.lineQuiet State.lineIdle; decide +kernel

/-- The engine list and the relay queue hold frames as a sent frame ends, on a quiet line and on one where the partner's
frame comes in. -/
theorem test_meets_ExchangesAreSentAndTimed_line :
    let s := supplier.modFramer 1 fun f =>
      { f with sending := some (.engine .release), engine := [.cut 2], relay := [{ kind := 0x12, branch := 0, payload := [] }] }
    let t := s.modFramer 1 fun f => { f with incoming := .lost }
    (s.framer.get 1).sending = some (.engine .release) ∧ (s.framer.get 1).incoming = .quiet
      ∧ (t.framer.get 1).sending = some (.engine .release) ∧ (t.framer.get 1).incoming ≠ .quiet := by decide +kernel

/-- A DEMAND of 5,000 mV or less, from a branch of port 1. -/
def asking (branch : BitVec 3) (mv ma : Nat) : RawFrame := frame kindDemand branch (twoBytes (mv / 50) ++ twoBytes (ma / 10))

def fullPool : State := dock.setPool (List.replicate 12 { port := 3, branch := 1, grant := none })

theorem test_meets_RefusedDemandChangesNoGrant :
    (dock.takes 1 kindDemand (asking 4 4450 900) ∧ dock.findsRecord 1 4
        ∧ voltageField (asking 4 4450 900).payload 0 < 4500)
      ∧ (supplier.takes 1 kindDemand (asking 0 5000 900) ∧ supplier.supplies 1 = true)
      ∧ (fullPool.takes 1 kindDemand (asking 2 5000 900) ∧ fullPool.hasRecord 1 2 = false
        ∧ 12 ≤ fullPool.table.pool.length) := by unfold State.takes State.hears State.findsRecord; decide +kernel

/-- A budget of 2,500 mW has room for 500 mA exactly. -/
def tight : State := dock.modSupply fun u => { u with budget := 2500 }

theorem test_meets_DemandIsGrantedOrRenewed_granted :
    tight.takes 1 kindDemand (asking 4 4500 900) ∧ tight.findsRecord 1 4 ∧ tight.demandPasses 1 4500
      ∧ voltageField (asking 4 4500 900).payload 0 = 4500 ∧ tight.grantOf 1 4 = none ∧ tight.supply.waitList = []
      ∧ tight.supply.orderCounter < 65535 ∧ tight.budgetRoom = 500 ∧ tight.lineIdle 1 := by
  unfold State.takes State.hears State.findsRecord State.demandPasses State.lineIdle; decide +kernel

/-- The same with 490 mA of room left, and with a wait list of `n` entries of port 2. -/
def waiting (n : Nat) : State :=
  (dock.modSupply fun u => { u with budget := 2499 }).modSupply fun u =>
    { u with waitList := (List.range n).map fun i => { port := 2, branch := i, requested := 600 } }

theorem test_meets_DemandThatMustWaitIsHeld :
    ((waiting 0).takes 1 kindDemand (asking 4 5000 900) ∧ (waiting 0).findsRecord 1 4
        ∧ (waiting 0).demandPasses 1 5000 ∧ (waiting 0).grantOf 1 4 = none ∧ (waiting 0).supply.waitList = []
        ∧ min 900 (min (waiting 0).budgetRoom ((waiting 0).portRoom 1)) < 500)
      ∧ ((waiting 7).supply.waitList ≠ [] ∧ (waiting 7).waits 1 4 = false ∧ (waiting 7).supply.waitList.length < 8)
      ∧ ((waiting 8).waits 1 4 = false ∧ 8 ≤ (waiting 8).supply.waitList.length)
      ∧ ((setWaitList [{ port := 1, branch := 4, requested := 600 }] (waiting 0)).waits 1 4 = true) := by
  unfold State.takes State.hears State.findsRecord State.demandPasses; decide +kernel

/-- Branch 2 of port 1 holds a grant of 900 mA. -/
def supplying : State :=
  setSupplySwitch 1 true
    (dock.setPool [{ port := 1, branch := 2, grant := some { current := 900, requested := 900, order := 1 } }])

theorem test_meets_DemandIsGrantedOrRenewed_renewed :
    supplying.takes 1 kindDemand (asking 2 5000 1000) ∧ supplying.demandPasses 1 5000
      ∧ supplying.grantOf 1 2 = some { current := 900, requested := 900, order := 1 }
      ∧ supplying.supply.waitList = [] ∧ supplying.supply.orderCounter < 65535 ∧ supplying.lineIdle 1
      ∧ (setWaitList [{ port := 1, branch := 4, requested := 600 }] supplying).supply.waitList ≠ []
      ∧ (setWaitList [{ port := 1, branch := 4, requested := 600 }] supplying).waits 1 2 = false := by
  unfold State.takes State.hears State.demandPasses State.lineIdle; decide +kernel

/-- The counter stands at its end, and the next number follows a renumbering. -/
theorem test_meets_DemandIsGrantedOrRenewed_renumbered :
    let s := supplying.modSupply fun u => { u with orderCounter := 65535 }
    s.takes 1 kindDemand (asking 2 5000 1000) ∧ s.demandPasses 1 5000 ∧ ¬s.supply.orderCounter < 65535
      ∧ s.takes 1 kindDemand (asking 4 5000 500) ∧ s.findsRecord 1 4 ∧ s.grantOf 1 4 = none ∧ s.supply.waitList = [] := by
  unfold State.takes State.hears State.demandPasses State.findsRecord; decide +kernel

/-- A head of port 2 that is supplied, one that has room, and one that has too little; and the grant of branch 2. -/
theorem test_meets_ServiceTakesTheWaitListFromItsHead :
    let w : WaitEntry := { port := 2, branch := 0, requested := 600 }
    let s := setWaitList [w] dock
    (on.supply.waitList = [] ∧ s.supply.waitList = w :: [])
      ∧ (State.at s 2 .talking (record .supplier 0 true)).supplies 2 = true
      ∧ ((s.contract.get 2).drawClosed = false ∧ (s.contract.get 2).state = .idle ∧ s.supplies 2 = false
        ∧ s.sequencer.transition = none ∧ 500 ≤ (7500 - currentOf s.grants * 5) * 1000 / 5000 / 10 * 10)
      ∧ (2499 - currentOf s.grants * 5) * 1000 / 5000 / 10 * 10 < 500
      ∧ (supplying.hasRecord 1 2 = true ∧ supplying.supply.orderCounter < 65535 ∧ supplying.lineQuiet 1) := by
  unfold State.lineQuiet State.lineIdle currentOf; decide +kernel

/-- 900 mA is 4,500 mW: a budget of 4,000 mW, and a port limit of 700 mA, make the grant give way. -/
theorem test_meets_GrantsGiveWayFromTheNewest :
    supplying.recordsStand ∧ supplying.supply.budget ≤ 60000 ∧ 4000 < supplying.supply.budget
      ∧ 4000 < currentOf supplying.grants * 5
      ∧ (let s := supplying.modPolicy fun q => { q with active := { q.active with params := q.active.params.set 13 700 } }
        s.recordsStand ∧ s.policy.active.params[13] = 700 ∧ 700 < 1500 ∧ 700 < currentOf (s.portGrants 1)
          ∧ 500 ≤ s.policy.active.params[13]) := by
  unfold State.recordsStand currentOf; decide +kernel

theorem test_meets_RetireGivesUpItsGrant :
    supplying.takes 1 kindRetire (frame kindRetire 2 []) ∧ supplying.hasRecord 1 2 = true
      ∧ supplying.supply.waitList = [] ∧ (supplying.grantOf 1 2).isSome = true
      ∧ dock.takes 1 kindRetire (frame kindRetire 4 []) ∧ dock.hasRecord 1 4 = false := by
  unfold State.takes State.hears; decide +kernel

theorem test_meets_OtherKindsGoByTheirClass :
    (dock.takes 1 0x10 (frame 0x10 4 []) ∧ dock.findsRecord 1 4 ∧ dock.link.frameClass[0] = .forward
        ∧ dock.link.upstream.length < 16)
      ∧ (dock.takes 1 0x2F (frame 0x2F 0 []) ∧ dock.link.frameClass[31] = .capture
        ∧ (dock.framer.get 1).capture = none)
      ∧ (fullPool.takes 1 0x0E (frame 0x0E 2 []) ∧ fullPool.hasRecord 1 2 = false
        ∧ 12 ≤ fullPool.table.pool.length) := by unfold State.takes State.hears State.findsRecord; decide +kernel

theorem test_meets_OtherKindsGoByTheirClass_full :
    (let s := dock.modLink fun l => { l with upstream := List.replicate 16 (.relayUp 1 0 0x10 []) };
      s.takes 1 0x10 (frame 0x10 0 []) ∧ 16 ≤ s.link.upstream.length)
      ∧ (let s := dock.modFramer 1 fun f => { f with capture := some { branch := 0, kind := 0x20, payload := [] } }
        s.takes 1 0x20 (frame 0x20 0 []) ∧ (s.framer.get 1).capture ≠ none)
      ∧ (setFrameClass 0x10 .discard dock).link.frameClass[0] = .discard := by unfold State.takes State.hears; decide +kernel

theorem test_meets_ReferenceConversionWritesItsRecord :
    let s := converting .refHi on
    let t := s.modPortMeasure 2 fun r => { r with phase := .unresolved, heldPeriod := some 2000 }
    s.inReset = false ∧ s.meter.inFlightChannel = some .refHi ∧ (639 : BitVec 16).toNat < 640
      ∧ ¬(640 : BitVec 16).toNat < 640 ∧ (∀ p, (s.meter.port.get p).phase ≠ .unresolved)
      ∧ s.meter.refLo.status = .valid ∧ (t.meter.port.get 2).phase = .unresolved
      ∧ (t.meter.port.get 2).heldPeriod.isSome = true ∧ t.meter.inFlightChannel = some .refHi
      ∧ (t.meter.refLo.period.getD 0 = 1000 ∧ (1063 : BitVec 16).toNat < 1000 + 64) := by decide +kernel

theorem test_meets_ConversionsEndByTheirOutcome :
    let s := converting (.id 2) on
    let close := s.modMeter fun m => { m with refHi := { m.refHi with period := some 1063 } }
    let open_ := s.modMeter fun m => { m with refHi := { m.refHi with status := .openCircuit } }
    s.inReset = false ∧ s.meter.inFlightChannel = some (.id 2)
      ∧ (close.meter.refHi.status = .valid ∧ close.meter.refHi.period.getD 0 < close.meter.refLo.period.getD 0 + 64)
      ∧ (open_.meter.refHi.status ≠ .valid ∧ .id 2 ∉ open_.meter.queue)
      ∧ (converting .refHi on).meter.inFlightChannel = some .refHi := by decide +kernel

theorem test_meets_ConversionsEndByTheirOutcome_open :
    let s := on.modMeter fun m =>
      { m with inFlight := some { channel := .refLo, elapsed := 65, timebase := 0, edges := 0 } }
    s.inReset = false ∧ s.meter.inFlightChannel = some .refLo ∧ hasRun (s.meter.inFlight.map Conversion.elapsed) 65
      ∧ ¬hasRun (some 64) 65 :=
  ⟨by decide +kernel, by decide +kernel, ⟨65, rfl, by decide⟩, not_hasRun (by decide)⟩

theorem test_meets_PeriodsBecomeResistances :
    (1000 + 64 ≤ 1064) ∧ ¬(1000 + 64 ≤ 1063) ∧ (converting (.id 2) on).meter.inFlightChannel = some (.id 2)
      ∧ (converting (.id 2) on).inReset = false := by decide +kernel

/-- A conversion of port 2 after another of `ohms`; 2,089 µs reads 24,001 Ω, and 750 Ω is a thirty-second of 24,000. -/
def second (ohms attempts : Nat) : State :=
  (converting (.id 2) on).modPortMeasure 2 fun r =>
    { r with phase := .converting, attempts := attempts, previous := some ohms }

theorem test_meets_AgreeingResistancesAreRated :
    let ohms := resolvedResistance 2089 1000 8000 10000 100000
    (second 24000 1).inReset = false ∧ (second 24000 1).meter.inFlightChannel = some (.id 2)
      ∧ (second 24000 1).meter.refLo.status = .valid ∧ (second 24000 1).meter.refHi.status = .valid
      ∧ 640 ≤ (2089 : BitVec 16).toNat ∧ (2089 : BitVec 16).toNat < 65535 ∧ ohms = 24001
      ∧ ((converting (.id 2) on).meter.port.get 2).previous = none
      ∧ (ohms - 23275) + (23275 - ohms) ≤ 23275 / 32
      ∧ 23274 / 32 < (ohms - 23273) + (23273 - ohms) := by decide +kernel

theorem test_meets_AgreeingResistancesAreRated_entry :
    let i := on.policy.active
    i.ratings[1].used = true ∧ i.ratings[1].minResistance ≤ 24001 ∧ 24001 ≤ i.ratings[1].maxResistance
      ∧ ¬(i.ratings[0].minResistance ≤ 24001 ∧ 24001 ≤ i.ratings[0].maxResistance)
      ∧ (19500 - 17940) * 100 ≤ 19500 * i.params[14] ∧ ¬(19500 - 17939) * 100 ≤ 19500 * i.params[14] := by
  decide +kernel

/-- The three states a result finds the monitor in, and a legacy book that agrees with entry 1 and one that does not. -/
theorem test_meets_AgreeingResistancesAreRated_monitor :
    let s := State.at (second 24000 1) 2 .legacy blank
    let agreeing := s.modBook 2 fun b => { b with ratingEntry := some 1, points := [markPoint .fixed 19500 19500 3340 false] }
    ((State.at (second 24000 1) 2 .measuring blank).monitor.get 2).state = .measuring
      ∧ (s.monitor.get 2).state = .legacy ∧ (s.book.get 2).ratingEntry ≠ some 1
      ∧ (agreeing.book.get 2).ratingEntry = some 1
      ∧ (agreeing.book.get 2).points = markPoint .fixed 19500 19500 3340 false :: []
      ∧ ((State.at (second 24000 1) 2 .talking blank).monitor.get 2).state = .talking
      ∧ (on.policy.active.ratings[1].voltage = 19500 ∧ on.policy.active.ratings[1].current = 3340) := by decide +kernel

theorem test_meets_TakeDemandRunsSelection :
    offering.inReset = false ∧ offering.sequencer.inService = none
      ∧ (offering.sequencer.demands.get 1).has .revise = true
      ∧ (∀ q, (offering.sequencer.demands.get q).has .loss = false)
      ∧ (∀ q, (offering.sequencer.demands.get q).has .revise = true → ((1 : Port) - 3 - 1).val ≤ (q - 3 - 1).val)
      ∧ offering.sequencer.rotation = 3 ∧ selectPlan offering ≠ .empty
      ∧ (∀ r ∈ offering.table.pool, r.branch ≠ 0) ∧ (offering.contract.get 1).drawClosed = false := by decide +kernel

/-- A REVIEW with nothing to draw from and nothing drawn: the EMPTY plan is in force. -/
theorem test_meets_TakeDemandRunsSelection_in_force :
    let s := (raiseDemand .review 2 on).modSupervisor fun v => { v with batteryPresent := true }
    s.sequencer.inService = none ∧ (s.sequencer.demands.get 2).has .review = true ∧ selectPlan s = .empty
      ∧ ∀ q, (s.contract.get q).drawClosed = false ∧ (s.contract.get q).state = .idle := by decide +kernel

/-- Two suppliers at 9,000 mV, shared draw on and 65,000 mW wanted: a primary and a secondary. -/
def sharing : State :=
  (((State.at offering 2 .talking (record .supplier 0 true)).modBook 2 fun _ => bookOf [nineVolt]).modPolicy fun q =>
    { q with active := { q.active with params := q.active.params.set 7 1 } }).modSupervisor
    fun v => { v with demand := 65000 }

/-- Port 1's 9,000 mV point, which rule 0 of the fallback image accepts. -/
def ninePoint (p : Port) : Eligible :=
  { port := p, index := 1, point := nineVolt, ruleIndex := 0, rule := fallbackRule0, effective := 9000, usable := 3000 }

theorem nine_fits : ruleMatches sharing.policy.active fallbackRule0 nineVolt :=
  ⟨⟨9000, show 9000 = 9000 ∧ _ by decide +kernel⟩, by decide, .inl rfl⟩

/-- Two eligible points, and with the battery absent and nothing offered a port that qualifies in BASE. -/
theorem test_meets_SelectionTakesTheBestPoints :
    sharing.isEligible (ninePoint 1) ∧ sharing.isEligible (ninePoint 2) ∧ sharing.policy.active.params[7] = 1
      ∧ sharing.supervisor.demand ≠ 0 ∧ (ninePoint 1).powerAt 9000 < sharing.supervisor.demand
      ∧ (baseReady.attached 1 = true ∧ (baseReady.rail.get 1).mv = 5000 ∧ baseReady.supervisor.batteryPresent = false
        ∧ ∀ q, (baseReady.book.get q).points = []) := by
  refine ⟨⟨?_, by decide, by decide, by decide +kernel, by decide +kernel, ⟨1, by decide, .here (by decide +kernel) nine_fits rfl⟩,
      by decide +kernel, ?_, by decide +kernel, by decide⟩,
    ⟨?_, by decide, by decide, by decide +kernel, by decide +kernel, ⟨1, by decide, .here (by decide +kernel) nine_fits rfl⟩,
      by decide +kernel, ?_, by decide +kernel, by decide⟩, by decide +kernel, by decide +kernel, by decide +kernel,
    by decide +kernel⟩
  · unfold State.isCandidate; decide +kernel
  · show 9000 = 9000 ∧ _; decide +kernel
  · unfold State.isCandidate; decide +kernel
  · show 9000 = 9000 ∧ _; decide +kernel

theorem test_meets_PlansNamePortsThatMayBeDrawnFrom :
    (match selectPlan sharing with
      | .draw _ (some _) => true
      | _ => false) = true
      ∧ (match selectPlan baseReady with
        | .base _ => true
        | _ => false) = true := by decide +kernel

theorem test_meets_SettledClaimIsEstablished :
    settling.inReset = false
      ∧ settling.sequencer.transition
          = some { plan := .draw (entry 1 .primary) none, joining := [1], leaving := [], steppedOut := []
                   stage := .claimPrimary }
      ∧ (settling.contract.get 1).state = .settling ∧ (settling.contract.get 1).settleCount = 10
      ∧ (settling.contract.get 1).pending.isSome = true ∧ (settling.contract.get 1).details.isSome = true := by
  decide +kernel

/-- The same with a secondary to claim next on port 2. -/
theorem test_meets_SettledClaimIsEstablished_secondary :
    let s := inTransition (some (entry 2 .secondary)) .claimPrimary settling
    s.sequencer.transition.map Transition.plan = some (.draw (entry 1 .primary) (some (entry 2 .secondary)))
      ∧ (entry 2 .secondary).port ≠ (entry 1 .primary).port ∧ (entry 2 .secondary).action = .claim
      ∧ (s.contract.get 1).settleCount = 10 := by decide +kernel

theorem test_meets_ClaimTimersFailTheClaim :
    let s := supplier.modContract 1 fun _ => { claimOf .talk .settling with settleCount := 9, settleTimer := some 250 }
    let t := supplier.modContract 1 fun _ => { claimOf .legacy .awaiting with readyTimer := some 150 }
    (s.inReset = false ∧ (s.contract.get 1).state = .settling ∧ (s.contract.get 1).settleCount ≠ 10
        ∧ (∃ pt, (s.contract.get 1).pending = some pt ∧ hasRun (s.contract.get 1).settleTimer pt.settle)
        ∧ (s.contract.get 1).pending.map PendingTerms.source = some .talk ∧ s.lineQuiet 1)
      ∧ (t.contract.get 1).state = .awaiting
        ∧ hasRun (t.contract.get 1).readyTimer ((((t.contract.get 1).details.bind GrantDetails.ready).getD 0) + 50)
        ∧ (t.contract.get 1).pending.map PendingTerms.source = some .legacy
        ∧ ¬hasRun (some 249) 250 ∧ ¬hasRun (some 149) 150 :=
  ⟨⟨rfl, rfl, by decide, ⟨_, rfl, 250, rfl, by decide⟩, rfl,
      by unfold State.lineQuiet State.lineIdle; decide +kernel⟩, rfl, ⟨150, rfl, by decide⟩, rfl,
    not_hasRun (by decide), not_hasRun (by decide)⟩

/-- A transition from port 1, which draws, to port 2, ACTIVE at a voltage with its draw switch open. -/
def changing (mv : Nat) (leaving : List Port) : State :=
  (drawing.modContract 2 fun c =>
    { c with
      state := .active
      established := some { point := 1, generation := 1, voltage := mv, granted := 1000, derate := 10, weight := 1
                            settle := 250, source := .talk } }).modSequencer fun q =>
    { q with
      inService := some 2
      transition := some { plan := .draw (entry 2 .primary) none, joining := [2], leaving := leaving, steppedOut := []
                           stage := .claimPrimary } }

/-- R124's three ways: one voltage; no leaving port that draws; two voltages, with a battery or HELD. -/
theorem test_meets_SwitchingTakesOneOfThreeWays :
    (let s := changing 9000 [1];
      (s.drawsAt 1 9000 ∧ s.drawsAt 2 9000) ∧ (1 : Port) ∉ (Plan.draw (entry 2 .primary) none).ports)
      ∧ ((changing 9000 []).sequencer.transition.map Transition.leaving = some [])
      ∧ (let s := changing 12000 [1]
        s.drawsAt 1 9000 ∧ s.drawsAt 2 12000 ∧ (s.contract.get 1).drawClosed = true
          ∧ (s.contract.get 2).drawClosed = false ∧ s.supervisor.batteryPresent = false
          ∧ (s.modSupervisor fun v => { v with batteryPresent := true }).supervisor.batteryPresent = true) :=
  ⟨⟨⟨⟨rfl, _, rfl, rfl⟩, rfl, _, rfl, rfl⟩, by decide +kernel⟩, rfl,
    ⟨rfl, _, rfl, rfl⟩, ⟨rfl, _, rfl, rfl⟩, rfl, rfl, rfl, rfl⟩

theorem test_meets_SwitchingTakesOneOfThreeWays_break :
    let s := inTransition none (.breaking 5) supplier
    s.inReset = false ∧ s.sequencer.transition.map Transition.stage = some (.breaking 5)
      ∧ (inTransition none (.breaking 4) supplier).sequencer.transition.map Transition.stage = some (.breaking 4)
      ∧ (1 : Port) ∈ (Plan.draw (entry 1 .primary) none).ports := by decide +kernel

theorem test_meets_OnlyASwitchingClosesADrawSwitch :
    let s := inTransition none (.breaking 5) supplier
    exec .breakIntervalExpiry s = .next (after .breakIntervalExpiry s) ∧ (s.contract.get 1).drawClosed = false
      ∧ ((after .breakIntervalExpiry s).contract.get 1).drawClosed = true := by
  refine ⟨rfl, ?_⟩; decide +kernel

/-- Port 1 draws with counts one short of completion; 9,000 mV × 95 % is 8,550. -/
def counting : State :=
  drawing.modDrawMonitor 1 fun _ => { railLost := 2, overvoltage := 2, sag := 7, overdraw := 15, descent := none }

theorem test_meets_RailSampleMovesTheCounts :
    counting.inReset = false ∧ (counting.contract.get 1).drawClosed = true ∧ (counting.drawMonitor.get 1).railLost < 3
      ∧ (counting.drawMonitor.get 1).overvoltage < 3 ∧ (counting.contract.get 1).state = .active
      ∧ (8549 * 100 < 9000 * (100 - counting.policy.active.params[10]))
      ∧ ¬(8550 * 100 < 9000 * (100 - counting.policy.active.params[10]))
      ∧ (on.contract.get 1).drawClosed = false
      ∧ (let s := drawing.modDrawMonitor 1 fun d => { d with descent := some 0 }
        (s.drawMonitor.get 1).descent.isSome = true)
      ∧ (let s := supplier.modContract 1 fun _ => { claimOf .talk .settling with settleCount := 9 }
        (s.contract.get 1).state = .settling ∧ (s.contract.get 1).settleCount < 10) := by decide +kernel

theorem test_meets_ProtectionTakesThePortOut :
    let s := drawing.modDrawMonitor 1 fun d => { d with railLost := 3, overvoltage := 3 }
    let t := inTransition none .claimPrimary s
    let u := s.modSequencer fun q =>
      { q with
        inService := some 2
        transition := some { plan := .draw (entry 2 .primary) none, joining := [2], leaving := [], steppedOut := []
                             stage := .claimPrimary } }
    s.inReset = false ∧ (s.contract.get 1).drawClosed = true ∧ (s.drawMonitor.get 1).railLost = 3
      ∧ ((s.drawMonitor.get 1).overvoltage = 3 ∧ (s.contract.get 1).state = .active ∧ (s.drawMonitor.get 1).descent = none)
      ∧ t.sequencer.transition.map (fun x => x.involves 1) = some true
      ∧ u.sequencer.transition.map (fun x => x.involves 1) = some false := by decide +kernel

theorem test_meets_TrimRisesAndRecovers :
    let s := drawing.modDrawMonitor 1 fun d => { d with sag := 8, overdraw := 16 }
    let t := recompute (drawing.modLimit fun l => { l with trim := 800, recovery := some 2000 })
    s.inReset = false ∧ s.limit.trimBound = 800 ∧ allowanceSumOf s.contract - s.policy.active.params[8] = 800
      ∧ s.limit.trim ≤ 800 ∧ (s.contract.get 1).drawClosed = true ∧ (s.drawMonitor.get 1).sag = 8
      ∧ ((s.contract.get 1).state = .active ∧ (s.drawMonitor.get 1).descent = none)
      ∧ (s.drawMonitor.get 1).overdraw = 16 ∧ t.limit.trim = 800 ∧ t.limit.trimBound = 800 := by decide +kernel

theorem test_meets_TrimRisesAndRecovers_times :
    hasRun (recompute (drawing.modLimit fun l => { l with trim := 800, recovery := some 2000 })).limit.recovery 2000
      ∧ ¬hasRun (some 1999) 2000 := ⟨⟨2000, by decide +kernel, by decide⟩, not_hasRun (by decide)⟩

theorem test_meets_PacingEventsMoveOneItem :
    let s := on.modLink fun l =>
      { l with reception := some { bytes := [1], gap := 2 }, upstream := [.relayUp 0 0 0x12 []], uhold := true }
    let t := s.modLink fun l => { l with uplink := some (.relayUp 1 0 0x12 []), uhold := false }
    s.inReset = false ∧ s.link.reception = some { bytes := [1], gap := 2 } ∧ s.link.uplink = none
      ∧ s.link.upstream = .relayUp 0 0 0x12 [] :: [] ∧ t.link.uplink = some (.relayUp 1 0 0x12 [])
      ∧ t.link.uhold = false ∧ t.link.upstream = .relayUp 0 0 0x12 [] :: [] := by decide +kernel

theorem test_meets_PacingEventsMoveOneItem_times :
    hasRun ((drawing.modDrawMonitor 1 fun d => { d with descent := some 500 }).drawMonitor.get 1).descent 500
      ∧ ¬hasRun (some 499) 500 := ⟨⟨500, rfl, by decide⟩, not_hasRun (by decide)⟩

theorem test_meets_LinkFramesAreStoredOrDropped :
    let f := command 0x11 (List.replicate 30 0xFF)
    let full := on.modLink fun l => { l with receive := List.replicate 4 f }
    on.inReset = false ∧ on.link.reception = none ∧ f.payload.length = 32 ∧ f.kind = 0x01
      ∧ on.link.receive.length < 4 ∧ 4 ≤ full.link.receive.length ∧ full.link.reception = none
      ∧ (33 : Byte).toNat > 32 ∧ (0x7E : Byte) ∉ ([0x7D, 0x7F] : List Byte) := by decide +kernel

/-- A COMMAND at the head, with room for its reply. -/
theorem test_meets_headFrame (s : State) (f : LinkFrame) (h : s.inReset = false) (r : s.link.upstream.length < 16) :
    (State.with s f).headFrame f [] := ⟨h, rfl, r⟩

theorem test_meets_asked (s : State) (code : Byte) (args : List Byte) (port branch : Byte) (h : s.inReset = false)
    (r : s.link.upstream.length < 16) :
    (State.with s (command code args port branch)).asked (command code args port branch) [] code args :=
  ⟨⟨h, rfl, r⟩, 0x2A, rfl, rfl⟩

theorem test_meets_TakenFramesAreAnsweredOnce :
    (State.with on (command 0x02 [])).headFrame (command 0x02 []) [] ∧ (command 0x02 []).kind = 0x01
      ∧ (command 0x02 []).isRestart = false
      ∧ exec .identify (State.with on (command 0x01 [])) = .next (after .identify (State.with on (command 0x01 []))) :=
  ⟨test_meets_headFrame on _ rfl (by decide), rfl, by decide +kernel, rfl⟩

theorem test_meets_TakenFramesAreAnsweredOnce_refused :
    ((State.with on (command 0x0A [])).headFrame (command 0x0A []) [] ∧ (∀ c ∈ commandCodes, (command 0x0A []).code ≠ some c))
      ∧ ((command 0x02 [0]).code = some 0x02 ∧ (command 0x02 [0]).payload.length ≠ requiredLength 0x02)
      ∧ ((command 0x02 [] 4).payload.length = requiredLength 0x02 ∧ 0x02 ∈ portCommands
        ∧ 4 ≤ (command 0x02 [] 4).port.toNat)
      ∧ ((relayDown 0x12 (List.replicate 29 0)).payload.length = 31)
      ∧ (let f := { relayDown 0x12 [] with port := 4 }
        2 ≤ f.payload.length ∧ f.payload.length ≤ 30 ∧ 4 ≤ f.port.toNat) :=
  ⟨⟨test_meets_headFrame on _ rfl (by decide), by decide +kernel⟩, by decide +kernel, by decide +kernel,
    by decide +kernel, by decide +kernel⟩

theorem test_meets_ReadsAnswerSnapshots :
    (State.with dock (command 0x05 [] 1 6)).asked (command 0x05 [] 1 6) [] 0x05 []
      ∧ (command 0x05 [] 1 6).names 1 ∧ (command 0x05 [] 1 6).branch.toNat ≤ 6 ∧ dock.hasRecord 1 6 = false
      ∧ dock.hasRecord 1 0 = true ∧ (claiming.book.get 1).points[0]? = some fiveVolt
      ∧ (claiming.book.get 1).points.length < 2 ∧ supplying.grantsByOrder[0]?.isSome = true
      ∧ supplying.grantsByOrder.length ≤ 1 ∧ (waiting 1).supply.waitList[0]?.isSome = true
      ∧ on.policy.pendingOpen = false ∧ opened.policy.pendingOpen = true :=
  ⟨test_meets_asked dock _ _ _ _ rfl (by decide), rfl, by decide +kernel, by decide +kernel, by decide +kernel,
    by decide +kernel, by decide +kernel, by decide +kernel, by decide +kernel, by decide +kernel, rfl, rfl⟩

theorem test_meets_OpenPolicyCopiesTheActiveImage :
    (State.with on (command 0x10 [])).asked (command 0x10 []) [] 0x10 [] ∧ on.imageValid
      ∧ (State.with opened (command 0x16 [])).asked (command 0x16 []) [] 0x16 []
      ∧ (after .openPolicy (State.with on (command 0x10 []))).policy = opened.policy :=
  ⟨test_meets_asked on _ _ _ _ rfl (by decide), by unfold State.imageValid; decide +kernel,
    test_meets_asked opened _ _ _ _ rfl (by decide), by decide +kernel⟩

/-- The rule of `ruleBytes`, and a rating entry whose fields stand at the top of their bits. -/
def storedRule : Rule :=
  { minVoltage := 5000, maxVoltage := 25550, minCurrent := 10230, shared := .invalid, action := .invalid3, weight := 15,
    cap := 10230, derate := 127, settle := 1270, next := 63 }

def storedRating : Rating :=
  { used := true, minResistance := 262143, maxResistance := 262143, voltage := 25550, current := 10230 }

theorem test_meets_RecordsAndRepliesAreLaidOut : storedRule.storable = true ∧ storedRating.storable = true := by decide

/-- An image that passes, and one whose first fault is parameter 5 before rule 0. -/
theorem test_meets_ValidationFindsTheFirstFault :
    let i := fallbackImage false
    let j := { i with params := i.params.set 5 8950, rules := i.rules.set 0 { fallbackRule0 with derate := 51 } }
    validate i = none ∧ validate j = some { part := .params, index := 5, detail := 2 } := by decide +kernel

theorem test_meets_WritesPutTheirRecordInPending :
    (on.policy.pendingOpen = false
        ∧ (State.with on (command 0x12 [0, 0, 0])).asked (command 0x12 [0, 0, 0]) [] 0x12 [0, 0, 0])
      ∧ opened.policy.pendingOpen = true
      ∧ (State.with opened (command 0x11 (47 :: bytesOfRule storedRule))).asked
          (command 0x11 (47 :: bytesOfRule storedRule)) [] 0x11 (47 :: bytesOfRule storedRule)
      ∧ (State.with opened (command 0x13 (12 :: bytesOfRating storedRating))).asked
          (command 0x13 (12 :: bytesOfRating storedRating)) [] 0x13 (12 :: bytesOfRating storedRating)
      ∧ (47 : Byte).toNat < 48 ∧ 11 < (12 : Byte).toNat ∧ (14 : Byte).toNat < 15 :=
  ⟨⟨rfl, test_meets_asked on _ _ _ _ rfl (by decide)⟩, rfl, test_meets_asked opened _ _ _ _ rfl (by decide),
    test_meets_asked opened _ _ _ _ rfl (by decide), by decide, by decide, by decide⟩

theorem test_meets_ApplyInstallsAValidImage :
    (State.with on (command 0x16 [])).asked (command 0x16 []) [] 0x16 [] ∧ on.policy.pendingOpen = false
      ∧ opened.policy.pendingOpen = true ∧ validate opened.policy.pendingBank = none
      ∧ validate ({ opened.policy.pendingBank with legacyHead := 62 } : PolicyImage)
          = some { part := .head, index := 2, detail := 11 } :=
  ⟨test_meets_asked on _ _ _ _ rfl (by decide), rfl, rfl, by decide +kernel, by decide +kernel⟩

theorem test_meets_PlatformAndBarCommandsTakeTheirValues :
    let a := fourBytes (100000#32).toNat ++ twoBytes (60000#16).toNat ++ [(1 : Byte), 255]
    (State.with supplier (command 0x20 a)).asked (command 0x20 a) [] 0x20 a
      ∧ ((100000#32).toNat ≤ 100000 ∧ (60000#16).toNat ≤ 60000 ∧ (1 : Byte).toNat ≤ 1 ∧ (255 : Byte).toNat ≠ 0)
      ∧ (100000#32).toNat ≠ supplier.supervisor.demand ∧ supplier.supervisor.autonomous = false
      ∧ (State.with supplier (command 0x21 [1] 1)).asked (command 0x21 [1] 1) [] 0x21 [1]
      ∧ (command 0x21 [1] 1).names 1 ∧ (supplier.monitor.get 1).barred = false ∧ supplier.attached 1 = true :=
  ⟨test_meets_asked supplier _ _ _ _ rfl (by decide), by decide, by decide, rfl,
    test_meets_asked supplier _ _ _ _ rfl (by decide), rfl, rfl, rfl⟩

theorem test_meets_LinkCommandsActOnWhatTheyName :
    (State.with on (command 0x09 [3])).asked (command 0x09 [3]) [] 0x09 [3]
      ∧ (State.with on (command 0x22 [0x2F, 2])).asked (command 0x22 [0x2F, 2]) [] 0x22 [0x2F, 2]
      ∧ (State.with on (command 0x23 [] 3)).asked (command 0x23 [] 3) [] 0x23 [] ∧ (command 0x23 [] 3).names 3
      ∧ (on.framer.get 3).capture = none ∧ (∀ g ∈ noticeOrder, on.link.notices.get g = none)
      ∧ noticeOrder = .silence :: noticeOrder.tail
      ∧ (after .silenceTimerExpiry (silent on)).link.notices.get .silence
          = some { code := 0x01, snapshot := 2000, ms := 0, posts := 1 } :=
  ⟨test_meets_asked on _ _ _ _ rfl (by decide), test_meets_asked on _ _ _ _ rfl (by decide),
    test_meets_asked on _ _ _ _ rfl (by decide), rfl, rfl, by decide +kernel, rfl, by decide +kernel⟩

theorem test_meets_RelayDownQueuesOneFrame :
    let f := relayDown 0x3F (List.replicate 28 0)
    (State.with supplier f).headFrame f [] ∧ f.kind = 0x02 ∧ f.names 1 ∧ (0x3F : Byte).toNat < 64
      ∧ (supplier.monitor.get 1).state = .talking ∧ (probing.monitor.get 1).state ≠ .talking
      ∧ dock.branchCount 1 < 5 ∧ (supplier.framer.get 1).relay.length < 2 ∧ supplier.lineQuiet 1 :=
  ⟨test_meets_headFrame supplier _ rfl (by decide), rfl, rfl, by decide, rfl, by decide, by decide, by decide,
    by unfold State.lineQuiet State.lineIdle; decide +kernel⟩

theorem test_meets_RestartAndSilenceReachTheirBlocks :
    let full := State.with (on.modLink fun l => { l with upstream := List.replicate 16 (.relayUp 0 0 0x12 []) })
      (command 0x3F [])
    (full.inReset = false ∧ full.link.receive = command 0x3F [] :: [] ∧ (command 0x3F []).isCommand 0x2A 0x3F [])
      ∧ hasRun (silent on).supervisor.silenceTimer on.supervisor.silencePeriod ∧ on.link.notices.silence = none
      ∧ (after .silenceTimerExpiry (silent on)).link.notices.silence ≠ none ∧ ¬hasRun (some 1999) 2000 :=
  ⟨⟨rfl, rfl, rfl, rfl⟩, ⟨2000, rfl, by decide⟩, rfl, by decide +kernel, not_hasRun (by decide)⟩

theorem test_meets_SharedSettingsHaveTheirOwnCommands :
    exec .takeDemand offering = .next (after .takeDemand offering) ∧ Instr.takeDemand ≠ .powerOnReset
      ∧ ∀ a b d, Instr.takeDemand ≠ .resetEnd a b d := ⟨rfl, by decide, fun _ _ _ h => by cases h⟩

/-- The state after reset meets the conditions, and a step of it answers a next state. -/
theorem test_meets_StepsKeepImagePortsSilenceAndQueues :
    (State.reset.imageValid ∧ State.reset.silenceTimed ∧ State.reset.queuesBounded ∧ drawing.suspendedHeld)
      ∧ step State.reset = .next State.reset := by
  refine ⟨?_, rfl⟩; unfold State.imageValid State.silenceTimed State.queuesBounded State.suspendedHeld; decide +kernel

theorem test_meets_StepsKeepImagePortsSilenceAndQueues_running :
    on.unpopulatedEmpty ∧ onePort.unpopulatedEmpty := by
  unfold State.unpopulatedEmpty State.heldInReset; decide +kernel

/-- A drawing port with a ceiling and a trim in force. -/
theorem test_meets_StepsKeepTheLimitFormed :
    let s := recompute (drawing.modLimit fun l => { l with trim := 300, recovery := some 0, ceiling := some 250 })
    s.limitFormed := by
  refine ⟨?_, ?_⟩
  · intro h; exact absurd h (by decide +kernel)
  · decide +kernel

theorem test_meets_StepsKeepTheSwitchesApart :
    supplying.suppliesGranted ∧ drawing.switchesApart ∧ drawing.suppliesGranted := by
  refine ⟨⟨?_, ?_, ?_⟩, ⟨?_, ?_, ?_⟩, ?_, ?_, ?_⟩
  · intro h; exact absurd h (by decide +kernel)
  · unfold State.recordsStand; decide +kernel
  · decide +kernel
  · intro h; exact absurd h (by decide +kernel)
  · decide +kernel
  · intro t h; exact absurd h (by rw [show drawing.sequencer.transition = none from rfl]; exact fun k => by cases k)
  · intro h; exact absurd h (by decide +kernel)
  · unfold State.recordsStand; decide +kernel
  · decide +kernel

/-- A line with nothing to send, and one whose engine list holds a RELEASE, the queued claim and a CUT. -/
def queuedLine : Framer :=
  { Framer.reset with
    exchange := some (exchange claimFrame .queued 0), engine := [.release, .exchange claimFrame, .cut 2] }

theorem resting_line_formed : Framer.reset.lineFormed := by
  refine ⟨by decide, by decide, by decide, by decide, fun b => ⟨by simp [Framer.reset], by simp [Framer.reset]⟩, ?_, ?_, ?_⟩
  all_goals simp [Framer.reset, Framer.sendingExchange]

theorem queued_line_formed : queuedLine.lineFormed := by
  refine ⟨by decide, by decide, by decide, by decide, fun b => ?_, fun k hk => ?_, ?_, ?_⟩
  · constructor
    · simp only [queuedLine, EngineFrame.suppliesBranch, List.filter]; split <;> decide
    · simp only [queuedLine, EngineFrame.suppliesBranch, List.any, Bool.false_or, Bool.or_false, beq_iff_eq]; omega
  · have hk : k = claimFrame := by simpa [queuedLine] using hk
    exact ⟨rfl, _, rfl, hk.symm, rfl, rfl⟩
  · intro h; exact absurd h (by decide)
  · intro e h; cases h; exact ⟨fun _ => .inl (by decide), fun h => absurd h (by decide)⟩

/-- Port 2's measurement in conversion with REFHI queued behind it. -/
def metering : State :=
  (converting (.id 2) (on.modPortMeasure 2 fun r => { r with phase := .converting })).modMeter fun m =>
    { m with queue := [.refHi] }

theorem test_meets_StepsKeepTheLinesAndTheMeterFormed :
    supplying.linesFormed ∧ (supplying.modFramer 1 fun _ => queuedLine).linesFormed ∧ metering.meterFormed := by
  refine ⟨fun p => ?_, fun p => ?_, by decide, fun c h => ?_, by decide⟩
  · match p with
    | 0 | 1 | 2 | 3 => exact resting_line_formed
  · match p with
    | 0 | 2 | 3 => exact resting_line_formed
    | 1 => exact queued_line_formed
  · cases h; decide

/-- R14, R153: the record's grant field holds no requested current. -/
theorem test_read_partner_returns_the_grant_field :
    replyOf .readPartner (command 0x05 [] 1 2) supplying
      = some (.data (.partner 1 2 none (some { current := 900, order := 1 }))) := by decide +kernel

/-- 900 mA of 7,500 mW and of the 1,500 mA of a port, under order number 1. -/
theorem test_meets_StepsKeepTheBudget :
    let s := supplying.modSupply fun u => { u with orderCounter := 1 }
    s.budgetKept ∧ s.queuesBounded ∧ s.imageValid ∧ s.suppliesGranted := by
  refine ⟨?_, ?_, ?_, ?_, ?_, ?_⟩
  · unfold State.budgetKept currentOf; decide +kernel
  · unfold State.queuesBounded; decide +kernel
  · unfold State.imageValid; decide +kernel
  · intro h; exact absurd h (by decide +kernel)
  · unfold State.recordsStand; decide +kernel
  · decide +kernel

/-- Port 1 draws at 9,000 mV while port 2's claim at that voltage settles. -/
theorem test_meets_StepsKeepTheDrawsInAgreement : drawing.drawsAgree := by
  refine ⟨fun h => absurd h (by decide), by decide, fun p q ne hp hq => ?_, fun p => ?_, fun tr h => ?_⟩
  · exact absurd (hp.symm.trans rfl) (by revert p q; decide)
  · revert p; decide
  · cases h

end Sys2Proof.Tests
end

section
/-! PROOFS. An OFFER that is taken (03; R12, R45, R46, R48): what the transmitter and the raising of a demand leave
alone, what a taken frame runs, and what the replaced book, the monitor and the demands then hold. -/

namespace Sys2Proof.Machine

open Sys2Proof

/-! ### The raising of a demand (R114) -/

@[simp] theorem raiseDemand_book (c : DemandClass) (p : Port) (s : State) : (raiseDemand c p s).book = s.book := rfl

@[simp] theorem raiseDemand_monitor (c : DemandClass) (p : Port) (s : State) :
    (raiseDemand c p s).monitor = s.monitor := rfl

@[simp] theorem raiseDemand_framer (c : DemandClass) (p : Port) (s : State) :
    (raiseDemand c p s).framer = s.framer := rfl

@[simp] theorem raiseDemand_demands_same (c : DemandClass) (p : Port) (s : State) :
    (raiseDemand c p s).sequencer.demands.get p = (s.sequencer.demands.get p).add c := by
  simp [raiseDemand, State.modSequencer]

/-! ### The transmitter's look (R34) -/

@[simp] theorem transmit_book (p : Port) (s : State) : (transmit p s).book = s.book := by
  unfold transmit; split <;> rfl

@[simp] theorem transmit_sequencer (p : Port) (s : State) : (transmit p s).sequencer = s.sequencer := by
  unfold transmit; split <;> rfl

@[simp] theorem transmit_framer_same (p : Port) (s : State) : (transmit p s).framer.get p = (s.framer.get p).look := by
  unfold transmit; split <;> simp

@[simp] theorem look_exchange (f : Framer) : f.look.exchange = f.exchange := by
  obtain ⟨-, -, -, hexchange, -⟩ := look_keeps f
  exact hexchange

/-- Only in PROBING does a look reach the port's monitor: there a PROBE sent restarts the probe timer (R5). -/
theorem transmit_monitor_of_not_probing {p : Port} {s : State} (h : (s.monitor.get p).state ≠ .probing) :
    (transmit p s).monitor.get p = s.monitor.get p := by
  unfold transmit; split <;> simp [h]

/-! ### A frame that is taken (R19, R22, R34) -/

theorem State.takes.arrives {s : State} {p : Port} {kind : BitVec 6} {f : RawFrame} (h : s.takes p kind f) :
    s.arrives p kind f := by
  obtain ⟨hrun, hstate, hhears, hgood, -⟩ := h
  exact ⟨hrun, by simp [State.attached, hstate, Attach.attached], hhears, hgood⟩

/-- A good frame that is heard is counted and taken, and then the transmitter looks. -/
theorem receiveFrame_of_arrives {s : State} {p : Port} {kind : BitVec 6} {f : RawFrame} (h : s.arrives p kind f)
    (take : State → State) :
    receiveFrame p kind f take s = transmit p (take (countGood p (lineCleared p s))) := by
  obtain ⟨-, hattached, ⟨hend, hidle, hheard⟩, hgood⟩ := h
  have hreceived : (s.framer.get p).losesFrame = false := by simp [Framer.losesFrame, hidle, hheard]
  simp [receiveFrame, hend, hattached, hreceived, hgood]

/-- A frame that passes tests 1 to 4 of R22 goes on to its routing. -/
theorem takeTalking_of_passes {s : State} {p : Port} {kind : BitVec 6} {f : RawFrame}
    (hstate : (s.monitor.get p).state = .talking) (hseven : f.branch ≠ 7)
    (hbranch : f.branch.toNat ≤ s.branchCount p) (hlength : lengthWrong kind f = false) (route : State → State) :
    takeTalking p kind f route s = route s := by
  rw [takeTalking, if_neg (not_not_intro hstate), if_neg hseven, if_neg (Nat.not_lt.mpr hbranch),
    if_neg (Bool.eq_false_iff.mp hlength)]

/-- The end of a good frame and its counting reach nothing outside the framer (R20, R34). -/
theorem counted_changes (p : Port) (s : State) : ChangesOnly [.framer p] s (countGood p (lineCleared p s)) :=
  (lineCleared_changes p s).trans (countGood_changes p _)

/-- Counting a good frame reaches neither the port's monitor nor its record, so the tests of R22 that held when the
frame arrived hold when it is taken. -/
theorem receiveFrame_of_takes {s : State} {p : Port} {kind : BitVec 6} {f : RawFrame} (h : s.takes p kind f)
    (route : State → State) :
    receiveFrame p kind f (takeTalking p kind f route) s = transmit p (route (countGood p (lineCleared p s))) := by
  obtain ⟨-, hstate, -, -, hseven, hbranch, hlength⟩ := id h
  have hpasses : takeTalking p kind f route (countGood p (lineCleared p s)) = route (countGood p (lineCleared p s)) :=
    takeTalking_of_passes (s := countGood p (lineCleared p s)) hstate hseven hbranch hlength route
  rw [receiveFrame_of_arrives h.arrives, hpasses]

/-! ### The replaced book (R12, R45, R46, R48) -/

theorem replaceBook_book (p : Port) (q : List OfferPoint) (s : State) :
    (replaceBook p q s).book.get p
      = { source := .talk, generation := (s.book.get p).generation + 1, points := q, ratingEntry := none,
          stamp := s.msCount, firstBook := if q = [] then (s.book.get p).firstBook else false } := by
  cases q <;> simp [replaceBook, raiseBookDemand, offerAccepted]

theorem replaceBook_monitor (p : Port) (q : List OfferPoint) (s : State) :
    (replaceBook p q s).monitor.get p = { s.monitor.get p with failures := 0, coolOff := none } := by
  cases q <;> simp [replaceBook, raiseBookDemand, offerAccepted]

theorem replaceBook_framer (p : Port) (q : List OfferPoint) (s : State) :
    (replaceBook p q s).framer = s.framer := by
  cases q <;> rfl

/-- ATTACH for a first book with a point, REVISE for an empty offer and for every later book (R46, R48). -/
theorem replaceBook_demands (p : Port) (q : List OfferPoint) (s : State) :
    (replaceBook p q s).sequencer.demands.get p
      = (s.sequencer.demands.get p).add
          (if q ≠ [] ∧ (s.book.get p).firstBook = true then .attach else .revise) := by
  cases q <;> simp [replaceBook, raiseBookDemand, offerAccepted]

/-! ### OFFER (R42 to R46) -/

theorem takeOffer_of_points {s : State} {p : Port} {f : RawFrame} {points : List OfferPoint}
    (hsupplies : s.supplies p = true) (hpoints : readPoints f.payload = some points) :
    takeOffer p f s = replaceBook p (points.take 7) s := by
  simp [takeOffer, hsupplies, hpoints]

/-- An OFFER that is taken from branch 0 of a partner that supplies replaces the book between the counting of the frame
and the transmitter's look. -/
theorem exec_offer_of_takes {s : State} {p : Port} {f : RawFrame} {points : List OfferPoint}
    (htakes : s.takes p kindOffer f) (hbranch : f.branch = 0) (hsupplies : s.supplies p = true)
    (hpoints : readPoints f.payload = some points) :
    exec (.offer p f) s
      = .next (transmit p (replaceBook p (points.take 7) (countGood p (lineCleared p s)))) := by
  obtain ⟨hrun, -⟩ := id htakes
  have hoffer : takeOffer p f (countGood p (lineCleared p s))
      = replaceBook p (points.take 7) (countGood p (lineCleared p s)) := takeOffer_of_points hsupplies hpoints
  calc exec (.offer p f) s
      = execOffer p f s := rfl
    _ = .next (transmit p (takeOffer p f (countGood p (lineCleared p s)))) := by
        rw [execOffer, running_free _ hrun, receiveFrame_of_takes htakes, if_pos hbranch]
    _ = .next (transmit p (replaceBook p (points.take 7) (countGood p (lineCleared p s)))) := by rw [hoffer]

/-- Settles O14: the frame is counted, the book replaced and the line looked at, in that order; only the replacement
reaches the book, the demands and, the port being TALKING, the monitor. -/
theorem offerReplacesTheBook : Obligations.OfferReplacesTheBook := by
  intro s p f points htakes hbranch hsupplies hpoints
  obtain ⟨-, hstate, -⟩ := id htakes
  have hcounted := counted_changes p s
  have hbook : (countGood p (lineCleared p s)).book.get p = s.book.get p := hcounted (.book p) (by simp)
  refine ⟨_, exec_offer_of_takes htakes hbranch hsupplies hpoints, ?book, ?monitor, ?demands, ?exchange, ?frame⟩
  case book =>
    have hclock : (countGood p (lineCleared p s)).msCount = s.msCount := hcounted .clock (by simp)
    simp [replaceBook_book, hbook, hclock]
  case monitor =>
    have hmonitor : (countGood p (lineCleared p s)).monitor.get p = s.monitor.get p := hcounted (.monitor p) (by simp)
    have hreplaced := hmonitor ▸ replaceBook_monitor p (points.take 7) (countGood p (lineCleared p s))
    rw [transmit_monitor_of_not_probing (by simp [hreplaced, hstate]), hreplaced]
  case demands =>
    have hdemands : (countGood p (lineCleared p s)).sequencer.demands.get p = s.sequencer.demands.get p :=
      hcounted (.demands p) (by simp)
    rw [transmit_sequencer, replaceBook_demands, hbook, hdemands]
    by_cases hattach : points ≠ [] ∧ (s.book.get p).firstBook = true
    · simp [hattach, DemandSet.add]
    · simp [hattach, DemandSet.add]
  case exchange => simp [replaceBook_framer, countGood, lineCleared]
  case frame =>
    have hreplaced := replaceBook_changes p (points.take 7) (countGood p (lineCleared p s))
    exact ((hcounted.mono (by simp)).trans (hreplaced.mono (by simp [bookParts]))).trans
      ((transmit_changes p _).mono (by simp [placeParts]))

end Sys2Proof.Machine
end

section
/-! PROOFS. The resistance of a port's period (04; R62, R64, R66 to R68; R9, R48 to R50): the rounded quotient, what the
end of a port conversion leaves of the meter, how a measurement ends, and what its result does at the port's monitor and
book. -/

namespace Sys2Proof.Machine

open Sys2Proof

/-! ### The rounded quotient (R64) -/

/-- The quotient is rounded by magnitude: down where the remainder is less than half the divisor, up otherwise; the sign
is the dividend's. -/
theorem roundedQuotient_magnitude (n : Int) {d : Int} (hd : 0 < d) :
    ∃ m : Nat, roundedQuotient n d = (if n < 0 then -(m : Int) else m)
      ∧ ((m * d.natAbs ≤ n.natAbs ∧ 2 * (n.natAbs - m * d.natAbs) < d.natAbs)
        ∨ (n.natAbs ≤ m * d.natAbs ∧ 2 * (m * d.natAbs - n.natAbs) ≤ d.natAbs)) := by
  have hdivision := Nat.div_add_mod' n.natAbs d.natAbs
  have hremainder : n.natAbs % d.natAbs < d.natAbs := Nat.mod_lt _ (by omega)
  refine ⟨_, rfl, ?_⟩
  split
  · right
    rw [Nat.add_one_mul]
    omega
  · left
    omega

/-- No whole number lies nearer to the exact quotient, and an exact half is rounded away from zero (R64). -/
theorem roundedQuotient_nearest (n : Int) {d : Int} (hd : 0 < d) :
    2 * |n - roundedQuotient n d * d| ≤ d
      ∧ (2 * |n - roundedQuotient n d * d| = d → |n| ≤ |roundedQuotient n d * d|) := by
  obtain ⟨m, hq, hm⟩ := roundedQuotient_magnitude n hd
  have hproduct : ((m * d.natAbs : Nat) : Int) = m * d := by
    rw [Nat.cast_mul, Int.natAbs_of_nonneg hd.le]
  rw [hq]
  simp only [Int.abs_eq_natAbs]
  split
  · rw [neg_mul, ← hproduct]
    omega
  · rw [← hproduct]
    omega

theorem resolvedResistance_eq (tx tlo thi low high : Nat) :
    (resolvedResistance tx tlo thi low high : Int)
      = min (max ((low : Int) + roundedQuotient (((tx : Int) - tlo) * ((high : Int) - low)) ((thi : Int) - tlo)) 0)
          250000 :=
  Int.toNat_of_nonneg (le_min (le_max_right _ _) (by norm_num))

/-! ### The first entry that contains a resistance (R67) -/

/-- The test of R67 on one rating entry. -/
def Rating.contains (r : Rating) (resistance : Nat) : Prop :=
  r.used = true ∧ r.minResistance ≤ resistance ∧ resistance ≤ r.maxResistance

theorem matchRating_eq_none {i : PolicyImage} {resistance : Nat}
    (h : ∀ k : Fin 12, ¬i.ratings[k].contains resistance) : matchRating i resistance = none := by
  simp only [matchRating, List.find?_eq_none, List.mem_iff_getElem]
  rintro e ⟨k, hk, rfl⟩
  have hk : k < 12 := by simpa using hk
  simpa [Rating.contains] using h ⟨k, hk⟩

theorem matchRating_eq_some {i : PolicyImage} {resistance : Nat} {k : Fin 12}
    (hk : i.ratings[k].contains resistance) (hfirst : ∀ j < k, ¬i.ratings[j].contains resistance) :
    matchRating i resistance = some (k.val, i.ratings[k]) := by
  rw [matchRating, List.find?_eq_some_iff_getElem]
  refine ⟨by simpa [Rating.contains, and_assoc] using hk, k.val, by simp, by simp, fun j hj => ?_⟩
  simpa [Rating.contains, -not_and, Decidable.not_and_iff_or_not, or_assoc] using hfirst ⟨j, by omega⟩ hj

/-! ### The meter's queue and converter (R57, R58) -/

@[simp] theorem Meter.add_port (m : Meter) (c : Channel) : (m.add c).port = m.port := by
  unfold Meter.add; split <;> rfl

@[simp] theorem Meter.add_inFlight (m : Meter) (c : Channel) : (m.add c).inFlight = m.inFlight := by
  unfold Meter.add; split <;> rfl

@[simp] theorem Meter.add_refLo (m : Meter) (c : Channel) : (m.add c).refLo = m.refLo := by
  unfold Meter.add; split <;> rfl

@[simp] theorem Meter.add_refHi (m : Meter) (c : Channel) : (m.add c).refHi = m.refHi := by
  unfold Meter.add; split <;> rfl

theorem mem_insertChannel (c : Channel) (q : List Channel) : c ∈ insertChannel c q := by
  unfold insertChannel; split <;> simp

/-- With the converter free, an added channel is queued. -/
theorem Meter.mem_queue_add {m : Meter} (hfree : m.inFlight = none) (c : Channel) : c ∈ (m.add c).queue := by
  unfold Meter.add
  split
  · next h => simpa [Meter.inFlightChannel, hfree] using h
  · exact mem_insertChannel c m.queue

/-- The converter changes of a port's record nothing but the phase (R61). -/
theorem takeChannel_measure (p : Port) (s : State) :
    ∃ phase, (takeChannel s).meter.port.get p = { s.meter.port.get p with phase := phase } := by
  change ∃ phase, s.meter.take.port.get p = { s.meter.port.get p with phase := phase }
  unfold Meter.take
  split
  · next c rest _ _ =>
    rcases c with q | _ | _
    · by_cases hport : p = q
      · exact ⟨.converting, by simp [hport]⟩
      · exact ⟨(s.meter.port.get p).phase, by simp [hport]⟩
    · exact ⟨_, rfl⟩
    · exact ⟨_, rfl⟩
  · exact ⟨_, rfl⟩

/-- A queued channel either waits on or is the one the free converter takes (R58). -/
theorem takeChannel_of_queued {p : Port} {s : State} (hfree : s.meter.inFlight = none) (hqueue : .id p ∈ s.meter.queue)
    (hphase : (s.meter.port.get p).phase = .queued) :
    (.id p ∈ (takeChannel s).meter.queue ∧ ((takeChannel s).meter.port.get p).phase = .queued)
      ∨ ((takeChannel s).meter.inFlightChannel = some (.id p)
        ∧ ((takeChannel s).meter.port.get p).phase = .converting) := by
  obtain ⟨c, rest, hlist⟩ := List.exists_cons_of_ne_nil (List.ne_nil_of_mem hqueue)
  by_cases hhead : c = .id p
  · right
    simp [takeChannel, Meter.take, Meter.inFlightChannel, hfree, hlist, hhead]
  · left
    have hrest : .id p ∈ rest := by simpa [hlist, Ne.symm hhead] using hqueue
    rcases c with q | _ | _
    · have hport : p ≠ q := fun h => hhead (h ▸ rfl)
      simp [takeChannel, Meter.take, hfree, hlist, hrest, hphase, hport]
    · simp [takeChannel, Meter.take, hfree, hlist, hrest, hphase]
    · simp [takeChannel, Meter.take, hfree, hlist, hrest, hphase]

/-! ### A port's record after a change of it -/

@[simp] theorem modPortMeasure_measure (s : State) (p : Port) (f : PortMeasure → PortMeasure) :
    (s.modPortMeasure p f).meter.port.get p = f (s.meter.port.get p) := by simp [State.modPortMeasure]

@[simp] theorem modPortMeasure_inFlight (s : State) (p : Port) (f : PortMeasure → PortMeasure) :
    (s.modPortMeasure p f).meter.inFlight = s.meter.inFlight := rfl

@[simp] theorem queuePair_port (s : State) : (queuePair s).meter.port = s.meter.port := by simp [queuePair]

/-! ### The state in which a completed conversion is resolved (R62) -/

/-- The converter is free, the conversion of port `p` is counted and its period recorded. -/
def periodTaken (p : Port) (n : Nat) (s : State) : State :=
  (countConversion p (s.modMeter fun m => { m with inFlight := none })).modPortMeasure p
    fun r => { r with lastPeriod := some n }

/-- Taking a period reaches the meter alone. -/
theorem periodTaken_eq_modMeter (p : Port) (n : Nat) (s : State) : ∃ f, periodTaken p n s = s.modMeter f := by
  refine ⟨fun _ => (periodTaken p n s).meter, ?_⟩
  unfold periodTaken countConversion
  dsimp only
  split <;> rfl

@[simp] theorem periodTaken_policy (p : Port) (n : Nat) (s : State) : (periodTaken p n s).policy = s.policy := by
  obtain ⟨f, hf⟩ := periodTaken_eq_modMeter p n s
  rw [hf, State.modMeter_policy]

@[simp] theorem periodTaken_rail (p : Port) (n : Nat) (s : State) : (periodTaken p n s).rail = s.rail := by
  obtain ⟨f, hf⟩ := periodTaken_eq_modMeter p n s
  rw [hf, State.modMeter_rail]

@[simp] theorem countConversion_measure (p : Port) (s : State) :
    (countConversion p s).meter.port.get p
      = { s.meter.port.get p with attempts := (s.meter.port.get p).attempts + 1 } := by
  unfold countConversion
  dsimp only
  split <;> simp

theorem countConversion_converter (p : Port) (s : State) :
    (countConversion p s).meter.inFlight = s.meter.inFlight ∧ (countConversion p s).meter.refLo = s.meter.refLo
      ∧ (countConversion p s).meter.refHi = s.meter.refHi := by
  unfold countConversion
  dsimp only
  split <;> simp [queuePair, State.modPortMeasure]

@[simp] theorem periodTaken_measure (p : Port) (n : Nat) (s : State) :
    (periodTaken p n s).meter.port.get p
      = { s.meter.port.get p with
          attempts := (s.meter.port.get p).attempts + 1, lastPeriod := some n } := by
  simp [periodTaken]

@[simp] theorem periodTaken_inFlight (p : Port) (n : Nat) (s : State) :
    (periodTaken p n s).meter.inFlight = none := by
  simp [periodTaken, countConversion_converter]

theorem periodTaken_references (p : Port) (n : Nat) (s : State) :
    (periodTaken p n s).meter.refLo = s.meter.refLo ∧ (periodTaken p n s).meter.refHi = s.meter.refHi := by
  simp [periodTaken, State.modPortMeasure, countConversion_converter]

/-! ### The end of a port conversion (R56, R62) -/

theorem exec_portConversionEnd {s : State} {p : Port} {period : BitVec 16} (hrun : s.inReset = false)
    (hflight : s.meter.inFlightChannel = some (.id p)) (hperiod : period.toNat < 65535) :
    exec (.portConversionEnd period) s = .next (portCompleted p (outcomeAt period.toNat) s) := by
  calc exec (.portConversionEnd period) s
      = execPortConversionEnd period s := rfl
    _ = .next (portCompleted p (outcomeAt period.toNat) s) := by
        simp [execPortConversionEnd, running_free _ hrun, hflight, endAtEdge, hperiod, endConversion]

theorem portCompleted_short (p : Port) (n : Nat) (s : State) :
    portCompleted p (.short n) s = takeChannel (endUnrated p .short none (periodTaken p n s)) := rfl

theorem portCompleted_valid (p : Port) (n : Nat) (s : State) :
    portCompleted p (.valid n) s
      = takeChannel (if (periodTaken p n s).meter.referencesValid then resolve p n (periodTaken p n s)
          else holdConversion p n (periodTaken p n s)) := rfl

theorem resolve_of_close {p : Port} {n : Nat} {s : State}
    (h : s.meter.refHi.period.getD 0 < s.meter.refLo.period.getD 0 + 64) : resolve p n s = referenceFault p s :=
  if_pos h

theorem resolve_of_apart {p : Port} {n : Nat} {s : State}
    (h : s.meter.refLo.period.getD 0 + 64 ≤ s.meter.refHi.period.getD 0) :
    resolve p n s
      = acceptResistance p
          (resolvedResistance n (s.meter.refLo.period.getD 0) (s.meter.refHi.period.getD 0)
            s.policy.active.lowReference s.policy.active.highReference) s :=
  if_neg (Nat.not_lt.mpr h)

/-- Between valid references at least 64 µs apart a valid period goes on to acceptance. -/
theorem portCompleted_accepts {p : Port} {n : Nat} {s : State} (hlo : s.meter.refLo.status = .valid)
    (hhi : s.meter.refHi.status = .valid)
    (hapart : s.meter.refLo.period.getD 0 + 64 ≤ s.meter.refHi.period.getD 0) :
    portCompleted p (.valid n) s
      = takeChannel (acceptResistance p
          (resolvedResistance n (s.meter.refLo.period.getD 0) (s.meter.refHi.period.getD 0)
            s.policy.active.params[11] s.policy.active.params[12]) (periodTaken p n s)) := by
  obtain ⟨hsameLo, hsameHi⟩ := periodTaken_references p n s
  have hvalid : (periodTaken p n s).meter.referencesValid = true := by
    simp [Meter.referencesValid, hsameLo, hsameHi, hlo, hhi]
  rw [portCompleted_valid, if_pos hvalid, resolve_of_apart (by rwa [hsameLo, hsameHi]), hsameLo, hsameHi,
    periodTaken_policy]
  rfl

/-! ### Notices of a result -/

@[simp] theorem raiseDemand_link (c : DemandClass) (p : Port) (s : State) : (raiseDemand c p s).link = s.link := rfl

theorem postPartner_notice_same (code : Byte) (p : Port) (s : State) :
    (postPartner code p s).link.notices.get (.partner p)
      = some (postTo (s.link.notices.get (.partner p)) code
          (snapshotOf (s.monitor.get p).state.code (s.classView p).code 0 0) s.msCount) := by
  simp [postPartner, post, NoticeSet.get_put]

@[simp] theorem postPartner_monitor (code : Byte) (p : Port) (s : State) :
    (postPartner code p s).monitor = s.monitor := rfl

@[simp] theorem postPartner_book (code : Byte) (p : Port) (s : State) : (postPartner code p s).book = s.book := rfl

@[simp] theorem postPartner_sequencer (code : Byte) (p : Port) (s : State) :
    (postPartner code p s).sequencer = s.sequencer := rfl

theorem postMeter_notice_same (code : Byte) (c : Channel) (s : State) :
    (postMeter code c s).link.notices.get .meter
      = some (postTo (s.link.notices.get .meter) code (snapshotOf c.code 0 0 0) s.msCount) := by
  simp [postMeter, post, NoticeSet.get_put]

/-! ### An unrated result at the Port Monitor (R9, R51) -/

theorem deliverUnrated_of_measuring {p : Port} {s : State} (h : (s.monitor.get p).state = .measuring) :
    deliverUnrated p s = postPartner noticeMute p (s.modMonitor p fun m => { m with state := .mute }) := by
  simp [deliverUnrated, h]

theorem deliverUnrated_of_legacy {p : Port} {s : State} (h : (s.monitor.get p).state = .legacy) :
    deliverUnrated p s
      = postPartner noticeMute p (emptyBook p (s.modMonitor p fun m => { m with state := .mute })) := by
  simp [deliverUnrated, h]

theorem deliverUnrated_of_other {p : Port} {s : State} (hmeasuring : (s.monitor.get p).state ≠ .measuring)
    (hlegacy : (s.monitor.get p).state ≠ .legacy) : deliverUnrated p s = s := by
  unfold deliverUnrated
  split
  · exact absurd ‹_› hmeasuring
  · exact absurd ‹_› hlegacy
  all_goals rfl

@[simp] theorem deliverUnrated_meter (p : Port) (s : State) : (deliverUnrated p s).meter = s.meter := by
  unfold deliverUnrated; split <;> rfl

theorem deliverUnrated_delivers (p : Port) (s : State) : unratedDelivered p s (deliverUnrated p s) := by
  by_cases hmeasuring : (s.monitor.get p).state = .measuring
  · rw [deliverUnrated_of_measuring hmeasuring]
    simp [unratedDelivered, hmeasuring, postPartner_notice_same, State.classView, Attach.code, ClassView.code]
  · by_cases hlegacy : (s.monitor.get p).state = .legacy
    · rw [deliverUnrated_of_legacy hlegacy]
      simp [unratedDelivered, hlegacy, postPartner_notice_same, State.classView, Attach.code, ClassView.code, emptyBook,
        raiseDemand, DemandSet.add]
    · rw [deliverUnrated_of_other hmeasuring hlegacy]
      simp [unratedDelivered, hmeasuring, hlegacy]

/-! ### A rated result at the Port Monitor (R9, R49, R50) -/

/-- The book that R49 fills for a rating entry at a millisecond count. -/
def Book.filled (b : Book) (entry : Nat) (r : Rating) (stamp : BitVec 32) (firstBook : Bool) : Book :=
  { b with
    source := .legacy, generation := b.generation + 1, points := [markPoint .fixed r.voltage r.voltage r.current false]
    ratingEntry := some entry, stamp := stamp, firstBook := firstBook }

/-- What R50 compares, as a proposition. -/
def Book.agreesWith (b : Book) (entry : Nat) (r : Rating) : Prop :=
  b.ratingEntry = some entry ∧ ∃ q rest, b.points = q :: rest ∧ q.minVoltage = r.voltage ∧ q.maxCurrent = r.current

theorem Book.agrees_iff (b : Book) (entry : Nat) (r : Rating) : b.agrees entry r = true ↔ b.agreesWith entry r := by
  rcases hpoints : b.points with _ | ⟨q, rest⟩ <;> simp [Book.agrees, Book.agreesWith, hpoints]

theorem fillLegacy_book (p : Port) (entry : Nat) (r : Rating) (s : State) :
    (fillLegacy p entry r s).book.get p = (s.book.get p).filled entry r s.msCount (s.book.get p).firstBook := by
  simp [fillLegacy, Book.filled]

@[simp] theorem fillLegacy_monitor (p : Port) (entry : Nat) (r : Rating) (s : State) :
    (fillLegacy p entry r s).monitor = s.monitor := rfl

@[simp] theorem fillLegacy_sequencer (p : Port) (entry : Nat) (r : Rating) (s : State) :
    (fillLegacy p entry r s).sequencer = s.sequencer := rfl

@[simp] theorem fillLegacy_link (p : Port) (entry : Nat) (r : Rating) (s : State) :
    (fillLegacy p entry r s).link = s.link := rfl

theorem buildLegacy_book (p : Port) (entry : Nat) (r : Rating) (s : State) :
    (buildLegacy p entry r s).book.get p = (s.book.get p).filled entry r s.msCount false := by
  simp [buildLegacy, raiseBookDemand, fillLegacy_book, Book.filled]

theorem buildLegacy_demands (p : Port) (entry : Nat) (r : Rating) (s : State) :
    (buildLegacy p entry r s).sequencer.demands.get p
      = (s.sequencer.demands.get p).add (if (s.book.get p).firstBook then .attach else .revise) := by
  simp [buildLegacy, raiseBookDemand, fillLegacy_book, Book.filled]

theorem rebuildLegacy_of_agrees {p : Port} {entry : Nat} {r : Rating} {s : State}
    (h : (s.book.get p).agreesWith entry r) : rebuildLegacy p entry r s = s :=
  if_pos ((Book.agrees_iff _ _ _).mpr h)

theorem rebuildLegacy_of_differs {p : Port} {entry : Nat} {r : Rating} {s : State}
    (h : ¬(s.book.get p).agreesWith entry r) :
    rebuildLegacy p entry r s = raiseDemand .revise p (fillLegacy p entry r s) :=
  if_neg (mt (Book.agrees_iff _ _ _).mp h)

@[simp] theorem rebuildLegacy_meter (p : Port) (entry : Nat) (r : Rating) (s : State) :
    (rebuildLegacy p entry r s).meter = s.meter := by
  unfold rebuildLegacy; split <;> rfl

@[simp] theorem deliverRated_meter (p : Port) (entry : Nat) (r : Rating) (s : State) :
    (deliverRated p entry r s).meter = s.meter := by
  unfold deliverRated
  split
  · rfl
  · rfl
  · exact rebuildLegacy_meter p entry r s
  all_goals rfl

theorem deliverRated_of_new {p : Port} {s : State}
    (h : (s.monitor.get p).state = .measuring ∨ (s.monitor.get p).state = .mute) (entry : Nat) (r : Rating) :
    deliverRated p entry r s
      = postPartner noticeLegacy p (buildLegacy p entry r (s.modMonitor p fun m => { m with state := .legacy })) := by
  rcases h with h | h <;> simp [deliverRated, h]

theorem deliverRated_of_legacy {p : Port} {s : State} (h : (s.monitor.get p).state = .legacy) (entry : Nat)
    (r : Rating) : deliverRated p entry r s = rebuildLegacy p entry r s := by
  simp [deliverRated, h]

theorem deliverRated_of_other {p : Port} {s : State} (hmeasuring : (s.monitor.get p).state ≠ .measuring)
    (hmute : (s.monitor.get p).state ≠ .mute) (hlegacy : (s.monitor.get p).state ≠ .legacy) (entry : Nat)
    (r : Rating) : deliverRated p entry r s = s := by
  unfold deliverRated
  split
  · exact absurd ‹_› hmeasuring
  · exact absurd ‹_› hmute
  · exact absurd ‹_› hlegacy
  all_goals rfl

/-- A rated result at the Port Monitor: MEASURING and MUTE become LEGACY with a built book, PARTNER LEGACY and a demand, a
LEGACY port rebuilds a book that differs, and in any other state nothing follows. -/
def ratedDelivered (p : Port) (entry : Nat) (r : Rating) (s t : State) : Prop :=
  let m := s.monitor.get p
  let b := s.book.get p
  (m.state = .measuring ∨ m.state = .mute →
      t.monitor.get p = { m with state := .legacy } ∧ t.book.get p = b.filled entry r s.msCount false
        ∧ t.link.notices.get (.partner p)
            = some (postTo (s.link.notices.get (.partner p)) noticeLegacy (snapshotOf 5 4 0 0) s.msCount)
        ∧ t.sequencer.demands.get p
            = (if b.firstBook then { s.sequencer.demands.get p with attach := true }
              else { s.sequencer.demands.get p with revise := true }))
    ∧ (m.state ≠ .measuring → m.state ≠ .mute →
        t.monitor.get p = m ∧ t.link.notices.get (.partner p) = s.link.notices.get (.partner p))
    ∧ (m.state = .legacy → ¬b.agreesWith entry r →
        t.book.get p = b.filled entry r s.msCount b.firstBook
          ∧ t.sequencer.demands.get p = { s.sequencer.demands.get p with revise := true })
    ∧ ((m.state = .legacy ∧ b.agreesWith entry r)
          ∨ (m.state ≠ .measuring ∧ m.state ≠ .mute ∧ m.state ≠ .legacy) →
        t.book.get p = b ∧ t.sequencer.demands.get p = s.sequencer.demands.get p)

theorem deliverRated_delivers (p : Port) (entry : Nat) (r : Rating) (s : State) :
    ratedDelivered p entry r s (deliverRated p entry r s) := by
  by_cases hnew : (s.monitor.get p).state = .measuring ∨ (s.monitor.get p).state = .mute
  · have hnotLegacy : (s.monitor.get p).state ≠ .legacy := by rcases hnew with h | h <;> simp [h]
    have hdeliver : deliverRated p entry r s = _ := deliverRated_of_new hnew entry r
    refine ⟨fun _ => ⟨?monitor, ?book, ?notice, ?demands⟩, fun hmeasuring hmute => absurd hnew (by tauto),
      fun h => absurd h hnotLegacy, fun h => absurd hnew (by tauto)⟩
    case monitor => simp [hdeliver, buildLegacy, raiseBookDemand, fillLegacy]
    case book => simp [hdeliver, buildLegacy_book]
    case notice =>
      simp [hdeliver, postPartner_notice_same, buildLegacy, raiseBookDemand, fillLegacy, raiseDemand, State.classView,
        Attach.code, ClassView.code]
    case demands =>
      rw [hdeliver, postPartner_sequencer, buildLegacy_demands]
      by_cases hfirst : (s.book.get p).firstBook = true <;> simp [hfirst, DemandSet.add]
  · have hmeasuring : (s.monitor.get p).state ≠ .measuring := fun h => hnew (.inl h)
    have hmute : (s.monitor.get p).state ≠ .mute := fun h => hnew (.inr h)
    by_cases hlegacy : (s.monitor.get p).state = .legacy
    · rw [deliverRated_of_legacy hlegacy]
      by_cases hagrees : (s.book.get p).agreesWith entry r
      · rw [rebuildLegacy_of_agrees hagrees]
        simp [ratedDelivered, hlegacy, hagrees]
      · rw [rebuildLegacy_of_differs hagrees]
        simp [ratedDelivered, hlegacy, hagrees, fillLegacy_book, DemandSet.add]
    · rw [deliverRated_of_other hmeasuring hmute hlegacy]
      simp [ratedDelivered, hmeasuring, hmute, hlegacy]

/-! ### The end of a measurement (R68) -/

section
variable (p : Port) (code : Option UnratedCode) (s : State)

@[simp] theorem finishFlag_monitor : (finishFlag p code s).monitor = s.monitor := by
  unfold finishFlag; dsimp only; split <;> rfl

@[simp] theorem finishFlag_book : (finishFlag p code s).book = s.book := by
  unfold finishFlag; dsimp only; split <;> rfl

@[simp] theorem finishFlag_sequencer : (finishFlag p code s).sequencer = s.sequencer := by
  unfold finishFlag; dsimp only; split <;> rfl

@[simp] theorem finishFlag_measure :
    (finishFlag p code s).meter.port.get p = { s.meter.port.get p with measureFlag := false } := by
  unfold finishFlag; dsimp only; split <;> simp [postMeter, post]

@[simp] theorem finishFlag_partner (q : Port) :
    (finishFlag p code s).link.notices.get (.partner q) = s.link.notices.get (.partner q) := by
  unfold finishFlag; dsimp only; split <;> simp [postMeter, post, NoticeSet.get_put, State.modPortMeasure]

end

/-- The DONE of a MEASURE depends on the state before the measurement ended by the flag, the METER notice and the clock
alone. -/
theorem doneTold.of_start {p : Port} {s u t : State} (h : doneTold p u t)
    (hflag : (u.meter.port.get p).measureFlag = (s.meter.port.get p).measureFlag)
    (hnotice : u.link.notices.get .meter = s.link.notices.get .meter) (hclock : u.msCount = s.msCount) :
    doneTold p s t := by
  unfold doneTold at h ⊢
  rw [h, hflag, hnotice, hclock]

theorem doneTold.of_periodTaken {p : Port} {n : Nat} {s t : State} (h : doneTold p (periodTaken p n s) t) :
    doneTold p s t := by
  obtain ⟨f, hf⟩ := periodTaken_eq_modMeter p n s
  exact h.of_start (by rw [periodTaken_measure]) (by rw [hf, State.modMeter_link]) (by rw [hf, State.modMeter_msCount])

theorem finishFlag_doneTold {p : Port} {code : Option UnratedCode} {s : State} (h : code ≠ some .reference) :
    doneTold p s (finishFlag p code s) := by
  unfold doneTold finishFlag
  by_cases hflag : (s.meter.port.get p).measureFlag = true
  · simp [hflag, h, postMeter_notice_same, Channel.code, State.modPortMeasure]
  · simp [hflag, State.modPortMeasure]

theorem endUnrated_measure (p : Port) (c : UnratedCode) (resistance : Option Nat) (s : State) :
    (endUnrated p c resistance s).meter.port.get p
      = { s.meter.port.get p with
          phase := .idle, previous := none, heldPeriod := none, measureFlag := false, result := .unrated,
          code := some c, resistance := resistance, entry := none } := by
  simp [endUnrated]

theorem endRated_measure (p : Port) (entry : Nat) (r : Rating) (resistance : Nat) (s : State) :
    (endRated p entry r resistance s).meter.port.get p
      = { s.meter.port.get p with
          phase := .idle, previous := none, heldPeriod := none, measureFlag := false, result := .rated,
          code := none, resistance := some resistance, entry := some entry } := by
  simp [endRated]

theorem endUnrated_delivers (p : Port) (c : UnratedCode) (resistance : Option Nat) (s : State) :
    unratedDelivered p s (endUnrated p c resistance s) := by
  unfold unratedDelivered endUnrated
  rw [finishFlag_monitor, finishFlag_book, finishFlag_sequencer, finishFlag_partner]
  exact deliverUnrated_delivers p (s.modPortMeasure p _)

theorem endRated_delivers (p : Port) (entry : Nat) (r : Rating) (resistance : Nat) (s : State) :
    ratedDelivered p entry r s (endRated p entry r resistance s) := by
  unfold ratedDelivered endRated
  rw [finishFlag_monitor, finishFlag_book, finishFlag_sequencer, finishFlag_partner]
  exact deliverRated_delivers p entry r (s.modPortMeasure p _)

theorem endUnrated_doneTold {p : Port} {c : UnratedCode} (hc : c ≠ .reference) (resistance : Option Nat) (s : State) :
    doneTold p s (endUnrated p c resistance s) := by
  have hdeliver := fun f => deliverUnrated_changes p (s.modPortMeasure p f)
  exact (finishFlag_doneTold (by simpa using hc)).of_start (by simp)
    (hdeliver _ (.notice .meter) (by simp [resultParts])) (hdeliver _ .clock (by simp [resultParts]))

theorem endRated_doneTold (p : Port) (entry : Nat) (r : Rating) (resistance : Nat) (s : State) :
    doneTold p s (endRated p entry r resistance s) := by
  have hdeliver := fun f => deliverRated_changes p entry r (s.modPortMeasure p f)
  exact (finishFlag_doneTold (by nofun)).of_start (by simp)
    (hdeliver _ (.notice .meter) (by simp [resultParts])) (hdeliver _ .clock (by simp [resultParts]))

/-! ### Another conversion (R66) -/

theorem measureAgain_measure (p : Port) (n : Nat) (s : State) :
    (measureAgain p n s).meter.port.get p
      = { s.meter.port.get p with previous := some n, heldPeriod := none, phase := .queued } := by
  simp [measureAgain, addChannel]

theorem measureAgain_queued {p : Port} {n : Nat} {s : State} (hfree : s.meter.inFlight = none) :
    (measureAgain p n s).meter.inFlight = none ∧ .id p ∈ (measureAgain p n s).meter.queue :=
  ⟨by simp [measureAgain, addChannel, hfree], Meter.mem_queue_add (m := (s.modPortMeasure p _).meter) hfree _⟩

/-! ### Acceptance and rating (R66, R67) -/

theorem acceptResistance_of_again {p : Port} {n : Nat} {s : State}
    (h : (s.meter.port.get p).previous = none
      ∨ ∃ o, (s.meter.port.get p).previous = some o ∧ o / 32 < magnitude n o ∧ (s.meter.port.get p).attempts < 4) :
    acceptResistance p n s = measureAgain p n s := by
  rcases h with hfirst | ⟨o, hprevious, hdiffers, hattempts⟩
  · simp [acceptResistance, hfirst]
  · simp [acceptResistance, hprevious, Nat.not_le.mpr hdiffers, hattempts]

theorem acceptResistance_of_unstable {p : Port} {n o : Nat} {s : State}
    (hprevious : (s.meter.port.get p).previous = some o) (hdiffers : o / 32 < magnitude n o)
    (hattempts : 4 ≤ (s.meter.port.get p).attempts) : acceptResistance p n s = endUnrated p .unstable none s := by
  simp [acceptResistance, hprevious, Nat.not_le.mpr hdiffers, Nat.not_lt.mpr hattempts]

theorem acceptResistance_of_agrees {p : Port} {n o : Nat} {s : State}
    (hprevious : (s.meter.port.get p).previous = some o) (hagrees : magnitude n o ≤ o / 32) :
    acceptResistance p n s = rate p n s := by
  simp [acceptResistance, hprevious, hagrees]

/-- The rail lies within the legacy tolerance of a rating's voltage. -/
def State.railNear (s : State) (p : Port) (r : Rating) : Prop :=
  magnitude (s.rail.get p).mv r.voltage * 100 ≤ r.voltage * s.policy.active.legacyTolerance

theorem periodTaken_railNear (p : Port) (n : Nat) (s : State) (r : Rating) :
    (periodTaken p n s).railNear p r ↔ s.railNear p r := by
  rw [State.railNear, periodTaken_policy, periodTaken_rail, State.railNear]

theorem rate_of_noMatch {p : Port} {n : Nat} {s : State} (h : matchRating s.policy.active n = none) :
    rate p n s = endUnrated p .noMatch (some n) s := by
  simp [rate, h]

theorem rate_of_mismatch {p : Port} {n entry : Nat} {r : Rating} {s : State}
    (h : matchRating s.policy.active n = some (entry, r)) (hfar : ¬s.railNear p r) :
    rate p n s = endUnrated p .mismatch (some n) s := by
  simp only [rate, h]
  exact if_neg hfar

theorem rate_of_near {p : Port} {n entry : Nat} {r : Rating} {s : State}
    (h : matchRating s.policy.active n = some (entry, r)) (hnear : s.railNear p r) :
    rate p n s = endRated p entry r n s := by
  simp only [rate, h]
  exact if_pos hnear

/-- An agreeing resistance is kept, whatever its rating gives. -/
theorem rate_resistance (p : Port) (n : Nat) (s : State) :
    ((rate p n s).meter.port.get p).resistance = some n := by
  unfold rate
  split
  · rw [endUnrated_measure]
  · split
    · rw [endRated_measure]
    · rw [endUnrated_measure]

/-! ### What resolution leaves of a port's record (R62) -/

theorem rate_lastPeriod (p : Port) (n : Nat) (s : State) :
    ((rate p n s).meter.port.get p).lastPeriod = (s.meter.port.get p).lastPeriod := by
  unfold rate
  split
  · rw [endUnrated_measure]
  · split
    · rw [endRated_measure]
    · rw [endUnrated_measure]

theorem acceptResistance_lastPeriod (p : Port) (n : Nat) (s : State) :
    ((acceptResistance p n s).meter.port.get p).lastPeriod = (s.meter.port.get p).lastPeriod := by
  unfold acceptResistance
  split
  · rw [measureAgain_measure]
  · split
    · exact rate_lastPeriod p n s
    · split
      · rw [measureAgain_measure]
      · rw [endUnrated_measure]

theorem referenceFault_lastPeriod (p : Port) (s : State) :
    ((referenceFault p s).meter.port.get p).lastPeriod = (s.meter.port.get p).lastPeriod := by
  have hended : ((endUnrated p .reference none s).meter.port.get p).lastPeriod = (s.meter.port.get p).lastPeriod := by
    rw [endUnrated_measure]
  rw [referenceFault, queuePair_port]
  exact hended

theorem resolve_lastPeriod (p : Port) (n : Nat) (s : State) :
    ((resolve p n s).meter.port.get p).lastPeriod = (s.meter.port.get p).lastPeriod := by
  unfold resolve
  dsimp only
  split
  · exact referenceFault_lastPeriod p s
  · exact acceptResistance_lastPeriod p _ s

theorem holdConversion_lastPeriod (p : Port) (n : Nat) (s : State) :
    ((holdConversion p n s).meter.port.get p).lastPeriod = (s.meter.port.get p).lastPeriod := by
  simp [holdConversion]

theorem takeChannel_lastPeriod (p : Port) (s : State) :
    ((takeChannel s).meter.port.get p).lastPeriod = (s.meter.port.get p).lastPeriod := by
  obtain ⟨phase, hmeasure⟩ := takeChannel_measure p s
  rw [hmeasure]

/-- A conversion whose 256th edge comes below the timebase limit leaves its period, whatever its outcome. -/
theorem portCompleted_lastPeriod (p : Port) {n : Nat} (hn : n < 65535) (s : State) :
    ((portCompleted p (outcomeAt n) s).meter.port.get p).lastPeriod = some n := by
  have htaken : ((periodTaken p n s).meter.port.get p).lastPeriod = some n := by rw [periodTaken_measure]
  by_cases hshort : n < 640
  · rw [outcomeAt, if_pos hshort, portCompleted_short, takeChannel_lastPeriod, endUnrated_measure]
    exact htaken
  · rw [outcomeAt, if_neg hshort, if_pos hn, portCompleted_valid, takeChannel_lastPeriod]
    split
    · rw [resolve_lastPeriod, htaken]
    · rw [holdConversion_lastPeriod, htaken]

/-- Settles O28: the rounded quotient is the nearest whole number, the resistance is clamped, resolution goes by the
spacing of the references, and every end of a port conversion leaves its period. -/
theorem periodsBecomeResistances : Obligations.PeriodsBecomeResistances := by
  refine ⟨fun tx tlo thi low high hapart => ?quotient, fun p tx s => ⟨resolve_of_close, resolve_of_apart⟩,
    fun p s period hrun hflight hperiod => ?period⟩
  case quotient =>
    obtain ⟨hnear, hhalf⟩ := roundedQuotient_nearest (((tx : Int) - tlo) * ((high : Int) - low))
      (d := (thi : Int) - tlo) (by omega)
    exact ⟨_, hnear, hhalf, resolvedResistance_eq tx tlo thi low high⟩
  case period =>
    exact ⟨_, exec_portConversionEnd hrun hflight hperiod, portCompleted_lastPeriod p hperiod s⟩

/-! ### What the end of a conversion of one port may change (R9, R68) -/

theorem modMeter_port_changes (p : Port) (f : Meter → Meter) (s : State) :
    ChangesOnly (portMeterParts p) s (s.modMeter f) := by
  intro part h
  cases part <;> simp_all [Part.same, portMeterParts]

theorem finishFlag_port_changes (p : Port) (c : Option UnratedCode) (s : State) :
    ChangesOnly (portMeterParts p) s (finishFlag p c s) := by
  have hcleared : ChangesOnly (portMeterParts p) s (s.modPortMeasure p fun r => { r with measureFlag := false }) :=
    modMeter_port_changes p _ s
  unfold finishFlag
  exact .ite (hcleared.trans ((postMeter_changes _ _ _).mono (by simp [portMeterParts]))) hcleared

theorem result_port_sub (p : Port) : resultParts p ⊆ portMeterParts p := by simp [resultParts, portMeterParts]

theorem endUnrated_port_changes (p : Port) (c : UnratedCode) (resistance : Option Nat) (s : State) :
    ChangesOnly (portMeterParts p) s (endUnrated p c resistance s) :=
  ((modMeter_port_changes p _ s).trans ((deliverUnrated_changes _ _).mono (result_port_sub p))).trans
    (finishFlag_port_changes _ _ _)

theorem endRated_port_changes (p : Port) (entry : Nat) (r : Rating) (resistance : Nat) (s : State) :
    ChangesOnly (portMeterParts p) s (endRated p entry r resistance s) :=
  ((modMeter_port_changes p _ s).trans ((deliverRated_changes _ _ _ _).mono (result_port_sub p))).trans
    (finishFlag_port_changes _ _ _)

theorem measureAgain_port_changes (p : Port) (n : Nat) (s : State) :
    ChangesOnly (portMeterParts p) s (measureAgain p n s) :=
  (modMeter_port_changes p _ s).trans (modMeter_port_changes p _ _)

theorem rate_port_changes (p : Port) (n : Nat) (s : State) : ChangesOnly (portMeterParts p) s (rate p n s) := by
  unfold rate
  split
  · exact endUnrated_port_changes _ _ _ _
  · exact .ite (endRated_port_changes _ _ _ _ _) (endUnrated_port_changes _ _ _ _)

theorem acceptResistance_port_changes (p : Port) (n : Nat) (s : State) :
    ChangesOnly (portMeterParts p) s (acceptResistance p n s) := by
  unfold acceptResistance
  split
  · exact measureAgain_port_changes _ _ _
  · exact .ite (rate_port_changes _ _ _) (.ite (measureAgain_port_changes _ _ _) (endUnrated_port_changes _ _ _ _))

theorem periodTaken_port_changes (p : Port) (n : Nat) (s : State) :
    ChangesOnly (portMeterParts p) s (periodTaken p n s) := by
  obtain ⟨f, hf⟩ := periodTaken_eq_modMeter p n s
  rw [hf]
  exact modMeter_port_changes p f s

/-! ### A whole conversion: the period is taken, its resistance is accepted, the converter goes on (R58, R62, R66) -/

/-- An unrated measurement, as it stands once the converter has gone on. -/
theorem completed_unrated {p : Port} {c : UnratedCode} (hc : c ≠ .reference) (resistance : Option Nat) (n : Nat)
    (s : State) {t : State} (ht : t = takeChannel (endUnrated p c resistance (periodTaken p n s))) :
    (t.meter.port.get p).result = .unrated ∧ (t.meter.port.get p).code = some c
      ∧ (t.meter.port.get p).measureFlag = false ∧ unratedDelivered p s t ∧ doneTold p s t := by
  subst ht
  obtain ⟨phase, hmeasure⟩ := takeChannel_measure p (endUnrated p c resistance (periodTaken p n s))
  obtain ⟨f, hf⟩ := periodTaken_eq_modMeter p n s
  rw [hmeasure, endUnrated_measure]
  refine ⟨rfl, rfl, rfl, ?delivered, ?done⟩
  case delivered =>
    rw [hf]
    exact endUnrated_delivers p c resistance (s.modMeter f)
  case done => exact doneTold.of_periodTaken (n := n) (endUnrated_doneTold hc resistance _)

/-- A rated measurement, as it stands once the converter has gone on. -/
theorem completed_rated {p : Port} (entry : Nat) (r : Rating) (resistance n : Nat) (s : State) {t : State}
    (ht : t = takeChannel (endRated p entry r resistance (periodTaken p n s))) :
    (t.meter.port.get p).result = .rated ∧ (t.meter.port.get p).entry = some entry
      ∧ (t.meter.port.get p).measureFlag = false ∧ doneTold p s t ∧ ratedDelivered p entry r s t := by
  subst ht
  obtain ⟨phase, hmeasure⟩ := takeChannel_measure p (endRated p entry r resistance (periodTaken p n s))
  obtain ⟨f, hf⟩ := periodTaken_eq_modMeter p n s
  rw [hmeasure, endRated_measure]
  refine ⟨rfl, rfl, rfl, ?done, ?delivered⟩
  case delivered =>
    rw [hf]
    exact endRated_delivers p entry r resistance (s.modMeter f)
  case done => exact doneTold.of_periodTaken (n := n) (endRated_doneTold p entry r resistance _)

/-- A measurement that goes on: the resistance is kept for the comparison, and the port waits for the converter or has
it. -/
theorem completed_again (p : Port) (resistance n : Nat) (s : State) {t : State}
    (ht : t = takeChannel (measureAgain p resistance (periodTaken p n s))) :
    (t.meter.port.get p).previous = some resistance ∧ (t.meter.port.get p).result = (s.meter.port.get p).result
      ∧ t.monitor.get p = s.monitor.get p ∧ t.book.get p = s.book.get p ∧ t.link.notices = s.link.notices
      ∧ (.id p ∈ t.meter.queue ∧ (t.meter.port.get p).phase = .queued
        ∨ t.meter.inFlightChannel = some (.id p) ∧ (t.meter.port.get p).phase = .converting) := by
  subst ht
  obtain ⟨phase, hmeasure⟩ := takeChannel_measure p (measureAgain p resistance (periodTaken p n s))
  obtain ⟨f, hf⟩ := periodTaken_eq_modMeter p n s
  obtain ⟨hfree, hqueue⟩ := measureAgain_queued (n := resistance) (periodTaken_inFlight p n s)
  refine ⟨?_, ?_, by rw [hf]; rfl, by rw [hf]; rfl, by rw [hf]; rfl,
    takeChannel_of_queued hfree hqueue (by rw [measureAgain_measure])⟩
  · rw [hmeasure, measureAgain_measure]
  · rw [hmeasure, measureAgain_measure, periodTaken_measure]

/-- Settles O29: the period's resistance is accepted in the state that has taken the period; each case of acceptance and
of rating is one way for the measurement to go on or to end. -/
theorem agreeingResistancesAreRated : Obligations.AgreeingResistancesAreRated := by
  intro s p period hrun hflight hshort hperiod hlo hhi i tlo thi r m b ohms contains near unrated hapart
  have hend : exec (.portConversionEnd period) s
      = .next (takeChannel (acceptResistance p ohms (periodTaken p period.toNat s))) := by
    rw [exec_portConversionEnd hrun hflight hperiod, outcomeAt, if_neg (Nat.not_lt.mpr hshort), if_pos hperiod,
      portCompleted_accepts hlo hhi hapart]
  have hrecord := periodTaken_measure p period.toNat s
  refine ⟨_, hend, ?frame, ?again, ?unstable, ?agree⟩
  case frame =>
    exact ((periodTaken_port_changes p _ s).trans (acceptResistance_port_changes p ohms _)).trans
      (modMeter_port_changes p _ _)
  case again =>
    intro h
    exact completed_again p ohms _ s (congrArg takeChannel (acceptResistance_of_again (by rw [hrecord]; exact h)))
  case unstable =>
    intro o hprevious hdiffers hattempts
    exact completed_unrated (by nofun) none _ s
      (congrArg takeChannel (acceptResistance_of_unstable (by rw [hrecord]; exact hprevious) hdiffers
        (by rw [hrecord]; exact hattempts)))
  case agree =>
    intro o hprevious hagrees
    have hrated : acceptResistance p ohms (periodTaken p period.toNat s) = rate p ohms (periodTaken p period.toNat s) :=
      acceptResistance_of_agrees (by rw [hrecord]; exact hprevious) hagrees
    have hmatch : ∀ k, contains k → (∀ j, j < k → ¬contains j) →
        matchRating (periodTaken p period.toNat s).policy.active ohms = some (k.val, i.ratings[k]) := by
      intro k hk hfirst
      rw [periodTaken_policy]
      exact matchRating_eq_some hk hfirst
    have hnear : ∀ k : Fin 12, (periodTaken p period.toNat s).railNear p i.ratings[k] ↔ near i.ratings[k].voltage :=
      fun k => periodTaken_railNear p period.toNat s i.ratings[k]
    rw [hrated]
    refine ⟨?resistance, fun hnone => ?noMatch, fun k hk hfirst hfar => ?mismatch, fun k hk hfirst hclose => ?rated⟩
    case resistance =>
      obtain ⟨phase, hmeasure⟩ := takeChannel_measure p (rate p ohms (periodTaken p period.toNat s))
      rw [hmeasure]
      exact rate_resistance p ohms _
    case noMatch =>
      exact completed_unrated (by nofun) (some ohms) _ s
        (congrArg takeChannel (rate_of_noMatch (by rw [periodTaken_policy]; exact matchRating_eq_none hnone)))
    case mismatch =>
      exact completed_unrated (by nofun) (some ohms) _ s
        (congrArg takeChannel (rate_of_mismatch (hmatch k hk hfirst) (mt (hnear k).mp hfar)))
    case rated =>
      exact completed_rated k.val i.ratings[k] ohms _ s
        (congrArg takeChannel (rate_of_near (hmatch k hk hfirst) ((hnear k).mpr hclose)))

end Sys2Proof.Machine
end

section
/-! PROOFS. OPEN POLICY and the APPLY that follows (05; R79, R84, R88): how a command of its required length is carried
out, what its one REPLY leaves, and what the success of APPLY leaves of the Policy Store. -/

namespace Sys2Proof.Machine

open Sys2Proof

/-! ### The command at the head of the receive buffer (R172, R173) -/

theorem LinkFrame.isCommand.wantsCode_toNat {f : LinkFrame} {tag code : Byte} {args : List Byte}
    (h : f.isCommand tag code args) : wantsCode code.toNat f = true := by
  obtain ⟨hkind, hpayload⟩ := h
  simp [wantsCode, LinkFrame.code, hkind, hpayload]

/-- A COMMAND of the required length is carried out on the state its frame has left, and its REPLY is placed. -/
theorem running_takeCommand_of_asked {s : State} {f : LinkFrame} {rest : List LinkFrame} {code : Byte}
    {args : List Byte} (h : s.asked f rest code args) (carry : LinkFrame → State → State × ReplyBody) :
    running (takeCommand (wantsCode code.toNat) (checkLength (args.length + 2) carry)) s
      = .next (placeUplink (replyTo f (carry f (s.taken rest)).2) (carry f (s.taken rest)).1) := by
  obtain ⟨hhead, tag, hcommand⟩ := h
  obtain ⟨hrun, -⟩ := id hhead
  obtain ⟨-, hpayload⟩ := id hcommand
  have hlength : checkLength (args.length + 2) carry f (s.taken rest) = carry f (s.taken rest) :=
    if_pos (by simp [hpayload])
  rw [running_free _ hrun, takeCommand_takes hhead hcommand.wantsCode_toNat, hlength]

@[simp] theorem taken_policy (s : State) (rest : List LinkFrame) : (s.taken rest).policy = s.policy := rfl

@[simp] theorem placeUplink_policy (f : UplinkFrame) (s : State) : (placeUplink f s).policy = s.policy := rfl

/-- Where carrying a command out reaches neither the receive buffer nor the uplink, placing its REPLY leaves the frame
taken and one REPLY in the upstream queue. -/
theorem replies_placeUplink {l : List Part} {s t : State} {rest : List LinkFrame} (h : ChangesOnly l (s.taken rest) t)
    (hreceive : .receive ∉ l) (huplink : .uplink ∉ l) (f : LinkFrame) (body : ReplyBody) :
    s.replies (placeUplink (replyTo f body) t) f rest body := by
  obtain ⟨hbuffer, -⟩ := h .receive hreceive
  obtain ⟨hqueue, hsending, -⟩ := h .uplink huplink
  obtain ⟨hplaced, -⟩ := placeUplink_changes (replyTo f body) t .receive (by simp)
  refine ⟨hplaced.trans hbuffer, ?_⟩
  rw [placeUplink_outgoing]
  simp [LinkUnit.outgoing, hqueue, hsending, State.taken]

/-- Such a command changes only what carrying it out may, the receive buffer and the uplink. -/
theorem placeUplink_taken_changes {l : List Part} {s t : State} {rest : List LinkFrame}
    (h : ChangesOnly l (s.taken rest) t) (f : UplinkFrame) :
    ChangesOnly (.receive :: .uplink :: l) s (placeUplink f t) :=
  ((taken_changes s rest).then h (by simp) fun _ hpart => by simp [hpart]).trans
    ((placeUplink_changes f t).mono (by simp))

/-! ### OPEN POLICY (R79) -/

/-- The Policy Store with its ACTIVE image copied into an open PENDING bank. -/
def PolicyStore.opened (q : PolicyStore) : PolicyStore := { q with pendingBank := q.active, pendingOpen := true }

theorem exec_openPolicy_of_asked {s : State} {f : LinkFrame} {rest : List LinkFrame} (h : s.asked f rest 0x10 []) :
    exec .openPolicy s = .next (placeUplink (replyTo f .ok) ((s.taken rest).modPolicy PolicyStore.opened)) :=
  running_takeCommand_of_asked h fun _ t => (t.modPolicy PolicyStore.opened, .ok)

/-! ### APPLY of an open image that passes (R84, R88) -/

/-- The Policy Store once its PENDING image has become ACTIVE. -/
def PolicyStore.applied (q : PolicyStore) : PolicyStore :=
  { q with active := q.pendingBank, origin := .loaded, pendingOpen := false }

/-- Neither REVIEW nor the rebalance, the service and the limit that follow reach the Policy Store. -/
theorem applySuccess_policy (s : State) : (applySuccess s).policy = s.policy.applied := by
  have heffects : ChangesOnly (.limit :: (everyPort .demands ++ supplyParts)) (s.modPolicy PolicyStore.applied)
      (applySuccess s) :=
    ((((reviewAttached_changes _).mono (by simp)).trans ((rebalance_changes _ _).mono (by simp))).trans
      ((serve_changes _).mono (by simp))).trans ((recompute_changes _).mono (by simp))
  exact heffects .policy (by simp [supplyParts])

theorem exec_applyPolicy_of_valid {s : State} {f : LinkFrame} {rest : List LinkFrame} (h : s.asked f rest 0x16 [])
    (hopen : s.policy.pendingOpen = true) (hvalid : validate s.policy.pendingBank = none) :
    exec .applyPolicy s = .next (placeUplink (replyTo f .applied) (applySuccess (s.taken rest))) := by
  have hcarry : writePending (fun _ t => applyPending t) f (s.taken rest)
      = (applySuccess (s.taken rest), .applied) := by
    simp [writePending, applyPending, hopen, hvalid]
  exact (running_takeCommand_of_asked h _).trans (by rw [hcarry])

/-- APPLY answers APPLIED from any state whose open PENDING image passes, and that image is then ACTIVE. -/
theorem applyPolicy_installs {s : State} {f : LinkFrame} {rest : List LinkFrame} (h : s.asked f rest 0x16 [])
    (hopen : s.policy.pendingOpen = true) (hvalid : validate s.policy.pendingBank = none) :
    ∃ t, exec .applyPolicy s = .next t ∧ s.replies t f rest .applied ∧ t.policy = s.policy.applied :=
  ⟨_, exec_applyPolicy_of_valid h hopen hvalid,
    replies_placeUplink (applySuccess_changes _) (by simp [imageParts, supplyParts])
      (by simp [imageParts, supplyParts]) f .applied,
    applySuccess_policy (s.taken rest)⟩

/-- Settles O44: the opened store's PENDING image is the ACTIVE one, so the APPLY that follows validates and installs
that same image. -/
theorem openPolicyCopiesTheActiveImage : Obligations.OpenPolicyCopiesTheActiveImage := by
  intro s f rest hasked
  have hcarried := modPolicy_changes (s.taken rest) PolicyStore.opened
  refine ⟨_, exec_openPolicy_of_asked hasked, replies_placeUplink hcarried (by simp) (by simp) f .ok,
    rfl, rfl, rfl, rfl, placeUplink_taken_changes hcarried _, ?_⟩
  intro u g rest' hstore hvalid happly
  have hopened : u.policy = s.policy.opened := hstore
  have hopen : u.policy.pendingOpen = true := by rw [hopened]; rfl
  have hpending : u.policy.pendingBank = s.policy.active := by rw [hopened]; rfl
  obtain ⟨v, hexec, hreplies, hpolicy⟩ := applyPolicy_installs happly hopen (hpending ▸ hvalid)
  have hactive : v.policy.active = s.policy.active := by rw [hpolicy, ← hpending]; rfl
  exact ⟨v, hexec, hreplies, hactive⟩

end Sys2Proof.Machine
end

section
/-! PROOFS. RELAY-DOWN (10; R178): the destination and the talk-line frame its bytes carry, the tests in their order,
and what a frame at the tail of the relay queue leaves at the framer. -/

namespace Sys2Proof.Machine

open Sys2Proof

/-! ### A command that changes no state (R173) -/

/-- A row that only takes its frame and places its REPLY changes no state. -/
theorem answersWith_of_taken {s : State} {c : Instr} {f : LinkFrame} {rest : List LinkFrame} {body : ReplyBody}
    (h : exec c s = .next (placeUplink (replyTo f body) (s.taken rest))) : s.answersWith c f rest body := by
  have hcarried : ChangesOnly [] (s.taken rest) (s.taken rest) := .refl _ _
  exact ⟨_, h, replies_placeUplink hcarried (by simp) (by simp) f body, placeUplink_taken_changes hcarried _⟩

@[simp] theorem placeUplink_framer (f : UplinkFrame) (s : State) : (placeUplink f s).framer = s.framer := rfl

@[simp] theorem taken_framer (s : State) (rest : List LinkFrame) : (s.taken rest).framer = s.framer := rfl

/-! ### The port a frame names (R173) -/

theorem LinkFrame.names.portOfByte_eq {f : LinkFrame} {p : Port} (h : f.names p) : portOfByte f.port = some p := by
  have hport : f.port.toNat = p.val := h
  have hsmall : f.port.toNat < 4 := hport ▸ p.isLt
  rw [portOfByte, dif_pos hsmall, Option.some_inj]
  exact Fin.ext hport

theorem checkPort_of_names {f : LinkFrame} {p : Port} (h : f.names p)
    (carry : Port → LinkFrame → State → State × ReplyBody) (s : State) : checkPort carry f s = carry p f s := by
  rw [checkPort, h.portOfByte_eq]

/-! ### The talk-line frame a RELAY-DOWN carries (R178, R196) -/

theorem relayed_of_payload {f : LinkFrame} {tag kind : Byte} {payload : List Byte}
    (h : f.payload = tag :: kind :: payload) :
    f.relayed = { kind := kind.truncate 6, branch := f.branch.truncate 3, payload := payload } := by
  simp [LinkFrame.relayed, h, byteAt]

/-- A kind byte below 64 is the kind itself, so the power kinds are those of R26. -/
theorem isPowerKind_truncate {kind : Byte} (h : kind.toNat < 64) :
    isPowerKind (kind.truncate 6) = true ↔ 0x01 ≤ kind.toNat ∧ kind.toNat ≤ 0x0D := by
  have hkept : (kind.truncate 6).toNat = kind.toNat := by
    rw [BitVec.truncate_eq_setWidth, BitVec.toNat_setWidth]
    exact Nat.mod_eq_of_lt h
  simp [isPowerKind, hkept]

theorem badBranch_iff (s : State) (p : Port) (b : Nat) :
    s.badBranch p b = true ↔ 7 ≤ b ∨ (1 ≤ b ∧ s.branchCount p < b) := by
  simp [State.badBranch]

/-! ### The tests after LENGTH, in their order (R178) -/

/-- The state with a frame at the tail of a port's relay queue, once the transmitter has looked. -/
def State.relaying (s : State) (p : Port) (r : RelayFrame) : State :=
  transmit p (s.modFramer p fun x => { x with relay := x.relay ++ [r] })

theorem carryRelay_of_powerKind {p : Port} {f : LinkFrame} {s : State} (hpower : isPowerKind f.relayed.kind = true) :
    carryRelay p f s = refuse .powerKind s := if_pos hpower

section
variable {p : Port} {f : LinkFrame} {s : State} (hpower : ¬isPowerKind f.relayed.kind = true)
include hpower

theorem carryRelay_of_notTalking (htalking : (s.monitor.get p).state ≠ .talking) :
    carryRelay p f s = refuse .notAttached s := by
  rw [carryRelay, if_neg hpower, if_pos htalking]

variable (htalking : (s.monitor.get p).state = .talking)
include htalking

theorem carryRelay_of_badBranch (hbranch : s.badBranch p f.branch.toNat = true) :
    carryRelay p f s = refuse .badBranch s := by
  rw [carryRelay, if_neg hpower, if_neg (not_not_intro htalking), if_pos hbranch]

variable (hbranch : ¬s.badBranch p f.branch.toNat = true)
include hbranch

theorem carryRelay_of_full (hfull : 2 ≤ (s.framer.get p).relay.length) : carryRelay p f s = answer .busy s := by
  rw [carryRelay, if_neg hpower, if_neg (not_not_intro htalking), if_neg hbranch]
  exact if_pos hfull

theorem carryRelay_of_room (hroom : (s.framer.get p).relay.length < 2) :
    carryRelay p f s = (s.relaying p f.relayed, .ok) := by
  rw [carryRelay, if_neg hpower, if_neg (not_not_intro htalking), if_neg hbranch]
  exact if_neg (Nat.not_le.mpr hroom)

end

/-! ### The relay queue and the transmitter's look (R34, R35) -/

/-- A quiet line with no engine frame takes the frame at the head of the relay queue. -/
theorem look_of_relay {f : Framer} {r : RelayFrame} {rest : List RelayFrame} (hquiet : f.quiet = true)
    (hengine : f.engine = []) (hrelay : f.relay = r :: rest) :
    f.look = { f with relay := rest, sending := some (.relay r) } := by
  simp [Framer.look, hquiet, hengine, hrelay]

theorem quiet_eq_false_iff (f : Framer) : f.quiet = false ↔ f.sending ≠ none ∨ f.incoming ≠ .quiet := by
  rw [← Bool.not_eq_true, quiet_iff, not_and_or]

theorem relaying_changes (s : State) (p : Port) (r : RelayFrame) :
    ChangesOnly (placeParts p) s (s.relaying p r) :=
  (modFramer_changes s p _).then (transmit_changes p _) (framer_place_sub p) fun _ h => h

theorem relaying_framer (s : State) (p : Port) (r : RelayFrame) :
    (s.relaying p r).framer.get p
      = Framer.look { s.framer.get p with relay := (s.framer.get p).relay ++ [r] } := by
  simp [State.relaying]

theorem relaying_framer_of_lineQuiet {s : State} {p : Port} (h : s.lineQuiet p) (r : RelayFrame) :
    (s.relaying p r).framer.get p = { s.framer.get p with relay := [], sending := some (.relay r) } := by
  obtain ⟨⟨hsending, hengine, hrelay⟩, hincoming⟩ := h
  rw [relaying_framer]
  exact look_of_relay ((quiet_iff _).mpr ⟨hsending, hincoming⟩) hengine (by simp [hrelay])

theorem relaying_framer_of_busy {s : State} {p : Port}
    (h : (s.framer.get p).sending ≠ none ∨ (s.framer.get p).incoming ≠ .quiet) (r : RelayFrame) :
    (s.relaying p r).framer.get p = { s.framer.get p with relay := (s.framer.get p).relay ++ [r] } := by
  rw [relaying_framer]
  exact look_of_not_quiet ((quiet_eq_false_iff _).mpr h)

/-! ### RELAY-DOWN at the head of the receive buffer (R172, R178) -/

theorem isRelayDown_of_kind {f : LinkFrame} (h : f.kind = 0x02) : f.isRelayDown = true := beq_iff_eq.mpr h

section
variable {s : State} {f : LinkFrame} {rest : List LinkFrame} (hhead : s.headFrame f rest) (hkind : f.kind = 0x02)
include hhead hkind

/-- A RELAY-DOWN with too few bytes for a kind, or with more than 28 behind it, is refused before its other tests. -/
theorem relayDown_refuses_length (hlength : f.payload.length < 2 ∨ 30 < f.payload.length) :
    s.answersWith .relayDown f rest (.refused .length) := by
  obtain ⟨hrun, -⟩ := id hhead
  apply answersWith_of_taken
  calc exec .relayDown s
      = execRelayDown s := rfl
    _ = .next (placeUplink (replyTo f (.refused .length)) (s.taken rest)) := by
        rw [execRelayDown, running_free _ hrun, takeCommand_takes hhead (isRelayDown_of_kind hkind),
          if_pos hlength, refuse]

/-- A RELAY-DOWN of an allowed length to a port goes on to the tests after LENGTH. -/
theorem exec_relayDown_of_fits {p : Port} (hport : f.names p)
    (hlength : 2 ≤ f.payload.length ∧ f.payload.length ≤ 30) :
    exec .relayDown s
      = .next (placeUplink (replyTo f (carryRelay p f (s.taken rest)).2) (carryRelay p f (s.taken rest)).1) := by
  obtain ⟨hrun, -⟩ := id hhead
  have hfits : ¬(f.payload.length < 2 ∨ 30 < f.payload.length) := by omega
  calc exec .relayDown s
      = execRelayDown s := rfl
    _ = _ := by
        rw [execRelayDown, running_free _ hrun, takeCommand_takes hhead (isRelayDown_of_kind hkind), if_neg hfits,
          checkPort_of_names hport]

end

/-- Settles O51: the frame leaves the receive buffer and reaches no record its tests read, so each test that stops it is
its answer in the state before it; a frame that passes all joins the relay queue and the transmitter looks. -/
theorem relayDownQueuesOneFrame : Obligations.RelayDownQueuesOneFrame := by
  intro s f rest p tag kind payload hhead hkind hpayload hport hsix b power talking badBranch relayed
  have hrelayed : f.relayed = relayed := relayed_of_payload hpayload
  have hpower : isPowerKind f.relayed.kind = true ↔ power := by rw [hrelayed]; exact isPowerKind_truncate hsix
  have hbad : (s.taken rest).badBranch p f.branch.toNat = true ↔ badBranch := badBranch_iff s p b
  have hlength : f.payload.length = payload.length + 2 := by rw [hpayload]; rfl
  refine ⟨fun hlong => relayDown_refuses_length hhead hkind (by omega), fun hshort => ?_⟩
  have hexec := exec_relayDown_of_fits hhead hkind hport (by omega)
  have hanswers : ∀ body, carryRelay p f (s.taken rest) = (s.taken rest, body) →
      s.answersWith .relayDown f rest body := by
    intro body hcarry
    exact answersWith_of_taken (hexec.trans (by rw [hcarry]))
  refine ⟨fun hp => ?powerKind, fun hp ht => ?notTalking, fun hp ht hb => ?badBranch, fun hp ht hb hfull => ?busy,
    fun hp ht hb hroom => ?ok⟩
  case powerKind => exact hanswers _ (carryRelay_of_powerKind (hpower.mpr hp))
  case notTalking => exact hanswers _ (carryRelay_of_notTalking (mt hpower.mp hp) ht)
  case badBranch => exact hanswers _ (carryRelay_of_badBranch (mt hpower.mp hp) ht (hbad.mpr hb))
  case busy => exact hanswers _ (carryRelay_of_full (mt hpower.mp hp) ht (mt hbad.mp hb) hfull)
  case ok =>
    have hcarry : carryRelay p f (s.taken rest) = ((s.taken rest).relaying p relayed, .ok) := by
      rw [← hrelayed]
      exact carryRelay_of_room (mt hpower.mp hp) ht (mt hbad.mp hb) hroom
    have hcarried := relaying_changes (s.taken rest) p relayed
    rw [hcarry] at hexec
    refine ⟨_, hexec, replies_placeUplink hcarried (by simp [placeParts]) (by simp [placeParts]) f .ok,
      fun hquiet => ?begins, fun hbusy => ?joins, placeUplink_taken_changes hcarried _⟩
    case begins =>
      have hframer := relaying_framer_of_lineQuiet (s := s.taken rest) hquiet relayed
      exact ⟨congrArg Framer.sending hframer, congrArg Framer.relay hframer⟩
    case joins => exact relaying_framer_of_busy (s := s.taken rest) hbusy relayed

end Sys2Proof.Machine
end

section
/-! PROOFS. A step of the part (00, 11; R187; log entry 12): the front command, the idle step, power-on reset and its
end, and the pacing of the limit line and of the links. -/

namespace Sys2Proof.Machine

open Sys2Proof

/-! ### A step -/

theorem step_of_idle {s : State} (h : s.pending = []) : step s = .next (idle s) := by
  simp only [step, h]

theorem step_of_waiting {c : Instr} {s : State} {rest : List Instr} (h : s.pending = c :: rest) :
    step s = exec c { s with pending := rest } := by
  simp only [step, h]

/-- Settles O1. -/
theorem stepRunsTheFrontCommand : Obligations.StepRunsTheFrontCommand := fun _ _ _ h => step_of_waiting h

/-- Outside reset a command of a running part has its effect. -/
theorem exec_of_running {c : Instr} {s : State} {f : State → State} (h : exec c s = running f s)
    (hrun : s.inReset = false) : exec c s = .next (f s) := h.trans (running_free f hrun)

/-! ### The idle step (log entry 12) -/

theorem idle_of_held {s : State} (h : s.inReset = true) : idle s = s := if_pos h

theorem idle_of_nothing_due {s : State} (hrun : s.inReset = false) (hdue : s.due = []) : idle s = tick s := by
  simp [idle, hrun, hdue]

theorem idle_of_due {s : State} (hrun : s.inReset = false) (hdue : s.due ≠ []) : idle s = chooseEvent s.due s := by
  obtain ⟨i, rest, hlist⟩ := List.exists_cons_of_ne_nil hdue
  simp [idle, hrun, hlist]

/-- One of the events becomes the waiting command; several cost a free choice. -/
theorem chooseEvent_spec {l : List Instr} (hl : l ≠ []) (s : State) :
    ∃ i ∈ l, (chooseEvent l s).pending = [i] ∧ ChangesOnly [.queue, .freeCount] s (chooseEvent l s) := by
  match l with
  | [] => exact absurd rfl hl
  | [i] =>
    refine ⟨i, by simp, rfl, ?_⟩
    intro part h; cases part <;> simp_all [Part.same, chooseEvent]
  | i :: j :: rest =>
    have hbound : Config.freeChoice s.freeCount % ((j :: rest).length + 1) < (i :: j :: rest).length :=
      Nat.mod_lt _ (by simp)
    refine ⟨_, List.getElem_mem hbound, ?_, ?_⟩
    · simp only [chooseEvent, takeFree, List.getElem?_eq_getElem hbound, Option.toList_some]
    · intro part h; cases part <;> simp_all [Part.same, chooseEvent, takeFree]

/-- The parts a passing millisecond may change. -/
def tickParts : List Part :=
  [.queue, .clock, .converter, .service, .limit, .receive, .supervisor] ++ everyPort .monitor
    ++ everyPort .framer ++ everyPort .contract ++ everyPort .drawMonitor

theorem tick_changes (s : State) : ChangesOnly tickParts s (tick s) := by
  intro part h
  cases part <;> simp_all [tickParts, Part.same, tick, Meter.tick, Sequencer.tick]

/-- A break interval in service counts the millisecond. -/
theorem sequencer_tick_of_breaking {q : Sequencer} {tr : Transition} {n : Nat} (htr : q.transition = some tr)
    (hstage : tr.stage = .breaking n) :
    q.tick = { q with transition := some { tr with stage := .breaking (n + 1) } } := by
  simp [Sequencer.tick, htr, hstage, Stage.tick]

theorem sequencer_tick_of_not_breaking {q : Sequencer}
    (h : ∀ tr n, q.transition = some tr → tr.stage ≠ .breaking n) : q.tick = q := by
  obtain ⟨demands, inService, rotation, transition⟩ := q
  cases transition with
  | none => rfl
  | some tr =>
    have hstage : tr.stage.tick = tr.stage := by
      cases hs : tr.stage with
      | breaking n => exact absurd hs (h tr n rfl)
      | start | claimPrimary | claimSecondary => rfl
    simp [Sequencer.tick, hstage]

/-- Settles O2: an idle step is nothing in reset, a tick with nothing due, and the choice of one due event
otherwise. -/
theorem idleStepMakesTheNextEventOrATick : Obligations.IdleStepMakesTheNextEventOrATick := by
  intro s hpending later
  refine ⟨idle s, step_of_idle hpending, idle_of_held, fun hrun hdue => ?ticks, fun hrun hdue => ?chooses⟩
  case chooses => rw [idle_of_due hrun hdue]; exact chooseEvent_spec hdue s
  case ticks =>
    rw [idle_of_nothing_due hrun hdue]
    refine ⟨rfl, rfl, fun p => ⟨?_, ?_, ?_, ?_⟩, rfl, fun tr n => sequencer_tick_of_breaking,
      sequencer_tick_of_not_breaking, rfl, rfl, rfl, tick_changes s⟩
    · simp [tick, Monitor.tick, tickTimer, later]
    · simp only [tick, Four.get_map, Framer.tick] <;> rfl
    · simp [tick, Contract.tick, tickTimer, later]
    · simp [tick, tickTimer, later]

/-! ### Power-on reset (R187) -/

/-- Settles O5: the state after power-on reset is written out, so every value is read off it. -/
theorem powerOnResetPutsPowerOnValues : Obligations.PowerOnResetPutsPowerOnValues := by
  intro s
  refine ⟨_, rfl, rfl, rfl, rfl, rfl, rfl, fun p => ?ports, rfl, rfl, rfl, rfl, rfl, rfl, rfl, rfl, rfl, rfl, rfl, rfl,
    rfl, rfl, rfl, rfl, fun i => ?classes, fun f => ?notices, rfl, rfl⟩
  case ports =>
    simp [State.powerOn, Monitor.reset, Framer.reset, Book.reset, Meter.reset, PortMeasure.reset, Contract.reset,
      Sequencer.reset, DemandSet.none, DrawMonitor.reset, SupplyUnit.reset]
  case classes => simp [State.powerOn, LinkUnit.reset, defaultFrameClass]
  case notices => cases f <;> simp [State.powerOn, LinkUnit.reset, NoticeSet.clear, NoticeSet.get]

end Sys2Proof.Machine
end

section
/-! PROOFS. The end of reset (11; R185 to R187), the pacing of the limit line and of the links (08, 10), and the events
that are due (log entry 12). -/

namespace Sys2Proof.Machine

open Sys2Proof

/-! ### The end of reset (R187) -/

theorem mem_allPorts (p : Port) : p ∈ allPorts := by revert p; decide

/-- A change of each port's monitor in turn changes every monitor once. -/
theorem foldl_sensePresence_monitor (presence : BitVec 4) (s : State) (p : Port) :
    (allPorts.foldl (fun t p => sensePresence presence p t) s).monitor.get p
      = (sensePresence presence p s).monitor.get p := by
  simp only [allPorts, List.foldl, sensePresence, State.modMonitor_monitor, Four.get_set, State.populated,
    State.modMonitor_supervisor]
  fin_cases p <;> rfl

theorem sensePresence_changes (presence : BitVec 4) (p : Port) (s : State) :
    ChangesOnly [.monitor p] s (sensePresence presence p s) := modMonitor_changes _ _ _

@[simp] theorem takeChannel_monitor (s : State) : (takeChannel s).monitor = s.monitor := rfl

@[simp] theorem queuePair_monitor (s : State) : (queuePair s).monitor = s.monitor := rfl

/-- A populated port with presence high enters SENSING at the end of reset; every port takes its input's level (R18). -/
theorem resetEnd_monitor (straps : BitVec 8) (presence : BitVec 4) (uhold : Bool) (s : State) (p : Port) :
    (resetEnd straps presence uhold s).monitor.get p
      = if presence.getLsbD p.val = true ∧ p.val < strapPopulated straps then
          { s.monitor.get p with presence := true, state := .sensing, debounce := some 0 }
        else { s.monitor.get p with presence := presence.getLsbD p.val } := by
  change (allPorts.foldl (fun t p => sensePresence presence p t) _).monitor.get p = _
  rw [foldl_sensePresence_monitor]
  change (((takeChannel _).monitor.set p (if presence.getLsbD p.val && decide (p.val < strapPopulated straps)
    then _ else _)).get p) = _
  rw [Four.get_set_same]
  generalize presence.getLsbD p.val = high
  cases high <;> by_cases hpop : p.val < strapPopulated straps <;> simp [hpop]

/-- Settles O6: from the held-reset state the end of reset takes each block in turn, and each value is read off the
state it leaves. -/
theorem resetEndSamplesTheStraps : Obligations.ResetEndSamplesTheStraps := by
  intro straps presence uhold q n s
  refine ⟨resetEnd straps presence uhold s, rfl, rfl, rfl, ?supervisor, rfl, rfl, ?limit, rfl, rfl, rfl, rfl, rfl,
    fun p => ?monitor, rfl, ?frame⟩
  case supervisor =>
    change Supervisor.reset straps = _
    unfold Supervisor.reset strapPowerClass
    cases straps.getLsbD 4 <;> cases straps.getLsbD 3 <;> rfl
  case limit => rfl
  case monitor => exact resetEnd_monitor straps presence uhold s p
  case frame =>
    intro part hpart
    cases part <;> simp at hpart <;> simp only [Part.same] <;> (try constructorm* _ ∧ _) <;> rfl

/-! ### Pacing (R141, R143, R170, R174) -/

theorem hasRun_map_iff {α : Type} (f : α → Nat) (o : Option α) (n : Nat) :
    hasRun (o.map f) n ↔ ∃ a, o = some a ∧ n ≤ f a := by
  cases o <;> simp [hasRun]

/-- An idle uplink begins the head of the queue when UHOLD is low. -/
theorem look_idle {l : LinkUnit} {f : UplinkFrame} {rest : List UplinkFrame} (hhold : l.uhold = false)
    (hidle : l.uplink = none) (hqueue : l.upstream = f :: rest) :
    l.look = { l with upstream := rest, uplink := some f } := by
  simp [LinkUnit.look, hhold, hidle, hqueue]

/-- In every other case the uplink goes on as it is. -/
theorem look_waits {l : LinkUnit} (h : l.uhold = true ∨ l.uplink ≠ none ∨ l.upstream = []) : l.look = l := by
  obtain ⟨receive, reception, upstream, uplink, uhold, frameClass, notices⟩ := l
  cases uplink <;> cases upstream <;> simp_all [LinkUnit.look]

theorem modLink_uplink_changes {s : State} {f : LinkUnit → LinkUnit}
    (h : (f s.link).receive = s.link.receive ∧ (f s.link).reception = s.link.reception
      ∧ (f s.link).frameClass = s.link.frameClass ∧ (f s.link).notices = s.link.notices) :
    ChangesOnly [.uplink] s (s.modLink f) := by
  obtain ⟨hreceive, hreception, hclass, hnotices⟩ := h
  intro part hp; cases part <;> simp_all [Part.same]

/-- The look leaves all but the upstream queue and the frame being sent. -/
theorem look_frame (l : LinkUnit) : l.look.receive = l.receive ∧ l.look.reception = l.reception
    ∧ l.look.frameClass = l.frameClass ∧ l.look.notices = l.notices ∧ l.look.uhold = l.uhold := by
  unfold LinkUnit.look; split
  · split <;> exact ⟨rfl, rfl, rfl, rfl, rfl⟩
  · exact ⟨rfl, rfl, rfl, rfl, rfl⟩

/-- Settles O40, one event at a time. -/
theorem pacingEventsMoveOneItem : Obligations.PacingEventsMoveOneItem := by
  intro s p hrun l
  refine ⟨⟨_, exec_of_running (rfl : execLimitPeriod s = _) hrun, rfl, modLimit_changes _ _⟩, fun hdescent => ?descent, fun hdescent => ?noDescent,
    fun r hr hgap => ?gap, fun hgap => ?noGap, fun high => ?uhold, fun g hg => ?frameEnd⟩
  case descent =>
    refine ⟨_, exec_of_running rfl hrun, ?_⟩
    rw [if_pos ((descentExpired_iff _).mpr hdescent)]
    exact ⟨by simp, modDrawMonitor_changes _ _ _⟩
  case noDescent =>
    rw [exec_of_running rfl hrun, if_neg (mt (descentExpired_iff _).mp hdescent)]
  case gap =>
    refine ⟨_, exec_of_running rfl hrun, ?_⟩
    rw [if_pos ((gapExpired_iff _).mpr ⟨r, hr, hgap⟩)]
    refine ⟨rfl, rfl, ?_, ?_⟩
    · simp [postLink, post, setReception, NoticeSet.get_put, noticeFormat, l]
    · refine ChangesOnly.then (l1 := [.receive]) (l2 := [.notice .link]) ?_ (postLink_changes _ _) (by simp) (by simp)
      intro part hpart; cases part <;> simp_all [Part.same, setReception]
  case noGap =>
    have hnot : ¬s.link.gapExpired = true := by
      rw [gapExpired_iff]; rintro ⟨r, hr, hgap'⟩; exact absurd hgap' (Nat.not_le.mpr (hgap r hr))
    rw [exec_of_running rfl hrun, if_neg hnot]
  case uhold =>
    obtain ⟨hreceive, hreception, hclass, hnotices, hhold⟩ := look_frame { l with uhold := high }
    refine ⟨_, exec_of_running (c := .uholdChange high) (rfl : execUholdChange high s = _) hrun, hhold,
      fun f rest hlow hidle hqueue => ?_, fun hbusy => ?_, modLink_uplink_changes ⟨hreceive, hreception, hclass, hnotices⟩⟩
    · have hlook := look_idle (l := { l with uhold := high }) hlow hidle hqueue
      exact ⟨(congrArg LinkUnit.uplink hlook :), (congrArg LinkUnit.upstream hlook :)⟩
    · have hlook := look_waits (l := { l with uhold := high }) hbusy
      exact ⟨(congrArg LinkUnit.uplink hlook :), (congrArg LinkUnit.upstream hlook :)⟩
  case frameEnd =>
    obtain ⟨hreceive, hreception, hclass, hnotices, hhold⟩ := look_frame { l with uplink := none }
    have hend : exec .uplinkFrameEnd s = .next (s.modLink fun _ => ({ l with uplink := none }).look) := by
      rw [exec_of_running (c := .uplinkFrameEnd) (rfl : execUplinkFrameEnd s = _) hrun]
      simp [State.modLink, hg, l]
    refine ⟨_, hend, hhold, fun f rest hlow hqueue => ?_, fun hbusy => ?_,
      modLink_uplink_changes ⟨hreceive, hreception, hclass, hnotices⟩⟩
    · have hlook := look_idle (l := { l with uplink := none }) hlow rfl hqueue
      exact ⟨(congrArg LinkUnit.uplink hlook :), (congrArg LinkUnit.upstream hlook :)⟩
    · have hlook := look_waits (l := { l with uplink := none }) (hbusy.imp_right .inr)
      exact ⟨(congrArg LinkUnit.uplink hlook :), (congrArg LinkUnit.upstream hlook :)⟩

/-! ### The events that are due (log entry 12) -/

theorem mem_dueIf {b : Bool} {i j : Instr} : i ∈ dueIf b j ↔ i = j ∧ b = true := by
  cases b <;> simp [dueIf]

theorem suspended_eq_false_iff (c : Contract) (d : DrawMonitor) :
    suspended c d = false ↔ c.state ≠ .awaiting ∧ c.state ≠ .settling ∧ d.descent = none := by
  simp [suspended, and_assoc]

theorem railLostDone_iff (d : DrawMonitor) (c : Contract) :
    d.railLostDone c = true ↔ c.drawClosed = true ∧ d.railLost = 3 := by
  simp [DrawMonitor.railLostDone, railLostFull]

theorem overdrawDone_iff (d : DrawMonitor) (c : Contract) :
    d.overdrawDone c = true ↔ c.drawClosed = true ∧ d.overdraw = 16 := by
  simp [DrawMonitor.overdrawDone, overdrawFull]

/-- A suspended overvoltage test completes nothing (R143, R145). -/
theorem overvoltageDone_iff (d : DrawMonitor) (c : Contract) :
    d.overvoltageDone c = true ↔ c.drawClosed = true ∧ suspended c d = false ∧ d.overvoltage = 3 := by
  cases h : suspended c d <;>
    simp [DrawMonitor.overvoltageDone, overvoltageFull, DrawMonitor.held, h]

/-- A suspended sag test completes nothing (R143, R147). -/
theorem sagDone_iff (d : DrawMonitor) (c : Contract) :
    d.sagDone c = true ↔ c.drawClosed = true ∧ suspended c d = false ∧ d.sag = 8 := by
  cases h : suspended c d <;>
    simp [DrawMonitor.sagDone, sagFull, DrawMonitor.held, h]

theorem hasSettled_iff (c : Contract) : c.hasSettled = true ↔ c.state = .settling ∧ c.settleCount = 10 := by
  simp [Contract.hasSettled, settleFull]

theorem mem_rotationOrder (r p : Port) : p ∈ rotationOrder r := by revert r p; decide

/-- A demand can be taken where no port is in service and one pends (R115). -/
theorem takable_isSome_iff (q : Sequencer) :
    q.takable.isSome = true ↔ q.inService = none ∧ ∃ p c, (q.demands.get p).has c = true := by
  have hnext : q.next.isSome = true ↔ ∃ p c, (q.demands.get p).has c = true := by
    have hclass (c : DemandClass) : c ∈ [DemandClass.loss, .revise, .attach, .review] := by cases c <;> simp
    simp only [Sequencer.next, List.findSome?_isSome_iff, Option.isSome_map, List.find?_isSome, mem_rotationOrder,
      true_and]
    exact ⟨fun ⟨c, _, p, h⟩ => ⟨p, c, h⟩, fun ⟨p, c, h⟩ => ⟨c, hclass c, p, h⟩⟩
  cases hservice : q.inService <;> simp [Sequencer.takable, hservice, hnext]

theorem isRestart_iff (f : LinkFrame) : f.isRestart = true ↔ f.code = some 0x3F ∧ f.payload.length = 2 := by
  simp [LinkFrame.isRestart]

/-- The head frame can be taken where the reply has room, a RESTART of its required length always (R172). -/
theorem takable_eq_some_iff (l : LinkUnit) (f : LinkFrame) :
    l.takable = some f ↔
      ∃ rest, l.receive = f :: rest ∧ (l.upstream.length < 16 ∨ f.code = some 0x3F ∧ f.payload.length = 2) := by
  cases hreceive : l.receive with
  | nil => simp [LinkUnit.takable, hreceive]
  | cons g rest =>
    simp only [LinkUnit.takable, hreceive, Bool.or_eq_true, decide_eq_true_eq, isRestart_iff]
    constructor
    · intro h
      split at h
      · next hroom => cases h; exact ⟨rest, rfl, hroom.symm⟩
      · cases h
    · rintro ⟨rest', hcons, hroom⟩
      cases hcons
      exact if_pos hroom.symm

theorem mem_flatMap_allPorts {g : Port → List Instr} {i : Instr} :
    i ∈ allPorts.flatMap g ↔ ∃ p, i ∈ g p := by
  simp [mem_allPorts]

/-- Events made at once come before timers (log entry 12). -/
theorem mem_due (s : State) (i : Instr) :
    i ∈ s.due ↔ i ∈ s.dueAtOnce ∨ (∀ j, j ∉ s.dueAtOnce) ∧ i ∈ s.dueTimers := by
  unfold State.due
  cases h : s.dueAtOnce with
  | nil => simp
  | cons j rest =>
    simp only [List.isEmpty_cons, Bool.false_eq_true, if_false]
    exact ⟨.inl, fun h => h.elim id fun h => absurd (List.mem_cons_self) (h.1 j)⟩

/-- Settles O3: membership in each list of events is the disjunction of its conditions, each put as its time. -/
theorem eventsAreDueAtTheirTimes : Obligations.EventsAreDueAtTheirTimes := by
  intro s now expired i
  have hnow (j : Instr) : j ∈ s.dueAtOnce ↔ now j := by
    simp only [State.dueAtOnce, State.dueCounts, List.mem_append, mem_flatMap_allPorts, mem_dueIf, railLostDone_iff,
      overvoltageDone_iff, sagDone_iff, overdrawDone_iff, hasSettled_iff, suspended_eq_false_iff, takable_isSome_iff,
      Option.mem_toList, Option.map_eq_some_iff, takable_eq_some_iff, now]
    grind
  have hexpired (j : Instr) : j ∈ s.dueTimers ↔ expired j := by
    simp only [State.dueTimers, State.duePort, List.mem_append, mem_flatMap_allPorts, mem_dueIf, riseExpired_iff,
      fallExpired_iff, detachExpired_iff, probeExpired_iff, coolOffExpired_iff, answerExpired_iff, resendExpired_iff,
      readyExpired_iff, settleExpired_iff, descentExpired_iff, reached_iff, hasRun_map_iff, breakExpired_iff,
      recoveryExpired_iff, gapExpired_iff, silenceExpired_iff, or_assoc]
    rfl
  simp only [mem_due, hnow, hexpired]

end Sys2Proof.Machine
end

section
/-! PROOFS. What each command may change: one list of parts for each row, the lists of its operations together. -/

namespace Sys2Proof.Machine

open Sys2Proof

/-- What an event on a port, on a talk line or of the meter may change: anything but the Path Sequencer's own state, the
settings that have commands of their own, the clock, the link's buffers and the Supervisor. -/
def outsideParts : List Part := everyNotice ++ supplyParts ++ meterParts

/-- What an event of the sequencer may change as well. -/
def eventParts : List Part := .lastPlan :: (everyPort .rail ++ outsideParts ++ sequencerParts)

theorem outside_event_sub : outsideParts ⊆ eventParts := by
  intro x hx; simp [eventParts, hx]

theorem sequencer_event_sub : sequencerParts ⊆ eventParts := by
  intro x hx; simp [eventParts, hx]

theorem meter_outside_sub : meterParts ⊆ outsideParts := by
  intro x hx; simp [outsideParts, hx]

theorem supply_outside_sub : supplyParts ⊆ outsideParts := by
  intro x hx; simp [outsideParts, hx]

theorem place_outside_sub (p : Port) : placeParts p ⊆ outsideParts :=
  fun _ h => supply_outside_sub (place_supply_sub p h)

theorem notice_outside (f : NoticeFlag) : Part.notice f ∈ outsideParts := by simp [outsideParts, mem_everyNotice]

theorem line_outside_sub (p : Port) : lineParts p ⊆ outsideParts := by
  have hplace := place_outside_sub p
  simp only [placeParts, List.cons_subset, List.nil_subset, and_true] at hplace
  simp [lineParts, hplace, notice_outside]

theorem result_outside_sub (p : Port) : resultParts p ⊆ outsideParts :=
  fun _ h => meter_outside_sub (result_meter_sub p h)

theorem book_outside_sub (p : Port) : bookParts p ⊆ outsideParts := fun x h => result_outside_sub p (by
  simp only [bookParts, resultParts, List.mem_cons, List.not_mem_nil, or_false] at h ⊢; tauto)

/-- What each command may change; a power-on reset is not described. -/
def commandParts : Instr → List Part
  | .powerOnReset => []
  | .resetEnd _ _ _ => [.reset, .supervisor, .budget, .policy, .uplink] ++ meterParts
  | .downlinkFrameStored _ | .byteGapTimeout => byteParts
  | .uholdChange _ | .uplinkFrameEnd => [.uplink]
  | .unknownCommand | .identify | .readBook | .readContract | .readPartner | .readLimit | .readSupply | .readMeter
  | .readPolicy => [.receive, .uplink]
  | .readPort => .receive :: .uplink :: everyPort .framer
  | .measure => .receive :: .uplink :: meterParts
  | .openPolicy | .writeRule | .writeHeads | .writeRating | .writeParams => [.receive, .uplink, .policy]
  | .applyPolicy | .setPlatform => .receive :: .uplink :: imageParts
  | .barPort => .receive :: .uplink :: (everyPort .monitor ++ everyPort .demands)
  | .setFrameClass => [.receive, .uplink, .frameClass]
  | .releaseCapture => .receive :: .uplink :: (everyPort .framer ++ everyNotice)
  | .takeNotice => .receive :: .uplink :: everyNotice
  | .relayDown => .receive :: .uplink :: (everyPort .framer ++ everyPort .monitor)
  | .restart =>
    .receive :: .uplink :: ([.receive, .uplink, .frameClass, .policy, .supervisor] ++ everyNotice ++ everyPort .framer)
  | .silenceTimerExpiry => .notice .silence :: imageParts
  | .presenceRise _ | .presenceFall _ | .debounceRiseExpiry _ | .sensingFallExpiry _ | .probeTimerExpiry _
  | .coolOffExpiry _ | .badFrame _ _ _ | .announce _ _ | .offer _ _ | .demand _ _ | .retire _ _
  | .partOnlyKindFrame _ _ _ | .talkFrameSent _ | .resendTimerExpiry _ | .referenceConversionEnd _
  | .portConversionEnd _ | .conversionOpen => outsideParts
  | .otherKindFrame _ _ _ => .uplink :: outsideParts
  | _ => eventParts

theorem running_changes {f : State → State} {l : List Part} {s t : State} (h : running f s = .next t)
    (hf : ∀ s, ChangesOnly l s (f s)) : ChangesOnly l s t := by
  unfold running at h
  cases h
  exact .ite (.refl _ _) (hf s)

theorem running_takeCommand_changes {wanted : LinkFrame → Bool} {carry : LinkFrame → State → State × ReplyBody}
    {l : List Part} {s t : State} (h : running (takeCommand wanted carry) s = .next t)
    (hc : ∀ f s, ChangesOnly l s (carry f s).1) : ChangesOnly (.receive :: .uplink :: l) s t :=
  running_changes h (takeCommand_changes hc)

/-! ### The events of the ports, of the talk lines and of the meter -/

theorem enterProbing_changes (p : Port) (s : State) :
    ChangesOnly [.monitor p, .own p, .book p, .framer p, .demands p] s (enterProbing p s) := by
  unfold enterProbing
  refine .ite (.trans ?_ ((raiseDemand_changes _ _ _).mono (by simp))) ?_ <;>
  exact .then (.then (.then (modMonitor_changes _ _ _) (setOwn_changes _ _ _) (by simp) (by simp))
    (modBook_changes _ _ _) (l := [.monitor p, .own p, .book p, .framer p, .demands p]) (fun _ h => h) (by simp))
    (requestExchange_changes _ _ _) (fun _ h => h) (by simp [placeParts])

theorem probeExpiry_changes (p : Port) (s : State) : ChangesOnly outsideParts s (probeExpiry p s) := by
  have hmonitor : [Part.monitor p] ⊆ outsideParts := fun x h => place_outside_sub p (by simp_all [placeParts])
  unfold probeExpiry
  exact .ite (.then (modMonitor_changes _ _ _) (requestExchange_changes _ _ _) hmonitor (place_outside_sub p))
    (.then (modMonitor_changes _ _ _) (startMeasure_changes _ _ _) hmonitor meter_outside_sub)

theorem detachPort_changes (p : Port) (s : State) :
    ChangesOnly (sequencerParts ++ meterParts ++ [.notice (.partner p), .notice (.capture p)]) s (detachPort p s) := by
  have hseq : sequencerParts ⊆ sequencerParts ++ meterParts ++ [.notice (.partner p), .notice (.capture p)] := by
    intro x h; simp [h]
  have hmeter : meterParts ⊆ sequencerParts ++ meterParts ++ [.notice (.partner p), .notice (.capture p)] := by
    intro x h; simp [h]
  have hsupply := List.Subset.trans supply_seq_sub hseq
  unfold detachPort
  refine .trans (.trans (.trans ?_ ((clearNotice_changes _ _).mono (by simp)))
    ((serve_changes _).mono hsupply)) ((postPartner_changes _ _ _).mono (by simp))
  refine .trans (.trans (.trans ?_ ((modBook_changes _ _ _).mono (fun x h => hmeter (by simp_all [meterParts]))))
    ((abandonMeasure_changes _ _).mono hmeter)) ((measure_meter_changes _ _ _).mono hmeter)
  refine .trans (.trans ?_ ((setOwn_changes _ _ _).mono (fun x h => hsupply (by simp_all [supplyParts]))))
    ((setPool_changes _ _).mono (fun x h => hsupply (by simp_all [supplyParts])))
  refine .trans ?_ ((supplyDetach_changes _ _).mono hsupply)
  refine .trans (.trans ?_ ((demand_seq _ _ _).mono hseq)) ((abortIfInvolved_seq _ _ _).mono hseq)
  refine .trans (.trans ?_ ((clearContract_seq _ _).mono hseq)) ((drawMonitor_seq _ _ _).mono hseq)
  exact .then (modFramer_changes _ _ _) (monitor_seq _ _ _) (fun x h => hsupply (by simp_all [supplyParts])) hseq

theorem protocolError_outside (p : Port) (s : State) : ChangesOnly outsideParts s (protocolError p s) :=
  (protocolError_changes p s).mono (by simp [notice_outside])

theorem endProbe_outside (p : Port) (s : State) : ChangesOnly outsideParts s (endProbe p s) :=
  (endProbe_changes p s).mono (place_outside_sub p)

theorem setOwn_outside (p : Port) (r : Option PartnerRecord) (s : State) : ChangesOnly outsideParts s (s.setOwn p r) :=
  (setOwn_changes s p r).mono fun _ h => supply_outside_sub (by simp_all [supplyParts])

theorem monitor_outside (s : State) (p : Port) (f : Monitor → Monitor) :
    ChangesOnly outsideParts s (s.modMonitor p f) :=
  (modMonitor_changes s p f).mono fun x h => place_outside_sub p (by simp_all [placeParts])

theorem enterTalking_changes (p : Port) (a : AnnounceFields) (s : State) :
    ChangesOnly outsideParts s (enterTalking p a s) := by
  unfold enterTalking
  refine .trans ?_ ((postPartner_changes _ _ _).mono (by simp [notice_outside]))
  have hstart (u : State) : ChangesOnly outsideParts s
      (endProbe p ((s.setOwn p (some (a.record (s.ownRecord p)))).modMonitor p fun m =>
        { m with state := .talking, probeTimer := none })) :=
    .trans (.trans (setOwn_outside _ _ _) (monitor_outside _ _ _)) (endProbe_outside _ _)
  have hmeter : ChangesOnly outsideParts s (if (s.monitor.get p).state = .probing then
      endProbe p ((s.setOwn p (some (a.record (s.ownRecord p)))).modMonitor p
        fun m => { m with state := .talking, probeTimer := none })
      else abandonMeasure p (endProbe p ((s.setOwn p (some (a.record (s.ownRecord p)))).modMonitor p
        fun m => { m with state := .talking, probeTimer := none }))) :=
    .ite (hstart s) (.trans (hstart s) ((abandonMeasure_changes _ _).mono meter_outside_sub))
  exact .ite (.trans hmeter ((emptyBook_changes _ _).mono (book_outside_sub p))) hmeter

theorem reannounce_changes (p : Port) (a : AnnounceFields) (s : State) :
    ChangesOnly outsideParts s (reannounce p a s) := by
  have hpost (code : Byte) (t : State) : ChangesOnly outsideParts t (postPartner code p t) :=
    (postPartner_changes _ _ _).mono (by simp [notice_outside])
  have hbook (b : Bool) (t : State) : ChangesOnly outsideParts t (if b then emptyBook p t else t) :=
    .ite ((emptyBook_changes _ _).mono (book_outside_sub p)) (.refl _ _)
  have hfree (m n : Nat) (t : State) : ChangesOnly outsideParts t (if n < m then freeAbove p n t else t) :=
    .ite ((freeAbove_changes _ _ _).mono supply_outside_sub) (.refl _ _)
  unfold reannounce
  refine .ite (.trans ?_ (hpost _ _)) ?_ <;>
  exact .trans (.trans (setOwn_outside _ _ _) (hbook _ _)) (hfree _ _ _)

theorem takeAnnounce_changes (p : Port) (f : RawFrame) (s : State) :
    ChangesOnly outsideParts s (takeAnnounce p f s) := by
  unfold takeAnnounce
  exact .ite (protocolError_outside _ _) (.ite (reannounce_changes _ _ _) (enterTalking_changes _ _ _))

theorem takeOffer_changes (p : Port) (f : RawFrame) (s : State) : ChangesOnly outsideParts s (takeOffer p f s) := by
  unfold takeOffer
  refine .ite (protocolError_outside _ _) ?_
  split
  · exact protocolError_outside _ _
  · exact (replaceBook_changes _ _ _).mono (book_outside_sub p)

theorem testGrant_seq (p : Port) (t : PendingTerms) (g : GrantFields) (s : State) :
    ChangesOnly sequencerParts s (testGrant p t g s) := by
  have hstale : ChangesOnly sequencerParts s (staleClaim p true (place p .release s)) :=
    (place_seq _ _ _).trans (staleClaim_seq _ _ _)
  have hfail : ChangesOnly sequencerParts s (failClaim p .denied (place p .release s)) :=
    (place_seq _ _ _).trans (failClaim_seq _ _ _)
  unfold testGrant
  exact .ite hstale (.ite hstale (.ite hfail (.ite hfail ((contract_seq _ _ _).trans (drawMonitor_seq _ _ _)))))

theorem endExchange_seq (p : Port) (s : State) : ChangesOnly sequencerParts s (endExchange p s) :=
  (endExchange_changes p s).mono (place_seq_sub p)

theorem takeGrant_seq (p : Port) (f : RawFrame) (s : State) : ChangesOnly sequencerParts s (takeGrant p f s) := by
  unfold takeGrant
  refine .ite (.trans (endExchange_seq p s) ?_) (place_seq _ _ _)
  dsimp only
  split
  · exact testGrant_seq _ _ _ _
  · exact place_seq _ _ _

theorem takeDeny_seq (p : Port) (f : RawFrame) (s : State) : ChangesOnly sequencerParts s (takeDeny p f s) := by
  unfold takeDeny
  have hend := endExchange_seq p s
  exact .ite (.ite hend (.ite (hend.trans (staleClaim_seq _ _ _)) (hend.trans (failClaim_seq _ _ _)))) (.refl _ _)

theorem takeReady_seq (p : Port) (f : RawFrame) (s : State) : ChangesOnly sequencerParts s (takeReady p f s) := by
  unfold takeReady
  dsimp only
  split
  · exact .ite ((contract_seq _ _ _).trans (drawMonitor_seq _ _ _)) (.refl _ _)
  · exact .refl _ _

theorem noAnswer_seq (p : Port) (s : State) : ChangesOnly sequencerParts s (noAnswer p s) := by
  have hend := endExchange_seq p s
  unfold noAnswer
  split
  · exact .ite (hend.trans (failClaim_seq _ _ _)) hend
  · exact hend
  · exact .refl _ _

theorem takeHold_changes (p : Port) (s : State) : ChangesOnly eventParts s (takeHold p s) := by
  unfold takeHold
  exact .ite ((protocolError_outside _ _).mono outside_event_sub)
    (.ite ((holdExchange_changes p s).mono fun _ h => outside_event_sub (place_outside_sub p h))
      ((noAnswer_seq p s).mono sequencer_event_sub))

theorem forwardFrame_changes (p : Port) (kind : BitVec 6) (f : RawFrame) (s : State) :
    ChangesOnly (.uplink :: outsideParts) s (forwardFrame p kind f s) := by
  unfold forwardFrame
  exact .ite ((placeUplink_changes _ _).mono (by simp))
    ((answerHold_changes _ _ _).mono fun _ h => List.mem_cons_of_mem _ (place_outside_sub p h))

theorem captureFrame_changes (p : Port) (kind : BitVec 6) (f : RawFrame) (s : State) :
    ChangesOnly outsideParts s (captureFrame p kind f s) := by
  unfold captureFrame
  split
  · exact (answerHold_changes _ _ _).mono (place_outside_sub p)
  · exact .then (modFramer_changes _ _ _) (post_changes _ _ _ _)
      (fun x h => place_outside_sub p (by simp_all [placeParts])) (by simp [notice_outside])

theorem withRecord_outside {p : Port} {b : Nat} {go : State → State} {l : List Part} (hl : outsideParts ⊆ l)
    (hg : ∀ s, ChangesOnly l s (go s)) (s : State) : ChangesOnly l s (withRecord p b go s) := by
  have hline := line_outside_sub p
  simp only [lineParts, List.cons_subset, List.nil_subset, and_true] at hline
  have hpool : Part.pool ∈ outsideParts := supply_outside_sub (by simp [supplyParts])
  exact withRecord_changes hg (by simp [hl hline.1, hl hline.2.1, hl hline.2.2, hl hpool]) s

/-- A frame that a rule routes changes what its routing may, with the line's own view. -/
theorem received_parts {p : Port} {kind : BitVec 6} {f : RawFrame} {take : State → State} {l : List Part}
    (hl : outsideParts ⊆ l) (ht : ∀ s, ChangesOnly l s (take s)) (s : State) :
    ChangesOnly l s (receiveFrame p kind f take s) :=
  receiveFrame_changes ht (fun _ h => hl (line_outside_sub p h)) s

theorem routed_parts {p : Port} {kind : BitVec 6} {f : RawFrame} {route : State → State} {l : List Part}
    (hl : outsideParts ⊆ l) (hr : ∀ s, ChangesOnly l s (route s)) (s : State) :
    ChangesOnly l s (takeTalking p kind f route s) :=
  takeTalking_changes hr (fun _ h => hl (line_outside_sub p h)) s

theorem limit_seq_sub : [Part.limit] ⊆ sequencerParts := by simp [sequencerParts]

theorem probing_outside_sub (p : Port) :
    [.monitor p, .own p, .book p, .framer p, .demands p] ⊆ outsideParts := by
  have hline := line_outside_sub p
  simp only [lineParts, List.cons_subset, List.nil_subset, and_true] at hline
  have hbook := book_outside_sub p
  simp only [bookParts, List.cons_subset, List.nil_subset, and_true] at hbook
  have hown : Part.own p ∈ outsideParts := supply_outside_sub (by simp [supplyParts])
  simp [hline, hbook, hown]

theorem plan_event_sub : .lastPlan :: sequencerParts ⊆ eventParts :=
  List.cons_subset.mpr ⟨by simp [eventParts], sequencer_event_sub⟩

theorem detachPort_event (p : Port) (s : State) : ChangesOnly eventParts s (detachPort p s) :=
  (detachPort_changes p s).mono (List.append_subset.mpr
    ⟨List.append_subset.mpr ⟨sequencer_event_sub, fun _ h => outside_event_sub (meter_outside_sub h)⟩,
      by simp [outside_event_sub (notice_outside _)]⟩)

theorem examine_seq (p : Port) (mv ma : Nat) (s : State) : ChangesOnly sequencerParts s (examine p mv ma s) := by
  unfold examine
  exact .ite (.ite ((drawMonitor_seq _ _ _).trans ((modLimit_changes _ _).mono limit_seq_sub))
    (drawMonitor_seq _ _ _)) (.refl _ _)

theorem setRail_changes (p : Port) (r : RailReading) (s : State) :
    ChangesOnly [.rail p] s { s with rail := s.rail.set p r } := by
  intro part hpart
  cases part <;> simp_all [Part.same, Four.get_set]

theorem examine_rail (p : Port) (mv ma : Nat) (s : State) : (examine p mv ma s).rail = s.rail := by
  unfold examine
  dsimp only
  split_ifs <;> rfl

theorem railSample_changes (p : Port) (mv ma : Nat) (s : State) :
    ChangesOnly eventParts s { (examine p mv ma s).modContract p (fun c => c.sampled mv) with
      rail := s.rail.set p { mv := mv, ma := ma } } := by
  have hrail : ((examine p mv ma s).modContract p fun c => c.sampled mv).rail = s.rail := examine_rail p mv ma s
  rw [← hrail]
  exact (((examine_seq p mv ma s).trans (contract_seq _ _ _)).mono sequencer_event_sub).trans
    ((setRail_changes p { mv := mv, ma := ma } _).mono (l := [.rail p]) (by simp [eventParts]))

/-! ### The link's own commands -/

theorem resetEnd_changes (straps : BitVec 8) (presence : BitVec 4) (uhold : Bool) (s : State) :
    ChangesOnly ([.reset, .supervisor, .budget, .policy, .uplink] ++ meterParts) s
      (resetEnd straps presence uhold s) := by
  have hmeter : meterParts ⊆ [.reset, .supervisor, .budget, .policy, .uplink] ++ meterParts := by
    intro x h; simp [h]
  have hsense (l : List Port) (u : State) :
      ChangesOnly meterParts u (l.foldl (fun t p => sensePresence presence p t) u) :=
    .foldl (fun t p => (sensePresence_changes presence p t).mono (by simp [meterParts])) l u
  have hplatform : ChangesOnly ([.reset, .supervisor, .budget, .policy, .uplink] ++ meterParts) s
      (((s.modSupervisor fun _ => Supervisor.reset straps).modSupply fun u =>
        { u with budget := strapBudget straps }).modPolicy fun _ => PolicyStore.reset straps) := by
    intro part hpart
    cases part <;> simp_all [Part.same, State.modSupervisor, State.modSupply, State.modPolicy]
  refine (hplatform.trans (((queuePair_changes _).trans (takeChannel_changes _)).mono hmeter)).trans
    (((hsense allPorts _).mono hmeter).trans ?_)
  intro part hpart
  cases part <;> simp_all [Part.same, State.modLink, resetEnd]

theorem uholdChange_changes {high : Bool} (s : State) :
    ChangesOnly [.uplink] s (s.modLink fun l => ({ l with uhold := high }).look) := by
  obtain ⟨h1, h2, h3, h4, -⟩ := look_frame { s.link with uhold := high }
  exact modLink_uplink_changes ⟨h1, h2, h3, h4⟩

theorem uplinkFrameEnd_changes (s : State) :
    ChangesOnly [.uplink] s (s.modLink fun l =>
      match l.uplink with
      | some _ => ({ l with uplink := none }).look
      | none => l) := by
  obtain ⟨h1, h2, h3, h4, -⟩ := look_frame { s.link with uplink := none }
  refine modLink_uplink_changes ?_
  split
  · exact ⟨h1, h2, h3, h4⟩
  · exact ⟨rfl, rfl, rfl, rfl⟩

theorem measureChannel_changes (c : Channel) (s : State) : ChangesOnly meterParts s (measureChannel c s) := by
  have hreference (c : Channel) (f : Meter → Meter) :
      ChangesOnly meterParts s (takeChannel (addChannel c (s.modMeter f))) :=
    ((modMeter_changes f s).trans (addChannel_changes c _)).trans (takeChannel_changes _)
  cases c with
  | id p => exact startMeasure_changes p true s
  | refLo => exact hreference _ _
  | refHi => exact hreference _ _

theorem bar_changes (p : Port) (flag : Bool) (s : State) :
    ChangesOnly (everyPort .monitor ++ everyPort .demands) s (bar p flag s) := by
  unfold bar
  exact .ite (((modMonitor_changes s p _).mono (by simp)).trans ((raiseDemand_changes _ _ _).mono (by simp)))
    ((modMonitor_changes s p _).mono (by simp))

theorem setFrameClass_changes (kind : Nat) (c : FrameClass) (s : State) :
    ChangesOnly [.frameClass] s (setFrameClass kind c s) := by
  intro part hpart
  cases part <;> simp_all [Part.same, setFrameClass, State.modLink]

theorem carryRelay_changes (p : Port) (f : LinkFrame) (s : State) :
    ChangesOnly (everyPort .framer ++ everyPort .monitor) s (carryRelay p f s).1 := by
  unfold carryRelay
  have href : ChangesOnly (everyPort .framer ++ everyPort .monitor) s s := .refl _ _
  split_ifs
  · exact href
  · exact href
  · exact href
  · exact href
  · exact .then (modFramer_changes s p _) (transmit_changes p _) (by simp) (by simp [placeParts])

theorem linkRestart_changes (s : State) :
    ChangesOnly ([.receive, .uplink, .frameClass, .policy, .supervisor] ++ everyNotice ++ everyPort .framer) s
      (linkRestart s) := by
  intro part hpart
  cases part <;>
  simp_all [Part.same, linkRestart, State.modLink, State.modPolicy, State.modSupervisor, mem_everyNotice]

theorem silenceExpiry_changes (s : State) : ChangesOnly (.notice .silence :: imageParts) s (silenceExpiry s) := by
  unfold silenceExpiry
  split
  · exact .then (post_changes _ _ _ _) (supervisor_image _ _) (by simp) (fun x h => by simp [h])
  · exact (autonomousEntry_changes s).mono (fun x h => by simp [h])

theorem execCoolOffExpiry_changes {p : Port} {s t : State} (h : execCoolOffExpiry p s = .next t) :
    ChangesOnly outsideParts s t :=
  running_changes h fun s => .ite ((monitor_outside s p _).trans
    ((raiseDemand_changes _ _ _).mono (by simp [outsideParts, meterParts]))) (.refl _ _)

theorem execAnnounce_changes {p : Port} {f : RawFrame} {s t : State} (h : execAnnounce p f s = .next t) :
    ChangesOnly outsideParts s t :=
  running_changes h (received_parts (List.Subset.refl _) fun s =>
    .ite (routed_parts (List.Subset.refl _) (fun s => .ite (takeAnnounce_changes p f s) (protocolError_outside p s)) s)
      (.ite (takeAnnounce_changes p f s) (protocolError_outside p s)))

theorem execOffer_changes {p : Port} {f : RawFrame} {s t : State} (h : execOffer p f s = .next t) :
    ChangesOnly outsideParts s t :=
  running_changes h (received_parts (List.Subset.refl _) (routed_parts (List.Subset.refl _) fun s =>
    .ite (takeOffer_changes p f s) (protocolError_outside p s)))

theorem execGrant_changes {p : Port} {f : RawFrame} {s t : State} (h : execGrant p f s = .next t) :
    ChangesOnly eventParts s t :=
  running_changes h (received_parts outside_event_sub (routed_parts outside_event_sub fun s =>
    .ite ((takeGrant_seq p f s).mono sequencer_event_sub) ((protocolError_outside p s).mono outside_event_sub)))

theorem execDeny_changes {p : Port} {f : RawFrame} {s t : State} (h : execDeny p f s = .next t) :
    ChangesOnly eventParts s t :=
  running_changes h (received_parts outside_event_sub (routed_parts outside_event_sub fun s =>
    .ite ((takeDeny_seq p f s).mono sequencer_event_sub) ((protocolError_outside p s).mono outside_event_sub)))

theorem execReady_changes {p : Port} {f : RawFrame} {s t : State} (h : execReady p f s = .next t) :
    ChangesOnly eventParts s t :=
  running_changes h (received_parts outside_event_sub (routed_parts outside_event_sub fun s =>
    .ite ((takeReady_seq p f s).mono sequencer_event_sub) ((protocolError_outside p s).mono outside_event_sub)))

theorem execHold_changes {p : Port} {f : RawFrame} {s t : State} (h : execHold p f s = .next t) :
    ChangesOnly eventParts s t :=
  running_changes h (received_parts outside_event_sub fun s =>
    .ite (routed_parts outside_event_sub (fun s => .ite (takeHold_changes p s) (.refl _ s)) s)
      (.ite (takeHold_changes p s) ((protocolError_outside p s).mono outside_event_sub)))

theorem execDemand_changes {p : Port} {f : RawFrame} {s t : State} (h : execDemand p f s = .next t) :
    ChangesOnly outsideParts s t :=
  running_changes h (received_parts (List.Subset.refl _) (routed_parts (List.Subset.refl _) fun s =>
    .ite ((supplyDemand_changes _ _ _ _ s).mono supply_outside_sub)
      (withRecord_outside (List.Subset.refl _) (fun s => (supplyDemand_changes _ _ _ _ s).mono supply_outside_sub) s)))

theorem execRetire_changes {p : Port} {f : RawFrame} {s t : State} (h : execRetire p f s = .next t) :
    ChangesOnly outsideParts s t :=
  running_changes h (received_parts (List.Subset.refl _) (routed_parts (List.Subset.refl _) fun s =>
    .ite ((supplyRetire_changes _ _ s).mono supply_outside_sub) (.refl _ s)))

theorem execOtherKindFrame_changes {p : Port} {kind : BitVec 6} {f : RawFrame} {s t : State}
    (h : execOtherKindFrame p kind f s = .next t) :
    ChangesOnly (.uplink :: outsideParts) s t := by
  have hsub : outsideParts ⊆ .uplink :: outsideParts := List.subset_cons_self _ _
  have hcapture (u : State) := (captureFrame_changes p kind f u).mono hsub
  refine running_changes h fun s => .ite (.refl _ _) (received_parts hsub (routed_parts hsub fun s => ?_) s)
  dsimp only
  split
  · exact .refl _ s
  · exact .ite (forwardFrame_changes p kind f s) (withRecord_outside hsub (forwardFrame_changes p kind f) s)
  · exact .ite (hcapture s) (withRecord_outside hsub hcapture s)

theorem execReferenceConversionEnd_changes {period : BitVec 16} {s t : State}
    (h : execReferenceConversionEnd period s = .next t) :
    ChangesOnly meterParts s t := by
  refine running_changes h fun s => ?_
  split
  · exact .ite (endConversion_changes _ _ _) (.refl _ _)
  · exact .ite (endConversion_changes _ _ _) (.refl _ _)
  · exact .refl _ _
  · exact .refl _ _

theorem execPortConversionEnd_changes {period : BitVec 16} {s t : State}
    (h : execPortConversionEnd period s = .next t) :
    ChangesOnly meterParts s t := by
  refine running_changes h fun s => ?_
  split
  · exact .ite (endConversion_changes _ _ _) (.refl _ _)
  · exact .refl _ _
  · exact .refl _ _
  · exact .refl _ _

theorem execConversionOpen_changes {s t : State} (h : execConversionOpen s = .next t) :
    ChangesOnly meterParts s t := by
  refine running_changes h fun s => ?_
  split
  · exact .ite (endConversion_changes _ _ _) (.refl _ _)
  · exact .refl _ _

/-! ### The rows that take a frame of the link (R172) -/

/-- A reply that turns its command away: a refusal, BUSY or INVALID. -/
def ReplyBody.turnsAway (b : ReplyBody) : Prop := (∃ r, b = .refused r) ∨ b = .busy ∨ ∃ d, b = .invalid d

/-- A command as it is carried out: what it may change, and that one turned away changes nothing. -/
def Carried (l : List Part) (s : State) (r : State × ReplyBody) : Prop :=
  ChangesOnly l s r.1 ∧ (r.2.turnsAway → r.1 = s)

section
variable {l : List Part} {s t : State} {f : LinkFrame}

theorem Carried.unchanged (s : State) (b : ReplyBody) : Carried l s (s, b) := ⟨.refl _ _, fun _ => rfl⟩

theorem Carried.done {b : ReplyBody} (h : ChangesOnly l s t) (hb : ¬b.turnsAway) : Carried l s (t, b) :=
  ⟨h, fun h => absurd h hb⟩

theorem ok_not_turnsAway : ¬ReplyBody.ok.turnsAway := by simp [ReplyBody.turnsAway]

theorem applied_not_turnsAway : ¬ReplyBody.applied.turnsAway := by simp [ReplyBody.turnsAway]

theorem data_not_turnsAway (d : ReplyData) : ¬(ReplyBody.data d).turnsAway := by simp [ReplyBody.turnsAway]

theorem Carried.ite {c : Prop} [Decidable c] {r q : State × ReplyBody} (h : Carried l s r) (g : Carried l s q) :
    Carried l s (if c then r else q) := by split <;> assumption

theorem checkLength_carried {n : Nat} {carry : LinkFrame → State → State × ReplyBody} (hc : Carried l s (carry f s)) :
    Carried l s (checkLength n carry f s) := .ite hc (.unchanged s _)

theorem checkPort_carried {carry : Port → LinkFrame → State → State × ReplyBody}
    (hc : ∀ p, Carried l s (carry p f s)) : Carried l s (checkPort carry f s) := by
  unfold checkPort; split
  · exact hc _
  · exact .unchanged s _

theorem writePending_carried {carry : LinkFrame → State → State × ReplyBody} (hc : Carried l s (carry f s)) :
    Carried l s (writePending carry f s) := .ite hc (.unchanged s _)

theorem readReply_carried (r : Except RefusalReason ReplyData) : Carried l s (readReply r s) := by
  cases r <;> exact .unchanged s _

end

/-- What a row of the link may change as its command is carried out. -/
def carryParts (c : Instr) : List Part := (commandParts c).drop 2

/-- The row takes the head frame, of which this is the test, and carries it out so. -/
structure LinkRow (c : Instr) (wanted : LinkFrame → Bool) (carry : LinkFrame → State → State × ReplyBody) : Prop where
  parts : commandParts c = .receive :: .uplink :: carryParts c
  runs : ∀ s, exec c s = running (takeCommand wanted carry) s
  row : ∀ f, wanted f = true → rowOfFrame f = c
  wants : ∀ f, f.kind = linkCommand ∨ f.kind = linkRelayDown → rowOfFrame f = c → wanted f = true
  carried : ∀ f s, Carried (carryParts c) s (carry f s)
  coded : ∀ k ∈ commandCodes, rowOfCode k = c → ∃ inner, carry = checkLength (requiredLength k) inner
    ∧ (k ∈ portCommands → ∃ atPort, inner = checkPort atPort)

theorem rowOfFrame_of_code {f : LinkFrame} {k : Nat} (h : f.code = some k) : rowOfFrame f = rowOfCode k := by
  have hkind : f.kind = linkCommand := by
    by_contra hkind
    simp [LinkFrame.code, hkind] at h
  have hrelay : f.isRelayDown = false := by simp [LinkFrame.isRelayDown, hkind]; decide
  simp [rowOfFrame, hrelay, h]

theorem rowOfCode_injective {j k : Nat} (hj : j ∈ commandCodes) (hk : k ∈ commandCodes)
    (h : rowOfCode j = rowOfCode k) : j = k := by
  have hall : ∀ j ∈ commandCodes, ∀ k ∈ commandCodes, rowOfCode j = rowOfCode k → j = k := by decide
  exact hall j hj k hk h

theorem rowOfCode_unknown {k : Nat} (hk : k ∉ commandCodes) : rowOfCode k = .unknownCommand := by
  unfold rowOfCode
  split <;> first | rfl | exact absurd (by decide) hk

theorem rowOfCode_known {k : Nat} (hk : k ∈ commandCodes) :
    rowOfCode k ≠ .unknownCommand ∧ rowOfCode k ≠ .relayDown := by
  have hall : ∀ k ∈ commandCodes, rowOfCode k ≠ .unknownCommand ∧ rowOfCode k ≠ .relayDown := by decide
  exact hall k hk

/-- The frames of a row with a code of the command table are the COMMANDs of that code. -/
theorem rowOfFrame_eq_rowOfCode {f : LinkFrame} {k : Nat} (hk : k ∈ commandCodes) (h : rowOfFrame f = rowOfCode k) :
    f.code = some k := by
  obtain ⟨hunknown, hrelay⟩ := rowOfCode_known hk
  cases hdown : f.isRelayDown with
  | true => exact absurd (by simpa [rowOfFrame, hdown] using h.symm) hrelay
  | false =>
    cases hcode : f.code with
    | none => exact absurd (by simpa [rowOfFrame, hdown, hcode] using h.symm) hunknown
    | some j =>
      rw [rowOfFrame_of_code hcode] at h
      by_cases hj : j ∈ commandCodes
      · rw [rowOfCode_injective hj hk h]
      · exact absurd (h.symm.trans (rowOfCode_unknown hj)) hunknown

theorem LinkRow.of_code {c : Instr} (k : Nat) {inner : LinkFrame → State → State × ReplyBody}
    (hparts : commandParts c = .receive :: .uplink :: carryParts c)
    (hruns : ∀ s, exec c s = running (takeCommand (wantsCode k) (checkLength (requiredLength k) inner)) s)
    (hk : k ∈ commandCodes) (hrow : rowOfCode k = c) (hcarried : ∀ f s, Carried (carryParts c) s (inner f s))
    (hport : k ∈ portCommands → ∃ atPort, inner = checkPort atPort) :
    LinkRow c (wantsCode k) (checkLength (requiredLength k) inner) where
  parts := hparts
  runs := hruns
  row := fun f hf => (rowOfFrame_of_code (by simpa [wantsCode] using hf)).trans hrow
  wants := fun f _ hf => by simpa [wantsCode] using rowOfFrame_eq_rowOfCode hk (hf.trans hrow.symm)
  carried := fun f s => checkLength_carried (hcarried f s)
  coded := fun j hj hj' => by
    obtain rfl := rowOfCode_injective hj hk (hj'.trans hrow.symm)
    exact ⟨inner, rfl, hport⟩

theorem unknownCommand_linkRow :
    LinkRow .unknownCommand LinkFrame.isUnknown fun _ s => refuse .unknown s where
  parts := rfl
  runs := fun _ => rfl
  row := fun f hf => by
    obtain ⟨hkind, hcode⟩ : f.kind = linkCommand ∧ _ := by simpa [LinkFrame.isUnknown] using hf
    cases hc : f.code with
    | none =>
      have hrelay : f.isRelayDown = false := by simp [LinkFrame.isRelayDown, hkind]; decide
      simp [rowOfFrame, hrelay, hc]
    | some k =>
      rw [rowOfFrame_of_code hc]
      exact rowOfCode_unknown (by simpa [hc] using hcode)
  wants := fun f hkind hf => by
    have hcommand : f.kind = linkCommand := hkind.resolve_right fun hrelay => by
      simp [rowOfFrame, LinkFrame.isRelayDown, hrelay] at hf
    cases hc : f.code with
    | none => simp [LinkFrame.isUnknown, hcommand, hc]
    | some k =>
      have hk : k ∉ commandCodes := fun hk => (rowOfCode_known hk).1 ((rowOfFrame_of_code hc).symm.trans hf)
      simp [LinkFrame.isUnknown, hcommand, hc, hk]
  carried := fun _ s => .unchanged s _
  coded := fun k hk h => absurd h (rowOfCode_known hk).1

theorem relayDown_linkRow :
    LinkRow .relayDown LinkFrame.isRelayDown fun f s =>
      if f.payload.length < 2 ∨ 30 < f.payload.length then refuse .length s else checkPort carryRelay f s where
  parts := rfl
  runs := fun _ => rfl
  row := fun f hf => by simp [rowOfFrame, hf]
  wants := fun f _ hf => by
    by_contra hdown
    cases hc : f.code with
    | none => simp [rowOfFrame, hdown, hc] at hf
    | some k =>
      rw [rowOfFrame_of_code hc] at hf
      by_cases hk : k ∈ commandCodes
      · exact (rowOfCode_known hk).2 hf
      · rw [rowOfCode_unknown hk] at hf; cases hf
  carried := fun f s => .ite (.unchanged s _) (checkPort_carried fun p => by
    refine ⟨carryRelay_changes p f s, fun h => ?_⟩
    unfold carryRelay at h ⊢
    split_ifs at h ⊢
    · rfl
    · rfl
    · rfl
    · rfl
    · exact absurd h ok_not_turnsAway)
  coded := fun k hk h => absurd h (rowOfCode_known hk).2

theorem identify_linkRow : ∃ wanted carry, LinkRow .identify wanted carry :=
  ⟨_, _, .of_code 0x01 rfl (fun _ => rfl) (by decide) rfl (fun f s => .unchanged s _) fun h => absurd h (by decide)⟩

theorem readPort_linkRow : ∃ wanted carry, LinkRow .readPort wanted carry :=
  ⟨_, _, .of_code 0x02 rfl (fun _ => rfl) (by decide) rfl (fun f s => checkPort_carried fun p =>
    .done ((modFramer_changes s p _).mono (show _ ⊆ everyPort Part.framer by simp)) (data_not_turnsAway _)) fun _ => ⟨_, rfl⟩⟩

theorem readBook_linkRow : ∃ wanted carry, LinkRow .readBook wanted carry :=
  ⟨_, _, .of_code 0x03 rfl (fun _ => rfl) (by decide) rfl (fun f s => checkPort_carried fun p =>
    readReply_carried _) fun _ => ⟨_, rfl⟩⟩

theorem readContract_linkRow : ∃ wanted carry, LinkRow .readContract wanted carry :=
  ⟨_, _, .of_code 0x04 rfl (fun _ => rfl) (by decide) rfl (fun f s => checkPort_carried fun p =>
    readReply_carried _) fun _ => ⟨_, rfl⟩⟩

theorem readPartner_linkRow : ∃ wanted carry, LinkRow .readPartner wanted carry :=
  ⟨_, _, .of_code 0x05 rfl (fun _ => rfl) (by decide) rfl (fun f s => checkPort_carried fun p =>
    readReply_carried _) fun _ => ⟨_, rfl⟩⟩

theorem readLimit_linkRow : ∃ wanted carry, LinkRow .readLimit wanted carry :=
  ⟨_, _, .of_code 0x06 rfl (fun _ => rfl) (by decide) rfl (fun f s => readReply_carried _)
    fun h => absurd h (by decide)⟩

theorem readSupply_linkRow : ∃ wanted carry, LinkRow .readSupply wanted carry :=
  ⟨_, _, .of_code 0x07 rfl (fun _ => rfl) (by decide) rfl (fun f s => readReply_carried _)
    fun h => absurd h (by decide)⟩

theorem readMeter_linkRow : ∃ wanted carry, LinkRow .readMeter wanted carry :=
  ⟨_, _, .of_code 0x08 rfl (fun _ => rfl) (by decide) rfl (fun f s => readReply_carried _)
    fun h => absurd h (by decide)⟩

theorem readPolicy_linkRow : ∃ wanted carry, LinkRow .readPolicy wanted carry :=
  ⟨_, _, .of_code 0x15 rfl (fun _ => rfl) (by decide) rfl (fun f s => .unchanged s _) fun h => absurd h (by decide)⟩

theorem measure_linkRow : ∃ wanted carry, LinkRow .measure wanted carry := by
  refine ⟨_, _, .of_code 0x09 rfl (fun _ => rfl) (by decide) rfl (fun f s => ?_) fun h => absurd h (by decide)⟩
  split
  · exact .done (measureChannel_changes _ s) ok_not_turnsAway
  · exact .unchanged s _

theorem openPolicy_linkRow : ∃ wanted carry, LinkRow .openPolicy wanted carry :=
  ⟨_, _, .of_code 0x10 rfl (fun _ => rfl) (by decide) rfl (fun f s => .done (modPolicy_changes s _) ok_not_turnsAway)
    fun h => absurd h (by decide)⟩

theorem writeRule_linkRow : ∃ wanted carry, LinkRow .writeRule wanted carry := by
  refine ⟨_, _, .of_code 0x11 rfl (fun _ => rfl) (by decide) rfl (fun f s => writePending_carried ?_)
    fun h => absurd h (by decide)⟩
  split
  · exact .done (modPolicy_changes s _) ok_not_turnsAway
  · exact .unchanged s _

theorem writeHeads_linkRow : ∃ wanted carry, LinkRow .writeHeads wanted carry :=
  ⟨_, _, .of_code 0x12 rfl (fun _ => rfl) (by decide) rfl (fun f s => writePending_carried
    (.done (modPolicy_changes s _) ok_not_turnsAway)) fun h => absurd h (by decide)⟩

theorem writeRating_linkRow : ∃ wanted carry, LinkRow .writeRating wanted carry := by
  refine ⟨_, _, .of_code 0x13 rfl (fun _ => rfl) (by decide) rfl (fun f s => writePending_carried ?_)
    fun h => absurd h (by decide)⟩
  split
  · exact .done (modPolicy_changes s _) ok_not_turnsAway
  · exact .unchanged s _

theorem writeParams_linkRow : ∃ wanted carry, LinkRow .writeParams wanted carry := by
  refine ⟨_, _, .of_code 0x14 rfl (fun _ => rfl) (by decide) rfl (fun f s => writePending_carried ?_)
    fun h => absurd h (by decide)⟩
  split
  · exact .done (modPolicy_changes s _) ok_not_turnsAway
  · exact .unchanged s _

theorem applyPolicy_linkRow : ∃ wanted carry, LinkRow .applyPolicy wanted carry := by
  refine ⟨_, _, .of_code 0x16 rfl (fun _ => rfl) (by decide) rfl (fun f s => writePending_carried ?_)
    fun h => absurd h (by decide)⟩
  unfold applyPending
  split
  · exact .unchanged s _
  · exact .done (applySuccess_changes s) applied_not_turnsAway

theorem setPlatform_linkRow : ∃ wanted carry, LinkRow .setPlatform wanted carry :=
  ⟨_, _, .of_code 0x20 rfl (fun _ => rfl) (by decide) rfl (fun f s =>
    .ite (.done (takePlatform_changes _ s) ok_not_turnsAway) (.unchanged s _)) fun h => absurd h (by decide)⟩

theorem barPort_linkRow : ∃ wanted carry, LinkRow .barPort wanted carry :=
  ⟨_, _, .of_code 0x21 rfl (fun _ => rfl) (by decide) rfl (fun f s => checkPort_carried fun p =>
    .ite (.unchanged s _) (.done (bar_changes p _ s) ok_not_turnsAway)) fun _ => ⟨_, rfl⟩⟩

theorem setFrameClass_linkRow : ∃ wanted carry, LinkRow .setFrameClass wanted carry := by
  refine ⟨_, _, .of_code 0x22 rfl (fun _ => rfl) (by decide) rfl (fun f s => .ite (.unchanged s _) ?_)
    fun h => absurd h (by decide)⟩
  split
  · exact .done (setFrameClass_changes _ _ s) ok_not_turnsAway
  · exact .unchanged s _

theorem releaseCapture_linkRow : ∃ wanted carry, LinkRow .releaseCapture wanted carry := by
  refine ⟨_, _, .of_code 0x23 rfl (fun _ => rfl) (by decide) rfl (fun f s => checkPort_carried fun p => ?_)
    fun _ => ⟨_, rfl⟩⟩
  split
  · exact .done (l := everyPort .framer ++ everyNotice) (.then (modFramer_changes s p _) (clearNotice_changes _ _)
      (by simp) (by simp [mem_everyNotice])) (data_not_turnsAway _)
  · exact .unchanged s _

theorem takeNotice_linkRow : ∃ wanted carry, LinkRow .takeNotice wanted carry := by
  refine ⟨_, _, .of_code 0x24 rfl (fun _ => rfl) (by decide) rfl (fun f s => ?_) fun h => absurd h (by decide)⟩
  split
  · exact .done ((clearNotice_changes _ _).mono (show _ ⊆ everyNotice by simp [mem_everyNotice])) (data_not_turnsAway _)
  · exact .unchanged s _

theorem restart_linkRow : ∃ wanted carry, LinkRow .restart wanted carry :=
  ⟨_, _, .of_code 0x3F rfl (fun _ => rfl) (by decide) rfl (fun f s => .done (linkRestart_changes s) ok_not_turnsAway)
    fun h => absurd h (by decide)⟩

/-- The rows that take a frame of the link. -/
def takesFrame : Instr → Bool
  | .unknownCommand | .identify | .readPort | .readBook | .readContract | .readPartner | .readLimit | .readSupply
  | .readMeter | .measure | .openPolicy | .writeRule | .writeHeads | .writeRating | .writeParams | .readPolicy
  | .applyPolicy | .setPlatform | .barPort | .setFrameClass | .releaseCapture | .takeNotice | .relayDown
  | .restart => true
  | _ => false

theorem linkRow_of_takesFrame {c : Instr} (hc : takesFrame c = true) : ∃ wanted carry, LinkRow c wanted carry := by
  cases c with
  | unknownCommand => exact ⟨_, _, unknownCommand_linkRow⟩
  | relayDown => exact ⟨_, _, relayDown_linkRow⟩
  | identify => exact identify_linkRow
  | readPort => exact readPort_linkRow
  | readBook => exact readBook_linkRow
  | readContract => exact readContract_linkRow
  | readPartner => exact readPartner_linkRow
  | readLimit => exact readLimit_linkRow
  | readSupply => exact readSupply_linkRow
  | readMeter => exact readMeter_linkRow
  | readPolicy => exact readPolicy_linkRow
  | measure => exact measure_linkRow
  | openPolicy => exact openPolicy_linkRow
  | writeRule => exact writeRule_linkRow
  | writeHeads => exact writeHeads_linkRow
  | writeRating => exact writeRating_linkRow
  | writeParams => exact writeParams_linkRow
  | applyPolicy => exact applyPolicy_linkRow
  | setPlatform => exact setPlatform_linkRow
  | barPort => exact barPort_linkRow
  | setFrameClass => exact setFrameClass_linkRow
  | releaseCapture => exact releaseCapture_linkRow
  | takeNotice => exact takeNotice_linkRow
  | restart => exact restart_linkRow
  | _ => cases hc

theorem LinkRow.changes {c : Instr} {wanted : LinkFrame → Bool} {carry : LinkFrame → State → State × ReplyBody}
    (hrow : LinkRow c wanted carry) {s t : State} (h : exec c s = .next t) : ChangesOnly (commandParts c) s t := by
  rw [hrow.runs] at h
  rw [hrow.parts]
  exact running_takeCommand_changes h fun f s => (hrow.carried f s).1

/-- What each command may change. -/
theorem exec_changes {c : Instr} {s t : State} (h : exec c s = .next t) (hc : c ≠ .powerOnReset) :
    ChangesOnly (commandParts c) s t := by
  have hseq {u v : State} (h : ChangesOnly sequencerParts u v) : ChangesOnly eventParts u v :=
    h.mono sequencer_event_sub
  have hrefl (l : List Part) (u : State) : ChangesOnly l u u := .refl l u
  have hpost {u v : State} {f : NoticeFlag} {code : Byte} {sn : BitVec 32} (h : ChangesOnly sequencerParts u v) :
      ChangesOnly eventParts u (post f code sn v) :=
    (h.mono sequencer_event_sub).trans ((post_changes _ _ _ _).mono (by simp [outside_event_sub (notice_outside _)]))
  have hsub : outsideParts ⊆ outsideParts := fun _ h => h
  cases hrow : takesFrame c with
  | true =>
    obtain ⟨_, _, hrow⟩ := linkRow_of_takesFrame hrow
    exact hrow.changes h
  | false =>
  cases c with
  | powerOnReset => exact absurd rfl hc
  | resetEnd straps presence uhold =>
    change Host.Outcome.next (if s.inReset then resetEnd straps presence uhold s else s) = .next t at h
    cases h
    exact .ite (resetEnd_changes straps presence uhold s) (hrefl _ _)
  | presenceRise p => exact running_changes (id h : execPresenceRise p s = .next t) fun s => monitor_outside s p _
  | presenceFall p => exact running_changes (id h : execPresenceFall p s = .next t) fun s => monitor_outside s p _
  | debounceRiseExpiry p =>
    exact running_changes (id h : execDebounceRiseExpiry p s = .next t) fun s =>
      .ite ((enterProbing_changes p s).mono (probing_outside_sub p)) (hrefl _ _)
  | sensingFallExpiry p =>
    exact running_changes (id h : execSensingFallExpiry p s = .next t) fun s =>
      .ite (monitor_outside s p _) (hrefl _ _)
  | detach p =>
    exact running_changes (id h : execDetach p s = .next t) fun s => .ite (detachPort_event p s) (hrefl _ _)
  | probeTimerExpiry p =>
    exact running_changes (id h : execProbeTimerExpiry p s = .next t) fun s =>
      .ite (probeExpiry_changes p s) (hrefl _ _)
  | coolOffExpiry p => exact execCoolOffExpiry_changes h
  | badFrame p kind f =>
    exact running_changes (id h : execBadFrame p kind f s = .next t) fun s =>
      .ite (hrefl _ _) (received_parts hsub (hrefl _) s)
  | announce p f => exact execAnnounce_changes h
  | offer p f => exact execOffer_changes h
  | grant p f => exact execGrant_changes h
  | deny p f => exact execDeny_changes h
  | ready p f => exact execReady_changes h
  | hold p f => exact execHold_changes h
  | demand p f => exact execDemand_changes h
  | retire p f => exact execRetire_changes h
  | otherKindFrame p kind f => exact execOtherKindFrame_changes h
  | talkFrameSent p =>
    exact running_changes (id h : execTalkFrameSent p s = .next t) fun s =>
      (frameSent_changes p s).mono (place_outside_sub p)
  | answerTimerExpiry p =>
    exact running_changes (id h : execAnswerTimerExpiry p s = .next t) fun s =>
      .ite (hseq (noAnswer_seq p s)) (hrefl _ _)
  | resendTimerExpiry p =>
    exact running_changes (id h : execResendTimerExpiry p s = .next t) fun s =>
      .ite ((resend_changes p s).mono (place_outside_sub p)) (hrefl _ _)
  | referenceConversionEnd period => exact (execReferenceConversionEnd_changes h).mono meter_outside_sub
  | portConversionEnd period => exact (execPortConversionEnd_changes h).mono meter_outside_sub
  | conversionOpen => exact (execConversionOpen_changes h).mono meter_outside_sub
  | takeDemand =>
    refine running_changes (id h : execTakeDemand s = .next t) fun s => ?_
    split
    · exact (serveDemand_changes _ _ s).mono plan_event_sub
    · exact hrefl _ _
  | claimSettled p =>
    exact running_changes (id h : execClaimSettled p s = .next t) fun s =>
      .ite (hseq ((settleContract_seq _ _).trans (continueClaims_seq _))) (hrefl _ _)
  | settleTimerExpiry p =>
    exact running_changes (id h : execSettleTimerExpiry p s = .next t) fun s =>
      .ite (hseq (failClaim_seq _ _ _)) (hrefl _ _)
  | readyTimerExpiry p =>
    exact running_changes (id h : execReadyTimerExpiry p s = .next t) fun s =>
      .ite (hseq (failClaim_seq _ _ _)) (hrefl _ _)
  | breakIntervalExpiry =>
    refine running_changes (id h : execBreakIntervalExpiry s = .next t) fun s => ?_
    split
    · exact .ite (hseq (closeAndEnd_seq _ _)) (hrefl _ _)
    · exact hrefl _ _
  | railSample p mv ma => exact running_changes (id h : execRailSample p mv ma s = .next t) (railSample_changes p mv ma)
  | railLost p =>
    exact running_changes (id h : execRailLost p s = .next t) fun s =>
      .ite (hpost (protect_seq p s)) (hrefl _ _)
  | overvoltage p =>
    exact running_changes (id h : execOvervoltage p s = .next t) fun s =>
      .ite (hpost ((protect_seq p s).trans (monitor_seq _ _ _))) (hrefl _ _)
  | sagTrim p =>
    exact running_changes (id h : execSagTrim p s = .next t) fun s =>
      .ite (hseq ((drawMonitor_seq _ _ _).trans ((raiseTrim_changes _ _).mono limit_seq_sub))) (hrefl _ _)
  | overdrawTrim p =>
    exact running_changes (id h : execOverdrawTrim p s = .next t) fun s =>
      .ite (hseq ((drawMonitor_seq _ _ _).trans ((raiseTrim_changes _ _).mono limit_seq_sub))) (hrefl _ _)
  | descentTimerExpiry p =>
    exact running_changes (id h : execDescentTimerExpiry p s = .next t) fun s =>
      .ite (hseq (drawMonitor_seq _ _ _)) (hrefl _ _)
  | recoveryTimerExpiry =>
    exact running_changes (id h : execRecoveryTimerExpiry s = .next t) fun s =>
      .ite (hseq ((lowerTrim_changes _ _).mono limit_seq_sub)) (hrefl _ _)
  | limitPeriod =>
    exact running_changes (id h : execLimitPeriod s = .next t) fun s => hseq ((modLimit_changes _ _).mono limit_seq_sub)
  | downlinkFrameStored bytes =>
    exact running_changes (id h : execDownlinkFrameStored bytes s = .next t) fun s =>
      .foldl receiveByte_changes bytes s
  | byteGapTimeout =>
    exact running_changes (id h : execByteGapTimeout s = .next t) fun s =>
      .ite ((setReception_changes _ s).trans (postLink_byte _ _)) (hrefl _ _)
  | uholdChange high =>
    exact running_changes (id h : execUholdChange high s = .next t) uholdChange_changes
  | uplinkFrameEnd =>
    exact running_changes (id h : execUplinkFrameEnd s = .next t) uplinkFrameEnd_changes
  | unknownCommand | identify | readPort | readBook | readContract | readPartner | readLimit | readSupply | readMeter
  | measure | openPolicy | writeRule | writeHeads | writeRating | writeParams | readPolicy | applyPolicy | setPlatform
  | barPort | setFrameClass | releaseCapture | takeNotice | relayDown | restart =>
    cases hrow
  | silenceTimerExpiry =>
    exact running_changes (id h : execSilenceTimerExpiry s = .next t) fun s =>
      .ite (silenceExpiry_changes s) (hrefl _ _)
  | partOnlyKindFrame p kind f =>
    exact running_changes (id h : execPartOnlyKindFrame p kind f s = .next t)
      (received_parts hsub (protocolError_outside p))

/-! ### Every command completes -/

theorem exec_completes (c : Instr) (s : State) : ∃ t, exec c s = .next t := by
  cases c <;> exact ⟨_, rfl⟩

theorem queue_not_mem_commandParts (c : Instr) : Part.queue ∉ commandParts c := by
  have hport (part : Port → Part) (h : ∀ p, part p ≠ .queue) : Part.queue ∉ everyPort part := by simpa using h
  have hnotice : Part.queue ∉ everyNotice := by simp [everyNotice]
  have hsupply : Part.queue ∉ supplyParts := by simp [supplyParts]
  have hmeter : Part.queue ∉ meterParts := by simp [meterParts]
  have hseq : Part.queue ∉ sequencerParts := by simp [sequencerParts, hsupply]
  have houtside : Part.queue ∉ outsideParts := by simp [outsideParts, hnotice, hsupply, hmeter]
  have hevent : Part.queue ∉ eventParts := by simp [eventParts, houtside, hseq]
  have himage : Part.queue ∉ imageParts := by simp [imageParts, hsupply]
  have hbyte : Part.queue ∉ byteParts := by decide
  have hend : Part.queue ∉ [.reset, .supervisor, .budget, .policy, .uplink] ++ meterParts := by simp [hmeter]
  have hlink {l : List Part} (h : Part.queue ∉ l) : Part.queue ∉ Part.receive :: .uplink :: l := by simp [h]
  cases c with
  | powerOnReset => exact List.not_mem_nil
  | resetEnd => exact hend
  | downlinkFrameStored | byteGapTimeout => exact hbyte
  | uholdChange | uplinkFrameEnd => exact List.not_mem_cons_of_ne_of_not_mem nofun List.not_mem_nil
  | unknownCommand | identify | readBook | readContract | readPartner | readLimit | readSupply | readMeter
  | readPolicy =>
    exact hlink List.not_mem_nil
  | readPort => exact hlink (hport _ nofun)
  | measure => exact hlink hmeter
  | openPolicy | writeRule | writeHeads | writeRating | writeParams | setFrameClass => exact hlink (by decide)
  | applyPolicy | setPlatform => exact hlink himage
  | barPort => exact hlink (by simp)
  | releaseCapture => exact hlink (by simp [hnotice])
  | takeNotice => exact hlink hnotice
  | relayDown => exact hlink (by simp)
  | restart => exact hlink (by simp [hnotice])
  | silenceTimerExpiry => exact List.not_mem_cons_of_ne_of_not_mem nofun himage
  | presenceRise | presenceFall | debounceRiseExpiry | sensingFallExpiry | probeTimerExpiry | coolOffExpiry | badFrame
  | announce | offer | demand | retire | partOnlyKindFrame | talkFrameSent | resendTimerExpiry
  | referenceConversionEnd | portConversionEnd | conversionOpen => exact houtside
  | otherKindFrame => exact List.not_mem_cons_of_ne_of_not_mem nofun houtside
  | _ => exact hevent

/-- No command touches the queue of waiting commands. -/
theorem exec_pending {c : Instr} {s t : State} (h : exec c s = .next t) : t.pending = s.pending := by
  by_cases hc : c = .powerOnReset
  · subst hc
    cases h
    rfl
  · exact exec_changes h hc .queue (queue_not_mem_commandParts c)

/-- While power-on reset is held, a command other than the reset and its end leaves the state. -/
theorem exec_of_held {c : Instr} {s : State} (hs : s.inReset = true) (hc : c ≠ .powerOnReset)
    (hend : ∀ a b d, c ≠ .resetEnd a b d) : exec c s = .next s := by
  cases c with
  | powerOnReset => exact absurd rfl hc
  | resetEnd a b d => exact absurd rfl (hend a b d)
  | _ => exact congrArg Host.Outcome.next (if_pos hs)

/-- Settles O4. -/
theorem everyCommandCompletesOrIsIgnoredInReset : Obligations.EveryCommandCompletesOrIsIgnoredInReset := by
  refine ⟨fun c s => ?_, fun c s => exec_of_held⟩
  obtain ⟨t, ht⟩ := exec_completes c s
  exact ⟨t, ht, exec_pending ht⟩

end Sys2Proof.Machine
end

section
/-! PROOFS. The engine list and the exchange of a talk line: what each operation of the framer makes of a list that
stands in the arrangements of R36. -/

namespace Sys2Proof.Machine

open Sys2Proof

/-! ### The engine list -/

/-- The engine list alone stands in the arrangements of R36. -/
def engineFormed (l : List EngineFrame) : Prop :=
  l.countP EngineFrame.isAnswer ≤ 3 ∧ l.count .release ≤ 1 ∧ l.countP EngineFrame.isExchange ≤ 1
    ∧ ∀ b, l.countP (EngineFrame.suppliesBranch b) ≤ 1 ∧ (l.any (EngineFrame.suppliesBranch b) = true → b ≤ 6)

/-- The exchange and its frame stand together (R28, R31, R32). -/
def Framer.exchangeFormed (f : Framer) : Prop :=
  (∀ k, .exchange k ∈ f.engine →
      f.sendingExchange = false
        ∧ ∃ e, f.exchange = some e ∧ e.kind = k ∧ e.condition = .queued ∧ e.withdrawn = false)
    ∧ (f.sendingExchange = true → ∃ e, f.exchange = some e ∧ e.condition = .queued)
    ∧ ∀ e, f.exchange = some e →
        (e.condition = .queued → .exchange e.kind ∈ f.engine ∨ f.sendingExchange = true)
          ∧ (e.withdrawn = true → f.sendingExchange = true)

/-- Seven branches, three answers, a RELEASE and an exchange frame bound the list. -/
theorem length_le_kinds {l : List EngineFrame}
    (h : ∀ b, l.any (EngineFrame.suppliesBranch b) = true → b ≤ 6) :
    l.length ≤ l.countP EngineFrame.isAnswer + l.count .release + l.countP EngineFrame.isExchange
      + ((List.range 7).map fun b => l.countP (EngineFrame.suppliesBranch b)).sum := by
  induction l with
  | nil => simp
  | cons g l ih =>
    have ih := ih fun b hb => h b (by simp [hb])
    have hbranch (b : Nat) (hb : g.suppliesBranch b = true) : b ≤ 6 := h b (by simp [hb])
    simp only [List.range_succ, List.range_zero, List.nil_append, List.cons_append, List.map_cons, List.map_nil,
      List.sum_cons, List.sum_nil, List.countP_cons, List.count_cons, List.length_cons] at ih ⊢
    cases g with
    | supply b c | cut b =>
      have hb : b ≤ 6 := hbranch b (by simp [EngineFrame.suppliesBranch])
      interval_cases b <;> simp [EngineFrame.isAnswer, EngineFrame.isExchange, EngineFrame.suppliesBranch] <;> omega
    | exchange k | release | deny b r | hold b =>
      simp [EngineFrame.isAnswer, EngineFrame.isExchange, EngineFrame.suppliesBranch]; omega

theorem engineFormed.length_le {l : List EngineFrame} (h : engineFormed l) : l.length ≤ 12 := by
  obtain ⟨hanswer, hrelease, hexchange, hbranch⟩ := h
  have hlength := length_le_kinds fun b => (hbranch b).2
  have hb := fun b => (hbranch b).1
  have h0 := hb 0; have h1 := hb 1; have h2 := hb 2; have h3 := hb 3; have h4 := hb 4; have h5 := hb 5; have h6 := hb 6
  simp only [List.range_succ, List.range_zero, List.nil_append, List.cons_append, List.map_cons, List.map_nil,
    List.sum_cons, List.sum_nil] at hlength
  omega

theorem lineFormed_iff (f : Framer) : f.lineFormed ↔ engineFormed f.engine ∧ f.exchangeFormed := by
  constructor
  · rintro ⟨-, hanswer, hrelease, hexchange, hbranch, hmem, hsending, hqueued⟩
    simp only [← List.countP_eq_length_filter] at hanswer hexchange hbranch
    exact ⟨⟨hanswer, hrelease, hexchange, hbranch⟩, hmem, hsending, hqueued⟩
  · rintro ⟨hengine, hmem, hsending, hqueued⟩
    obtain ⟨hanswer, hrelease, hexchange, hbranch⟩ := id hengine
    simp only [List.countP_eq_length_filter] at hanswer hexchange hbranch
    exact ⟨hengine.length_le, hanswer, hrelease, hexchange, hbranch, hmem, hsending, hqueued⟩

theorem engineFormed.sublist {l l' : List EngineFrame} (h : engineFormed l) (sub : l'.Sublist l) : engineFormed l' := by
  obtain ⟨hanswer, hrelease, hexchange, hbranch⟩ := h
  refine ⟨(sub.countP_le).trans hanswer, (sub.count_le _).trans hrelease, (sub.countP_le).trans hexchange, fun b => ?_⟩
  refine ⟨(sub.countP_le).trans (hbranch b).1, fun hb => (hbranch b).2 ?_⟩
  obtain ⟨g, hg, hsupply⟩ := List.any_eq_true.mp hb
  exact List.any_eq_true.mpr ⟨g, sub.subset hg, hsupply⟩

theorem engineFormed.perm {l l' : List EngineFrame} (h : engineFormed l) (hp : l.Perm l') : engineFormed l' := by
  obtain ⟨hanswer, hrelease, hexchange, hbranch⟩ := h
  refine ⟨(hp.countP_eq _) ▸ hanswer, (hp.count_eq _) ▸ hrelease, (hp.countP_eq _) ▸ hexchange, fun b => ?_⟩
  refine ⟨(hp.countP_eq _) ▸ (hbranch b).1, fun hb => (hbranch b).2 ?_⟩
  obtain ⟨g, hg, hsupply⟩ := List.any_eq_true.mp hb
  exact List.any_eq_true.mpr ⟨g, hp.symm.subset hg, hsupply⟩

/-- A RELEASE goes in ahead of a CLAIM or at the tail: the same frames with one more. -/
theorem insertRelease_perm {l : List EngineFrame} (h : l.contains .release = false) :
    (EngineFrame.release :: l).Perm (insertRelease l) := by
  rw [insertRelease, if_neg (by simpa using h)]
  calc (EngineFrame.release :: l)
      = EngineFrame.release :: (l.takeWhile (fun g => !g.isClaim) ++ l.dropWhile fun g => !g.isClaim) := by
        rw [List.takeWhile_append_dropWhile]
    _ |>.Perm _ := List.perm_middle.symm

theorem engineFormed_insertRelease {l : List EngineFrame} (h : engineFormed l) : engineFormed (insertRelease l) := by
  by_cases hc : l.contains .release = true
  · rwa [insertRelease, if_pos hc]
  · have hnone : l.count .release = 0 := List.count_eq_zero.mpr (by simpa using hc)
    obtain ⟨hanswer, -, hexchange, hbranch⟩ := h
    refine engineFormed.perm ?_ (insertRelease_perm (by simpa using hc))
    refine ⟨?_, ?_, ?_, fun b => ?_⟩
    · simpa [EngineFrame.isAnswer] using hanswer
    · simp [hnone]
    · simpa [EngineFrame.isExchange] using hexchange
    · have hb : EngineFrame.suppliesBranch b .release = false := rfl
      simpa [hb] using hbranch b

/-- Replacing the unsent word on a branch changes no count of a kind that does not tell the two words apart. -/
theorem countP_replace {b : Nat} {f : EngineFrame} {q : EngineFrame → Bool} (l : List EngineFrame)
    (h : ∀ g : EngineFrame, g.suppliesBranch b = true → q g = q f) :
    (l.map fun g => if g.suppliesBranch b then f else g).countP q = l.countP q := by
  rw [List.countP_map]
  congr 1
  funext g
  simp only [Function.comp_apply]
  split
  · next hg => exact (h g hg).symm
  · rfl

/-- Two words of the Supply Unit are alike to every other test of the list. -/
theorem suppliesBranch_alike {b : Nat} {f g : EngineFrame} (hf : f.suppliesBranch b = true)
    (hg : g.suppliesBranch b = true) :
    g.isAnswer = f.isAnswer ∧ (g == .release) = (f == .release) ∧ g.isExchange = f.isExchange
      ∧ ∀ b', g.suppliesBranch b' = f.suppliesBranch b' := by
  have key (x : EngineFrame) (hx : x.suppliesBranch b = true) :
      x.isAnswer = false ∧ (x == .release) = false ∧ x.isExchange = false
        ∧ ∀ b', x.suppliesBranch b' = (b == b') := by
    cases x <;> simp_all [EngineFrame.suppliesBranch, EngineFrame.isAnswer, EngineFrame.isExchange]
  obtain ⟨f1, f2, f3, f4⟩ := key f hf
  obtain ⟨g1, g2, g3, g4⟩ := key g hg
  exact ⟨g1.trans f1.symm, g2.trans f2.symm, g3.trans f3.symm, fun b' => (g4 b').trans (f4 b').symm⟩

theorem engineFormed_append {l : List EngineFrame} (h : engineFormed l) {f : EngineFrame}
    (hanswer : f.isAnswer = true → l.countP EngineFrame.isAnswer < 3) (hrelease : f ≠ .release)
    (hexchange : f.isExchange = true → l.countP EngineFrame.isExchange = 0)
    (hbranch : ∀ b, f.suppliesBranch b = true → b ≤ 6 ∧ l.any (EngineFrame.suppliesBranch b) = false) :
    engineFormed (l ++ [f]) := by
  obtain ⟨h1, h2, h3, h4⟩ := h
  refine ⟨?_, ?_, ?_, fun b => ⟨?_, ?_⟩⟩
  · rw [List.countP_append, List.countP_singleton]
    split
    · next hf => have := hanswer hf; omega
    · exact h1
  · rw [List.count_append, List.count_singleton]
    simpa [hrelease] using h2
  · rw [List.countP_append, List.countP_singleton]
    split
    · next hf => have := hexchange hf; omega
    · exact h3
  · rw [List.countP_append, List.countP_singleton]
    split
    · next hf =>
      have hnone : l.countP (EngineFrame.suppliesBranch b) = 0 :=
        List.countP_eq_zero.mpr (by simpa using (hbranch b hf).2)
      omega
    · exact (h4 b).1
  · intro hb
    rw [List.any_append, Bool.or_eq_true] at hb
    rcases hb with hb | hb
    · exact (h4 b).2 hb
    · exact (hbranch b (by simpa using hb)).1

theorem engineFormed_replaceOrAppend {l : List EngineFrame} (h : engineFormed l) {b : Nat} {f : EngineFrame}
    (hf : f.suppliesBranch b = true) (hb : b ≤ 6) : engineFormed (replaceOrAppend b f l) := by
  unfold replaceOrAppend
  split
  · have halike := fun g (hg : EngineFrame.suppliesBranch b g = true) => suppliesBranch_alike hf hg
    obtain ⟨h1, h2, h3, h4⟩ := h
    refine ⟨?_, ?_, ?_, fun b' => ⟨?_, ?_⟩⟩
    · rwa [countP_replace l fun g hg => (halike g hg).1]
    · rwa [List.count, countP_replace l fun g hg => (halike g hg).2.1]
    · rwa [countP_replace l fun g hg => (halike g hg).2.2.1]
    · rw [countP_replace l fun g hg => (halike g hg).2.2.2 b']
      exact (h4 b').1
    · intro hany
      rw [← List.countP_pos_iff.trans List.any_eq_true.symm, countP_replace l fun g hg => (halike g hg).2.2.2 b'] at hany
      exact (h4 b').2 (List.any_eq_true.mpr (List.countP_pos_iff.mp hany))
  · next hnone =>
    have hsame (b' : Nat) (hb' : f.suppliesBranch b' = true) : b' = b := by
      cases f <;> simp_all [EngineFrame.suppliesBranch]
    refine engineFormed_append h ?_ ?_ ?_ fun b' hb' => ?_
    · intro hanswer; cases f <;> simp_all [EngineFrame.suppliesBranch, EngineFrame.isAnswer]
    · rintro rfl; simp [EngineFrame.suppliesBranch] at hf
    · intro hexchange; cases f <;> simp_all [EngineFrame.suppliesBranch, EngineFrame.isExchange]
    · obtain rfl := hsame b' hb'
      exact ⟨hb, by simpa using hnone⟩

/-- A frame that is no exchange's goes into a formed list, and the list is formed; a SUPPLY or CUT names one of the
seven branches. -/
theorem engineFormed_placeIn {l : List EngineFrame} (h : engineFormed l) {f : EngineFrame}
    (hexchange : f.isExchange = true → l.countP EngineFrame.isExchange = 0)
    (hb : ∀ b, f.suppliesBranch b = true → b ≤ 6) : engineFormed (placeIn f l) := by
  cases f with
  | supply b c | cut b =>
    exact engineFormed_replaceOrAppend h (by simp [EngineFrame.suppliesBranch]) (hb b (by simp [EngineFrame.suppliesBranch]))
  | release => exact engineFormed_insertRelease h
  | exchange k =>
    exact engineFormed_append h (fun hf => by simp [EngineFrame.isAnswer] at hf) nofun (fun _ => hexchange rfl)
      (fun b hf => by simp [EngineFrame.suppliesBranch] at hf)
  | deny b r | hold b =>
    unfold placeIn
    dsimp only
    split
    · next hroom =>
      rw [← List.countP_eq_length_filter] at hroom
      exact engineFormed_append h (fun _ => hroom) nofun (fun hf => by simp [EngineFrame.isExchange] at hf)
        (fun b hf => by simp [EngineFrame.suppliesBranch] at hf)
    · exact h

/-- Placing a frame that is no exchange's moves no exchange frame in or out. -/
theorem mem_placeIn_exchange {f : EngineFrame} (hf : f.isExchange = false) (l : List EngineFrame) (k : ExchangeKind) :
    .exchange k ∈ placeIn f l ↔ .exchange k ∈ l := by
  have happend (g : EngineFrame) (hg : g.isExchange = false) : EngineFrame.exchange k ∈ l ++ [g] ↔ .exchange k ∈ l := by
    have : EngineFrame.exchange k ≠ g := by rintro rfl; simp [EngineFrame.isExchange] at hg
    simp [this]
  have hreplace (b : Nat) (g : EngineFrame) (hg : g.isExchange = false) :
      EngineFrame.exchange k ∈ replaceOrAppend b g l ↔ .exchange k ∈ l := by
    unfold replaceOrAppend
    split
    · have hk : EngineFrame.suppliesBranch b (.exchange k) = false := rfl
      constructor
      · intro hmem
        obtain ⟨x, hx, heq⟩ := List.mem_map.mp hmem
        split at heq
        · rw [heq] at hg; simp [EngineFrame.isExchange] at hg
        · exact heq ▸ hx
      · exact fun hmem => List.mem_map.mpr ⟨_, hmem, by simp [hk]⟩
    · exact happend g hg
  cases f with
  | supply b c | cut b => exact hreplace b _ rfl
  | release =>
    by_cases hc : l.contains .release = true
    · simp only [placeIn, insertRelease, if_pos hc]
    · rw [placeIn, ← (insertRelease_perm (by simpa using hc)).mem_iff]
      simp
  | exchange k => simp [EngineFrame.isExchange] at hf
  | deny b r | hold b =>
    unfold placeIn
    dsimp only
    split
    · exact happend _ rfl
    · rfl

/-! ### The framer's record -/

/-- The port's exchange frame is neither in the list nor on the line. -/
def Framer.unsent (f : Framer) : Prop := f.sendingExchange = false ∧ ∀ k, .exchange k ∉ f.engine

/-- An exchange as it starts (R28). -/
def freshExchange (k : ExchangeKind) : Exchange := { kind := k, condition := .queued, holds := 0, withdrawn := false }

/-- The framer after the end of its exchange: the next waiting request becomes the exchange (R30). -/
def Framer.ended (f : Framer) : Framer :=
  match f.waiting with
  | [] => { f with exchange := none }
  | k :: rest =>
    { f with exchange := some (freshExchange k), waiting := rest, engine := placeIn (.exchange k) f.engine }

theorem lineFormed_congr {f g : Framer} (hengine : g.engine = f.engine) (hexchange : g.exchange = f.exchange)
    (hsending : g.sending = f.sending) : g.lineFormed ↔ f.lineFormed := by
  simp only [Framer.lineFormed, Framer.sendingExchange, hengine, hexchange, hsending]

theorem unsent_of_no_exchange {f : Framer} (h : f.lineFormed) (hnone : f.exchange = none) : f.unsent := by
  obtain ⟨-, hmem, hsending, -⟩ := (lineFormed_iff f).mp h
  refine ⟨?_, fun k hk => ?_⟩
  · by_contra hs
    obtain ⟨e, he, -⟩ := hsending (by simpa using hs)
    simp [hnone] at he
  · obtain ⟨-, e, he, -⟩ := hmem k hk
    simp [hnone] at he

theorem unsent_of_not_queued {f : Framer} (h : f.lineFormed) {e : Exchange} (he : f.exchange = some e)
    (hc : e.condition ≠ .queued) : f.unsent := by
  obtain ⟨-, hmem, hsending, -⟩ := (lineFormed_iff f).mp h
  refine ⟨?_, fun k hk => ?_⟩
  · by_contra hs
    obtain ⟨x, hx, hq⟩ := hsending (by simpa using hs)
    obtain rfl : e = x := by simpa [he] using hx
    exact hc hq
  · obtain ⟨-, x, hx, -, hq, -⟩ := hmem k hk
    obtain rfl : e = x := by simpa [he] using hx
    exact hc hq

theorem lineFormed_placed {f : Framer} (h : f.lineFormed) {e : EngineFrame} (he : e.isExchange = false)
    (hb : ∀ b, e.suppliesBranch b = true → b ≤ 6) : ({ f with engine := placeIn e f.engine } : Framer).lineFormed := by
  rw [lineFormed_iff] at h ⊢
  obtain ⟨hengine, hmem, hsending, hqueued⟩ := h
  refine ⟨engineFormed_placeIn hengine (fun hx => by simp [he] at hx) hb, ?_, hsending, ?_⟩
  · exact fun k hk => hmem k ((mem_placeIn_exchange he _ k).mp hk)
  · exact fun x hx => ⟨fun hq => ((hqueued x hx).1 hq).imp_left (mem_placeIn_exchange he _ _).mpr, (hqueued x hx).2⟩

/-- An exchange whose frame is placed in a list without one. -/
theorem lineFormed_queued {f : Framer} (hengine : engineFormed f.engine) (hu : f.unsent) {e : Exchange}
    (hq : e.condition = .queued) (hw : e.withdrawn = false) (waiting : List ExchangeKind) :
    ({ f with exchange := some e, waiting := waiting, engine := placeIn (.exchange e.kind) f.engine } : Framer).lineFormed := by
  obtain ⟨hsending, hnone⟩ := hu
  have hcount : f.engine.countP EngineFrame.isExchange = 0 := by
    rw [List.countP_eq_zero]
    intro g hg hx
    cases g with
    | exchange k => exact hnone k hg
    | _ => simp [EngineFrame.isExchange] at hx
  rw [lineFormed_iff]
  have hbranch (b : Nat) (hb : (EngineFrame.exchange e.kind).suppliesBranch b = true) : b ≤ 6 := by
    simp [EngineFrame.suppliesBranch] at hb
  refine ⟨engineFormed_placeIn hengine (fun _ => hcount) hbranch, ?_, ?_, ?_⟩
  · intro k hk
    obtain rfl : k = e.kind := by simpa [placeIn, hnone] using hk
    exact ⟨hsending, e, rfl, rfl, hq, hw⟩
  · intro hs
    exact absurd (hsending.symm.trans hs) nofun
  · rintro x hx
    obtain rfl : e = x := by simpa using hx
    exact ⟨fun _ => Or.inl (by simp [placeIn]), fun hx => by simp [hw] at hx⟩

theorem lineFormed_ended {f : Framer} (hengine : engineFormed f.engine) (hu : f.unsent) : f.ended.lineFormed := by
  unfold Framer.ended
  split
  · rw [lineFormed_iff]
    obtain ⟨hsending, hnone⟩ := hu
    exact ⟨hengine, fun k hk => absurd hk (hnone k), fun hs => absurd (hsending.symm.trans hs) nofun, nofun⟩
  · next k rest _ => exact lineFormed_queued (e := freshExchange k) hengine hu rfl rfl rest

theorem lineFormed_look {f : Framer} (h : f.lineFormed) : f.look.lineFormed := by
  unfold Framer.look
  split
  · next hquiet =>
    have hnone : f.sending = none := ((quiet_iff f).mp hquiet).1
    have hs : f.sendingExchange = false := by simp [Framer.sendingExchange, hnone]
    rw [lineFormed_iff] at h
    obtain ⟨hengine, hmem, hsending, hqueued⟩ := h
    split
    · next relay e rest hl =>
      rw [lineFormed_iff]
      have hrest : engineFormed rest := hengine.sublist (hl ▸ List.sublist_cons_self e rest)
      cases e with
      | exchange k =>
        obtain ⟨-, x, hx, hkind, hq, hw⟩ := hmem k (by simp [hl])
        have hno (j : ExchangeKind) : .exchange j ∉ rest := by
          intro hj
          have hone := hengine.2.2.1
          have hpos : 0 < rest.countP EngineFrame.isExchange := List.countP_pos_iff.mpr ⟨_, hj, rfl⟩
          rw [hl, List.countP_cons_of_pos rfl] at hone
          omega
        refine ⟨hrest, fun j hj => absurd hj (hno j), fun _ => ⟨x, hx, hq⟩, fun y hy => ?_⟩
        exact ⟨fun _ => Or.inr rfl, fun _ => rfl⟩
      | release | supply b c | cut b | deny b r | hold b =>
        refine ⟨hrest, fun j hj => ?_, fun hs => by simp [Framer.sendingExchange] at hs, fun y hy => ?_⟩
        · exact ⟨rfl, (hmem j (by simp [hl, hj])).2⟩
        · refine ⟨fun hq => Or.inl ?_, fun hw => absurd (hs.symm.trans ((hqueued y hy).2 hw)) nofun⟩
          rcases (hqueued y hy).1 hq with hin | hon
          · simpa [hl] using hin
          · exact absurd (hs.symm.trans hon) nofun
    · next r rest hl hr =>
      rw [lineFormed_iff]
      refine ⟨hengine, fun k hk => ⟨rfl, (hmem k hk).2⟩, fun hs => by simp [Framer.sendingExchange] at hs, ?_⟩
      intro y hy
      have hnot : ¬ f.sendingExchange = true := by simp [hs]
      exact ⟨fun hq => Or.inl (((hqueued y hy).1 hq).resolve_right hnot), fun hw => absurd ((hqueued y hy).2 hw) hnot⟩
    · exact (lineFormed_iff f).mpr ⟨hengine, hmem, hsending, hqueued⟩
  · exact h

end Sys2Proof.Machine
end

section
/-! PROOFS. What every operation keeps, whatever it is for: one relation between the state before and after, kept by
each operation and so by every command made of them. -/

namespace Sys2Proof.Machine

open Sys2Proof

/-! ### The relation -/

/-- The branches of the pooled records and of the waiting entries are those of R33. -/
def State.branchesBounded (s : State) : Prop :=
  (∀ r ∈ s.table.pool, r.branch ≤ 6) ∧ ∀ w ∈ s.supply.waitList, w.branch ≤ 6

/-- What some operations are free to change: the soundness of a line as a frame is heard, the draw switches as a
transition closes them, the place of a channel while its conversion is handled, the branches named where one above the
seven of R33 stands already, whether a port is attached as it enters PROBING or is detached. -/
inductive Freedom
  | hearing
  | closing
  | metering
  | branches
  | attaching
  deriving DecidableEq

/-- A Port Monitor keeps its barred flag, stays EMPTY, and stays attached or not. -/
def MonitorKept (free : List Freedom) (m n : Monitor) : Prop :=
  n.barred = m.barred ∧ (m.state = .empty → n.state = .empty)
    ∧ (.attaching ∉ free → n.state.attached = m.state.attached)

/-- Every Port Monitor is kept so. -/
def MonitorsKept (free : List Freedom) (s t : State) : Prop :=
  ∀ p, MonitorKept free (s.monitor.get p) (t.monitor.get p)

/-- The framer's relay list does not grow, no frame of the partner begins, and while one is on the line the part begins
none (R34); the soundness of the line stands (R20, R21) but where a frame is heard. -/
structure FramerKept (free : List Freedom) (f g : Framer) : Prop where
  relay : g.relay.length ≤ f.relay.length
  quiet : f.incoming = .quiet → g.incoming = .quiet
  sending : g.incoming ≠ .quiet → g.sending = f.sending ∨ g.sending = none
  sound : .hearing ∉ free →
    g.badCount = f.badCount ∧ g.unsound = f.unsound ∧ g.latchedUnsound = f.latchedUnsound

/-- The partner records and the wait list keep their room and their branches (R14, R33, R158). -/
def RecordsKept (free : List Freedom) (s t : State) : Prop :=
  (.branches ∉ free → s.branchesBounded → t.branchesBounded) ∧ (s.table.pool.length ≤ 12 → t.table.pool.length ≤ 12)
    ∧ (s.supply.waitList.length ≤ 8 → t.supply.waitList.length ≤ 8)

/-- Suspended counts stay 0 (R143), and no draw switch closes but in a switching. -/
def DrawsKept (free : List Freedom) (s t : State) : Prop :=
  (s.suspendedHeld → t.suspendedHeld)
    ∧ (.closing ∉ free → ∀ p, (t.contract.get p).drawClosed = true → (s.contract.get p).drawClosed = true)

/-- What every operation keeps, but for what it is free to change. -/
structure Keeps (free : List Freedom) (s t : State) : Prop where
  monitors : MonitorsKept free s t
  framers : ∀ p, FramerKept free (s.framer.get p) (t.framer.get p)
  lines : .branches ∉ free → s.branchesBounded → s.linesFormed → t.linesFormed
  records : RecordsKept free s t
  meter : .metering ∉ free → s.meterFormed → t.meterFormed
  draws : DrawsKept free s t

section
variable {free : List Freedom}

theorem FramerKept.refl (f : Framer) : FramerKept free f f :=
  ⟨le_rfl, fun h => h, fun _ => Or.inl rfl, fun _ => ⟨rfl, rfl, rfl⟩⟩

theorem FramerKept.trans {f g h : Framer} (h1 : FramerKept free f g) (h2 : FramerKept free g h) :
    FramerKept free f h where
  relay := h2.relay.trans h1.relay
  quiet := fun hq => h2.quiet (h1.quiet hq)
  sending := fun hq => by
    have hg : g.incoming ≠ .quiet := fun hg => hq (h2.quiet hg)
    rcases h2.sending hq with hs | hs
    · rw [hs]; exact h1.sending hg
    · exact Or.inr hs
  sound := fun hh => by
    obtain ⟨a1, a2, a3⟩ := h1.sound hh
    obtain ⟨b1, b2, b3⟩ := h2.sound hh
    exact ⟨b1.trans a1, b2.trans a2, b3.trans a3⟩

theorem MonitorKept.refl (m : Monitor) : MonitorKept free m m := ⟨rfl, fun h => h, fun _ => rfl⟩

theorem MonitorKept.trans {m n o : Monitor} (h1 : MonitorKept free m n) (h2 : MonitorKept free n o) :
    MonitorKept free m o :=
  ⟨h2.1.trans h1.1, fun h => h2.2.1 (h1.2.1 h), fun hf => (h2.2.2 hf).trans (h1.2.2 hf)⟩

/-- A Port Monitor that keeps its barred flag and its state. -/
theorem MonitorKept.of_state {m n : Monitor} (hbarred : n.barred = m.barred) (hstate : n.state = m.state) :
    MonitorKept free m n := ⟨hbarred, fun h => hstate.trans h, fun _ => by rw [hstate]⟩

/-- A Port Monitor that goes from one attached state to another. -/
theorem MonitorKept.of_attached {m n : Monitor} (hbarred : n.barred = m.barred) (hm : m.state.attached = true)
    (hn : n.state.attached = true) : MonitorKept free m n :=
  ⟨hbarred, fun h => absurd hm (by simp [h, Attach.attached]), fun _ => hn.trans hm.symm⟩

theorem Keeps.refl (s : State) : Keeps free s s where
  monitors := fun _ => .refl _
  framers := fun _ => .refl _
  lines := fun _ _ h => h
  records := ⟨fun _ h => h, fun h => h, fun h => h⟩
  meter := fun _ h => h
  draws := ⟨fun h => h, fun _ _ h => h⟩

theorem Keeps.trans {s t u : State} (h1 : Keeps free s t) (h2 : Keeps free t u) :
    Keeps free s u where
  monitors := fun p => (h1.monitors p).trans (h2.monitors p)
  framers := fun p => (h1.framers p).trans (h2.framers p)
  lines := fun hn hb h => h2.lines hn (h1.records.1 hn hb) (h1.lines hn hb h)
  records := ⟨fun hn h => h2.records.1 hn (h1.records.1 hn h), fun h => h2.records.2.1 (h1.records.2.1 h),
    fun h => h2.records.2.2 (h1.records.2.2 h)⟩
  meter := fun hm h => h2.meter hm (h1.meter hm h)
  draws := ⟨fun h => h2.draws.1 (h1.draws.1 h), fun hc p h => h1.draws.2 hc p (h2.draws.2 hc p h)⟩

theorem Keeps.mono {free' : List Freedom} {s t : State} (h : Keeps free s t) (hsub : free ⊆ free') :
    Keeps free' s t where
  monitors := fun p => ⟨(h.monitors p).1, (h.monitors p).2.1, fun hf => (h.monitors p).2.2 fun hin => hf (hsub hin)⟩
  framers := fun p =>
    { relay := (h.framers p).relay, quiet := (h.framers p).quiet, sending := (h.framers p).sending,
      sound := fun hf => (h.framers p).sound fun hin => hf (hsub hin) }
  lines := fun hf => h.lines fun hin => hf (hsub hin)
  records := ⟨fun hf => h.records.1 fun hin => hf (hsub hin), h.records.2⟩
  meter := fun hf => h.meter fun hin => hf (hsub hin)
  draws := ⟨h.draws.1, fun hf => h.draws.2 fun hin => hf (hsub hin)⟩

/-- Where the branches of the state before are bounded the relation may use it; where not, nothing is asked of them. -/
theorem Keeps.of_bounded {s t : State} (h : s.branchesBounded → Keeps free s t) (h' : Keeps (.branches :: free) s t) :
    Keeps free s t := by
  by_cases hb : s.branchesBounded
  · exact h hb
  · refine ⟨fun p => ⟨(h'.monitors p).1, (h'.monitors p).2.1, fun hf => (h'.monitors p).2.2 (by simpa using hf)⟩,
      fun p => ?_, fun _ hb' => absurd hb' hb, ⟨fun _ hb' => absurd hb' hb, h'.records.2⟩,
      fun hf => h'.meter (by simpa using hf), ⟨h'.draws.1, fun hf => h'.draws.2 (by simpa using hf)⟩⟩
    exact ⟨(h'.framers p).relay, (h'.framers p).quiet, (h'.framers p).sending,
      fun hf => (h'.framers p).sound (by simpa using hf)⟩

theorem Keeps.ite {c : Prop} [Decidable c] {s t u : State} (h1 : Keeps free s t)
    (h2 : Keeps free s u) : Keeps free s (if c then t else u) := by split <;> assumption

theorem Keeps.foldl {α : Type} {f : State → α → State} (h : ∀ s a, Keeps free s (f s a)) (xs : List α)
    (s : State) : Keeps free s (xs.foldl f s) := by
  induction xs generalizing s with
  | nil => exact .refl s
  | cons x xs ih => exact (h s x).trans (ih _)

/-! ### Changes of one block -/

theorem MonitorsKept.of_same {s t : State} (h : ∀ p, t.monitor.get p = s.monitor.get p) : MonitorsKept free s t :=
  fun p => by rw [h p]; exact .refl _

theorem framersKept_of_same {s t : State} (h : ∀ p, t.framer.get p = s.framer.get p) (p : Port) :
    FramerKept free (s.framer.get p) (t.framer.get p) := by rw [h p]; exact .refl _

theorem linesFormed_of_same {s t : State} (h : ∀ p, t.framer.get p = s.framer.get p) (hs : s.linesFormed) :
    t.linesFormed := fun p => by rw [h p]; exact hs p

theorem RecordsKept.of_same {s t : State} (hp : t.table.pool = s.table.pool)
    (hw : t.supply.waitList = s.supply.waitList) : RecordsKept free s t := by
  simp only [RecordsKept, State.branchesBounded, hp, hw]
  exact ⟨fun _ h => h, fun h => h, fun h => h⟩

theorem meterFormed_of_same {s t : State} (hc : t.meter.queue = s.meter.queue ∧ t.meter.inFlight = s.meter.inFlight)
    (hp : ∀ p, t.meter.port.get p = s.meter.port.get p) (hs : s.meterFormed) : t.meterFormed := by
  simpa only [State.meterFormed, Meter.inFlightChannel, hc.1, hc.2, hp] using hs

theorem DrawsKept.of_same {s t : State} (hc : ∀ p, t.contract.get p = s.contract.get p)
    (hd : ∀ p, t.drawMonitor.get p = s.drawMonitor.get p) : DrawsKept free s t := by
  simp only [DrawsKept, State.suspendedHeld, hc, hd]
  exact ⟨fun h => h, fun _ _ h => h⟩

/-- The parts in which no kept condition looks. -/
def quietParts : List Part :=
  [.queue, .freeCount, .reset, .clock, .references, .refreshCount, .policy, .lastPlan, .service, .limit, .budget,
      .orderCounter, .receive, .uplink, .frameClass, .supervisor]
    ++ everyPort .rail ++ everyPort .own ++ everyPort .book ++ everyPort .demands ++ everyPort .supplySwitch
    ++ everyNotice

theorem Keeps.of_quiet {s t : State} (h : ChangesOnly quietParts s t) : Keeps free s t where
  monitors := .of_same fun p => h (.monitor p) (by simp [quietParts, everyNotice])
  framers := framersKept_of_same fun p => h (.framer p) (by simp [quietParts, everyNotice])
  lines := fun _ _ => linesFormed_of_same fun p => h (.framer p) (by simp [quietParts, everyNotice])
  records := .of_same (h .pool (by simp [quietParts, everyNotice])) (h .waitList (by simp [quietParts, everyNotice]))
  meter := fun _ => meterFormed_of_same (h .converter (by simp [quietParts, everyNotice]))
    fun p => h (.measure p) (by simp [quietParts, everyNotice])
  draws := .of_same (fun p => h (.contract p) (by simp [quietParts, everyNotice]))
    fun p => h (.drawMonitor p) (by simp [quietParts, everyNotice])

theorem Keeps.of_monitor {p : Port} {s t : State} (h : ChangesOnly [.monitor p] s t)
    (hm : MonitorKept free (s.monitor.get p) (t.monitor.get p)) : Keeps free s t where
  monitors := fun q => by
    by_cases hq : q = p
    · exact hq ▸ hm
    · rw [show t.monitor.get q = s.monitor.get q from h (.monitor q) (by simp [hq])]
      exact .refl _
  framers := framersKept_of_same fun p => h (.framer p) (by simp)
  lines := fun _ _ => linesFormed_of_same fun p => h (.framer p) (by simp)
  records := .of_same (h .pool (by simp)) (h .waitList (by simp))
  meter := fun _ => meterFormed_of_same (h .converter (by simp)) fun p => h (.measure p) (by simp)
  draws := .of_same (fun p => h (.contract p) (by simp)) fun p => h (.drawMonitor p) (by simp)

theorem Keeps.of_framer {p : Port} {s t : State} (h : ChangesOnly [.framer p] s t)
    (hf : FramerKept free (s.framer.get p) (t.framer.get p))
    (hl : .branches ∉ free → (s.framer.get p).lineFormed → (t.framer.get p).lineFormed) :
    Keeps free s t where
  monitors := .of_same fun p => h (.monitor p) (by simp)
  framers := fun q => by
    by_cases hq : q = p
    · exact hq ▸ hf
    · rw [show t.framer.get q = s.framer.get q from h (.framer q) (by simp [hq])]
      exact .refl _
  lines := fun hn _ hs q => by
    by_cases hq : q = p
    · exact hq ▸ hl hn (hs p)
    · rw [show t.framer.get q = s.framer.get q from h (.framer q) (by simp [hq])]
      exact hs q
  records := .of_same (h .pool (by simp)) (h .waitList (by simp))
  meter := fun _ => meterFormed_of_same (h .converter (by simp)) fun p => h (.measure p) (by simp)
  draws := .of_same (fun p => h (.contract p) (by simp)) fun p => h (.drawMonitor p) (by simp)

/-- The records, the wait list, the supply switches and the order counter. -/
def recordParts : List Part := [.pool, .waitList, .orderCounter] ++ everyPort .own ++ everyPort .supplySwitch

theorem Keeps.of_records {s t : State} (h : ChangesOnly recordParts s t) (hr : RecordsKept free s t) : Keeps free s t where
  monitors := .of_same fun p => h (.monitor p) (by simp [recordParts])
  framers := framersKept_of_same fun p => h (.framer p) (by simp [recordParts])
  lines := fun _ _ => linesFormed_of_same fun p => h (.framer p) (by simp [recordParts])
  records := hr
  meter := fun _ => meterFormed_of_same (h .converter (by simp [recordParts]))
    fun p => h (.measure p) (by simp [recordParts])
  draws := .of_same (fun p => h (.contract p) (by simp [recordParts])) fun p => h (.drawMonitor p) (by simp [recordParts])

/-- What the ID Meter's own record may change. -/
def ownMeterParts : List Part := everyPort .measure ++ [.converter, .references, .refreshCount]

theorem Keeps.of_meter {s t : State} (h : ChangesOnly ownMeterParts s t) (hm : .metering ∉ free → s.meterFormed → t.meterFormed) :
    Keeps free s t where
  monitors := .of_same fun p => h (.monitor p) (by simp [ownMeterParts])
  framers := framersKept_of_same fun p => h (.framer p) (by simp [ownMeterParts])
  lines := fun _ _ => linesFormed_of_same fun p => h (.framer p) (by simp [ownMeterParts])
  records := .of_same (h .pool (by simp [ownMeterParts])) (h .waitList (by simp [ownMeterParts]))
  meter := hm
  draws := .of_same (fun p => h (.contract p) (by simp [ownMeterParts]))
    fun p => h (.drawMonitor p) (by simp [ownMeterParts])

/-- The draw-monitor record of a port holds its suspended counts at 0 (R143). -/
def heldAt (c : Contract) (d : DrawMonitor) : Prop :=
  c.state = .awaiting ∨ c.state = .settling ∨ d.descent.isSome = true → d.overvoltage = 0 ∧ d.sag = 0

theorem Keeps.of_draws {p : Port} {s t : State} (h : ChangesOnly [.contract p, .drawMonitor p, .limit] s t)
    (hh : heldAt (s.contract.get p) (s.drawMonitor.get p) → heldAt (t.contract.get p) (t.drawMonitor.get p))
    (hc : .closing ∉ free → (t.contract.get p).drawClosed = true → (s.contract.get p).drawClosed = true) :
    Keeps free s t where
  monitors := .of_same fun p => h (.monitor p) (by simp)
  framers := framersKept_of_same fun p => h (.framer p) (by simp)
  lines := fun _ _ => linesFormed_of_same fun p => h (.framer p) (by simp)
  records := .of_same (h .pool (by simp)) (h .waitList (by simp))
  meter := fun _ => meterFormed_of_same (h .converter (by simp)) fun p => h (.measure p) (by simp)
  draws := by
    have hcontract (q : Port) (hq : q ≠ p) : t.contract.get q = s.contract.get q := h (.contract q) (by simp [hq])
    have hmonitor (q : Port) (hq : q ≠ p) : t.drawMonitor.get q = s.drawMonitor.get q := h (.drawMonitor q) (by simp [hq])
    refine ⟨fun hs q => ?_, fun hf q => ?_⟩ <;> by_cases hq : q = p
    · exact hq ▸ hh (hs p)
    · rw [hcontract q hq, hmonitor q hq]; exact hs q
    · exact hq ▸ hc hf
    · rw [hcontract q hq]; exact fun h => h

end

end Sys2Proof.Machine
end

section
/-! PROOFS. What the operations of the talk lines and of the flags keep. -/

namespace Sys2Proof.Machine

open Sys2Proof

section
variable {free : List Freedom}

/-! ### One record -/

theorem modFramer_keeps {p : Port} {g : Framer → Framer} {s : State}
    (hf : FramerKept free (s.framer.get p) (g (s.framer.get p)))
    (hl : .branches ∉ free → (s.framer.get p).lineFormed → (g (s.framer.get p)).lineFormed) :
    Keeps free s (s.modFramer p g) :=
  .of_framer (modFramer_changes s p g) (by simpa using hf) (by simpa using hl)

theorem modMonitor_keeps {p : Port} {g : Monitor → Monitor} {s : State}
    (h : MonitorKept free (s.monitor.get p) (g (s.monitor.get p))) :
    Keeps free s (s.modMonitor p g) := .of_monitor (modMonitor_changes s p g) (by simpa using h)

theorem modFramer_modFramer (p : Port) (g h : Framer → Framer) (s : State) :
    (s.modFramer p g).modFramer p h = s.modFramer p fun f => h (g f) := by
  unfold State.modFramer
  congr 1
  refine Four.ext_get fun q => ?_
  by_cases hq : q = p <;> simp [hq]

theorem modFramer_self (p : Port) (s : State) : (s.modFramer p fun f => f) = s := by
  unfold State.modFramer
  have h : s.framer.set p (s.framer.get p) = s.framer := Four.ext_get fun q => by
    by_cases hq : q = p <;> simp [hq]
  rw [h]

/-! ### The transmitter and the engine list -/

theorem framerKept_look (f : Framer) : FramerKept free f f.look := by
  unfold Framer.look
  split
  · next hquiet =>
    obtain ⟨-, hincoming⟩ := (quiet_iff f).mp hquiet
    split
    · exact ⟨le_rfl, fun h => h, fun h => absurd hincoming h, fun _ => ⟨rfl, rfl, rfl⟩⟩
    · next r rest _ hr => exact ⟨by simp [hr], fun h => h, fun h => absurd hincoming h, fun _ => ⟨rfl, rfl, rfl⟩⟩
    · exact .refl f
  · exact .refl f

theorem transmit_keeps (p : Port) (s : State) : Keeps free s (transmit p s) := by
  have hlook : Keeps free s (s.modFramer p Framer.look) :=
    modFramer_keeps (framerKept_look _) fun _ => lineFormed_look
  unfold transmit
  refine .ite (hlook.trans (modMonitor_keeps ?_)) hlook
  split <;> exact .of_state rfl rfl

/-- A frame that is no exchange's is placed; a SUPPLY or CUT names one of the seven branches. -/
theorem place_keeps {p : Port} {f : EngineFrame} {s : State} (hf : f.isExchange = false)
    (hb : ∀ b, f.suppliesBranch b = true → b ≤ 6 ∨ .branches ∈ free) : Keeps free s (place p f s) :=
  (modFramer_keeps ⟨le_rfl, fun h => h, fun _ => Or.inl rfl, fun _ => ⟨rfl, rfl, rfl⟩⟩
    fun hn h =>
      lineFormed_placed h hf fun b h => (hb b h).resolve_right hn).trans (transmit_keeps p _)

theorem placeRelease_keeps (p : Port) (s : State) : Keeps free s (place p .release s) :=
  place_keeps rfl fun b hb => by simp [EngineFrame.suppliesBranch] at hb

theorem answerDeny_keeps (p : Port) (b : Nat) (r : DenyReason) (s : State) : Keeps free s (answerDeny p b r s) :=
  place_keeps rfl fun b hb => by simp [EngineFrame.suppliesBranch] at hb

theorem answerHold_keeps (p : Port) (b : Nat) (s : State) : Keeps free s (answerHold p b s) :=
  place_keeps rfl fun b hb => by simp [EngineFrame.suppliesBranch] at hb

theorem placeSupply_keeps {p : Port} {b c : Nat} {s : State} (hb : b ≤ 6 ∨ .branches ∈ free) :
    Keeps free s (place p (.supply b c) s) :=
  place_keeps rfl fun b' hb' => by
    obtain rfl : b = b' := by simpa [EngineFrame.suppliesBranch] using hb'
    exact hb

theorem placeCut_keeps {p : Port} {b : Nat} {s : State} (hb : b ≤ 6 ∨ .branches ∈ free) :
    Keeps free s (place p (.cut b) s) :=
  place_keeps rfl fun b' hb' => by
    obtain rfl : b = b' := by simpa [EngineFrame.suppliesBranch] using hb'
    exact hb

/-! ### Exchanges -/

theorem framerKept_of_unheard {f g : Framer} (hrelay : g.relay = f.relay) (hincoming : g.incoming = f.incoming)
    (hsending : g.sending = f.sending) (hview : g.badCount = f.badCount ∧ g.unsound = f.unsound
      ∧ g.latchedUnsound = f.latchedUnsound) : FramerKept free f g where
  relay := by rw [hrelay]
  quiet := by rw [hincoming]; exact fun h => h
  sending := fun _ => Or.inl hsending
  sound := fun _ => hview

theorem framerKept_ended (f : Framer) : FramerKept free f f.ended := by
  unfold Framer.ended
  split <;> exact framerKept_of_unheard rfl rfl rfl ⟨rfl, rfl, rfl⟩

/-- The end of the exchange, as one change of the framer's record and a look of its transmitter. -/
theorem endExchange_eq (p : Port) (s : State) :
    endExchange p s
      = if (s.framer.get p).waiting = [] then s.modFramer p Framer.ended else transmit p (s.modFramer p Framer.ended) := by
  have hended (g : Framer → Framer) (h : g (s.framer.get p) = (s.framer.get p).ended) :
      s.modFramer p g = s.modFramer p Framer.ended := by simp only [State.modFramer, h]
  unfold endExchange
  split
  · next hw =>
    rw [if_pos hw]
    exact hended _ (by simp [Framer.ended, hw])
  · next k rest hw =>
    rw [if_neg (by simp [hw])]
    unfold startExchange place
    rw [modFramer_modFramer, modFramer_modFramer]
    exact congrArg (transmit p) (hended _ (by simp [Framer.ended, hw, freshExchange]))

/-- The exchange ends after a change of the framer that leaves no frame of it in the list or on the line. -/
theorem endExchange_keeps_after {p : Port} {g : Framer → Framer} {s : State}
    (hf : FramerKept free (s.framer.get p) (g (s.framer.get p)))
    (hu : (s.framer.get p).lineFormed → engineFormed (g (s.framer.get p)).engine ∧ (g (s.framer.get p)).unsent) :
    Keeps free s (endExchange p (s.modFramer p g)) := by
  have hended : Keeps free s (s.modFramer p fun f => (g f).ended) :=
    modFramer_keeps (hf.trans (framerKept_ended _)) fun _ h => lineFormed_ended (hu h).1 (hu h).2
  rw [endExchange_eq, modFramer_modFramer]
  exact .ite hended (hended.trans (transmit_keeps p _))

/-- An exchange that is answer-due or held ends. -/
theorem endExchange_keeps {p : Port} {s : State}
    (h : ∀ e, (s.framer.get p).exchange = some e → e.condition ≠ .queued) : Keeps free s (endExchange p s) := by
  have key := endExchange_keeps_after (free := free) (p := p) (g := fun f => f) (s := s) (.refl _) fun hl =>
    ⟨((lineFormed_iff _).mp hl).1, by
      cases he : (s.framer.get p).exchange with
      | none => exact unsent_of_no_exchange hl he
      | some e => exact unsent_of_not_queued hl he (h e he)⟩
  rwa [modFramer_self] at key

theorem requestExchange_keeps (p : Port) (k : ExchangeKind) (s : State) : Keeps free s (requestExchange p k s) := by
  unfold requestExchange
  split
  · next hnone =>
    unfold startExchange place
    rw [modFramer_modFramer]
    refine .trans (modFramer_keeps (framerKept_of_unheard rfl rfl rfl ⟨rfl, rfl, rfl⟩) fun _ h => ?_) (transmit_keeps p _)
    exact lineFormed_queued (e := freshExchange k) ((lineFormed_iff _).mp h).1 (unsent_of_no_exchange h hnone) rfl rfl
      (s.framer.get p).waiting
  · exact modFramer_keeps (framerKept_of_unheard rfl rfl rfl ⟨rfl, rfl, rfl⟩) fun _ h => (lineFormed_congr rfl rfl rfl).mpr h

theorem engineFormed_filter {f : Framer} (h : f.lineFormed) (q : EngineFrame → Bool) : engineFormed (f.engine.filter q) :=
  ((lineFormed_iff f).mp h).1.sublist List.filter_sublist

theorem withdrawClaim_keeps (p : Port) (s : State) : Keeps free s (withdrawClaim p s) := by
  have hplain : Keeps free s (s.modFramer p fun f => { f with waiting := f.waiting.filter (· == .probe) }) :=
    modFramer_keeps (framerKept_of_unheard rfl rfl rfl ⟨rfl, rfl, rfl⟩) fun _ h => (lineFormed_congr rfl rfl rfl).mpr h
  unfold withdrawClaim
  dsimp only
  split
  · next c holds withdrawn he =>
    split
    · next hs =>
      rw [modFramer_modFramer]
      refine modFramer_keeps (framerKept_of_unheard rfl rfl rfl ⟨rfl, rfl, rfl⟩) fun _ h => ?_
      rw [lineFormed_iff] at h ⊢
      obtain ⟨hengine, hmem, hsending, hqueued⟩ := h
      refine ⟨hengine, fun k hk => absurd ((hmem k hk).1.symm.trans hs) nofun, fun _ => ?_, fun e _ => ?_⟩
      · exact ⟨_, by simp [he]; rfl, rfl⟩
      · exact ⟨fun _ => Or.inr hs, fun _ => hs⟩
    · next hs =>
      rw [modFramer_modFramer]
      refine endExchange_keeps_after (framerKept_of_unheard rfl rfl rfl ⟨rfl, rfl, rfl⟩) fun h =>
        ⟨engineFormed_filter h _, (by simpa using hs : (s.framer.get p).sendingExchange = false), fun k hk => ?_⟩
      simp [EngineFrame.isExchange] at hk
  · next c condition holds withdrawn hq he =>
    exact endExchange_keeps_after (framerKept_of_unheard rfl rfl rfl ⟨rfl, rfl, rfl⟩) fun h =>
      ⟨((lineFormed_iff _).mp h).1, (unsent_of_not_queued h he hq : (s.framer.get p).unsent)⟩
  · exact hplain

/-- An ANNOUNCE taken ends a PROBE exchange, which is not on the line while the part hears a frame. -/
theorem endProbe_keeps {p : Port} {s : State} (hs : (s.framer.get p).sending = none) :
    Keeps free s (endProbe p s) := by
  have hplain : Keeps free s (s.modFramer p fun f => { f with waiting := f.waiting.filter (· != .probe) }) :=
    modFramer_keeps (framerKept_of_unheard rfl rfl rfl ⟨rfl, rfl, rfl⟩) fun _ h => (lineFormed_congr rfl rfl rfl).mpr h
  unfold endProbe
  dsimp only
  split
  · next condition holds withdrawn he =>
    rw [modFramer_modFramer]
    refine endExchange_keeps_after (framerKept_of_unheard rfl rfl rfl ⟨rfl, rfl, rfl⟩) fun h =>
      ⟨engineFormed_filter h _, (by simp [Framer.sendingExchange, hs] : (s.framer.get p).sendingExchange = false),
        fun k hk => ?_⟩
    obtain ⟨hin, hk⟩ := List.mem_filter.mp hk
    obtain ⟨-, e, hx, hkind, -⟩ := ((lineFormed_iff _).mp h).2.1 k hin
    rw [he] at hx
    cases hx
    subst hkind
    simp at hk
  · exact hplain

/-- The exchange of a frame that has left the line is answer-due (R28). -/
theorem lineFormed_answerDue {f : Framer} (h : f.lineFormed) (hs : f.sendingExchange = true) {x : Exchange}
    (hw : x.withdrawn = false) (n : Nat) :
    ({ f with sending := none, exchange := some { x with condition := .answerDue n } } : Framer).lineFormed := by
  rw [lineFormed_iff] at h ⊢
  obtain ⟨hengine, hmem, -, -⟩ := h
  refine ⟨hengine, fun k hk => absurd ((hmem k hk).1.symm.trans hs) nofun, fun hs => ?_, fun e he => ?_⟩
  · simp [Framer.sendingExchange] at hs
  · obtain rfl : { x with condition := .answerDue n } = e := by simpa using he
    exact ⟨nofun, fun hw' => absurd (hw.symm.trans hw') nofun⟩

/-- A frame of another kind has left the line. -/
theorem lineFormed_sent {f : Framer} (h : f.lineFormed) (hs : f.sendingExchange = false) :
    ({ f with sending := none } : Framer).lineFormed := by
  rw [lineFormed_iff] at h ⊢
  obtain ⟨hengine, hmem, -, hqueued⟩ := h
  have hnot : ¬ f.sendingExchange = true := by simp [hs]
  refine ⟨hengine, fun k hk => ⟨rfl, (hmem k hk).2⟩, fun hs => by simp [Framer.sendingExchange] at hs, fun e he => ?_⟩
  exact ⟨fun hq => Or.inl (((hqueued e he).1 hq).resolve_right hnot), fun hw => absurd ((hqueued e he).2 hw) hnot⟩

theorem framerKept_sent {f g : Framer} (hrelay : g.relay = f.relay) (hincoming : g.incoming = f.incoming)
    (hsending : g.sending = none) (hview : g.badCount = f.badCount ∧ g.unsound = f.unsound
      ∧ g.latchedUnsound = f.latchedUnsound) : FramerKept free f g where
  relay := by rw [hrelay]
  quiet := by rw [hincoming]; exact fun h => h
  sending := fun _ => Or.inr hsending
  sound := fun _ => hview

theorem sendingExchange_iff (f : Framer) :
    f.sendingExchange = true ↔ ∃ k, f.sending = some (.engine (.exchange k)) := by
  unfold Framer.sendingExchange
  split
  · next k hk => exact ⟨fun _ => ⟨k, hk⟩, fun _ => rfl⟩
  · next hno => exact ⟨nofun, fun ⟨k, hk⟩ => absurd hk (hno k)⟩

theorem frameSent_keeps (p : Port) (s : State) : Keeps free s (frameSent p s) := by
  unfold frameSent
  split
  · exact .refl s
  · next sent hsent =>
    dsimp only
    refine .trans ?_ (transmit_keeps p _)
    split
    · next kind holds he =>
      have hs : (s.framer.get p).sendingExchange = true := by simp [Framer.sendingExchange, hsent]
      rw [modFramer_modFramer]
      refine modFramer_keeps (framerKept_sent rfl rfl rfl ⟨rfl, rfl, rfl⟩) fun _ h => ?_
      have := lineFormed_answerDue (x := { kind := kind, condition := .queued, holds := holds, withdrawn := false }) h hs
        rfl 0
      simpa [he] using this
    · have hs : (s.framer.get p).sendingExchange = true := by simp [Framer.sendingExchange, hsent]
      refine endExchange_keeps_after (framerKept_sent rfl rfl rfl ⟨rfl, rfl, rfl⟩) fun h => ?_
      exact ⟨((lineFormed_iff _).mp h).1, rfl, fun k hk =>
        absurd ((((lineFormed_iff _).mp h).2.1 k hk).1.symm.trans hs) nofun⟩
    · next hnotDue hnotWithdrawn =>
      refine modFramer_keeps (framerKept_sent rfl rfl rfl ⟨rfl, rfl, rfl⟩) fun _ h => ?_
      cases hx : (s.framer.get p).sendingExchange with
      | false => exact lineFormed_sent h hx
      | true =>
        obtain ⟨k, hk⟩ := (sendingExchange_iff _).mp hx
        obtain rfl := Option.some.inj (hsent.symm.trans hk)
        obtain ⟨⟨kind, condition, holds, withdrawn⟩, he, rfl⟩ := ((lineFormed_iff _).mp h).2.2.1 hx
        cases withdrawn with
        | false => exact (hnotDue k kind holds rfl he).elim
        | true => exact (hnotWithdrawn k kind .queued holds rfl he).elim

/-- An exchange's condition moves among those in which its frame is not to be sent. -/
theorem lineFormed_condition {f : Framer} (h : f.lineFormed) {x y : Exchange} (hx : f.exchange = some x)
    (hxq : x.condition ≠ .queued) (hyq : y.condition ≠ .queued) (hw : y.withdrawn = x.withdrawn) :
    ({ f with exchange := some y } : Framer).lineFormed := by
  obtain ⟨hsending, hnone⟩ := unsent_of_not_queued h hx hxq
  rw [lineFormed_iff] at h ⊢
  obtain ⟨hengine, -, -, hqueued⟩ := h
  refine ⟨hengine, fun k hk => absurd hk (hnone k), fun hs => absurd (hsending.symm.trans hs) nofun, fun e he => ?_⟩
  obtain rfl : y = e := by simpa using he
  exact ⟨fun hq => absurd hq hyq, fun hy => (hqueued x hx).2 (hw ▸ hy)⟩

theorem exchangeDue_iff (f : Framer) :
    f.exchangeDue = true ↔ ∃ e n, f.exchange = some e ∧ e.condition = .answerDue n := by
  unfold Framer.exchangeDue
  split
  · next n _ _ he => exact ⟨fun _ => ⟨_, n, he, rfl⟩, fun _ => rfl⟩
  · next hno =>
    refine ⟨nofun, fun ⟨e, n, he, hc⟩ => ?_⟩
    obtain ⟨kind, condition, holds, withdrawn⟩ := e
    exact absurd (he.trans (by rw [show condition = .answerDue n from hc])) (hno kind n holds withdrawn)

theorem holdExchange_keeps {p : Port} {s : State} (hdue : (s.framer.get p).exchangeDue = true) :
    Keeps free s (holdExchange p s) := by
  obtain ⟨e, n, he, hc⟩ := (exchangeDue_iff _).mp hdue
  refine modFramer_keeps (framerKept_of_unheard rfl rfl rfl ⟨rfl, rfl, rfl⟩) fun _ h => ?_
  have := lineFormed_condition (y := { e with condition := .held 0, holds := e.holds + 1 }) h he (by simp [hc]) nofun rfl
  simpa [he] using this

theorem resend_keeps (p : Port) (s : State) : Keeps free s (resend p s) := by
  unfold resend
  split
  · next k n holds withdrawn he =>
    unfold place
    rw [modFramer_modFramer]
    refine .trans (modFramer_keeps (framerKept_of_unheard rfl rfl rfl ⟨rfl, rfl, rfl⟩) fun _ h => ?_) (transmit_keeps p _)
    have hu := unsent_of_not_queued h he nofun
    have hw : withdrawn = false := by
      have := (((lineFormed_iff _).mp h).2.2.2 _ he).2
      simpa [hu.1] using this
    have := lineFormed_queued (e := { kind := k, condition := .queued, holds := holds, withdrawn := withdrawn })
      ((lineFormed_iff _).mp h).1 hu rfl hw (s.framer.get p).waiting
    simpa [he] using this
  · exact .refl s

/-! ### Frames of the partner -/

/-- A record of the soundness of a line changes as a frame is heard. -/
theorem framerKept_heard {f g : Framer} (hrelay : g.relay = f.relay) (hincoming : g.incoming = f.incoming)
    (hsending : g.sending = f.sending) (hfree : .hearing ∈ free) : FramerKept free f g where
  relay := by rw [hrelay]
  quiet := by rw [hincoming]; exact fun h => h
  sending := fun _ => Or.inl hsending
  sound := fun hno => absurd hfree hno

theorem lineCleared_keeps (p : Port) (s : State) : Keeps free s (lineCleared p s) :=
  modFramer_keeps ⟨le_rfl, fun _ => rfl, fun h => absurd rfl h, fun _ => ⟨rfl, rfl, rfl⟩⟩
    fun _ h => (lineFormed_congr rfl rfl rfl).mpr h

theorem post_keeps (f : NoticeFlag) (code : Byte) (sn : BitVec 32) (s : State) : Keeps free s (post f code sn s) :=
  .of_quiet ((post_changes f code sn s).mono (by simp [quietParts, mem_everyNotice]))

theorem postPartner_keeps (code : Byte) (p : Port) (s : State) : Keeps free s (postPartner code p s) := post_keeps _ _ _ _

theorem protocolError_keeps (p : Port) (s : State) : Keeps free s (protocolError p s) := post_keeps _ _ _ _

theorem countBad_keeps (hfree : .hearing ∈ free) (p : Port) (s : State) : Keeps free s (countBad p s) := by
  have hmod (g : Framer → Framer) (u : State) (h : ∀ f, (g f).relay = f.relay ∧ (g f).incoming = f.incoming
      ∧ (g f).sending = f.sending ∧ (g f).engine = f.engine ∧ (g f).exchange = f.exchange) :
      Keeps free u (u.modFramer p g) := by
    obtain ⟨hrelay, hincoming, hsending, hengine, hexchange⟩ := h (u.framer.get p)
    exact modFramer_keeps (framerKept_heard hrelay hincoming hsending hfree)
      fun _ hl => (lineFormed_congr hengine hexchange hsending).mpr hl
  have hcount := hmod (fun f => { f with badCount := min ((s.framer.get p).badCount + 1) 3 }) s
    fun _ => ⟨rfl, rfl, rfl, rfl, rfl⟩
  unfold countBad
  exact .ite (hcount.trans ((hmod (fun f => { f with unsound := true, latchedUnsound := true }) _
    fun _ => ⟨rfl, rfl, rfl, rfl, rfl⟩).trans (postPartner_keeps _ _ _))) hcount

theorem countGood_keeps (hfree : .hearing ∈ free) (p : Port) (s : State) : Keeps free s (countGood p s) :=
  modFramer_keeps (framerKept_heard rfl rfl rfl hfree) fun _ h => (lineFormed_congr rfl rfl rfl).mpr h

/-- What a good frame finds as it is taken: the part sends nothing on an attached port's line. -/
theorem countGood_sending {p : Port} {s : State} (h : (s.framer.get p).losesFrame = false) :
    ((countGood p (lineCleared p s)).framer.get p).sending = none := by
  simp only [Framer.losesFrame, Bool.or_eq_false_iff, Option.isSome_eq_false_iff, Option.isNone_iff_eq_none] at h
  simp [countGood, lineCleared, h.1]

/-- A frame of the partner whose end is told: `take` starts on an attached port, on whose line the part sends nothing. -/
theorem receiveFrame_keeps {p : Port} {kind : BitVec 6} {f : RawFrame} {take : State → State} {s : State}
    (hfree : .hearing ∈ free) (hf : f.begins = false)
    (ht : ∀ u, (u.framer.get p).sending = none → u.attached p = true → Keeps free u (take u)) :
    Keeps free s (receiveFrame p kind f take s) := by
  have hclear := lineCleared_keeps (free := free) p s
  unfold receiveFrame
  rw [if_neg (by simp [hf])]
  split
  · exact hclear
  · next hattached =>
    split
    · exact hclear.trans (transmit_keeps p _)
    · next hloses =>
      refine .ite ?_ ((hclear.trans (countBad_keeps hfree p _)).trans (transmit_keeps p _))
      have htake := ht (countGood p (lineCleared p s)) (countGood_sending (by simpa using hloses))
        (by simpa using hattached : s.attached p = true)
      exact ((hclear.trans (countGood_keeps hfree p _)).trans htake).trans (transmit_keeps p _)

theorem takeTalking_keeps {p : Port} {kind : BitVec 6} {f : RawFrame} {route : State → State} {s : State}
    (hr : f.branch.toNat ≤ 6 → Keeps free s (route s)) : Keeps free s (takeTalking p kind f route s) := by
  have herror := protocolError_keeps (free := free) p s
  unfold takeTalking
  refine .ite herror ?_
  split
  · exact herror
  · next hb =>
    have hb : f.branch.toNat ≤ 6 := by
      have : f.branch.toNat ≠ 7 := fun h => hb (BitVec.eq_of_toNat_eq h)
      have := f.branch.isLt
      omega
    exact .ite (answerDeny_keeps p _ _ s) (.ite herror (hr hb))

end

end Sys2Proof.Machine
end

section
/-! PROOFS. What the Supply Unit's operations keep. -/

namespace Sys2Proof.Machine

open Sys2Proof

section
variable {free : List Freedom}

/-! ### Records, grants and the wait list -/

/-- Records and entries are taken away or rewritten, none is added and no branch moves. -/
theorem RecordsKept.of_fewer {s t : State}
    (hpool : ∀ r ∈ t.table.pool, ∃ r' ∈ s.table.pool, r.branch = r'.branch)
    (hplen : t.table.pool.length ≤ s.table.pool.length)
    (hwait : ∀ w ∈ t.supply.waitList, ∃ w' ∈ s.supply.waitList, w.branch = w'.branch)
    (hwlen : t.supply.waitList.length ≤ s.supply.waitList.length) : RecordsKept free s t := by
  refine ⟨fun _ ⟨hp, hw⟩ => ⟨fun r hr => ?_, fun w hm => ?_⟩, hplen.trans, hwlen.trans⟩
  · obtain ⟨r', hr', hb⟩ := hpool r hr
    exact hb ▸ hp r' hr'
  · obtain ⟨w', hw', hb⟩ := hwait w hm
    exact hb ▸ hw w' hw'

theorem setOwn_keeps (p : Port) (r : Option PartnerRecord) (s : State) : Keeps free s (s.setOwn p r) :=
  .of_quiet ((setOwn_changes s p r).mono (by simp [quietParts]))

/-- The pooled records are filtered or rewritten at their grants. -/
theorem setPool_keeps {l : List PooledRecord} {s : State}
    (hpool : ∀ r ∈ l, ∃ r' ∈ s.table.pool, r.branch = r'.branch) (hlen : l.length ≤ s.table.pool.length) :
    Keeps free s (s.setPool l) :=
  .of_records ((setPool_changes s l).mono (by simp [recordParts]))
    (.of_fewer hpool hlen (fun w hw => ⟨w, hw, rfl⟩) le_rfl)

theorem setWaitList_parts (l : List WaitEntry) (s : State) : ChangesOnly recordParts s (setWaitList l s) := by
  intro part hpart
  cases part <;> simp_all [Part.same, setWaitList, State.modSupply, recordParts]

/-- The wait list loses entries or rewrites their requests. -/
theorem setWaitList_keeps {l : List WaitEntry} {s : State}
    (hwait : ∀ w ∈ l, ∃ w' ∈ s.supply.waitList, w.branch = w'.branch) (hlen : l.length ≤ s.supply.waitList.length) :
    Keeps free s (setWaitList l s) :=
  .of_records (setWaitList_parts l s) (.of_fewer (fun r hr => ⟨r, hr, rfl⟩) le_rfl hwait hlen)

theorem setGrant_keeps (p : Port) (b : Nat) (g : Option Grant) (s : State) : Keeps free s (setGrant p b g s) := by
  unfold setGrant
  refine .ite (setOwn_keeps _ _ _) (setPool_keeps (fun r hr => ?_) (by simp))
  obtain ⟨r', hr', rfl⟩ := List.mem_map.mp hr
  exact ⟨r', hr', by split <;> rfl⟩

theorem mapGrants_keeps (f : Grant → Grant) (s : State) : Keeps free s (mapGrants f s) := by
  refine .of_records ?_ (.of_fewer (fun r hr => ?_) (by simp [mapGrants]) (fun w hw => ⟨w, hw, rfl⟩) le_rfl)
  · intro part hpart
    cases part <;> simp_all [Part.same, mapGrants, recordParts]
  · obtain ⟨r', hr', rfl⟩ := List.mem_map.mp hr
    exact ⟨r', hr', rfl⟩

theorem orderCounter_keeps (n : SupplyUnit → Nat) (s : State) :
    Keeps free s (s.modSupply fun u => { u with orderCounter := n u }) := by
  refine .of_records ?_ (.of_same rfl rfl)
  intro part hpart
  cases part <;> simp_all [Part.same, State.modSupply, recordParts]

theorem takeOrder_keeps (s : State) : Keeps free s (takeOrder s) := by
  unfold takeOrder renumber
  exact .trans (.ite ((mapGrants_keeps _ _).trans (orderCounter_keeps _ _)) (.refl s)) (orderCounter_keeps _ _)

theorem setSupplySwitch_keeps (p : Port) (closed : Bool) (s : State) : Keeps free s (setSupplySwitch p closed s) := by
  refine .of_records ?_ (.of_same rfl rfl)
  intro part hpart
  cases part <;> simp_all [Part.same, setSupplySwitch, State.modSupply, recordParts]

theorem openIfUnused_keeps (p : Port) (s : State) : Keeps free s (openIfUnused p s) :=
  .ite (setSupplySwitch_keeps _ _ _) (.refl s)

theorem postSupply_keeps (code : Byte) (p : Port) (b : Nat) (s : State) : Keeps free s (postSupply code p b s) :=
  post_keeps _ _ _ _

theorem removeWait_keeps (p : Port) (b : Nat) (s : State) : Keeps free s (removeWait p b s) :=
  setWaitList_keeps (fun w hw => ⟨w, (List.mem_filter.mp hw).1, rfl⟩) (List.length_filter_le _ _)

theorem dropWaits_keeps (p : Port) (s : State) : Keeps free s (dropWaits p s) :=
  setWaitList_keeps (fun w hw => ⟨w, (List.mem_filter.mp hw).1, rfl⟩) (List.length_filter_le _ _)

/-! ### Grants and their service -/

theorem makeGrant_keeps {p : Port} {b : Nat} (hb : b ≤ 6 ∨ .branches ∈ free) (current requested : Nat) (s : State) :
    Keeps free s (makeGrant p b current requested s) :=
  ((((takeOrder_keeps s).trans (setGrant_keeps _ _ _ _)).trans (placeSupply_keeps hb)).trans
    (setSupplySwitch_keeps _ _ _)).trans (postSupply_keeps _ _ _ _)

/-- The head leaves the wait list. -/
theorem dropHead_keeps {s : State} {w : WaitEntry} {rest : List WaitEntry} (hw : s.supply.waitList = w :: rest) :
    Keeps free s (setWaitList rest s) :=
  setWaitList_keeps (fun x hx => ⟨x, by simp [hw, hx], rfl⟩) (by simp [hw])

theorem serveHead_keeps {s t : State} (h : serveHead s = some t) : Keeps free s t := by
  unfold serveHead at h
  split at h
  · cases h
  · next w rest hw =>
    have hgrant {free : List Freedom} (hb : w.branch ≤ 6 ∨ .branches ∈ free) (current requested : Nat) :
        Keeps free s (makeGrant w.port w.branch current requested (setWaitList rest s)) :=
      (dropHead_keeps hw).trans (makeGrant_keeps hb _ _ _)
    split at h
    · cases h
      exact (dropHead_keeps hw).trans (answerDeny_keeps _ _ _ _)
    · dsimp only at h
      split at h
      · cases h
        exact .of_bounded (fun hs => hgrant (Or.inl (hs.2 w (by simp [hw]))) _ _) (hgrant (Or.inr (by simp)) _ _)
      · cases h

theorem lowerHead_keeps (s : State) : Keeps free s (lowerHead s) := by
  unfold lowerHead
  split
  · exact .refl s
  · next w rest hw =>
    refine setWaitList_keeps (fun x hx => ?_) (by simp [hw])
    rcases List.mem_cons.mp hx with rfl | hx
    · exact ⟨w, by simp [hw], rfl⟩
    · exact ⟨x, by simp [hw, hx], rfl⟩

theorem serveRounds_keeps (n : Nat) (s : State) : Keeps free s (serveRounds n s) := by
  induction n generalizing s with
  | zero => exact .refl s
  | succ n ih =>
    unfold serveRounds
    split
    · next t h => exact (serveHead_keeps h).trans (ih t)
    · exact lowerHead_keeps s

theorem serve_keeps (s : State) : Keeps free s (serve s) := serveRounds_keeps _ _

/-- An entry joins the wait list, which has room for it. -/
theorem appendWait_keeps {w : WaitEntry} {s : State} (hb : w.branch ≤ 6 ∨ .branches ∈ free)
    (hroom : s.supply.waitList.length < 8) : Keeps free s (setWaitList (s.supply.waitList ++ [w]) s) := by
  refine .of_records (setWaitList_parts _ s) ⟨fun hn ⟨hp, hw⟩ => ⟨hp, fun x hx => ?_⟩, fun h => h, fun _ => ?_⟩
  · rcases List.mem_append.mp hx with hx | hx
    · exact hw x hx
    · obtain rfl : x = w := by simpa using hx
      exact hb.resolve_right hn
  · simp only [setWaitList, State.modSupply, List.length_append, List.length_singleton]
    omega

theorem joinWaitList_keeps {p : Port} {b : Nat} (hb : b ≤ 6 ∨ .branches ∈ free) (requested : Nat) (s : State) :
    Keeps free s (joinWaitList p b requested s) := by
  unfold joinWaitList
  split
  · next hroom => exact (appendWait_keeps hb hroom).trans (answerHold_keeps _ _ _)
  · exact answerDeny_keeps _ _ _ _

theorem demandNew_keeps {p : Port} {b : Nat} (hb : b ≤ 6 ∨ .branches ∈ free) (requested : Nat) (s : State) :
    Keeps free s (demandNew p b requested s) :=
  .ite (makeGrant_keeps hb _ _ _) (joinWaitList_keeps hb _ _)

theorem demandRenew_keeps {p : Port} {b : Nat} (hb : b ≤ 6 ∨ .branches ∈ free) (old : Grant) (requested : Nat)
    (s : State) : Keeps free s (demandRenew p b old requested s) := by
  have horder : Keeps free s (if s.renewedCurrent p old requested > old.current then takeOrder s else s) :=
    .ite (takeOrder_keeps s) (.refl s)
  have hplace (c : Nat) (g : Option Grant) := (horder.trans (setGrant_keeps p b g _)).trans
    (placeSupply_keeps (p := p) (c := c) hb)
  exact .ite ((hplace _ _).trans (postSupply_keeps _ _ _ _)) (hplace _ _)

theorem demandWaiting_keeps (p : Port) (b requested : Nat) (s : State) :
    Keeps free s (demandWaiting p b requested s) := by
  refine .trans (setWaitList_keeps (fun w hw => ?_) (by simp)) (answerHold_keeps _ _ _)
  obtain ⟨w', hw', rfl⟩ := List.mem_map.mp hw
  exact ⟨w', hw', by split <;> rfl⟩

theorem supplyDemand_keeps {p : Port} {b : Nat} (hb : b ≤ 6 ∨ .branches ∈ free) (voltage current : Nat) (s : State) :
    Keeps free s (supplyDemand p b voltage current s) := by
  unfold supplyDemand
  split
  · exact answerDeny_keeps _ _ _ _
  · dsimp only
    split
    · exact (demandRenew_keeps hb _ _ _).trans (serve_keeps _)
    · exact .ite ((demandWaiting_keeps _ _ _ _).trans (serve_keeps _)) ((demandNew_keeps hb _ _).trans (serve_keeps _))

/-! ### Retire and freed records -/

theorem giveUp_keeps (p : Port) (b : Nat) (s : State) : Keeps free s (giveUp p b s) := by
  unfold giveUp
  dsimp only
  split
  · exact ((removeWait_keeps _ _ _).trans (setGrant_keeps _ _ _ _)).trans (openIfUnused_keeps _ _)
  · exact removeWait_keeps _ _ _

theorem freePooled_keeps (p : Port) (b : Nat) (s : State) : Keeps free s (freePooled p b s) :=
  setPool_keeps (fun r hr => ⟨r, (List.mem_filter.mp hr).1, rfl⟩) (List.length_filter_le _ _)

theorem supplyRetire_keeps (p : Port) (b : Nat) (s : State) : Keeps free s (supplyRetire p b s) :=
  (Keeps.ite (giveUp_keeps _ _ _) ((giveUp_keeps _ _ _).trans (freePooled_keeps _ _ _))).trans (serve_keeps _)

theorem freeAbove_keeps (p : Port) (count : Nat) (s : State) : Keeps free s (freeAbove p count s) :=
  .ite (.refl s)
    ((Keeps.foldl (fun t b => (giveUp_keeps p b t).trans (freePooled_keeps p b _)) _ _).trans (serve_keeps _))

/-- A record of the pair is allocated, for which there is room. -/
theorem appendPool_keeps {r : PooledRecord} {s : State} (hb : r.branch ≤ 6 ∨ .branches ∈ free)
    (hroom : s.table.pool.length < 12) : Keeps free s (s.setPool (s.table.pool ++ [r])) := by
  refine .of_records ((setPool_changes s _).mono (by simp [recordParts])) ⟨fun hn ⟨hp, hw⟩ => ⟨fun x hx => ?_, hw⟩, fun _ => ?_, fun h => h⟩
  · rcases List.mem_append.mp hx with hx | hx
    · exact hp x hx
    · obtain rfl : x = r := by simpa using hx
      exact hb.resolve_right hn
  · simp only [State.setPool, List.length_append, List.length_singleton]
    omega

theorem withRecord_keeps {p : Port} {b : Nat} {go : State → State} (hb : b ≤ 6 ∨ .branches ∈ free)
    (hg : ∀ s, Keeps free s (go s)) (s : State) : Keeps free s (withRecord p b go s) := by
  unfold withRecord
  refine .ite (hg s) ?_
  split
  · next hroom => exact (appendPool_keeps hb hroom).trans (hg _)
  · exact (answerDeny_keeps _ _ _ _).trans (postPartner_keeps _ _ _)

/-! ### Giving way, cuts and the detach -/

theorem cutGrant_keeps {g : GrantView} (hb : g.branch ≤ 6 ∨ .branches ∈ free) (s : State) :
    Keeps free s (cutGrant g s) := by
  have hcut : Keeps free s (postSupply noticeCut g.port g.branch
      (openIfUnused g.port (place g.port (.cut g.branch) (setGrant g.port g.branch none s)))) :=
    (((setGrant_keeps _ _ _ _).trans (placeCut_keeps hb)).trans (openIfUnused_keeps _ _)).trans (postSupply_keeps _ _ _ _)
  unfold cutGrant
  dsimp only
  split
  · next hroom => exact hcut.trans (appendWait_keeps hb hroom)
  · exact hcut.trans (postSupply_keeps _ _ _ _)

theorem reduceGrant_keeps {g : GrantView} (hb : g.branch ≤ 6 ∨ .branches ∈ free) (step : Nat) (s : State) :
    Keeps free s (reduceGrant g step s) :=
  ((setGrant_keeps _ _ _ _).trans (placeSupply_keeps hb)).trans (postSupply_keeps _ _ _ _)

theorem giveWay_keeps {g : GrantView} (hb : g.branch ≤ 6 ∨ .branches ∈ free) (step : Nat) (s : State) :
    Keeps free s (giveWay g step s) := .ite (reduceGrant_keeps hb _ _) (cutGrant_keeps hb _)

/-- A grant in force names a branch of its record. -/
theorem branch_le_of_mem_grants {s : State} (hs : s.branchesBounded) {g : GrantView} (hg : g ∈ s.grants) :
    g.branch ≤ 6 := by
  unfold State.grants at hg
  rcases List.mem_append.mp hg with hg | hg
  · obtain ⟨p, -, hp⟩ := List.mem_filterMap.mp hg
    obtain ⟨x, -, rfl⟩ := Option.map_eq_some_iff.mp hp
    exact Nat.zero_le _
  · obtain ⟨r, hr, hp⟩ := List.mem_filterMap.mp hg
    obtain ⟨x, -, rfl⟩ := Option.map_eq_some_iff.mp hp
    exact hs.1 r hr

theorem newestGrant_mem {l : List GrantView} {g : GrantView} (h : newestGrant l = some g) : g ∈ l := by
  induction l generalizing g with
  | nil => cases h
  | cons x l ih =>
    unfold newestGrant at h
    split at h
    · next y hy =>
      split at h <;> cases h
      · exact List.mem_cons_of_mem _ (ih hy)
      · exact List.mem_cons_self
    · cases h
      exact List.mem_cons_self

theorem giveWayOf_keeps {g : GrantView} {s : State} (hg : g ∈ s.grants) (step : Nat) : Keeps free s (giveWay g step s) :=
  .of_bounded (fun hs => giveWay_keeps (Or.inl (branch_le_of_mem_grants hs hg)) step s)
    (giveWay_keeps (Or.inr (by simp)) step s)

theorem decreaseSteps_keeps (n : Nat) (s : State) : Keeps free s (decreaseSteps n s) := by
  induction n generalizing s with
  | zero => exact .refl s
  | succ n ih =>
    unfold decreaseSteps
    split
    · split
      · next g hg => exact (giveWayOf_keeps (newestGrant_mem hg) _).trans (ih _)
      · exact .refl s
    · exact .refl s

theorem takeBudget_keeps (budget : Nat) (s : State) : Keeps free s (takeBudget budget s) := by
  have hbudget : Keeps free s (s.modSupply fun u => { u with budget := budget }) := by
    refine .of_quiet fun part hpart => ?_
    cases part <;> simp_all [Part.same, State.modSupply, quietParts]
  exact .ite (hbudget.trans (decreaseSteps_keeps _ _)) hbudget

theorem setBudget_keeps (budget : Nat) (s : State) : Keeps free s (setBudget budget s) :=
  (takeBudget_keeps _ _).trans (serve_keeps _)

theorem rebalancePort_keeps (p : Port) (limit n : Nat) (s : State) : Keeps free s (rebalancePort p limit n s) := by
  induction n generalizing s with
  | zero => exact .refl s
  | succ n ih =>
    unfold rebalancePort
    split
    · split
      · next g hg => exact (giveWayOf_keeps (List.mem_filter.mp (newestGrant_mem hg)).1 _).trans (ih _)
      · exact .refl s
    · exact .refl s

theorem lowerRequests_keeps (limit : Nat) (s : State) : Keeps free s (lowerRequests limit s) := by
  refine .trans (mapGrants_keeps _ _) (setWaitList_keeps (fun w hw => ?_) (by simp))
  obtain ⟨w', hw', rfl⟩ := List.mem_map.mp hw
  exact ⟨w', hw', rfl⟩

theorem rebalance_keeps (old : Nat) (s : State) : Keeps free s (rebalance old s) :=
  (Keeps.ite (Keeps.foldl (fun t p => rebalancePort_keeps p _ _ t) _ _) (.refl s)).trans (lowerRequests_keeps _ _)

theorem supplyDetach_keeps (p : Port) (s : State) : Keeps free s (supplyDetach p s) :=
  ((Keeps.foldl (fun t _ => setGrant_keeps _ _ _ t) _ _).trans (dropWaits_keeps _ _)).trans (setSupplySwitch_keeps _ _ _)

theorem takeFree_keeps (s : State) : Keeps free s (takeFree s).2 :=
  .of_quiet ((takeFree_changes s).mono (by simp [quietParts]))

end

end Sys2Proof.Machine
end

section
/-! PROOFS. What the Path Sequencer's operations keep. -/

namespace Sys2Proof.Machine

open Sys2Proof

/-! ### Orders a free choice picks -/

theorem arrangeBy_perm {α : Type} (fuel k : Nat) (l : List α) : (arrangeBy fuel k l).Perm l := by
  induction fuel generalizing k l with
  | zero => exact .refl l
  | succ fuel ih =>
    match l with
    | [] => exact .refl []
    | [a] => exact .refl [a]
    | a :: b :: l =>
      have hi : k % (a :: b :: l).length < (a :: b :: l).length := Nat.mod_lt _ (by simp)
      simp only [arrangeBy, List.getElem?_eq_getElem hi, Option.toList_some, List.singleton_append]
      exact (List.Perm.cons _ (ih _ _)).trans (List.getElem_cons_eraseIdx_perm hi)

/-- An order of a list is the list, in some order. -/
theorem arrange_perm {α : Type} (k : Nat) (l : List α) : (arrange k l).Perm l := arrangeBy_perm _ _ _

section
variable {free : List Freedom}

theorem Keeps.foldl_mem {α : Type} {f : State → α → State} {xs : List α}
    (h : ∀ x ∈ xs, ∀ s, Keeps free s (f s x)) (s : State) : Keeps free s (xs.foldl f s) := by
  induction xs generalizing s with
  | nil => exact .refl s
  | cons x xs ih =>
    exact (h x List.mem_cons_self s).trans (ih (fun y hy => h y (List.mem_cons_of_mem _ hy)) _)

/-! ### The cut before a draw (R166) -/

theorem cutPort_keeps (p : Port) (s : State) : Keeps free s (cutPort p s) := by
  have key {free : List Freedom} (hb : ∀ g ∈ s.portGrants p, g.branch ≤ 6 ∨ .branches ∈ free) :
      Keeps free s (cutPort p s) := by
    have hcut (cut : List GrantView) (hcut : cut.Perm (s.portGrants p)) (u : State) :
        Keeps free u (cut.foldl (fun t g => place p (.cut g.branch) (setGrant p g.branch none t)) u) :=
      .foldl_mem (fun g hg t => (setGrant_keeps _ _ _ t).trans (placeCut_keeps (hb g (hcut.subset hg)))) u
    have hanswer (l : List WaitEntry) (u : State) :
        Keeps free u (l.foldl (fun t w => answerDeny p w.branch .unavailable t) u) :=
      .foldl (fun t w => answerDeny_keeps _ _ _ t) l u
    unfold cutPort
    dsimp only
    refine .trans ?_ (serve_keeps _)
    have hanswered (k : Nat) (l : List WaitEntry) :=
      ((((takeFree_keeps (free := free) s).trans (hcut _ (arrange_perm k (s.portGrants p)) _)).trans
        (setSupplySwitch_keeps p false _)).trans (dropWaits_keeps p _)).trans (hanswer l _)
    split
    · exact (hanswered _ _).trans (postSupply_keeps _ _ _ _)
    · exact hanswered _ _
  exact .of_bounded
    (fun hs => key fun g hg => Or.inl (branch_le_of_mem_grants hs (List.mem_filter.mp hg).1))
    (key fun g _ => Or.inr (by simp))

/-! ### Contracts and draw switches -/

theorem raiseDemand_keeps (c : DemandClass) (p : Port) (s : State) : Keeps free s (raiseDemand c p s) :=
  .of_quiet ((raiseDemand_changes c p s).mono (by simp [quietParts]))

theorem modLimit_keeps (f : LimitUnit → LimitUnit) (s : State) : Keeps free s (s.modLimit f) :=
  .of_quiet ((modLimit_changes s f).mono (by simp [quietParts]))

theorem recompute_keeps (s : State) : Keeps free s (recompute s) := modLimit_keeps _ s

theorem service_keeps {f : Sequencer → Sequencer} (s : State)
    (h : ∀ q, (f q).demands = q.demands := by exact fun _ => rfl) : Keeps free s (s.modSequencer f) :=
  .of_quiet ((service_changes s f h).mono (by simp [quietParts]))

/-- A contract changes but for its draw switch, and comes into no state that suspends the tests. -/
theorem modContract_keeps {p : Port} {f : Contract → Contract} {s : State}
    (hstate : (f (s.contract.get p)).state = .awaiting ∨ (f (s.contract.get p)).state = .settling →
      (s.contract.get p).state = .awaiting ∨ (s.contract.get p).state = .settling)
    (hclosed : (f (s.contract.get p)).drawClosed = true → (s.contract.get p).drawClosed = true) :
    Keeps free s (s.modContract p f) := by
  refine .of_draws (p := p) ((modContract_changes s p f).mono (by simp)) (fun h hs => ?_) (fun _ => by simpa using hclosed)
  simp only [State.modContract_contract, Four.get_set, State.modContract_drawMonitor] at hs ⊢
  exact h (hs.elim (fun ha => (hstate (Or.inl ha)).elim Or.inl (fun h => Or.inr (Or.inl h)))
    fun hs => hs.elim (fun hs => (hstate (Or.inr hs)).elim Or.inl (fun h => Or.inr (Or.inl h))) fun hd => Or.inr (Or.inr hd))

/-- Contract and draw monitor change together, the two suspended counts at 0. -/
theorem modDraw_keeps {p : Port} {f : Contract → Contract} {g : DrawMonitor → DrawMonitor} {s : State}
    (hclosed : .closing ∉ free → (f (s.contract.get p)).drawClosed = true → (s.contract.get p).drawClosed = true)
    (hheld : (g (s.drawMonitor.get p)).overvoltage = 0 ∧ (g (s.drawMonitor.get p)).sag = 0) :
    Keeps free s ((s.modContract p f).modDrawMonitor p g) := by
  refine .of_draws (p := p) (.then (modContract_changes s p f) (modDrawMonitor_changes _ p g) (by simp) (by simp)) (fun _ _ => ?_)
    (fun hf => by simpa using hclosed hf)
  simpa using hheld

theorem closeDraw_keeps (hfree : .closing ∈ free) (p : Port) (s : State) : Keeps free s (closeDraw p s) :=
  (modDraw_keeps (fun hf => absurd hfree hf) ⟨rfl, rfl⟩).trans (recompute_keeps _)

theorem openDraw_keeps (p : Port) (s : State) : Keeps free s (openDraw p s) :=
  (modDraw_keeps (fun _ h => by simp at h) ⟨rfl, rfl⟩).trans (recompute_keeps _)

theorem fallToBase_keeps (p : Port) (v : Nat) (s : State) : Keeps free s (fallToBase p v s) :=
  (modDraw_keeps (fun _ h => h) ⟨rfl, rfl⟩).trans (recompute_keeps _)

theorem setOutcome_keeps (p : Port) (o : ContractOutcome) (s : State) : Keeps free s (setOutcome p o s) :=
  modContract_keeps (fun h => h) fun h => h

theorem endService_keeps (s : State) : Keeps free s (endService s) := service_keeps s

theorem endTransition_keeps (o : ContractOutcome) (p : Port) (s : State) : Keeps free s (endTransition o p s) := by
  have hceiling : Keeps free s (removeCeiling s) := (modLimit_keeps _ s).trans (recompute_keeps _)
  exact (hceiling.trans (post_keeps _ _ _ _)).trans (endService_keeps _)

/-! ### Claims -/

theorem stepOut_keeps (p : Port) (s : State) : Keeps free s (stepOut p s) :=
  .ite ((openDraw_keeps p s).trans (service_keeps _)) (.refl s)

theorem startClaim_keeps (e : PlanEntry) (g : Stage) (s : State) : Keeps free s (startClaim e g s) := by
  have hstep : Keeps free s (stepOut e.port (setStage g s)) := (service_keeps s).trans (stepOut_keeps _ _)
  unfold startClaim
  dsimp only
  split
  · exact (hstep.trans (modContract_keeps (by simp) fun h => h)).trans (requestExchange_keeps _ _ _)
  · exact hstep.trans (modDraw_keeps (fun _ h => h) ⟨rfl, rfl⟩)

theorem leavePort_keeps (p : Port) (s : State) : Keeps free s (leavePort p s) := by
  unfold leavePort
  exact (Keeps.ite (placeRelease_keeps p s) (.refl s)).trans (modContract_keeps (by simp [Contract.idled]) fun h => h)

theorem setRoles_keeps (pl : Plan) (s : State) : Keeps free s (setRoles pl s) :=
  .foldl (fun _ _ => modContract_keeps (fun h => h) fun h => h) _ s

theorem releaseAndEnd_keeps (t : Transition) (s : State) : Keeps free s (releaseAndEnd t s) := by
  have hleave (l : List Port) (u : State) : Keeps free u (l.foldl (fun u p => leavePort p u) u) :=
    .foldl (fun u p => leavePort_keeps p u) l u
  have hsettled (l : List Port) (u : State) :
      Keeps free u (l.foldl (fun u p => if (u.contract.get p).drawClosed then setOutcome p .settled u else u) u) :=
    .foldl (fun u _ => .ite (setOutcome_keeps _ _ _) (.refl u)) l u
  unfold releaseAndEnd
  exact (((hleave _ s).trans (setRoles_keeps _ _)).trans (hsettled _ _)).trans (endTransition_keeps _ _ _)

/-! ### Switching -/

theorem closeJoining_keeps (hfree : .closing ∈ free) (pl : Plan) (p : Port) (s : State) :
    Keeps free s (closeJoining pl p s) := by
  unfold closeJoining
  split
  · exact (modContract_keeps (by simp) fun h => h).trans (closeDraw_keeps hfree _ _)
  · exact closeDraw_keeps hfree _ _
  · exact closeDraw_keeps hfree _ _

theorem baseFall_keeps (pl : Plan) (s : State) : Keeps free s (baseFall pl s) := by
  unfold baseFall
  split
  · exact .ite (fallToBase_keeps _ _ _) (.refl s)
  · exact .refl s
  · exact .refl s

theorem openAll_keeps (l : List Port) (s : State) : Keeps free s (openAll l s) :=
  .foldl (fun u p => openDraw_keeps p u) l s

theorem makeBeforeBreak_keeps (hfree : .closing ∈ free) (t : Transition) (l : List Port) (s : State) :
    Keeps free s (makeBeforeBreak t l s) :=
  (Keeps.foldl (fun u _ => (Keeps.ite (openAll_keeps _ u) (.refl u)).trans (closeJoining_keeps hfree _ _ _)) l s).trans
    (openAll_keeps _ _)

theorem closeAndEnd_keeps (hfree : .closing ∈ free) (t : Transition) (s : State) : Keeps free s (closeAndEnd t s) :=
  ((Keeps.foldl (fun u p => closeJoining_keeps hfree _ p u) _ s).trans (baseFall_keeps _ _)).trans (releaseAndEnd_keeps _ _)

theorem holdSwitching_keeps (t : Transition) (s : State) : Keeps free s (holdSwitching t s) :=
  (Keeps.foldl (fun _ _ => modContract_keeps (fun h => h) fun h => h) _ s).trans (endTransition_keeps _ _ _)

theorem switching_keeps (hfree : .closing ∈ free) (s : State) : Keeps free s (switching s) := by
  unfold switching
  split
  · exact .refl s
  · exact .ite (((makeBeforeBreak_keeps hfree _ _ s).trans (baseFall_keeps _ _)).trans (releaseAndEnd_keeps _ _))
      (.ite (closeAndEnd_keeps hfree _ s)
        (.ite (((openAll_keeps _ s).trans (baseFall_keeps _ _)).trans (service_keeps _))
          (holdSwitching_keeps _ s)))

theorem claimSecondary_keeps (hfree : .closing ∈ free) (pl : Plan) (s : State) : Keeps free s (claimSecondary pl s) := by
  unfold claimSecondary
  split
  · exact .ite (startClaim_keeps _ _ _) (switching_keeps hfree s)
  · exact switching_keeps hfree s
  · exact switching_keeps hfree s
  · exact switching_keeps hfree s

theorem runClaims_keeps (hfree : .closing ∈ free) (pl : Plan) (s : State) : Keeps free s (runClaims pl s) := by
  unfold runClaims
  split
  · exact .ite (startClaim_keeps _ _ _) (claimSecondary_keeps hfree _ s)
  · exact claimSecondary_keeps hfree _ s
  · exact claimSecondary_keeps hfree _ s

theorem settleContract_keeps (p : Port) (s : State) : Keeps free s (settleContract p s) := by
  unfold settleContract
  split
  · exact ((modDraw_keeps (fun _ h => h) ⟨rfl, rfl⟩).trans (modMonitor_keeps (.of_state rfl rfl))).trans (recompute_keeps _)
  · exact .refl s

theorem continueClaims_keeps (hfree : .closing ∈ free) (s : State) : Keeps free s (continueClaims s) := by
  unfold continueClaims
  split
  · exact .refl s
  · split
    · exact claimSecondary_keeps hfree _ s
    · exact switching_keeps hfree s
    · exact switching_keeps hfree s
    · exact switching_keeps hfree s

/-! ### Failed, stale and aborted claims -/

theorem raiseFailure_keeps (p : Port) (s : State) : Keeps free s (raiseFailure p s) := by
  refine modMonitor_keeps ?_
  split <;> exact .of_state rfl rfl

theorem failClaim_keeps (p : Port) (o : ContractOutcome) (s : State) : Keeps free s (failClaim p o s) := by
  have hrelease (c : Prop) [Decidable c] : Keeps free s (if c then place p .release s else s) :=
    .ite (placeRelease_keeps p s) (.refl s)
  have hopen (c : Prop) [Decidable c] (u : State) : Keeps free u (if c then openDraw p u else u) :=
    .ite (openDraw_keeps p u) (.refl u)
  have hloss (c : Prop) [Decidable c] (u : State) : Keeps free u (if c then raiseDemand .loss p u else u) :=
    .ite (raiseDemand_keeps _ _ u) (.refl u)
  have hidle (u : State) : Keeps free u (recompute (u.modContract p fun c => { c.idled with lastOutcome := o })) :=
    (modContract_keeps (by simp [Contract.idled]) fun h => h).trans (recompute_keeps _)
  unfold failClaim
  exact ((((((hrelease _).trans (raiseFailure_keeps p _)).trans (hopen _ _)).trans (hloss _ _)).trans (hidle _)).trans
    (endTransition_keeps _ _ _)).trans (raiseDemand_keeps _ _ _)

theorem restored_state (c : Contract) :
    ¬ (c.restored.state = .awaiting ∨ c.restored.state = .settling) := by
  unfold Contract.restored
  dsimp only
  split
  · simp
  · split <;> simp

theorem staleClaim_keeps (p : Port) (released : Bool) (s : State) : Keeps free s (staleClaim p released s) :=
  ((Keeps.ite (fallToBase_keeps _ _ s) (modContract_keeps (fun h => absurd h (restored_state _)) fun h => h)).trans
    (setOutcome_keeps _ _ _)).trans (endTransition_keeps _ _ _)

theorem unclaimed_state (c : Contract) :
    ¬ (c.unclaimed.state = .awaiting ∨ c.unclaimed.state = .settling) := by
  unfold Contract.unclaimed
  split
  · exact restored_state c
  · simp [Contract.idled]

theorem unclaimed_drawClosed (c : Contract) : c.unclaimed.drawClosed = c.drawClosed := by
  unfold Contract.unclaimed
  split <;> rfl

theorem abortClaim_keeps (p : Port) (s : State) : Keeps free s (abortClaim p s) := by
  have hwithdraw : Keeps free s (if (s.contract.get p).state == .claiming then withdrawClaim p s else s) :=
    .ite (withdrawClaim_keeps p s) (.refl s)
  have hrelease := hwithdraw.trans (placeRelease_keeps p _)
  unfold abortClaim
  exact .ite
    (hwithdraw.trans (modContract_keeps (fun h => absurd h (unclaimed_state _)) fun h => (unclaimed_drawClosed _).symm.trans h))
    (.ite (hrelease.trans (fallToBase_keeps _ _ _))
      ((hrelease.trans (modContract_keeps (by simp [Contract.idled]) fun h => h)).trans (recompute_keeps _)))

theorem abortIfInvolved_keeps (p : Port) (short : List Port) (s : State) : Keeps free s (abortIfInvolved p short s) := by
  have habort (l : List Port) (u : State) :
      Keeps free u (l.foldl (fun u q => if (u.contract.get q).inFlight then abortClaim q u else u) u) :=
    .foldl (fun u q => .ite (abortClaim_keeps q u) (.refl u)) l u
  have houtcome (l : List Port) (u : State) : Keeps free u (l.foldl (fun u q => setOutcome q .aborted u) u) :=
    .foldl (fun _ _ => setOutcome_keeps _ _ _) l u
  unfold abortIfInvolved
  split
  · exact .refl s
  · exact .ite (((habort _ s).trans (houtcome _ _)).trans (endTransition_keeps _ _ _)) (.refl s)

theorem clearContract_keeps (p : Port) (s : State) : Keeps free s (clearContract p s) :=
  ((Keeps.ite (openDraw_keeps p s) (.refl s)).trans (modContract_keeps (by simp [Contract.idled]) fun h => h)).trans
    (recompute_keeps _)

theorem protect_keeps (p : Port) (s : State) : Keeps free s (protect p s) :=
  (((Keeps.ite (withdrawClaim_keeps p s) (.refl s)).trans (clearContract_keeps p _)).trans
    (raiseDemand_keeps _ _ _)).trans (abortIfInvolved_keeps _ _ _)

/-! ### Taking a demand -/

theorem ceilingFor_keeps (pl : Plan) (s : State) : Keeps free s (ceilingFor pl s) := by
  have hceiling (n : Nat) : Keeps free s (setCeiling n s) := (modLimit_keeps _ s).trans (recompute_keeps _)
  unfold ceilingFor
  split
  · exact .refl s
  · exact hceiling _
  · exact hceiling _

theorem cutJoining_keeps (l : List Port) (s : State) : Keeps free s (cutJoining l s) := by
  have hcut (l : List Port) (u : State) : Keeps free u (l.foldl (fun u p => cutPort p u) u) :=
    .foldl (fun u p => cutPort_keeps p u) l u
  unfold cutJoining
  dsimp only
  split
  · exact (takeFree_keeps s).trans (hcut _ _)
  · exact hcut _ s

theorem beginTransition_keeps (hfree : .closing ∈ free) (pl : Plan) (s : State) : Keeps free s (beginTransition pl s) :=
  (((service_keeps s).trans (ceilingFor_keeps _ _)).trans (cutJoining_keeps _ _)).trans
    (runClaims_keeps hfree _ _)

theorem serveDemand_keeps (hfree : .closing ∈ free) (c : DemandClass) (p : Port) (s : State) :
    Keeps free s (serveDemand c p s) := by
  have htaken (r : LastPlan) : Keeps free s
      { s.modSequencer (fun q => { q with demands := q.demands.set p DemandSet.none, inService := some p }) with
        lastPlan := some r } := by
    refine .of_quiet fun part hpart => ?_
    cases part <;> simp_all [Part.same, State.modSequencer, quietParts]
  unfold serveDemand
  exact .ite ((htaken _).trans (service_keeps _)) ((htaken _).trans (beginTransition_keeps hfree _ _))

end

end Sys2Proof.Machine
end

section
/-! PROOFS. The meter's queue, the conversion in flight and the phases of the ports (R57, R61, R63): what each operation
of the ID Meter makes of them. -/

namespace Sys2Proof.Machine

open Sys2Proof

/-! ### The meter alone -/

/-- The phase of a port stands for the place of its channel. -/
def Meter.placed (m : Meter) (p : Port) : Prop :=
  ((m.port.get p).phase = .queued ↔ .id p ∈ m.queue)
    ∧ ((m.port.get p).phase = .converting ↔ m.inFlightChannel = some (.id p))
    ∧ ((m.port.get p).phase = .unresolved ↔ (m.port.get p).heldPeriod.isSome = true)

/-- No channel stands in the queue twice, or in the queue and in conversion. -/
def Meter.distinct (m : Meter) : Prop :=
  m.queue.Nodup ∧ ∀ c, m.inFlightChannel = some c → c ∉ m.queue

/-- As `State.meterFormed` says of the state. -/
def Meter.formed (m : Meter) : Prop := m.distinct ∧ ∀ p, m.placed p

/-- A conversion of port `p` is being handled: its channel stands nowhere, and its phase does not count yet. -/
def Meter.handling (m : Meter) (p : Port) : Prop :=
  m.distinct ∧ (∀ q, q ≠ p → m.placed q) ∧ .id p ∉ m.queue ∧ m.inFlightChannel ≠ some (.id p)

theorem meterFormed_iff (s : State) : s.meterFormed ↔ s.meter.formed := by
  unfold State.meterFormed Meter.formed Meter.distinct Meter.placed
  tauto

/-- A port's record changes. -/
def Meter.setPort (m : Meter) (p : Port) (r : PortMeasure) : Meter := { m with port := m.port.set p r }

section
variable {m : Meter} {p : Port}

theorem Meter.placed_setPort_other {q : Port} (h : q ≠ p) (r : PortMeasure) : (m.setPort p r).placed q ↔ m.placed q := by
  simp only [Meter.placed, Meter.setPort, Meter.inFlightChannel, Four.get_set, if_neg h]

/-- A record that keeps its phase and whether it holds a period keeps its place. -/
theorem Meter.formed_setPort (h : m.formed) {r : PortMeasure} (hphase : r.phase = (m.port.get p).phase)
    (hheld : r.heldPeriod.isSome = (m.port.get p).heldPeriod.isSome) : (m.setPort p r).formed := by
  refine ⟨h.1, fun q => ?_⟩
  by_cases hq : q = p
  · subst hq
    simpa [Meter.placed, Meter.setPort, Meter.inFlightChannel, hphase, hheld] using h.2 q
  · exact (Meter.placed_setPort_other hq r).mpr (h.2 q)

theorem Meter.handling_setPort (h : m.handling p) (r : PortMeasure) : (m.setPort p r).handling p := by
  obtain ⟨hdistinct, hothers, hqueue, hflight⟩ := h
  exact ⟨hdistinct, fun q hq => (Meter.placed_setPort_other hq r).mpr (hothers q hq), hqueue, hflight⟩

/-- The handled port's record takes a phase whose channel stands nowhere. -/
theorem Meter.formed_of_handled (h : m.handling p) {r : PortMeasure} (hphase : r.phase = .idle ∨ r.phase = .unresolved)
    (hheld : r.phase = .unresolved ↔ r.heldPeriod.isSome = true) : (m.setPort p r).formed := by
  obtain ⟨hdistinct, hothers, hqueue, hflight⟩ := h
  refine ⟨hdistinct, fun q => ?_⟩
  by_cases hq : q = p
  · subst hq
    have hqueued : r.phase ≠ .queued := by rintro h; simp [h] at hphase
    have hconverting : r.phase ≠ .converting := by rintro h; simp [h] at hphase
    refine ⟨?_, ?_, ?_⟩ <;> simp only [Meter.setPort, Four.get_set, if_pos]
    · exact iff_of_false hqueued hqueue
    · exact iff_of_false hconverting hflight
    · exact hheld
  · exact (Meter.placed_setPort_other hq r).mpr (hothers q hq)

/-- A port whose channel stands nowhere can be handled. -/
theorem Meter.handling_of_formed (h : m.formed)
    (hphase : (m.port.get p).phase = .idle ∨ (m.port.get p).phase = .unresolved) : m.handling p := by
  obtain ⟨hqueued, hconverting, -⟩ := h.2 p
  refine ⟨h.1, fun q _ => h.2 q, fun hin => ?_, fun hin => ?_⟩
  · have := hqueued.mpr hin
    simp [this] at hphase
  · have := hconverting.mpr hin
    simp [this] at hphase

/-! ### The queue -/

theorem insertChannel_perm (c : Channel) (q : List Channel) : (insertChannel c q).Perm (c :: q) := by
  unfold insertChannel
  split
  · calc q.takeWhile Channel.isReference ++ c :: q.dropWhile Channel.isReference
        |>.Perm (c :: (q.takeWhile Channel.isReference ++ q.dropWhile Channel.isReference)) := List.perm_middle
      _ = c :: q := by rw [List.takeWhile_append_dropWhile]
  · exact List.perm_append_singleton c q

theorem Meter.add_queue_perm (c : Channel) :
    (m.add c).queue = m.queue ∨ (m.add c).queue.Perm (c :: m.queue) ∧ c ∉ m.queue ∧ m.inFlightChannel ≠ some c := by
  unfold Meter.add
  split
  · exact Or.inl rfl
  · next h =>
    have h : c ∉ m.queue ∧ m.inFlightChannel ≠ some c := by simpa using h
    exact Or.inr ⟨insertChannel_perm c m.queue, h⟩

theorem Meter.distinct_add (h : m.distinct) (c : Channel) : (m.add c).distinct := by
  obtain ⟨hnodup, hflight⟩ := h
  rw [Meter.distinct, Meter.inFlightChannel, Meter.add_inFlight]
  rcases m.add_queue_perm c with hq | ⟨hperm, hnot, hno⟩
  · rw [hq]
    exact ⟨hnodup, hflight⟩
  · refine ⟨hperm.nodup_iff.mpr (List.nodup_cons.mpr ⟨hnot, hnodup⟩), fun d hd hin => ?_⟩
    rcases List.mem_cons.mp (hperm.subset hin) with rfl | hin
    · exact hno hd
    · exact hflight d hd hin

theorem Meter.mem_add_iff {c d : Channel} (hd : d ≠ c) : d ∈ (m.add c).queue ↔ d ∈ m.queue := by
  rcases m.add_queue_perm c with hq | ⟨hperm, -, -⟩
  · rw [hq]
  · rw [hperm.mem_iff, List.mem_cons, or_iff_right hd]

theorem Meter.placed_add {c : Channel} {q : Port} (hc : .id q ≠ c) : (m.add c).placed q ↔ m.placed q := by
  simp only [Meter.placed, Meter.inFlightChannel, Meter.add_port, Meter.add_inFlight, Meter.mem_add_iff hc]

theorem Meter.formed_addReference (h : m.formed) {c : Channel} (hc : c.isReference = true) : (m.add c).formed :=
  ⟨Meter.distinct_add h.1 c, fun q => (Meter.placed_add (by rintro rfl; simp [Channel.isReference] at hc)).mpr (h.2 q)⟩

theorem Meter.handling_addReference (h : m.handling p) {c : Channel} (hc : c.isReference = true) :
    (m.add c).handling p := by
  obtain ⟨hdistinct, hothers, hqueue, hflight⟩ := h
  have hne (q : Port) : Channel.id q ≠ c := by rintro rfl; simp [Channel.isReference] at hc
  refine ⟨Meter.distinct_add hdistinct c, fun q hq => (Meter.placed_add (hne q)).mpr (hothers q hq), ?_, ?_⟩
  · rwa [Meter.mem_add_iff (hne p)]
  · rwa [Meter.inFlightChannel, Meter.add_inFlight]

/-- The handled port's channel is queued again. -/
theorem Meter.formed_addPort (h : m.handling p) {r : PortMeasure} (hphase : r.phase = .queued)
    (hheld : r.heldPeriod = none) : ((m.setPort p r).add (.id p)).formed := by
  obtain ⟨hdistinct, hothers, hqueue, hflight⟩ := Meter.handling_setPort h r
  refine ⟨Meter.distinct_add hdistinct _, fun q => ?_⟩
  by_cases hq : q = p
  · subst hq
    have hin : .id q ∈ ((m.setPort q r).add (.id q)).queue := by
      rcases (m.setPort q r).add_queue_perm (.id q) with hsame | ⟨hperm, -, -⟩
      · unfold Meter.add
        rw [if_neg (by simpa using ⟨hqueue, hflight⟩)]
        exact mem_insertChannel _ _
      · exact hperm.mem_iff.mpr List.mem_cons_self
    have hget : ((m.setPort q r).add (.id q)).port.get q = r := by simp [Meter.setPort]
    rw [Meter.placed, hget, Meter.inFlightChannel, Meter.add_inFlight]
    exact ⟨iff_of_true hphase hin, iff_of_false (by simp [hphase]) hflight, iff_of_false (by simp [hphase]) (by simp [hheld])⟩
  · exact (Meter.placed_add (by simpa using hq)).mpr (hothers q hq)

/-! ### The converter -/

theorem Meter.formed_take (h : m.formed) : m.take.formed := by
  unfold Meter.take
  split
  · next c rest hflight hqueue =>
    obtain ⟨⟨hnodup, -⟩, hplaced⟩ := h
    rw [hqueue] at hnodup
    obtain ⟨hnot, hrest⟩ := List.nodup_cons.mp hnodup
    have hdistinct : ({ m with queue := rest, inFlight := some { channel := c, elapsed := 0, timebase := 0, edges := 0 } } :
        Meter).distinct := ⟨hrest, fun d hd => by
      obtain rfl : c = d := by simpa [Meter.inFlightChannel] using hd
      exact hnot⟩
    have hother (q : Port) (hq : .id q ≠ c) (x : Four PortMeasure) (hx : x.get q = m.port.get q) :
        ({ m with queue := rest, inFlight := some { channel := c, elapsed := 0, timebase := 0, edges := 0 }, port := x } :
          Meter).placed q := by
      have hin : Channel.id q ∈ rest ↔ .id q ∈ m.queue := by simp [hqueue, hq]
      obtain ⟨hqueued, hconverting, hheld⟩ := hplaced q
      refine ⟨by rw [hx, hin]; exact hqueued, ?_, by rw [hx]; exact hheld⟩
      have hno : (m.port.get q).phase ≠ .converting := by
        intro hc
        simpa [Meter.inFlightChannel, hflight] using hconverting.mp hc
      rw [hx]
      exact iff_of_false hno (by simpa [Meter.inFlightChannel] using Ne.symm hq)
    cases c with
    | id p =>
      refine ⟨hdistinct, fun q => ?_⟩
      by_cases hq : q = p
      · subst hq
        have hphase : (m.port.get q).phase = .queued := ((hplaced q).1).mpr (by simp [hqueue])
        have hheld := (hplaced q).2.2
        refine ⟨?_, ?_, ?_⟩ <;> simp only [Four.get_set, if_pos]
        · exact iff_of_false nofun hnot
        · exact iff_of_true trivial rfl
        · refine iff_of_false nofun ?_
          rw [← hheld, hphase]
          nofun
      · exact hother q (by simpa using hq) _ (by simp [hq])
    | refLo => exact ⟨hdistinct, fun q => hother q nofun _ rfl⟩
    | refHi => exact ⟨hdistinct, fun q => hother q nofun _ rfl⟩
  · exact h

/-- The converter is freed of a reference. -/
theorem Meter.formed_free (h : m.formed) (hflight : ∀ p, m.inFlightChannel ≠ some (.id p)) :
    ({ m with inFlight := none } : Meter).formed := by
  refine ⟨⟨h.1.1, nofun⟩, fun q => ?_⟩
  obtain ⟨hqueued, hconverting, hheld⟩ := h.2 q
  exact ⟨hqueued, iff_of_false (fun hc => hflight q (hconverting.mp hc)) nofun, hheld⟩

/-- The converter is freed of a port's channel, whose conversion is handled now. -/
theorem Meter.handling_free (h : m.formed) (hflight : m.inFlightChannel = some (.id p)) :
    ({ m with inFlight := none } : Meter).handling p := by
  refine ⟨⟨h.1.1, nofun⟩, fun q hq => ?_, h.1.2 _ hflight, nofun⟩
  obtain ⟨hqueued, hconverting, hheld⟩ := h.2 q
  refine ⟨hqueued, iff_of_false (fun hc => hq ?_) nofun, hheld⟩
  simpa [hflight, eq_comm] using hconverting.mp hc

/-- A queued channel leaves the queue. -/
theorem Meter.handling_filter (h : m.formed) (hphase : (m.port.get p).phase = .queued) :
    ({ m with queue := m.queue.filter (· != .id p) } : Meter).handling p := by
  obtain ⟨hqueued, hconverting, -⟩ := h.2 p
  refine ⟨⟨h.1.1.filter _, fun c hc hin => h.1.2 c hc (List.mem_filter.mp hin).1⟩, fun q hq => ?_, by simp, ?_⟩
  · obtain ⟨hq1, hq2, hq3⟩ := h.2 q
    refine ⟨hq1.trans ?_, hq2, hq3⟩
    simp [hq]
  · intro hc
    have := hconverting.mpr hc
    simp [hphase] at this

end

/-- What the meter says does not rest on the references or the refresh count. -/
theorem Meter.formed_congr {m m' : Meter} (hqueue : m'.queue = m.queue) (hflight : m'.inFlight = m.inFlight)
    (hport : m'.port = m.port) : m'.formed ↔ m.formed := by
  simp only [Meter.formed, Meter.distinct, Meter.placed, Meter.inFlightChannel, hqueue, hflight, hport]

theorem Meter.handling_congr {m m' : Meter} {p : Port} (hqueue : m'.queue = m.queue) (hflight : m'.inFlight = m.inFlight)
    (hport : m'.port = m.port) : m'.handling p ↔ m.handling p := by
  simp only [Meter.handling, Meter.distinct, Meter.placed, Meter.inFlightChannel, hqueue, hflight, hport]

end Sys2Proof.Machine
end

section
/-! PROOFS. What the operations of the Offer Book and of the ID Meter keep. -/

namespace Sys2Proof.Machine

open Sys2Proof

section
variable {free : List Freedom}

/-! ### Books and results at the Port Monitor -/

theorem modBook_keeps (p : Port) (f : Book → Book) (s : State) : Keeps free s (s.modBook p f) :=
  .of_quiet ((modBook_changes s p f).mono (by simp [quietParts]))

theorem raiseBookDemand_keeps (p : Port) (s : State) : Keeps free s (raiseBookDemand p s) :=
  (modBook_keeps _ _ s).trans (raiseDemand_keeps _ _ _)

theorem replaceBook_keeps (p : Port) (points : List OfferPoint) (s : State) : Keeps free s (replaceBook p points s) := by
  have haccepted (u : State) : Keeps free u (offerAccepted p u) := modMonitor_keeps (.of_state rfl rfl)
  have hbook := (modBook_keeps (free := free) p (fun b =>
    { b with source := .talk, generation := b.generation + 1, points := points, ratingEntry := none,
             stamp := s.msCount }) s).trans (haccepted _)
  exact .ite (hbook.trans (raiseDemand_keeps _ _ _)) (hbook.trans (raiseBookDemand_keeps _ _))

theorem emptyBook_keeps (p : Port) (s : State) : Keeps free s (emptyBook p s) :=
  (modBook_keeps _ _ s).trans (raiseDemand_keeps _ _ _)

theorem deliverRated_keeps (p : Port) (entry : Nat) (r : Rating) (s : State) : Keeps free s (deliverRated p entry r s) := by
  have hlegacy (h : (s.monitor.get p).state.attached = true) :
      Keeps free s (postPartner noticeLegacy p
        (buildLegacy p entry r (s.modMonitor p fun m => { m with state := .legacy }))) :=
    ((modMonitor_keeps (.of_attached rfl h rfl)).trans
      ((modBook_keeps _ _ _).trans (raiseBookDemand_keeps _ _))).trans (postPartner_keeps _ _ _)
  unfold deliverRated
  split
  · next hs => exact hlegacy (by simp [hs, Attach.attached])
  · next hs => exact hlegacy (by simp [hs, Attach.attached])
  · exact .ite (.refl s) ((modBook_keeps _ _ _).trans (raiseDemand_keeps _ _ _))
  · exact .refl s
  · exact .refl s
  · exact .refl s
  · exact .refl s

theorem deliverUnrated_keeps (p : Port) (s : State) : Keeps free s (deliverUnrated p s) := by
  have hmute (h : (s.monitor.get p).state.attached = true) : Keeps free s (s.modMonitor p fun m => { m with state := .mute }) :=
    modMonitor_keeps (.of_attached rfl h rfl)
  unfold deliverUnrated
  split
  · next hs => exact (hmute (by simp [hs, Attach.attached])).trans (postPartner_keeps _ _ _)
  · next hs => exact ((hmute (by simp [hs, Attach.attached])).trans (emptyBook_keeps _ _)).trans (postPartner_keeps _ _ _)
  · exact .refl s
  · exact .refl s
  · exact .refl s
  · exact .refl s
  · exact .refl s

/-! ### The meter's own record -/

theorem modMeter_parts (f : Meter → Meter) (s : State) : ChangesOnly ownMeterParts s (s.modMeter f) := by
  intro part hpart
  cases part <;> simp_all [Part.same, State.modMeter, ownMeterParts]

theorem modMeter_keeps {f : Meter → Meter} {s : State} (hf : .metering ∉ free → s.meter.formed → (f s.meter).formed) :
    Keeps free s (s.modMeter f) :=
  .of_meter (modMeter_parts f s) fun hn h => (meterFormed_iff _).mpr (hf hn ((meterFormed_iff s).mp h))

theorem takeChannel_keeps (s : State) : Keeps free s (takeChannel s) := modMeter_keeps fun _ => Meter.formed_take

theorem queuePair_formed {m : Meter} (h : m.formed) :
    ({ (m.add .refLo).add .refHi with refreshCount := 0 } : Meter).formed :=
  (Meter.formed_congr rfl rfl rfl).mpr (Meter.formed_addReference (Meter.formed_addReference h rfl) rfl)

theorem queuePair_handling {m : Meter} {p : Port} (h : m.handling p) :
    ({ (m.add .refLo).add .refHi with refreshCount := 0 } : Meter).handling p :=
  (Meter.handling_congr rfl rfl rfl).mpr (Meter.handling_addReference (Meter.handling_addReference h rfl) rfl)

theorem queuePair_keeps (s : State) : Keeps free s (queuePair s) := modMeter_keeps fun _ => queuePair_formed

theorem postMeter_keeps (code : Byte) (c : Channel) (s : State) : Keeps free s (postMeter code c s) := post_keeps _ _ _ _

theorem modMeter_modMeter (f g : Meter → Meter) (s : State) :
    (s.modMeter f).modMeter g = s.modMeter fun m => g (f m) := rfl

theorem modPortMeasure_eq (p : Port) (f : PortMeasure → PortMeasure) (s : State) :
    s.modPortMeasure p f = s.modMeter fun m => m.setPort p (f (m.port.get p)) := rfl

/-- A port's record keeps its phase and whether it holds a period. -/
theorem modPortMeasure_keeps {p : Port} {f : PortMeasure → PortMeasure} {s : State}
    (h : ∀ r, (f r).phase = r.phase ∧ (f r).heldPeriod = r.heldPeriod) : Keeps free s (s.modPortMeasure p f) := by
  obtain ⟨hphase, hheld⟩ := h (s.meter.port.get p)
  exact modMeter_keeps fun _ hm => Meter.formed_setPort hm hphase (by rw [hheld])

theorem startMeasure_keeps (p : Port) (byCommand : Bool) (s : State) : Keeps free s (startMeasure p byCommand s) := by
  unfold startMeasure
  split
  · next hidle =>
    unfold addChannel
    rw [modPortMeasure_eq, modMeter_modMeter]
    refine .trans (modMeter_keeps fun _ h => ?_) (takeChannel_keeps _)
    exact Meter.formed_addPort (Meter.handling_of_formed h (Or.inl hidle)) rfl rfl
  all_goals exact .ite (modPortMeasure_keeps fun _ => ⟨rfl, rfl⟩) (.refl s)

theorem abandonMeasure_keeps (p : Port) (s : State) : Keeps free s (abandonMeasure p s) := by
  unfold abandonMeasure
  dsimp only
  split
  · exact modPortMeasure_keeps fun _ => ⟨rfl, rfl⟩
  · next hphase =>
    rw [modPortMeasure_eq, modMeter_modMeter]
    exact modMeter_keeps fun _ h => Meter.formed_of_handled (Meter.handling_filter h hphase) (Or.inl rfl) (by simp)
  · next hphase =>
    rw [modPortMeasure_eq]
    exact modMeter_keeps fun _ h => Meter.formed_of_handled (Meter.handling_of_formed h (Or.inr hphase)) (Or.inl rfl) (by simp)
  · next hphase =>
    rw [modPortMeasure_eq, modMeter_modMeter]
    refine .trans (modMeter_keeps fun _ h => ?_) (takeChannel_keeps _)
    have hflight : s.meter.inFlightChannel = some (.id p) := (h.2 p).2.1.mp hphase
    rw [if_pos hflight]
    exact Meter.formed_of_handled (Meter.handling_free h hflight) (Or.inl rfl) (by simp)

/-- A reference is queued by command (R70). -/
theorem measureReference_keeps {c : Channel} (hc : c.isReference = true) {f : Meter → Meter} (s : State)
    (hf : ∀ m, (f m).queue = m.queue ∧ (f m).inFlight = m.inFlight ∧ (f m).port = m.port) :
    Keeps free s (takeChannel (addChannel c (s.modMeter f))) := by
  obtain ⟨hqueue, hflight, hport⟩ := hf s.meter
  unfold addChannel
  rw [modMeter_modMeter]
  refine .trans (modMeter_keeps fun _ h => ?_) (takeChannel_keeps _)
  exact Meter.formed_addReference ((Meter.formed_congr hqueue hflight hport).mpr h) hc

theorem measureChannel_keeps (c : Channel) (s : State) : Keeps free s (measureChannel c s) := by
  cases c with
  | id p => exact startMeasure_keeps p true s
  | refLo => exact measureReference_keeps rfl s fun _ => ⟨rfl, rfl, rfl⟩
  | refHi => exact measureReference_keeps rfl s fun _ => ⟨rfl, rfl, rfl⟩

/-! ### A conversion that is handled: what is kept but for the meter -/

theorem modMeter_metering (hfree : .metering ∈ free) (f : Meter → Meter) (s : State) : Keeps free s (s.modMeter f) :=
  modMeter_keeps fun hn => absurd hfree hn

theorem modPortMeasure_metering (hfree : .metering ∈ free) (p : Port) (f : PortMeasure → PortMeasure) (s : State) :
    Keeps free s (s.modPortMeasure p f) := modMeter_metering hfree _ s

theorem finishFlag_keeps (p : Port) (code : Option UnratedCode) (s : State) : Keeps free s (finishFlag p code s) := by
  have hflag : Keeps free s (s.modPortMeasure p fun r => { r with measureFlag := false }) :=
    modPortMeasure_keeps fun _ => ⟨rfl, rfl⟩
  exact .ite (hflag.trans (postMeter_keeps _ _ _)) hflag

theorem endRated_metering (hfree : .metering ∈ free) (p : Port) (entry : Nat) (r : Rating) (n : Nat) (s : State) :
    Keeps free s (endRated p entry r n s) :=
  ((modPortMeasure_metering hfree _ _ s).trans (deliverRated_keeps _ _ _ _)).trans (finishFlag_keeps _ _ _)

theorem endUnrated_metering (hfree : .metering ∈ free) (p : Port) (code : UnratedCode) (n : Option Nat) (s : State) :
    Keeps free s (endUnrated p code n s) :=
  ((modPortMeasure_metering hfree _ _ s).trans (deliverUnrated_keeps _ _)).trans (finishFlag_keeps _ _ _)

theorem rate_metering (hfree : .metering ∈ free) (p : Port) (n : Nat) (s : State) : Keeps free s (rate p n s) := by
  unfold rate
  split
  · exact endUnrated_metering hfree _ _ _ s
  · exact .ite (endRated_metering hfree _ _ _ _ s) (endUnrated_metering hfree _ _ _ s)

theorem measureAgain_metering (hfree : .metering ∈ free) (p : Port) (n : Nat) (s : State) :
    Keeps free s (measureAgain p n s) := by
  unfold measureAgain addChannel
  exact (modPortMeasure_metering hfree _ _ s).trans (modMeter_metering hfree _ _)

theorem acceptResistance_metering (hfree : .metering ∈ free) (p : Port) (n : Nat) (s : State) :
    Keeps free s (acceptResistance p n s) := by
  unfold acceptResistance
  split
  · exact measureAgain_metering hfree p n s
  · exact .ite (rate_metering hfree p n s)
      (.ite (measureAgain_metering hfree p n s) (endUnrated_metering hfree _ _ _ s))

theorem referenceFault_metering (hfree : .metering ∈ free) (p : Port) (s : State) : Keeps free s (referenceFault p s) :=
  (((endUnrated_metering hfree _ _ _ s).trans (postMeter_keeps _ _ _)).trans (modMeter_metering hfree _ _)).trans
    (queuePair_keeps _)

theorem resolve_metering (hfree : .metering ∈ free) (p : Port) (tx : Nat) (s : State) : Keeps free s (resolve p tx s) :=
  .ite (referenceFault_metering hfree p s) (acceptResistance_metering hfree p _ s)

theorem holdConversion_metering (hfree : .metering ∈ free) (p : Port) (n : Nat) (s : State) :
    Keeps free s (holdConversion p n s) := (modPortMeasure_metering hfree _ _ s).trans (queuePair_keeps _)

theorem resolveHeld_metering (hfree : .metering ∈ free) (p : Port) (s : State) : Keeps free s (resolveHeld p s) := by
  unfold resolveHeld
  split
  · exact resolve_metering hfree _ _ s
  · exact .refl s

theorem countConversion_metering (hfree : .metering ∈ free) (p : Port) (s : State) : Keeps free s (countConversion p s) := by
  have hcount := (modPortMeasure_metering hfree p (fun r => { r with attempts := r.attempts + 1 }) s).trans
    (modMeter_metering hfree (fun m => { m with refreshCount := m.refreshCount + 1 }) _)
  exact .ite (hcount.trans (queuePair_keeps _)) hcount

theorem portCompleted_metering (hfree : .metering ∈ free) (p : Port) (o : ConversionOutcome) (s : State) :
    Keeps free s (portCompleted p o s) := by
  unfold portCompleted
  dsimp only
  refine .trans (.trans ((modMeter_metering hfree (fun m => { m with inFlight := none }) s).trans
    (countConversion_metering hfree p _)) ?_) (takeChannel_keeps _)
  split
  · exact endUnrated_metering hfree _ _ _ _
  · exact (modPortMeasure_metering hfree _ _ _).trans (endUnrated_metering hfree _ _ _ _)
  · exact .ite ((modPortMeasure_metering hfree _ _ _).trans (resolve_metering hfree _ _ _))
      ((modPortMeasure_metering hfree _ _ _).trans (holdConversion_metering hfree _ _ _))

theorem settleHeld_metering (hfree : .metering ∈ free) (o : ConversionOutcome) (s : State) :
    Keeps free s (settleHeld o s) := by
  have hheld (l : List Port) (u : State) :
      Keeps free u (l.foldl (fun u p => if o.isValid then resolveHeld p u else endUnrated p .reference none u) u) :=
    .foldl (fun u p => .ite (resolveHeld_metering hfree p u) (endUnrated_metering hfree _ _ _ u)) l u
  unfold settleHeld
  exact .ite (.refl s) ((takeFree_keeps s).trans (hheld _ _))

theorem referenceCompleted_metering (hfree : .metering ∈ free) (hi : Bool) (o : ConversionOutcome) (s : State) :
    Keeps free s (referenceCompleted hi o s) := by
  have hrecord := modMeter_metering hfree
    (fun m => { m.setReference hi ((m.reference hi).updated o) with inFlight := none }) s
  have hsettle (u : State) := settleHeld_metering hfree o u
  unfold referenceCompleted
  refine .trans (.ite ((hrecord.trans (postMeter_keeps _ _ _)).trans (hsettle _)) (.ite (hrecord.trans (hsettle _)) ?_))
    (takeChannel_keeps _)
  have hfreed := hrecord.trans (takeFree_keeps _)
  exact .ite ((hfreed.trans (postMeter_keeps _ _ _)).trans (hsettle _))
    ((hfreed.trans (hsettle _)).trans (postMeter_keeps _ _ _))

/-! ### A conversion that is handled: the meter -/

/-- A relation kept but for the meter, with the meter formed after it. -/
theorem Keeps.of_metering {s t : State} (h : Keeps (.metering :: free) s t) (hm : s.meterFormed → t.meterFormed) :
    Keeps free s t where
  monitors := fun p => ⟨(h.monitors p).1, (h.monitors p).2.1, fun hf => (h.monitors p).2.2 (by simpa using hf)⟩
  framers := fun p =>
    { relay := (h.framers p).relay, quiet := (h.framers p).quiet, sending := (h.framers p).sending,
      sound := fun hf => (h.framers p).sound (by simpa using hf) }
  lines := fun hf => h.lines (by simpa using hf)
  records := ⟨fun hf => h.records.1 (by simpa using hf), h.records.2⟩
  meter := fun _ => hm
  draws := ⟨h.draws.1, fun hf => h.draws.2 (by simpa using hf)⟩

/-- An operation that leaves the meter formed. -/
theorem Keeps.formed {s t : State} (h : Keeps [] s t) (hs : s.meter.formed) : t.meter.formed :=
  (meterFormed_iff t).mp (h.meter nofun ((meterFormed_iff s).mpr hs))

section
variable {p : Port} {s : State}

theorem endUnrated_formed (h : s.meter.handling p) (code : UnratedCode) (n : Option Nat) :
    (endUnrated p code n s).meter.formed :=
  (finishFlag_keeps _ _ _).formed ((deliverUnrated_keeps _ _).formed (Meter.formed_of_handled h (Or.inl rfl) (by simp)))

theorem endRated_formed (h : s.meter.handling p) (entry : Nat) (r : Rating) (n : Nat) :
    (endRated p entry r n s).meter.formed :=
  (finishFlag_keeps _ _ _).formed ((deliverRated_keeps _ _ _ _).formed (Meter.formed_of_handled h (Or.inl rfl) (by simp)))

theorem rate_formed (h : s.meter.handling p) (n : Nat) : (rate p n s).meter.formed := by
  unfold rate
  split
  · exact endUnrated_formed h _ _
  · split
    · exact endRated_formed h _ _ _
    · exact endUnrated_formed h _ _

theorem measureAgain_formed (h : s.meter.handling p) (n : Nat) : (measureAgain p n s).meter.formed :=
  Meter.formed_addPort h rfl rfl

theorem acceptResistance_formed (h : s.meter.handling p) (n : Nat) : (acceptResistance p n s).meter.formed := by
  unfold acceptResistance
  split
  · exact measureAgain_formed h n
  · split_ifs
    · exact rate_formed h n
    · exact measureAgain_formed h n
    · exact endUnrated_formed h _ _

theorem referenceFault_formed (h : s.meter.handling p) : (referenceFault p s).meter.formed :=
  (queuePair_keeps _).formed ((Meter.formed_congr rfl rfl rfl).mpr
    ((postMeter_keeps _ _ _).formed (endUnrated_formed h _ _)))

theorem resolve_formed (h : s.meter.handling p) (tx : Nat) : (resolve p tx s).meter.formed := by
  unfold resolve
  dsimp only
  split
  · exact referenceFault_formed h
  · exact acceptResistance_formed h _

theorem holdConversion_formed (h : s.meter.handling p) (n : Nat) : (holdConversion p n s).meter.formed :=
  (queuePair_keeps _).formed (Meter.formed_of_handled h (Or.inr rfl) (by simp))

theorem countConversion_handling (h : s.meter.handling p) : (countConversion p s).meter.handling p := by
  have hcount : ((s.modPortMeasure p fun r => { r with attempts := r.attempts + 1 }).modMeter
      fun m => { m with refreshCount := m.refreshCount + 1 }).meter.handling p :=
    (Meter.handling_congr rfl rfl rfl).mpr (Meter.handling_setPort h _)
  unfold countConversion
  dsimp only
  split
  · exact queuePair_handling hcount
  · exact hcount

theorem portCompleted_formed (h : s.meter.formed) (hflight : s.meter.inFlightChannel = some (.id p))
    (o : ConversionOutcome) : (portCompleted p o s).meter.formed := by
  have hcounted : (countConversion p (s.modMeter fun m => { m with inFlight := none })).meter.handling p :=
    countConversion_handling (Meter.handling_free h hflight)
  unfold portCompleted
  refine (takeChannel_keeps _).formed ?_
  dsimp only
  split
  · exact endUnrated_formed hcounted _ _
  · exact endUnrated_formed (Meter.handling_setPort hcounted _) _ _
  · split
    · exact resolve_formed (Meter.handling_setPort hcounted _) _
    · exact holdConversion_formed (Meter.handling_setPort hcounted _) _

end

/-- The end of a measurement touches no other port's record. -/
theorem endUnrated_measure_other {p q : Port} (hq : q ≠ p) (code : UnratedCode) (n : Option Nat) (s : State) :
    (endUnrated p code n s).meter.port.get q = s.meter.port.get q := by
  unfold endUnrated finishFlag
  dsimp only
  split <;> simp [State.modPortMeasure, postMeter, post, deliverUnrated_meter, hq]

/-- Held conversions are resolved one after the other, each that still stands held. -/
theorem resolveHeld_formed {p : Port} {s : State} (h : s.meter.formed) : (resolveHeld p s).meter.formed := by
  unfold resolveHeld
  split
  · next period hheld =>
    have hphase : (s.meter.port.get p).phase = .unresolved := (h.2 p).2.2.mpr (by simp [hheld])
    exact resolve_formed (Meter.handling_of_formed h (Or.inr hphase)) period
  · exact h

/-- Held conversions of distinct ports end one after the other. -/
theorem endHeld_formed {l : List Port} (hl : l.Nodup) {s : State} (h : s.meter.formed)
    (hheld : ∀ p ∈ l, (s.meter.port.get p).phase = .unresolved) :
    (l.foldl (fun u p => endUnrated p .reference none u) s).meter.formed := by
  induction l generalizing s with
  | nil => exact h
  | cons p l ih =>
    obtain ⟨hp, hl⟩ := List.nodup_cons.mp hl
    refine ih hl (endUnrated_formed (Meter.handling_of_formed h (Or.inr (hheld p List.mem_cons_self))) _ _) fun q hq => ?_
    have hne : q ≠ p := by rintro rfl; exact hp hq
    rw [endUnrated_measure_other hne]
    exact hheld q (List.mem_cons_of_mem _ hq)

theorem mem_heldPorts {m : Meter} {p : Port} (h : p ∈ m.heldPorts) : (m.port.get p).phase = .unresolved := by
  simpa using (List.mem_filter.mp h).2

theorem settleHeld_formed {s : State} (h : s.meter.formed) (o : ConversionOutcome) : (settleHeld o s).meter.formed := by
  unfold settleHeld
  split
  · exact h
  · dsimp only
    have hports := arrange_perm (takeFree s).1 (takeFree s).2.meter.heldPorts
    cases o.isValid with
    | true =>
      generalize arrange (takeFree s).1 (takeFree s).2.meter.heldPorts = l
      have hfold (l : List Port) (u : State) (hu : u.meter.formed) :
          (l.foldl (fun u p => resolveHeld p u) u).meter.formed := by
        induction l generalizing u with
        | nil => exact hu
        | cons p l ih => exact ih _ (resolveHeld_formed hu)
      exact hfold _ _ h
    | false =>
      refine endHeld_formed (hports.nodup_iff.mpr ?_) h fun p hp => mem_heldPorts (hports.subset hp)
      exact List.Nodup.filter _ (by decide)

theorem referenceCompleted_formed {s : State} (h : s.meter.formed) {hi : Bool}
    (hflight : s.meter.inFlightChannel = some (referenceChannel hi)) (o : ConversionOutcome) :
    (referenceCompleted hi o s).meter.formed := by
  have hrecord : (s.modMeter fun m =>
      { m.setReference hi ((m.reference hi).updated o) with inFlight := none }).meter.formed := by
    have hfree := Meter.formed_free h (fun p hp => by
      rw [hflight] at hp
      cases hi <;> simp [referenceChannel] at hp)
    cases hi <;> exact (Meter.formed_congr rfl rfl rfl).mpr hfree
  unfold referenceCompleted
  refine (takeChannel_keeps _).formed ?_
  dsimp only
  split
  · exact settleHeld_formed ((postMeter_keeps _ _ _).formed hrecord) o
  · split
    · exact settleHeld_formed hrecord o
    · split
      · exact settleHeld_formed ((postMeter_keeps _ _ _).formed ((takeFree_keeps _).formed hrecord)) o
      · exact (postMeter_keeps _ _ _).formed (settleHeld_formed ((takeFree_keeps _).formed hrecord) o)

theorem endConversion_keeps {c : Channel} {s : State} (hflight : s.meter.inFlightChannel = some c)
    (o : ConversionOutcome) : Keeps free s (endConversion c o s) := by
  cases c with
  | id p =>
    exact .of_metering (portCompleted_metering (by simp) p o s) fun h =>
      (meterFormed_iff _).mpr (portCompleted_formed ((meterFormed_iff s).mp h) hflight o)
  | refLo =>
    exact .of_metering (referenceCompleted_metering (by simp) false o s) fun h =>
      (meterFormed_iff _).mpr (referenceCompleted_formed (hi := false) ((meterFormed_iff s).mp h) hflight o)
  | refHi =>
    exact .of_metering (referenceCompleted_metering (by simp) true o s) fun h =>
      (meterFormed_iff _).mpr (referenceCompleted_formed (hi := true) ((meterFormed_iff s).mp h) hflight o)

end

end Sys2Proof.Machine
end

section
/-! PROOFS. What every command keeps. -/

namespace Sys2Proof.Machine

open Sys2Proof

section
variable {free : List Freedom}

theorem running_keeps {f : State → State} {s t : State} (h : running f s = .next t) (hf : Keeps free s (f s)) :
    Keeps free s t := by
  unfold running at h
  cases h
  exact .ite (.refl s) hf

/-! ### The ports -/

theorem resting_framer_formed : Framer.reset.lineFormed := by
  rw [lineFormed_iff]
  refine ⟨⟨by simp [Framer.reset], by simp [Framer.reset], by simp [Framer.reset], by simp [Framer.reset]⟩, ?_, ?_, ?_⟩ <;>
  simp [Framer.reset, Framer.sendingExchange]

theorem enterProbing_keeps (hfree : .attaching ∈ free) {p : Port} {s : State} (hs : (s.monitor.get p).state ≠ .empty) :
    Keeps free s (enterProbing p s) := by
  have hprobing : Keeps free s (requestExchange p .probe (((s.modMonitor p fun m =>
      { m with state := .probing, debounce := none, probeCount := 1, probeTimer := some 0 }).setOwn p
        (some freshRecord)).modBook p fun b => { b with firstBook := true })) :=
    (((modMonitor_keeps ⟨rfl, fun h => absurd h hs, fun h => absurd hfree h⟩).trans (setOwn_keeps _ _ _)).trans (modBook_keeps _ _ _)).trans
      (requestExchange_keeps _ _ _)
  unfold enterProbing
  exact .ite (hprobing.trans (raiseDemand_keeps _ _ _)) hprobing

/-- An abandoned measurement leaves its port's phase IDLE. -/
theorem abandonMeasure_idle {p : Port} {s : State} (h : s.meter.formed) :
    ((abandonMeasure p s).meter.port.get p).phase = .idle := by
  have htake {m : Meter} (hm : m.formed) (hidle : (m.port.get p).phase = .idle) : (m.take.port.get p).phase = .idle := by
    unfold Meter.take
    split
    · next c rest _ hqueue =>
      cases c with
      | id q =>
        by_cases hq : p = q
        · subst hq
          have : (m.port.get p).phase = .queued := (hm.2 p).1.mpr (by simp [hqueue])
          simp [hidle] at this
        · simpa [hq] using hidle
      | refLo => exact hidle
      | refHi => exact hidle
    · exact hidle
  unfold abandonMeasure
  dsimp only
  split
  · next hphase => simpa [State.modPortMeasure, State.modMeter] using hphase
  · simp [State.modPortMeasure, State.modMeter]
  · simp [State.modPortMeasure, State.modMeter]
  · next hphase =>
    have hflight : s.meter.inFlightChannel = some (.id p) := (h.2 p).2.1.mp hphase
    refine htake ?_ (by simp [State.modPortMeasure, State.modMeter])
    rw [modPortMeasure_eq, modMeter_modMeter, State.modMeter, if_pos hflight]
    exact Meter.formed_of_handled (Meter.handling_free h hflight) (Or.inl rfl) (by simp)

theorem resetMeasure_keeps (p : Port) (s : State) :
    Keeps free s ((abandonMeasure p s).modPortMeasure p fun _ => PortMeasure.reset) := by
  refine .of_metering ((abandonMeasure_keeps p s).trans (modPortMeasure_metering (by simp) _ _ _)) fun hs => ?_
  have hs := (meterFormed_iff s).mp hs
  have hidle := abandonMeasure_idle (p := p) hs
  have hformed := (abandonMeasure_keeps p s).formed hs
  exact (meterFormed_iff _).mpr
    (Meter.formed_of_handled (Meter.handling_of_formed hformed (Or.inl hidle)) (Or.inl rfl) (by simp [PortMeasure.reset]))

theorem detachPort_keeps (hfree : .hearing ∈ free) (hattach : .attaching ∈ free) (p : Port) (s : State) : Keeps free s (detachPort p s) := by
  have hframer : Keeps free s (s.modFramer p fun _ => Framer.reset) :=
    modFramer_keeps ⟨Nat.zero_le _, fun _ => rfl, fun h => absurd rfl h, fun hn => absurd hfree hn⟩
      fun _ _ => resting_framer_formed
  have hdraw (u : State) : Keeps free u (u.modDrawMonitor p fun _ => DrawMonitor.reset) :=
    .of_draws (p := p) ((modDrawMonitor_changes u p _).mono (by simp)) (fun _ _ => by simp [DrawMonitor.reset]) (by simp)
  have hclear (u : State) : Keeps free u (clearNotice (.capture p) u) :=
    .of_quiet ((clearNotice_changes _ u).mono (by simp [quietParts, mem_everyNotice]))
  have hpool (u : State) : Keeps free u (u.setPool (u.table.pool.filter fun r => !(r.port == p))) :=
    setPool_keeps (fun r hr => ⟨r, (List.mem_filter.mp hr).1, rfl⟩) (List.length_filter_le _ _)
  have hempty (u : State) : Keeps free u (u.modMonitor p Monitor.detached) := modMonitor_keeps ⟨rfl, fun _ => rfl, fun h => absurd hattach h⟩
  unfold detachPort
  have h2 := ((hframer.trans (hempty _)).trans (clearContract_keeps p _)).trans (hdraw _)
  have h4 := ((h2.trans (raiseDemand_keeps .loss p _)).trans (abortIfInvolved_keeps p s.cutShort _)).trans
    (supplyDetach_keeps p _)
  refine .trans (.trans (.trans (.trans ?_ (resetMeasure_keeps p _)) (hclear _)) (serve_keeps _)) (postPartner_keeps _ _ _)
  exact ((h4.trans (setOwn_keeps p none _)).trans (hpool _)).trans (modBook_keeps _ _ _)

theorem probeExpiry_keeps {p : Port} {s : State} (hs : (s.monitor.get p).state = .probing) :
    Keeps free s (probeExpiry p s) := by
  unfold probeExpiry
  exact .ite ((modMonitor_keeps (.of_state rfl rfl)).trans (requestExchange_keeps _ _ _))
    ((modMonitor_keeps (.of_attached rfl (by simp [hs, Attach.attached]) rfl)).trans (startMeasure_keeps _ _ _))

/-! ### Frames a rule routes -/

theorem enterTalking_keeps {p : Port} (a : AnnounceFields) {s : State} (hs : (s.framer.get p).sending = none)
    (hattached : s.attached p = true) : Keeps free s (enterTalking p a s) := by
  have htalking (r : Option PartnerRecord) : Keeps free s (endProbe p ((s.setOwn p r).modMonitor p
      fun m => { m with state := .talking, probeTimer := none })) :=
    ((setOwn_keeps p r s).trans (modMonitor_keeps (.of_attached rfl hattached rfl))).trans (endProbe_keeps hs)
  have hmeter (c : Prop) [Decidable c] (u : State) : Keeps free u (if c then u else abandonMeasure p u) :=
    .ite (.refl u) (abandonMeasure_keeps p u)
  have hbook (c : Prop) [Decidable c] (u : State) : Keeps free u (if c then emptyBook p u else u) :=
    .ite (emptyBook_keeps p u) (.refl u)
  unfold enterTalking
  exact (((htalking _).trans (hmeter _ _)).trans (hbook _ _)).trans (postPartner_keeps _ _ _)

theorem reannounce_keeps (p : Port) (a : AnnounceFields) (s : State) : Keeps free s (reannounce p a s) := by
  have hbook (c : Prop) [Decidable c] (u : State) : Keeps free u (if c then emptyBook p u else u) :=
    .ite (emptyBook_keeps p u) (.refl u)
  have hfreed (c : Prop) [Decidable c] (n : Nat) (u : State) : Keeps free u (if c then freeAbove p n u else u) :=
    .ite (freeAbove_keeps p n u) (.refl u)
  unfold reannounce
  exact .ite ((((setOwn_keeps p _ s).trans (hbook _ _)).trans (hfreed _ _ _)).trans (postPartner_keeps _ _ _))
    (((setOwn_keeps p _ s).trans (hbook _ _)).trans (hfreed _ _ _))

theorem takeAnnounce_keeps {p : Port} {f : RawFrame} {s : State} (hs : (s.framer.get p).sending = none)
    (hattached : s.attached p = true) : Keeps free s (takeAnnounce p f s) :=
  .ite (protocolError_keeps p s) (.ite (reannounce_keeps p _ s) (enterTalking_keeps _ hs hattached))

theorem takeOffer_keeps (p : Port) (f : RawFrame) (s : State) : Keeps free s (takeOffer p f s) := by
  unfold takeOffer
  refine .ite (protocolError_keeps p s) ?_
  split
  · exact protocolError_keeps p s
  · exact replaceBook_keeps p _ s

theorem testGrant_keeps (p : Port) (t : PendingTerms) (g : GrantFields) (s : State) : Keeps free s (testGrant p t g s) := by
  have hstale : Keeps free s (staleClaim p true (place p .release s)) :=
    (placeRelease_keeps p s).trans (staleClaim_keeps p true _)
  have hfail : Keeps free s (failClaim p .denied (place p .release s)) :=
    (placeRelease_keeps p s).trans (failClaim_keeps p .denied _)
  unfold testGrant
  exact .ite hstale (.ite hstale (.ite hfail (.ite hfail (modDraw_keeps (fun _ h => h) ⟨rfl, rfl⟩))))

/-- An answer-due exchange ends. -/
theorem endDue_keeps {p : Port} {s : State} (h : (s.framer.get p).exchangeDue = true) :
    Keeps free s (endExchange p s) := by
  obtain ⟨e, n, he, hc⟩ := (exchangeDue_iff _).mp h
  refine endExchange_keeps fun x hx => ?_
  obtain rfl : e = x := by simpa [he] using hx
  simp [hc]

theorem exchangeDue_of_claimDue {f : Framer} (h : f.claimDue = true) : f.exchangeDue = true := by
  unfold Framer.claimDue at h
  split at h
  · next he => exact (exchangeDue_iff f).mpr ⟨_, _, he, rfl⟩
  · cases h

theorem exchangeDue_of_answerExpired {f : Framer} (h : f.answerExpired = true) : f.exchangeDue = true := by
  unfold Framer.answerExpired at h
  split at h
  · next he => exact (exchangeDue_iff f).mpr ⟨_, _, he, rfl⟩
  · cases h

theorem takeGrant_keeps (p : Port) (f : RawFrame) (s : State) : Keeps free s (takeGrant p f s) := by
  unfold takeGrant
  split
  · next hdue =>
    refine .trans (endDue_keeps (exchangeDue_of_claimDue hdue)) ?_
    dsimp only
    split
    · exact testGrant_keeps _ _ _ _
    · exact placeRelease_keeps p _
  · exact placeRelease_keeps p s

theorem takeDeny_keeps (p : Port) (f : RawFrame) (s : State) : Keeps free s (takeDeny p f s) := by
  unfold takeDeny
  split
  · next hdue =>
    have hend : Keeps free s (endExchange p s) := endDue_keeps (exchangeDue_of_claimDue hdue)
    exact .ite hend (.ite (hend.trans (staleClaim_keeps p false _)) (hend.trans (failClaim_keeps p .denied _)))
  · exact .refl s

theorem takeReady_keeps (p : Port) (f : RawFrame) (s : State) : Keeps free s (takeReady p f s) := by
  unfold takeReady
  dsimp only
  split
  · exact .ite (modDraw_keeps (fun _ h => h) ⟨rfl, rfl⟩) (.refl s)
  · exact .refl s

theorem noAnswer_keeps {p : Port} {s : State} (hdue : (s.framer.get p).exchangeDue = true) :
    Keeps free s (noAnswer p s) := by
  have hend : Keeps free s (endExchange p s) := endDue_keeps hdue
  unfold noAnswer
  split
  · exact .ite (hend.trans (failClaim_keeps p .noAnswer _)) hend
  · exact hend
  · exact .refl s

theorem takeHold_keeps (p : Port) (s : State) : Keeps free s (takeHold p s) := by
  unfold takeHold
  dsimp only
  split
  · exact protocolError_keeps p s
  · next hdue =>
    have hdue : (s.framer.get p).exchangeDue = true := by simpa using hdue
    exact .ite (holdExchange_keeps hdue) (noAnswer_keeps hdue)

theorem placeUplink_keeps (f : UplinkFrame) (s : State) : Keeps free s (placeUplink f s) :=
  .of_quiet ((placeUplink_changes f s).mono (by simp [quietParts]))

theorem forwardFrame_keeps (p : Port) (kind : BitVec 6) (f : RawFrame) (s : State) :
    Keeps free s (forwardFrame p kind f s) := .ite (placeUplink_keeps _ s) (answerHold_keeps _ _ s)

theorem captureFrame_keeps (p : Port) (kind : BitVec 6) (f : RawFrame) (s : State) :
    Keeps free s (captureFrame p kind f s) := by
  unfold captureFrame
  split
  · exact answerHold_keeps _ _ s
  · exact (modFramer_keeps (framerKept_of_unheard rfl rfl rfl ⟨rfl, rfl, rfl⟩)
      fun _ h => (lineFormed_congr rfl rfl rfl).mpr h).trans (post_keeps _ _ _ _)

/-! ### The commands of the link -/

theorem takeCommand_keeps {wanted : LinkFrame → Bool} {carry : LinkFrame → State → State × ReplyBody}
    (hc : ∀ f s, Keeps free s (carry f s).1) (s : State) : Keeps free s (takeCommand wanted carry s) := by
  have htaken : Keeps free s (s.modLink fun l => { l with receive := l.receive.tail }) := by
    refine .of_quiet fun part hpart => ?_
    cases part <;> simp_all [Part.same, State.modLink, quietParts]
  unfold takeCommand
  split
  · exact .refl s
  · exact .ite ((htaken.trans (hc _ _)).trans (placeUplink_keeps _ _)) (.refl s)

theorem checkLength_keeps {n : Nat} {carry : LinkFrame → State → State × ReplyBody} {f : LinkFrame} {s : State}
    (hc : ∀ f s, Keeps free s (carry f s).1) : Keeps free s (checkLength n carry f s).1 := by
  unfold checkLength; split
  · exact hc f s
  · exact .refl _

theorem checkPort_keeps {carry : Port → LinkFrame → State → State × ReplyBody} {f : LinkFrame} {s : State}
    (hc : ∀ p f s, Keeps free s (carry p f s).1) : Keeps free s (checkPort carry f s).1 := by
  unfold checkPort; split
  · exact hc _ f s
  · exact .refl _

/-- A command that changes none of the parts in which a kept condition looks. -/
theorem exec_keeps_quiet {c : Instr} {s t : State} (h : exec c s = .next t) (hc : c ≠ .powerOnReset)
    (hq : commandParts c ⊆ quietParts) : Keeps free s t := .of_quiet ((exec_changes h hc).mono hq)

theorem applySuccess_keeps (s : State) : Keeps free s (applySuccess s) := by
  have hpolicy (f : PolicyStore → PolicyStore) : Keeps free s (s.modPolicy f) :=
    .of_quiet ((modPolicy_changes s f).mono (by simp [quietParts]))
  have hreview (u : State) : Keeps free u (reviewAttached u) :=
    .of_quiet ((reviewAttached_changes u).mono fun x hx => by simp_all [quietParts])
  exact ((((hpolicy _).trans (hreview _)).trans (rebalance_keeps _ _)).trans (serve_keeps _)).trans (recompute_keeps _)

theorem modSupervisor_keeps (f : Supervisor → Supervisor) (s : State) : Keeps free s (s.modSupervisor f) :=
  .of_quiet ((modSupervisor_changes s f).mono (by simp [quietParts]))

theorem reviewAttached_keeps (s : State) : Keeps free s (reviewAttached s) :=
  .of_quiet ((reviewAttached_changes s).mono fun x hx => by simp_all [quietParts])

theorem autonomousEntry_keeps (s : State) : Keeps free s (autonomousEntry s) := by
  have hpolicy (f : PolicyStore → PolicyStore) (u : State) : Keeps free u (u.modPolicy f) :=
    .of_quiet ((modPolicy_changes u f).mono (by simp [quietParts]))
  exact ((((((modSupervisor_keeps _ s).trans (hpolicy _ _)).trans (rebalance_keeps _ _)).trans (takeBudget_keeps _ _)).trans
    (serve_keeps _)).trans (recompute_keeps _)).trans (reviewAttached_keeps _)

theorem takePlatform_keeps (v : PlatformValues) (s : State) : Keeps free s (takePlatform v s) := by
  have hbudget : Keeps free s (setBudget v.budget (s.modSupervisor fun u => u.taken v)) :=
    (modSupervisor_keeps _ s).trans (setBudget_keeps _ _)
  exact .ite (hbudget.trans (reviewAttached_keeps _)) hbudget

theorem silenceExpiry_keeps (s : State) : Keeps free s (silenceExpiry s) := by
  unfold silenceExpiry
  split
  · exact (post_keeps _ _ _ s).trans (modSupervisor_keeps _ _)
  · exact autonomousEntry_keeps s

theorem linkRestart_keeps (s : State) : Keeps free s (linkRestart s) where
  monitors := .of_same fun _ => rfl
  framers := fun p => by
    simp only [linkRestart, State.modSupervisor, State.modPolicy, Four.get_map]
    exact ⟨Nat.zero_le _, fun h => h, fun _ => Or.inl rfl, fun _ => ⟨rfl, rfl, rfl⟩⟩
  lines := fun _ _ h p => by
    simp only [linkRestart, State.modSupervisor, State.modPolicy, Four.get_map]
    exact (lineFormed_congr rfl rfl rfl).mpr (h p)
  records := .of_same rfl rfl
  meter := fun _ => meterFormed_of_same ⟨rfl, rfl⟩ fun _ => rfl
  draws := .of_same (fun _ => rfl) fun _ => rfl

end

end Sys2Proof.Machine
end

section
/-! PROOFS. What every command keeps. -/

namespace Sys2Proof.Machine

open Sys2Proof

/-- What a command is free to change. -/
def freedomOf : Instr → List Freedom
  | .takeDemand | .claimSettled _ | .breakIntervalExpiry => [.closing]
  | .debounceRiseExpiry _ => [.attaching]
  | .detach _ => [.hearing, .attaching]
  | .badFrame _ _ _ | .announce _ _ | .offer _ _ | .grant _ _ | .deny _ _ | .ready _ _ | .hold _ _
  | .demand _ _ | .retire _ _ | .otherKindFrame _ _ _ | .partOnlyKindFrame _ _ _ | .readPort => [.hearing]
  | _ => []

/-- The commands that keep the relation: all but the reset and its end, a rise of presence, BAR PORT, RELAY-DOWN, and the
beginning of a frame. -/
def keeping (c : Instr) : Prop :=
  c ≠ .powerOnReset ∧ (∀ a b d, c ≠ .resetEnd a b d) ∧ (∀ p, c ≠ .presenceRise p) ∧ c ≠ .barPort ∧ c ≠ .relayDown
    ∧ ∀ p kind f, receivedFrame c = some (p, kind, f) → f.begins = false

section
variable {free : List Freedom} {p : Port} {s t : State}

theorem heard_keeps {kind : BitVec 6} {f : RawFrame} {take : State → State}
    (h : running (receiveFrame p kind f take) s = .next t) (hfree : .hearing ∈ free) (hf : f.begins = false)
    (ht : ∀ u, (u.framer.get p).sending = none → u.attached p = true → Keeps free u (take u)) : Keeps free s t :=
  running_keeps h (receiveFrame_keeps hfree hf ht)

theorem execAnnounce_keeps {f : RawFrame} (h : execAnnounce p f s = .next t) (hf : f.begins = false) :
    Keeps [.hearing] s t := by
  refine heard_keeps h (by simp) hf fun u hs ha => ?_
  split
  · exact takeTalking_keeps fun _ => .ite (takeAnnounce_keeps hs ha) (protocolError_keeps p u)
  · exact .ite (takeAnnounce_keeps hs ha) (protocolError_keeps p u)

theorem execHold_keeps {f : RawFrame} (h : execHold p f s = .next t) (hf : f.begins = false) : Keeps [.hearing] s t := by
  refine heard_keeps h (by simp) hf fun u _ _ => ?_
  split
  · exact takeTalking_keeps fun _ => .ite (takeHold_keeps p u) (.refl u)
  · exact .ite (takeHold_keeps p u) (protocolError_keeps p u)

/-- A frame of a power kind that only branch 0 may send. -/
theorem ownFrame_keeps {kind : BitVec 6} {f : RawFrame} {take : Port → RawFrame → State → State}
    (h : running (receiveFrame p kind f (takeTalking p kind f fun s =>
      if f.branch = 0 then take p f s else protocolError p s)) s = .next t) (hf : f.begins = false)
    (ht : ∀ u, Keeps [.hearing] u (take p f u)) : Keeps [.hearing] s t :=
  heard_keeps h (by simp) hf fun u _ _ => takeTalking_keeps fun _ => .ite (ht u) (protocolError_keeps p u)

theorem execDemand_keeps {f : RawFrame} (h : execDemand p f s = .next t) (hf : f.begins = false) :
    Keeps [.hearing] s t :=
  heard_keeps h (by simp) hf fun u _ _ => takeTalking_keeps fun hb =>
    .ite (supplyDemand_keeps (Or.inl hb) _ _ u) (withRecord_keeps (Or.inl hb) (supplyDemand_keeps (Or.inl hb) _ _) u)

theorem execRetire_keeps {f : RawFrame} (h : execRetire p f s = .next t) (hf : f.begins = false) :
    Keeps [.hearing] s t :=
  heard_keeps h (by simp) hf fun u _ _ => takeTalking_keeps fun _ => .ite (supplyRetire_keeps p _ u) (.refl u)

theorem execOtherKindFrame_keeps {kind : BitVec 6} {f : RawFrame} (h : execOtherKindFrame p kind f s = .next t)
    (hf : isPowerKind kind = false → f.begins = false) : Keeps [.hearing] s t := by
  refine running_keeps h ?_
  dsimp only
  split
  · exact .refl s
  · next hk =>
    refine receiveFrame_keeps (by simp) (hf (by simpa using hk)) fun u _ _ => takeTalking_keeps fun hb => ?_
    split
    · exact .refl u
    · exact .ite (forwardFrame_keeps p kind f u) (withRecord_keeps (Or.inl hb) (forwardFrame_keeps p kind f) u)
    · exact .ite (captureFrame_keeps p kind f u) (withRecord_keeps (Or.inl hb) (captureFrame_keeps p kind f) u)

theorem execBadFrame_keeps {kind : BitVec 6} {f : RawFrame} (h : execBadFrame p kind f s = .next t)
    (hf : (frameGood kind f && !f.begins) = false → f.begins = false) : Keeps [.hearing] s t := by
  refine running_keeps h ?_
  split
  · exact .refl s
  · next hk => exact receiveFrame_keeps (by simp) (hf (by simpa using hk)) fun u _ _ => .refl u

theorem endAtEdge_keeps {c : Channel} (hflight : s.meter.inFlightChannel = some c) (period : BitVec 16) :
    Keeps free s (endAtEdge c period s) := .ite (endConversion_keeps hflight _) (.refl s)

theorem execReferenceConversionEnd_keeps {period : BitVec 16} (h : execReferenceConversionEnd period s = .next t) :
    Keeps free s t := by
  refine running_keeps h ?_
  split
  · next hflight => exact endAtEdge_keeps hflight period
  · next hflight => exact endAtEdge_keeps hflight period
  · exact .refl s
  · exact .refl s

theorem execPortConversionEnd_keeps {period : BitVec 16} (h : execPortConversionEnd period s = .next t) :
    Keeps free s t := by
  refine running_keeps h ?_
  split
  · next hflight => exact endAtEdge_keeps hflight period
  · exact .refl s
  · exact .refl s
  · exact .refl s

theorem execConversionOpen_keeps (h : execConversionOpen s = .next t) : Keeps free s t := by
  refine running_keeps h ?_
  split
  · next hflight => exact .ite (endConversion_keeps hflight _) (.refl s)
  · exact .refl s

/-- A sample holds the suspended counts at 0 (R143). -/
theorem examined_held {d : DrawMonitor} {c : Contract} (threshold mv ma : Nat) :
    heldAt c (d.examined c threshold mv ma) := by
  intro hs
  have hdescent : (d.examined c threshold mv ma).descent = d.descent := by
    have hheld : (d.held c).descent = d.descent := by
      unfold DrawMonitor.held
      split <;> rfl
    unfold DrawMonitor.examined
    dsimp only
    split_ifs <;> exact hheld
  have hsuspended : suspended c d = true := by
    rw [hdescent] at hs
    simpa [suspended, or_assoc] using hs
  have hzero : (d.held c).overvoltage = 0 ∧ (d.held c).sag = 0 := by
    rw [held_of_suspended hsuspended]
    exact ⟨rfl, rfl⟩
  unfold DrawMonitor.examined
  simp only [hsuspended, Bool.not_true, Bool.false_eq_true, if_false]
  split_ifs
  · exact hzero
  · exact ⟨rfl, rfl⟩
  · exact ⟨rfl, rfl⟩

theorem sampled_keeps_state (c : Contract) (mv : Nat) :
    (c.sampled mv).state = c.state ∧ (c.sampled mv).drawClosed = c.drawClosed := by
  unfold Contract.sampled
  split <;> exact ⟨rfl, rfl⟩

theorem execRailSample_keeps {mv ma : Nat} (h : execRailSample p mv ma s = .next t) : Keeps free s t := by
  refine running_keeps h ?_
  have hexamine : Keeps free s (examine p mv ma s) := by
    have hcounts : Keeps free s (s.modDrawMonitor p fun d =>
        d.examined (s.contract.get p) s.policy.active.sagThreshold mv ma) :=
      .of_draws (p := p) ((modDrawMonitor_changes s p _).mono (by simp)) (fun _ => by simpa using examined_held _ _ _)
        (by simp)
    unfold examine
    exact .ite (.ite (hcounts.trans (modLimit_keeps _ _)) hcounts) (.refl s)
  refine (hexamine.trans (modContract_keeps (p := p) (f := fun c => c.sampled mv) ?_ ?_)).trans ?_
  · rw [(sampled_keeps_state _ mv).1]
    exact fun h => h
  · rw [(sampled_keeps_state _ mv).2]
    exact fun h => h
  · refine .of_quiet fun part hpart => ?_
    cases part <;> simp_all [Part.same, quietParts, everyNotice]

theorem riseExpired_state {m : Monitor} (h : m.riseExpired = true) : m.state ≠ .empty := by
  intro hs
  simp [Monitor.riseExpired, hs] at h

theorem probeExpired_state {m : Monitor} (h : m.probeExpired = true) : m.state = .probing :=
  ((probeExpired_iff m).mp h).1

/-- An expiry that acts where its time has come. -/
theorem expiry_keeps {c : Prop} [Decidable c] {u : State} (h : c → Keeps free s u) :
    Keeps free s (if c then u else s) := by
  split
  · next hc => exact h hc
  · exact .refl s

/-- A count is set to 0, the two suspended ones among the rest. -/
theorem clearCount_keeps {g : DrawMonitor → DrawMonitor}
    (hg : ∀ d, (g d).overvoltage = d.overvoltage ∧ ((g d).sag = d.sag ∨ (g d).sag = 0) ∧ (g d).descent = d.descent) :
    Keeps free s (s.modDrawMonitor p g) := by
  obtain ⟨hover, hsag, hdescent⟩ := hg (s.drawMonitor.get p)
  refine .of_draws (p := p) ((modDrawMonitor_changes s p g).mono (by simp)) (fun hs => ?_) (by simp)
  simp only [State.modDrawMonitor_drawMonitor, State.modDrawMonitor_contract, Four.get_set, if_pos, heldAt, hover,
    hdescent] at hs ⊢
  exact fun hsuspended => ⟨(hs hsuspended).1, hsag.elim (fun h => h.trans (hs hsuspended).2) fun h => h⟩

theorem raiseTrim_keeps (n : Nat) (s : State) : Keeps free s (raiseTrim n s) :=
  (modLimit_keeps _ s).trans (recompute_keeps _)

theorem execDescentTimerExpiry_keeps (h : execDescentTimerExpiry p s = .next t) : Keeps free s t := by
  refine running_keeps h (expiry_keeps fun _ => .of_draws (p := p) ((modDrawMonitor_changes s p _).mono (by simp))
    (fun hs => ?_) (by simp))
  simp only [State.modDrawMonitor_drawMonitor, State.modDrawMonitor_contract, Four.get_set, if_pos, heldAt] at hs ⊢
  exact fun hsuspended => hs (hsuspended.elim Or.inl fun h => Or.inr (Or.inl (h.resolve_right nofun)))

/-! ### The commands of the link -/

theorem link_quiet_sub {l : List Part} (h : l ⊆ quietParts) : Part.receive :: .uplink :: l ⊆ quietParts :=
  List.cons_subset.mpr ⟨by simp [quietParts], List.cons_subset.mpr ⟨by simp [quietParts], h⟩⟩

theorem uplink_quiet_sub : [Part.uplink] ⊆ quietParts := by simp [quietParts]

theorem policy_quiet_sub : [Part.policy] ⊆ quietParts := by simp [quietParts]

theorem frameClass_quiet_sub : [Part.frameClass] ⊆ quietParts := by simp [quietParts]

theorem byte_quiet_sub : byteParts ⊆ quietParts := by simp [byteParts, quietParts, mem_everyNotice]

theorem notice_quiet_sub : everyNotice ⊆ quietParts := fun _ h => by simp [quietParts, h]

theorem clearLatched_keeps (p : Port) (s : State) :
    Keeps [.hearing] s (s.modFramer p fun f => { f with latchedUnsound := false }) :=
  modFramer_keeps (framerKept_heard rfl rfl rfl (by simp)) fun _ h => (lineFormed_congr rfl rfl rfl).mpr h

theorem execReadPort_keeps (h : execReadPort s = .next t) : Keeps [.hearing] s t :=
  running_keeps h (takeCommand_keeps (fun _ _ => checkLength_keeps fun _ _ => checkPort_keeps fun p _ s =>
    clearLatched_keeps p s) s)

theorem execMeasure_keeps (h : execMeasure s = .next t) : Keeps free s t := by
  refine running_keeps h (takeCommand_keeps (fun f s => checkLength_keeps fun f s => ?_) s)
  split
  · exact measureChannel_keeps _ s
  · exact .refl s

theorem applyPending_keeps (s : State) : Keeps free s (applyPending s).1 := by
  unfold applyPending
  split
  · exact .refl s
  · exact applySuccess_keeps s

theorem execApplyPolicy_keeps (h : execApplyPolicy s = .next t) : Keeps free s t := by
  refine running_keeps h (takeCommand_keeps (fun f s => checkLength_keeps fun f s => ?_) s)
  unfold writePending
  split
  · exact applyPending_keeps s
  · exact .refl s

theorem execSetPlatform_keeps (h : execSetPlatform s = .next t) : Keeps free s t := by
  refine running_keeps h (takeCommand_keeps (fun f s => checkLength_keeps fun f s => ?_) s)
  split
  · exact takePlatform_keeps _ s
  · exact .refl s

theorem execReleaseCapture_keeps (h : execReleaseCapture s = .next t) : Keeps free s t := by
  refine running_keeps h (takeCommand_keeps (fun f s => checkLength_keeps fun f s => checkPort_keeps fun p f s => ?_) s)
  split
  · exact (modFramer_keeps (framerKept_of_unheard rfl rfl rfl ⟨rfl, rfl, rfl⟩)
      fun _ h => (lineFormed_congr rfl rfl rfl).mpr h).trans
        (.of_quiet ((clearNotice_changes _ _).mono (by simp [quietParts, mem_everyNotice])))
  · exact .refl s

theorem execRestart_keeps (h : execRestart s = .next t) : Keeps free s t :=
  running_keeps h (takeCommand_keeps (fun _ _ => checkLength_keeps fun _ s => linkRestart_keeps s) s)

/-- What every command keeps. -/
theorem exec_keeps {c : Instr} (h : exec c s = .next t) (hc : keeping c) : Keeps (freedomOf c) s t := by
  obtain ⟨hreset, hend, hrise, hbar, hrelay, hbegins⟩ := hc
  cases c with
  | powerOnReset => exact absurd rfl hreset
  | resetEnd a b d => exact absurd rfl (hend a b d)
  | presenceRise p => exact absurd rfl (hrise p)
  | barPort => exact absurd rfl hbar
  | relayDown => exact absurd rfl hrelay
  | presenceFall p =>
    refine running_keeps (id h : execPresenceFall p s = .next t) (modMonitor_keeps ?_)
    unfold Monitor.fall
    dsimp only
    split
    · exact .of_state rfl rfl
    · split <;> exact .of_state rfl rfl
  | debounceRiseExpiry p =>
    exact running_keeps (id h : execDebounceRiseExpiry p s = .next t)
      (expiry_keeps fun hx => enterProbing_keeps (by simp [freedomOf]) (riseExpired_state hx))
  | sensingFallExpiry p =>
    exact running_keeps (id h : execSensingFallExpiry p s = .next t)
      (expiry_keeps fun hx => modMonitor_keeps ⟨rfl, fun _ => rfl, fun _ => by
        simp [((fallExpired_iff _).mp hx).1, Attach.attached]⟩)
  | detach p =>
    exact running_keeps (id h : execDetach p s = .next t) (expiry_keeps fun _ => detachPort_keeps (by simp [freedomOf]) (by simp [freedomOf]) p s)
  | probeTimerExpiry p =>
    exact running_keeps (id h : execProbeTimerExpiry p s = .next t)
      (expiry_keeps fun hx => probeExpiry_keeps (probeExpired_state hx))
  | coolOffExpiry p =>
    exact running_keeps (id h : execCoolOffExpiry p s = .next t)
      (expiry_keeps fun _ => (modMonitor_keeps (.of_state rfl rfl)).trans (raiseDemand_keeps _ _ _))
  | badFrame p kind f =>
    refine execBadFrame_keeps h fun hk => hbegins p kind f ?_
    simp only [receivedFrame, hk]
    rfl
  | announce p f => exact execAnnounce_keeps h (hbegins p _ f rfl)
  | offer p f => exact ownFrame_keeps (id h : execOffer p f s = .next t) (hbegins p _ f rfl) (takeOffer_keeps p f)
  | grant p f => exact ownFrame_keeps (id h : execGrant p f s = .next t) (hbegins p _ f rfl) (takeGrant_keeps p f)
  | deny p f => exact ownFrame_keeps (id h : execDeny p f s = .next t) (hbegins p _ f rfl) (takeDeny_keeps p f)
  | ready p f => exact ownFrame_keeps (id h : execReady p f s = .next t) (hbegins p _ f rfl) (takeReady_keeps p f)
  | hold p f => exact execHold_keeps h (hbegins p _ f rfl)
  | demand p f => exact execDemand_keeps h (hbegins p _ f rfl)
  | retire p f => exact execRetire_keeps h (hbegins p _ f rfl)
  | otherKindFrame p kind f =>
    refine execOtherKindFrame_keeps h fun hk => hbegins p kind f ?_
    simp only [receivedFrame, hk]
    rfl
  | partOnlyKindFrame p kind f =>
    exact heard_keeps (id h : execPartOnlyKindFrame p kind f s = .next t) (by simp [freedomOf]) (hbegins p _ f rfl)
      fun u _ _ => protocolError_keeps p u
  | talkFrameSent p => exact running_keeps (id h : execTalkFrameSent p s = .next t) (frameSent_keeps p s)
  | answerTimerExpiry p =>
    exact running_keeps (id h : execAnswerTimerExpiry p s = .next t)
      (expiry_keeps fun hx => noAnswer_keeps (exchangeDue_of_answerExpired hx))
  | resendTimerExpiry p =>
    exact running_keeps (id h : execResendTimerExpiry p s = .next t) (expiry_keeps fun _ => resend_keeps p s)
  | referenceConversionEnd period => exact execReferenceConversionEnd_keeps h
  | portConversionEnd period => exact execPortConversionEnd_keeps h
  | conversionOpen => exact execConversionOpen_keeps h
  | takeDemand =>
    refine running_keeps (id h : execTakeDemand s = .next t) ?_
    split
    · exact serveDemand_keeps (by simp [freedomOf]) _ _ s
    · exact .refl s
  | claimSettled p =>
    exact running_keeps (id h : execClaimSettled p s = .next t)
      (expiry_keeps fun _ => (settleContract_keeps p s).trans (continueClaims_keeps (by simp [freedomOf]) _))
  | settleTimerExpiry p =>
    exact running_keeps (id h : execSettleTimerExpiry p s = .next t) (expiry_keeps fun _ => failClaim_keeps p _ s)
  | readyTimerExpiry p =>
    exact running_keeps (id h : execReadyTimerExpiry p s = .next t) (expiry_keeps fun _ => failClaim_keeps p _ s)
  | breakIntervalExpiry =>
    refine running_keeps (id h : execBreakIntervalExpiry s = .next t) ?_
    split
    · exact expiry_keeps fun _ => closeAndEnd_keeps (by simp [freedomOf]) _ s
    · exact .refl s
  | railSample p mv ma => exact execRailSample_keeps h
  | railLost p =>
    exact running_keeps (id h : execRailLost p s = .next t)
      (expiry_keeps fun _ => (protect_keeps p s).trans (post_keeps _ _ _ _))
  | overvoltage p =>
    exact running_keeps (id h : execOvervoltage p s = .next t) (expiry_keeps fun _ =>
      ((protect_keeps p s).trans (modMonitor_keeps (.of_state rfl rfl))).trans (post_keeps _ _ _ _))
  | sagTrim p =>
    exact running_keeps (id h : execSagTrim p s = .next t)
      (expiry_keeps fun _ => (clearCount_keeps (by exact fun _ => ⟨rfl, Or.inr rfl, rfl⟩)).trans (raiseTrim_keeps _ _))
  | overdrawTrim p =>
    exact running_keeps (id h : execOverdrawTrim p s = .next t)
      (expiry_keeps fun _ => (clearCount_keeps (by exact fun _ => ⟨rfl, Or.inl rfl, rfl⟩)).trans (raiseTrim_keeps _ _))
  | descentTimerExpiry p => exact execDescentTimerExpiry_keeps h
  | recoveryTimerExpiry =>
    exact running_keeps (id h : execRecoveryTimerExpiry s = .next t)
      (expiry_keeps fun _ => (modLimit_keeps _ s).trans (recompute_keeps _))
  | limitPeriod => exact running_keeps (id h : execLimitPeriod s = .next t) (modLimit_keeps _ s)
  | downlinkFrameStored | byteGapTimeout => exact exec_keeps_quiet h nofun byte_quiet_sub
  | uholdChange | uplinkFrameEnd => exact exec_keeps_quiet h nofun uplink_quiet_sub
  | unknownCommand | identify | readBook | readContract | readPartner | readLimit | readSupply | readMeter
  | readPolicy => exact exec_keeps_quiet h nofun (link_quiet_sub (List.nil_subset _))
  | openPolicy | writeRule | writeHeads | writeRating | writeParams =>
    exact exec_keeps_quiet h nofun (link_quiet_sub policy_quiet_sub)
  | setFrameClass => exact exec_keeps_quiet h nofun (link_quiet_sub frameClass_quiet_sub)
  | takeNotice => exact exec_keeps_quiet h nofun (link_quiet_sub notice_quiet_sub)
  | readPort => exact execReadPort_keeps h
  | measure => exact execMeasure_keeps h
  | applyPolicy => exact execApplyPolicy_keeps h
  | setPlatform => exact execSetPlatform_keeps h
  | releaseCapture => exact execReleaseCapture_keeps h
  | restart => exact execRestart_keeps h
  | silenceTimerExpiry =>
    exact running_keeps (id h : execSilenceTimerExpiry s = .next t) (expiry_keeps fun _ => silenceExpiry_keeps s)

end

end Sys2Proof.Machine
end

section
/-! PROOFS. The shared settings and the commands that change them (R13, R25, R72, R164, R185 to R187). -/

namespace Sys2Proof.Machine

open Sys2Proof

/-- The settings that have commands of their own. -/
def settingParts : List Part := [.reset, .clock, .policy, .supervisor, .budget, .frameClass]

/-- A command that is none of a setting's. -/
def setsNothing : Instr → Bool
  | .powerOnReset | .resetEnd _ _ _ | .downlinkFrameStored _ | .byteGapTimeout | .openPolicy | .writeRule | .writeHeads
  | .writeRating | .writeParams | .applyPolicy | .setPlatform | .setFrameClass | .restart | .silenceTimerExpiry => false
  | _ => true

theorem setting_not_mem {c : Instr} (hc : setsNothing c = true) {x : Part} (hx : x ∈ settingParts) :
    x ∉ commandParts c := by
  have hx : x = .reset ∨ x = .clock ∨ x = .policy ∨ x = .supervisor ∨ x = .budget ∨ x = .frameClass := by
    simpa [settingParts] using hx
  have hport (part : Port → Part) (h : ∀ p, x ≠ part p) : x ∉ everyPort part := by
    simpa [eq_comm] using h
  have hports : x ∉ everyPort .framer ∧ x ∉ everyPort .monitor ∧ x ∉ everyPort .own ∧ x ∉ everyPort .supplySwitch
      ∧ x ∉ everyPort .measure ∧ x ∉ everyPort .book ∧ x ∉ everyPort .demands ∧ x ∉ everyPort .contract
      ∧ x ∉ everyPort .drawMonitor ∧ x ∉ everyPort .rail ∧ x ∉ everyPort (fun p => .notice (.partner p))
      ∧ x ∉ everyPort (fun p => .notice (.contract p)) := by
    rcases hx with rfl | rfl | rfl | rfl | rfl | rfl <;> simp
  obtain ⟨h1, h2, h3, h4, h5, h6, h7, h8, h9, h10, h11, h12⟩ := hports
  have hnotice : x ∉ everyNotice := by rcases hx with rfl | rfl | rfl | rfl | rfl | rfl <;> simp [everyNotice]
  have hrest : x ∉ [Part.pool, .orderCounter, .waitList, .notice .supply] ∧ x ∉ [Part.service, .limit, .freeCount]
      ∧ x ∉ [Part.converter, .references, .refreshCount, .notice .meter, .freeCount] ∧ x ∉ [Part.receive, .uplink, .lastPlan] := by
    rcases hx with rfl | rfl | rfl | rfl | rfl | rfl <;> decide
  obtain ⟨r1, r2, r3, r4⟩ := hrest
  have hlast : x ≠ .receive ∧ x ≠ .uplink ∧ x ≠ .lastPlan := by simpa using r4
  have hsupply : x ∉ supplyParts := by simp only [supplyParts, List.mem_append, h1, h2, h3, h4, r1, or_self, not_false_iff]
  have hmeter : x ∉ meterParts := by simp only [meterParts, List.mem_append, h5, h2, h6, h7, h11, r3, or_self, not_false_iff]
  have hseq : x ∉ sequencerParts := by
    simp only [sequencerParts, List.mem_append, hsupply, h8, h7, h9, h12, r2, or_self, not_false_iff]
  have houtside : x ∉ outsideParts := by
    simp only [outsideParts, List.mem_append, hnotice, hsupply, hmeter, or_self, not_false_iff]
  have hevent : x ∉ eventParts := by
    simp only [eventParts, List.mem_cons, List.mem_append, hlast, h10, houtside, hseq, or_self, not_false_iff]
  have hlink {l : List Part} (h : x ∉ l) : x ∉ Part.receive :: .uplink :: l :=
    List.not_mem_cons_of_ne_of_not_mem hlast.1 (List.not_mem_cons_of_ne_of_not_mem hlast.2.1 h)
  cases c with
  | powerOnReset | resetEnd | downlinkFrameStored | byteGapTimeout | openPolicy | writeRule | writeHeads | writeRating
  | writeParams | applyPolicy | setPlatform | setFrameClass | restart | silenceTimerExpiry => cases hc
  | uholdChange | uplinkFrameEnd => exact List.not_mem_cons_of_ne_of_not_mem hlast.2.1 List.not_mem_nil
  | unknownCommand | identify | readBook | readContract | readPartner | readLimit | readSupply | readMeter
  | readPolicy => exact hlink List.not_mem_nil
  | readPort => exact hlink h1
  | measure => exact hlink hmeter
  | barPort => exact hlink (by simp only [List.mem_append, h2, h7, or_self, not_false_iff])
  | releaseCapture => exact hlink (by simp only [List.mem_append, h1, hnotice, or_self, not_false_iff])
  | takeNotice => exact hlink hnotice
  | relayDown => exact hlink (by simp only [List.mem_append, h1, h2, or_self, not_false_iff])
  | presenceRise | presenceFall | debounceRiseExpiry | sensingFallExpiry | probeTimerExpiry | coolOffExpiry | badFrame
  | announce | offer | demand | retire | partOnlyKindFrame | talkFrameSent | resendTimerExpiry
  | referenceConversionEnd | portConversionEnd | conversionOpen => exact houtside
  | otherKindFrame => exact List.not_mem_cons_of_ne_of_not_mem hlast.2.1 houtside
  | _ => exact hevent

/-! ### The settings one by one -/

/-- The settings, as the statements read them. -/
inductive Setting
  | straps
  | reset
  | clock
  | image
  | allowance
  | platform
  | frameClass
  deriving DecidableEq

/-- The setting reads the same in both states. -/
def Setting.same (x : Setting) (s t : State) : Prop :=
  match x with
  | .straps => t.supervisor.straps = s.supervisor.straps
  | .reset => t.inReset = s.inReset
  | .clock => t.msCount = s.msCount
  | .image => t.policy.active = s.policy.active ∧ t.policy.origin = s.policy.origin
  | .allowance => t.supply.budget = s.supply.budget ∧ t.supervisor.demand = s.supervisor.demand
  | .platform =>
    t.supervisor.batteryPresent = s.supervisor.batteryPresent ∧ t.supervisor.silencePeriod = s.supervisor.silencePeriod
  | .frameClass => t.link.frameClass = s.link.frameClass

/-- Every setting but the free ones stands. -/
def SettingsKept (free : List Setting) (s t : State) : Prop := ∀ x, x ∉ free → x.same s t

section
variable {free : List Setting} {s t u : State}

theorem Setting.same.refl (x : Setting) (s : State) : x.same s s := by
  cases x <;> simp [Setting.same]

theorem Setting.same.trans {x : Setting} (h : x.same s t) (g : x.same t u) : x.same s u := by
  cases x <;> simp_all [Setting.same]

theorem SettingsKept.refl (s : State) : SettingsKept free s s := fun x _ => .refl x s

theorem SettingsKept.trans (h : SettingsKept free s t) (g : SettingsKept free t u) : SettingsKept free s u :=
  fun x hx => (h x hx).trans (g x hx)

theorem SettingsKept.ite {c : Prop} [Decidable c] (h : SettingsKept free s t) (g : SettingsKept free s u) :
    SettingsKept free s (if c then t else u) := by
  split <;> assumption

theorem SettingsKept.foldl {α : Type} {f : State → α → State} (hf : ∀ s a, SettingsKept free s (f s a)) (l : List α)
    (s : State) : SettingsKept free s (l.foldl f s) := by
  induction l generalizing s with
  | nil => exact .refl s
  | cons a l ih => exact (hf s a).trans (ih _)

/-- A change that reaches none of the settings' parts keeps every setting. -/
theorem SettingsKept.of_changes {l : List Part} (h : ChangesOnly l s t) (hl : ∀ x ∈ settingParts, x ∉ l) :
    SettingsKept free s t := by
  have hpart {x : Part} (hx : x ∈ settingParts) : x.same s t := h x (hl x hx)
  have hpolicy : t.policy = s.policy := hpart (x := .policy) (by decide)
  have hsupervisor : t.supervisor = s.supervisor := hpart (x := .supervisor) (by decide)
  intro x _
  cases x with
  | straps => simp [Setting.same, hsupervisor]
  | reset => exact hpart (x := .reset) (by decide)
  | clock => exact hpart (x := .clock) (by decide)
  | image => simp [Setting.same, hpolicy]
  | allowance => exact ⟨hpart (x := .budget) (by decide), by rw [hsupervisor]⟩
  | platform => simp [Setting.same, hsupervisor]
  | frameClass => exact hpart (x := .frameClass) (by decide)

/-- A relation between states that composes, and that no change of the receive buffer and the uplink breaks, holds of a
command where it holds of carrying the command out. -/
theorem takeCommand_relates {rel : State → State → Prop}
    (hlink : ∀ {s t}, ChangesOnly [.receive, .uplink] s t → rel s t) (htrans : ∀ {s t u}, rel s t → rel t u → rel s u)
    {wanted : LinkFrame → Bool} {carry : LinkFrame → State → State × ReplyBody}
    (hc : ∀ f s, rel s (carry f s).1) (s : State) : rel s (takeCommand wanted carry s) := by
  unfold takeCommand
  split
  · exact hlink (.refl _ _)
  · split
    · exact htrans (htrans (hlink ((taken_changes s _).mono (by simp))) (hc _ _))
        (hlink ((placeUplink_changes _ _).mono (by simp)))
    · exact hlink (.refl _ _)

theorem running_settings {f : State → State} (h : running f s = .next t) (hf : ∀ s, SettingsKept free s (f s)) :
    SettingsKept free s t := by
  unfold running at h
  cases h
  exact .ite (.refl _) (hf s)

theorem supply_settings {l : List Part} (h : ChangesOnly l s t)
    (hl : l ⊆ .limit :: (everyPort .demands ++ supplyParts)) : SettingsKept free s t :=
  .of_changes h fun x hx hx' => absurd (hl hx') <| by
    have hx : x = .reset ∨ x = .clock ∨ x = .policy ∨ x = .supervisor ∨ x = .budget ∨ x = .frameClass := by
      simpa [settingParts] using hx
    rcases hx with rfl | rfl | rfl | rfl | rfl | rfl <;> simp [supplyParts]

/-! ### The receive buffer and the commands -/

theorem SettingsKept.of_link (hl : ChangesOnly [.receive, .uplink] s t) : SettingsKept free s t :=
  .of_changes hl (by decide)

theorem takeCommand_settings {wanted : LinkFrame → Bool} {carry : LinkFrame → State → State × ReplyBody}
    (hc : ∀ f s, SettingsKept free s (carry f s).1) (s : State) : SettingsKept free s (takeCommand wanted carry s) :=
  takeCommand_relates (fun h => .of_link h) .trans hc s

theorem running_takeCommand_settings {wanted : LinkFrame → Bool} {carry : LinkFrame → State → State × ReplyBody}
    (h : running (takeCommand wanted carry) s = .next t) (hc : ∀ f s, SettingsKept free s (carry f s).1) :
    SettingsKept free s t := running_settings h (takeCommand_settings hc)

theorem checkLength_settings {n : Nat} {carry : LinkFrame → State → State × ReplyBody} {f : LinkFrame}
    (hc : ∀ f s, SettingsKept free s (carry f s).1) : SettingsKept free s (checkLength n carry f s).1 := by
  unfold checkLength; split
  · exact hc f s
  · exact .refl s

theorem writePending_settings {carry : LinkFrame → State → State × ReplyBody} {f : LinkFrame}
    (hc : ∀ f s, SettingsKept free s (carry f s).1) : SettingsKept free s (writePending carry f s).1 := by
  unfold writePending; split
  · exact hc f s
  · exact .refl s

theorem modPending_settings (g : PolicyImage → PolicyImage) (s : State) : SettingsKept free s (s.modPending g) := by
  intro x _; cases x <;> simp [Setting.same, State.modPending]

theorem validFrameSeen_settings (s : State) : SettingsKept free s (validFrameSeen s) := by
  intro x _; cases x <;> simp [Setting.same, validFrameSeen]

theorem setReception_settings (r : Option Reception) (s : State) : SettingsKept free s (setReception r s) := by
  intro x _; cases x <;> simp [Setting.same, setReception]

theorem postLink_settings (code : Byte) (s : State) : SettingsKept free s (postLink code s) :=
  .of_changes (postLink_changes code s) (by decide)

theorem endReception_settings (bytes : List Byte) (s : State) : SettingsKept free s (endReception bytes s) := by
  have hstored (g : LinkUnit → LinkUnit) (hg : (g s.link).frameClass = s.link.frameClass) :
      SettingsKept free s (s.modLink g) := by
    intro x _; cases x <;> simp [Setting.same, hg]
  unfold endReception
  exact .ite (postLink_settings _ s) (.ite (postLink_settings _ s) (.ite (postLink_settings _ s)
    ((hstored _ rfl).trans (validFrameSeen_settings _))))

theorem receiveByte_settings (s : State) (b : Byte) : SettingsKept free s (receiveByte s b) := by
  unfold receiveByte
  split
  · exact .ite (setReception_settings _ s) (.refl s)
  · exact .ite (setReception_settings _ s) (.ite ((setReception_settings _ s).trans (postLink_settings _ _))
      (.ite (setReception_settings _ s) ((setReception_settings _ s).trans (endReception_settings _ _))))

/-! ### The commands that have a setting of their own -/

theorem applySuccess_settings (s : State) : SettingsKept [.image] s (applySuccess s) := by
  have himage : SettingsKept [.image] s (s.modPolicy PolicyStore.applied) := by
    intro x hx; cases x <;> simp_all [Setting.same]
  refine himage.trans ?_
  exact (((supply_settings (reviewAttached_changes _) (by simp)).trans
    (supply_settings (rebalance_changes _ _) (by simp))).trans (supply_settings (serve_changes _) (by simp))).trans
    (supply_settings (recompute_changes _) (by simp))

theorem takeBudget_settings (hfree : .allowance ∈ free) (n : Nat) (s : State) :
    SettingsKept free s (takeBudget n s) := by
  have h := takeBudget_changes n s
  have hpart (x : Part) (hx : x ∈ [Part.reset, .clock, .policy, .supervisor, .frameClass]) : x.same s (takeBudget n s) :=
    h x (by
      simp only [List.mem_cons, List.not_mem_nil, or_false] at hx
      rcases hx with rfl | rfl | rfl | rfl | rfl <;> simp [supplyParts])
  have hpolicy : (takeBudget n s).policy = s.policy := hpart .policy (by simp)
  have hsupervisor : (takeBudget n s).supervisor = s.supervisor := hpart .supervisor (by simp)
  intro x hx
  cases x with
  | straps => simp [Setting.same, hsupervisor]
  | reset => exact hpart .reset (by simp)
  | clock => exact hpart .clock (by simp)
  | image => simp [Setting.same, hpolicy]
  | allowance => exact absurd hfree hx
  | platform => simp [Setting.same, hsupervisor]
  | frameClass => exact hpart .frameClass (by simp)

theorem takePlatform_settings (v : PlatformValues) (s : State) :
    SettingsKept [.allowance, .platform] s (takePlatform v s) := by
  have hvalues : SettingsKept [.allowance, .platform] s (s.modSupervisor fun u => u.taken v) := by
    intro x hx; cases x <;> simp_all [Setting.same, Supervisor.taken]
  have hbudget : SettingsKept [.allowance, .platform] s (setBudget v.budget (s.modSupervisor fun u => u.taken v)) :=
    (hvalues.trans (takeBudget_settings (by simp) _ _)).trans (supply_settings (serve_changes _) (by simp))
  unfold takePlatform
  exact .ite (hbudget.trans (supply_settings (reviewAttached_changes _) (by simp))) hbudget

theorem autonomousEntry_settings (s : State) : SettingsKept [.image, .allowance] s (autonomousEntry s) := by
  have hentered (f : Supervisor → Supervisor) (g : PolicyStore → PolicyStore)
      (hf : (f s.supervisor).straps = s.supervisor.straps
        ∧ (f s.supervisor).batteryPresent = s.supervisor.batteryPresent
        ∧ (f s.supervisor).silencePeriod = s.supervisor.silencePeriod) :
      SettingsKept [.image, .allowance] s ((s.modSupervisor f).modPolicy g) := by
    intro x hx; cases x <;> simp_all [Setting.same]
  unfold autonomousEntry
  exact (((((hentered _ _ ⟨rfl, rfl, rfl⟩).trans (supply_settings (rebalance_changes _ _) (by simp))).trans
    (takeBudget_settings (by simp) _ _)).trans (supply_settings (serve_changes _) (by simp))).trans
    (supply_settings (recompute_changes _) (by simp))).trans (supply_settings (reviewAttached_changes _) (by simp))

theorem silenceExpiry_settings (s : State) : SettingsKept [.image, .allowance] s (silenceExpiry s) := by
  unfold silenceExpiry
  split
  · have htimer (u : State) : SettingsKept [.image, .allowance] u
        (u.modSupervisor fun v => { v with silenceTimer := some 0 }) := by
      intro x hx; cases x <;> simp_all [Setting.same]
    exact (SettingsKept.of_changes (post_changes _ _ _ _) (by decide)).trans (htimer _)
  · exact autonomousEntry_settings s

theorem linkRestart_settings (s : State) : SettingsKept [.frameClass] s (linkRestart s) := by
  intro x hx; cases x <;> simp_all [Setting.same, linkRestart]

theorem setFrameClass_settings (kind : Nat) (c : FrameClass) (s : State) :
    SettingsKept [.frameClass] s (setFrameClass kind c s) := by
  intro x hx; cases x <;> simp_all [Setting.same, setFrameClass]

/-- The settings that are a command's own. -/
def ownSettings : Instr → List Setting
  | .applyPolicy => [.image]
  | .silenceTimerExpiry => [.image, .allowance]
  | .setPlatform => [.allowance, .platform]
  | .setFrameClass | .restart => [.frameClass]
  | _ => []

theorem exec_settings {c : Instr} (h : exec c s = .next t) (hc : c ≠ .powerOnReset)
    (hend : ∀ a b d, c ≠ .resetEnd a b d) : SettingsKept (ownSettings c) s t := by
  have hparts (hs : setsNothing c = true) : SettingsKept (ownSettings c) s t :=
    .of_changes (exec_changes h hc) fun x hx => setting_not_mem hs hx
  cases c with
  | powerOnReset => exact absurd rfl hc
  | resetEnd a b d => exact absurd rfl (hend a b d)
  | downlinkFrameStored bytes =>
    exact running_settings (id h : execDownlinkFrameStored bytes s = .next t) (.foldl receiveByte_settings bytes)
  | byteGapTimeout =>
    exact running_settings (id h : execByteGapTimeout s = .next t) fun s =>
      .ite ((setReception_settings _ s).trans (postLink_settings _ _)) (.refl s)
  | openPolicy =>
    refine running_takeCommand_settings (id h : execOpenPolicy s = .next t) fun f s => checkLength_settings fun f s => ?_
    intro x _; cases x <;> simp [Setting.same]
  | writeRule =>
    refine running_takeCommand_settings (id h : execWriteRule s = .next t) fun f s => checkLength_settings fun f s =>
      writePending_settings fun f s => ?_
    split
    · exact modPending_settings _ s
    · exact .refl s
  | writeHeads =>
    exact running_takeCommand_settings (id h : execWriteHeads s = .next t) fun f s => checkLength_settings fun f s =>
      writePending_settings fun f s => modPending_settings _ s
  | writeRating =>
    refine running_takeCommand_settings (id h : execWriteRating s = .next t) fun f s => checkLength_settings fun f s =>
      writePending_settings fun f s => ?_
    split
    · exact modPending_settings _ s
    · exact .refl s
  | writeParams =>
    refine running_takeCommand_settings (id h : execWriteParams s = .next t) fun f s => checkLength_settings fun f s =>
      writePending_settings fun f s => ?_
    split
    · exact modPending_settings _ s
    · exact .refl s
  | applyPolicy =>
    refine running_takeCommand_settings (id h : execApplyPolicy s = .next t) fun f s => checkLength_settings fun f s =>
      writePending_settings fun f s => ?_
    unfold applyPending
    split
    · exact .refl s
    · exact applySuccess_settings s
  | setPlatform =>
    refine running_takeCommand_settings (id h : execSetPlatform s = .next t) fun f s => checkLength_settings fun f s => ?_
    split
    · exact takePlatform_settings _ s
    · exact .refl s
  | setFrameClass =>
    refine running_takeCommand_settings (id h : execSetFrameClass s = .next t) fun f s =>
      checkLength_settings fun f s => ?_
    split
    · exact .refl s
    · split
      · exact setFrameClass_settings _ _ s
      · exact .refl s
  | restart =>
    exact running_takeCommand_settings (id h : execRestart s = .next t) fun f s => checkLength_settings fun f s =>
      linkRestart_settings s
  | silenceTimerExpiry =>
    exact running_settings (id h : execSilenceTimerExpiry s = .next t) fun s => .ite (silenceExpiry_settings s) (.refl s)
  | _ => exact hparts rfl

/-! ### The barred flag (R13) -/

/-- The frame of a command, as it begins or as it ends, is what `receiveFrame` makes of it. -/
theorem exec_of_received {c : Instr} {p : Port} {kind : BitVec 6} {f : RawFrame}
    (h : receivedFrame c = some (p, kind, f)) :
    ∃ take : State → State, ∀ s, exec c s = running (receiveFrame p kind f take) s := by
  cases c with
  | badFrame q k g =>
    refine ⟨id, fun s => ?_⟩
    have hg : (frameGood k g && !g.begins) ≠ true := fun hg => by simp [receivedFrame, hg] at h
    have hpkf : q = p ∧ k = kind ∧ g = f := by simpa [receivedFrame, hg] using h
    obtain ⟨rfl, rfl, rfl⟩ := hpkf
    change running (fun s => if frameGood k g && !g.begins then s else receiveFrame q k g id s) s = _
    exact congrArg (fun step => running step s) (funext fun s => if_neg hg)
  | otherKindFrame q k g =>
    have hk : isPowerKind k ≠ true := fun hk => by simp [receivedFrame, hk] at h
    have hpkf : q = p ∧ k = kind ∧ g = f := by simpa [receivedFrame, hk] using h
    obtain ⟨rfl, rfl, rfl⟩ := hpkf
    exact ⟨_, fun s => congrArg (fun step => running step s) (funext fun s => if_neg hk)⟩
  | announce | offer | grant | deny | ready | hold | demand | retire | partOnlyKindFrame =>
    cases h
    exact ⟨_, fun s => rfl⟩
  | _ => cases h

theorem exec_of_begun {c : Instr} {p : Port} {kind : BitVec 6} {f : RawFrame}
    (h : receivedFrame c = some (p, kind, f)) (hf : f.begins = true) (s : State) :
    exec c s = running (fun s => s.modFramer p Framer.begun) s := by
  obtain ⟨take, htake⟩ := exec_of_received h
  refine (htake s).trans (congrArg (fun step => running step s) (funext fun s => ?_))
  simp [receiveFrame, hf]

theorem Monitor.rise_barred (m : Monitor) (populated : Bool) : (m.rise populated).barred = m.barred := by
  unfold Monitor.rise
  cases m.state <;> simp only [apply_ite Monitor.barred, ite_self]

theorem running_barred {f : State → State} (h : running f s = .next t)
    (hf : ∀ s p, ((f s).monitor.get p).barred = (s.monitor.get p).barred) (p : Port) :
    (t.monitor.get p).barred = (s.monitor.get p).barred := by
  unfold running at h
  cases h
  split
  · rfl
  · exact hf s p

theorem carryRelay_barred (p : Port) (f : LinkFrame) (s : State) (q : Port) :
    (((carryRelay p f s).1).monitor.get q).barred = (s.monitor.get q).barred := by
  unfold carryRelay
  split_ifs
  · rfl
  · rfl
  · rfl
  · rfl
  · exact ((transmit_keeps (free := []) p _).monitors q).1

theorem exec_barred {c : Instr} (h : exec c s = .next t) (hc : c ≠ .powerOnReset)
    (hend : ∀ a b d, c ≠ .resetEnd a b d) (hbar : c ≠ .barPort) (p : Port) :
    (t.monitor.get p).barred = (s.monitor.get p).barred := by
  by_cases hrise : ∃ q, c = .presenceRise q
  · obtain ⟨q, rfl⟩ := hrise
    refine running_barred (id h : execPresenceRise q s = .next t) (fun s p => ?_) p
    by_cases hq : p = q
    · subst hq; simpa using Monitor.rise_barred _ _
    · simp [hq]
  · by_cases hrelay : c = .relayDown
    · subst hrelay
      refine running_barred (id h : execRelayDown s = .next t) (fun s p => ?_) p
      refine takeCommand_relates (rel := fun s t : State => (t.monitor.get p).barred = (s.monitor.get p).barred)
        (fun h => congrArg Monitor.barred (h (.monitor p) (by simp))) (fun h g => g.trans h) (fun f s => ?_) s
      unfold checkPort
      split
      · rfl
      · split
        · exact carryRelay_barred _ _ s p
        · rfl
    · by_cases hbegun : ∃ q kind f, receivedFrame c = some (q, kind, f) ∧ f.begins = true
      · obtain ⟨q, kind, f, hr, hf⟩ := hbegun
        exact running_barred ((exec_of_begun hr hf s).symm.trans h) (fun s p => rfl) p
      · refine ((exec_keeps h ⟨hc, hend, fun q hq => hrise ⟨q, hq⟩, hbar, hrelay, fun q kind f hr => ?_⟩).monitors p).1
        exact Bool.eq_false_iff.mpr fun hf => hbegun ⟨q, kind, f, hr, hf⟩

end

/-- Settles O53. -/
theorem sharedSettingsHaveTheirOwnCommands : Obligations.SharedSettingsHaveTheirOwnCommands := by
  intro c s t h hc hend
  have hsettings := exec_settings h hc hend
  have hown (x : Setting) (hx : x ∉ ownSettings c) : x.same s t := hsettings x hx
  refine ⟨hown .straps ?_, hown .reset ?_, hown .clock ?_, fun h1 h2 => hown .image ?_,
    fun hbar => exec_barred h hc hend hbar, fun h1 h2 => hown .allowance ?_, fun h1 => hown .platform ?_,
    fun h1 h2 => hown .frameClass ?_⟩
  all_goals cases c <;> simp_all [ownSettings]

end Sys2Proof.Machine
end

section
/-! PROOFS. The conditions that every step keeps: how a step divides, the base case, and those of the line, the meter,
the records and the draw switches. -/

namespace Sys2Proof.Machine

open Sys2Proof

/-! ### The machine after reset -/

theorem fallbackImage_valid (sixAmp : Bool) : validate (fallbackImage sixAmp) = none := by
  cases sixAmp <;> decide +kernel

theorem reset_heldInReset : State.reset.heldInReset := fun _ => ⟨rfl, rfl, rfl, rfl, rfl, rfl, rfl⟩

theorem reset_grants : State.reset.grants = [] := rfl

theorem reset_portGrants (p : Port) : State.reset.portGrants p = [] := by rw [State.portGrants, reset_grants]; rfl

theorem reset_contract (p : Port) : State.reset.contract.get p = Contract.reset := Four.get_const _ p

theorem reset_monitor (p : Port) : State.reset.monitor.get p = Monitor.reset := Four.get_const _ p

theorem reset_queuesBounded : State.reset.queuesBounded := by
  refine ⟨by decide, by decide, by decide, by decide, fun p => ?_⟩
  simp [State.reset, State.powerOn, Framer.reset]

theorem reset_limitFormed : State.reset.limitFormed := by
  refine ⟨reset_heldInReset, ?_⟩
  decide +kernel

theorem reset_suppliesGranted : State.reset.suppliesGranted := by
  refine ⟨reset_heldInReset, ⟨fun p => ?_, nofun, List.nodup_nil, nofun⟩, fun p => ?_⟩
  · simp only [State.attached, reset_monitor]
    simp [State.reset, State.powerOn, Monitor.reset, Attach.attached]
  · rw [reset_portGrants]
    simp [State.reset, State.powerOn, SupplyUnit.reset]

theorem reset_switchesApart : State.reset.switchesApart := by
  refine ⟨reset_heldInReset, fun p hp => ?_, fun t ht => nomatch ht⟩
  rw [reset_contract] at hp
  cases hp

theorem reset_linesFormed : State.reset.linesFormed := fun p => by
  simp [State.reset, State.powerOn, Framer.reset, Framer.lineFormed, Framer.sendingExchange]

theorem reset_meterFormed : State.reset.meterFormed := by
  refine ⟨List.nodup_nil, nofun, fun p => ?_⟩
  simp [State.reset, State.powerOn, Meter.reset, PortMeasure.reset, Meter.inFlightChannel]

theorem reset_suspendedHeld : State.reset.suspendedHeld := fun p => by
  simp [State.reset, State.powerOn, DrawMonitor.reset]

theorem reset_budgetKept : State.reset.budgetKept := by
  refine ⟨Nat.zero_le _, fun p => ?_, by decide, nofun, List.nodup_nil⟩
  rw [reset_portGrants]
  exact Nat.zero_le _

theorem reset_drawsAgree : State.reset.drawsAgree := by
  have hopen (p : Port) : (State.reset.contract.get p).drawClosed ≠ true := by rw [reset_contract]; decide
  refine ⟨reset_heldInReset, by decide, fun p q _ hp => absurd hp (hopen p), fun p => ⟨fun h => ?_, fun h => ?_⟩,
    fun t ht => nomatch ht⟩ <;> rw [reset_contract] at h <;> cases h

/-- Settles O60. -/
theorem resetMeetsEveryKeptCondition : Obligations.ResetMeetsEveryKeptCondition :=
  ⟨fallbackImage_valid _, ⟨reset_heldInReset, fun p _ => congrArg Monitor.state (reset_monitor p)⟩, by
    simp [State.silenceTimed, State.reset, State.powerOn, Supervisor.reset], reset_queuesBounded, reset_limitFormed,
    reset_suppliesGranted, reset_switchesApart, reset_linesFormed, reset_meterFormed, reset_suspendedHeld,
    reset_budgetKept, reset_drawsAgree⟩

/-! ### The parts make the state -/

theorem NoticeSet.ext_of_get {n m : NoticeSet} (h : ∀ f, m.get f = n.get f) : m = n := by
  obtain ⟨silence, fault, contract, partner, supply, capture, meter, link⟩ := n
  obtain ⟨silence', fault', contract', partner', supply', capture', meter', link'⟩ := m
  have h1 : silence' = silence := h .silence
  have h2 : fault' = fault := Four.ext_get fun p => h (.fault p)
  have h3 : contract' = contract := Four.ext_get fun p => h (.contract p)
  have h4 : partner' = partner := Four.ext_get fun p => h (.partner p)
  have h5 : supply' = supply := h .supply
  have h6 : capture' = capture := Four.ext_get fun p => h (.capture p)
  have h7 : meter' = meter := h .meter
  have h8 : link' = link := h .link
  rw [h1, h2, h3, h4, h5, h6, h7, h8]

/-- A change of the queue of commands and of the free choices alone. -/
theorem eq_of_queue_changes {s t : State} (h : ChangesOnly [.queue, .freeCount] s t) :
    t = { s with pending := t.pending, freeCount := t.freeCount } := by
  obtain ⟨pending, freeCount, inReset, msCount, rail, monitor, table, framer, book, meter, policy, lastPlan, contract,
    sequencer, limit, drawMonitor, supply, link, supervisor⟩ := t
  have hpart (x : Part) (hx : x ∉ [Part.queue, .freeCount]) := h x hx
  have hreset : inReset = s.inReset := hpart .reset (by decide)
  have hclock : msCount = s.msCount := hpart .clock (by decide)
  have hrail : rail = s.rail := Four.ext_get fun p => hpart (.rail p) (by simp)
  have hmonitor : monitor = s.monitor := Four.ext_get fun p => hpart (.monitor p) (by simp)
  have hown : table.own = s.table.own := Four.ext_get fun p => hpart (.own p) (by simp)
  have hpool : table.pool = s.table.pool := hpart .pool (by decide)
  have hframer : framer = s.framer := Four.ext_get fun p => hpart (.framer p) (by simp)
  have hbook : book = s.book := Four.ext_get fun p => hpart (.book p) (by simp)
  obtain ⟨hqueue, hflight⟩ : meter.queue = s.meter.queue ∧ meter.inFlight = s.meter.inFlight :=
    hpart .converter (by decide)
  obtain ⟨hlo, hhi⟩ : meter.refLo = s.meter.refLo ∧ meter.refHi = s.meter.refHi := hpart .references (by decide)
  have hcount : meter.refreshCount = s.meter.refreshCount := hpart .refreshCount (by decide)
  have hmeasure : meter.port = s.meter.port := Four.ext_get fun p => hpart (.measure p) (by simp)
  have hpolicy : policy = s.policy := hpart .policy (by decide)
  have hplan : lastPlan = s.lastPlan := hpart .lastPlan (by decide)
  have hcontract : contract = s.contract := Four.ext_get fun p => hpart (.contract p) (by simp)
  have hdemands : sequencer.demands = s.sequencer.demands := Four.ext_get fun p => hpart (.demands p) (by simp)
  obtain ⟨hservice, hrotation, htransition⟩ : sequencer.inService = s.sequencer.inService
      ∧ sequencer.rotation = s.sequencer.rotation ∧ sequencer.transition = s.sequencer.transition :=
    hpart .service (by decide)
  have hlimit : limit = s.limit := hpart .limit (by decide)
  have hdraw : drawMonitor = s.drawMonitor := Four.ext_get fun p => hpart (.drawMonitor p) (by simp)
  have hbudget : supply.budget = s.supply.budget := hpart .budget (by decide)
  have horder : supply.orderCounter = s.supply.orderCounter := hpart .orderCounter (by decide)
  have hwait : supply.waitList = s.supply.waitList := hpart .waitList (by decide)
  have hswitch : supply.switchClosed = s.supply.switchClosed :=
    Four.ext_get fun p => hpart (.supplySwitch p) (by simp)
  obtain ⟨hreceive, hreception⟩ : link.receive = s.link.receive ∧ link.reception = s.link.reception :=
    hpart .receive (by decide)
  obtain ⟨hupstream, huplink, huhold⟩ : link.upstream = s.link.upstream ∧ link.uplink = s.link.uplink
      ∧ link.uhold = s.link.uhold := hpart .uplink (by decide)
  have hclass : link.frameClass = s.link.frameClass := hpart .frameClass (by decide)
  have hnotices : link.notices = s.link.notices := NoticeSet.ext_of_get fun f => hpart (.notice f) (by simp)
  have hsupervisor : supervisor = s.supervisor := hpart .supervisor (by decide)
  obtain ⟨own, pool⟩ := table
  obtain ⟨mqueue, inFlight, refLo, refHi, refreshCount, port⟩ := meter
  obtain ⟨demands, inService, rotation, transition⟩ := sequencer
  obtain ⟨budget, orderCounter, waitList, switchClosed⟩ := supply
  obtain ⟨receive, reception, upstream, uplink, uhold, frameClass, notices⟩ := link
  dsimp only at hown hpool hqueue hflight hlo hhi hcount hmeasure hdemands hservice hrotation htransition hbudget
  dsimp only at horder hwait hswitch hreceive hreception hupstream huplink huhold hclass hnotices
  rw [hreset, hclock, hrail, hmonitor, hown, hpool, hframer, hbook, hqueue, hflight, hlo, hhi, hcount, hmeasure, hpolicy,
    hplan, hcontract, hdemands, hservice, hrotation, htransition, hlimit, hdraw, hbudget, horder, hwait, hswitch, hreceive,
    hreception, hupstream, huplink, huhold, hclass, hnotices, hsupervisor]

/-! ### How a step divides -/

section
variable {s t u : State}

/-- A step is a command, on the state with the rest of the queue, a tick, or the choice of an event. -/
theorem step_cases (h : step s = .next t) :
    (∃ c u, ChangesOnly [.queue, .freeCount] s u ∧ exec c u = .next t)
      ∨ (s.inReset = false ∧ t = tick s) ∨ ChangesOnly [.queue, .freeCount] s t := by
  cases hpending : s.pending with
  | cons c rest =>
    refine Or.inl ⟨c, { s with pending := rest }, ?_, by rw [← step_of_waiting hpending, h]⟩
    intro part hpart
    cases part <;> simp_all [Part.same]
  | nil =>
    rw [step_of_idle hpending] at h
    cases h
    cases hrun : s.inReset with
    | true => rw [idle_of_held hrun]; exact Or.inr (Or.inr (.refl _ _))
    | false =>
      by_cases hdue : s.due = []
      · exact Or.inr (Or.inl ⟨rfl, idle_of_nothing_due hrun hdue⟩)
      · obtain ⟨-, -, -, hchanges⟩ := chooseEvent_spec hdue s
        rw [idle_of_due hrun hdue]
        exact Or.inr (Or.inr hchanges)

theorem powerOnReset_changes (h : exec .powerOnReset s = .next t) :
    ChangesOnly [.queue, .freeCount] State.reset t := by
  cases h
  intro part hpart
  cases part <;> simp_all [Part.same, State.reset]

/-- What a step keeps: a condition that looks at neither the queue nor the free choices, that the machine after reset
meets, that every command but the reset keeps where it has effect, and that a tick keeps. -/
theorem step_keeps {before after : State → Prop} (h : step s = .next t)
    (hqueue : ∀ s q n, before s → before { s with pending := q, freeCount := n })
    (hafter : ∀ {s}, before s → after s) (hreset : before State.reset)
    (hcommand : ∀ c {s t}, c ≠ .powerOnReset → (s.inReset = false ∨ ∃ a b d, c = .resetEnd a b d ∧ s.inReset = true) →
      exec c s = .next t → before s → after t)
    (htick : ∀ {s}, s.inReset = false → before s → after (tick s)) : before s → after t := by
  intro hs
  have hbefore {s t : State} (hst : ChangesOnly [.queue, .freeCount] s t) (hs : before s) : before t := by
    rw [eq_of_queue_changes hst]
    exact hqueue s _ _ hs
  rcases step_cases h with ⟨c, u, hu, hexec⟩ | ⟨hrun, rfl⟩ | hchanges
  · have hu := hbefore hu hs
    by_cases hc : c = .powerOnReset
    · subst hc
      exact hafter (hbefore (powerOnReset_changes hexec) hreset)
    · cases hheld : u.inReset with
      | false => exact hcommand c hc (Or.inl hheld) hexec hu
      | true =>
        by_cases hend : ∃ a b d, c = .resetEnd a b d
        · obtain ⟨a, b, d, hend⟩ := hend
          exact hcommand c hc (Or.inr ⟨a, b, d, hend, hheld⟩) hexec hu
        · have hsame : exec c u = .next u := exec_of_held hheld hc fun a b d h => hend ⟨a, b, d, h⟩
          rw [hsame] at hexec
          cases hexec
          exact hafter hu
  · exact htick hrun hs
  · exact hafter (hbefore hchanges hs)

end

end Sys2Proof.Machine
end

section
/-! PROOFS. What every command keeps of the lines, the records, the meter and the draw switches, and the conditions that
rest on it. -/

namespace Sys2Proof.Machine

open Sys2Proof

/-- What `Keeps` says of the lines, the records, the meter and the draws. -/
structure KeepsRest (free : List Freedom) (s t : State) : Prop where
  lines : .branches ∉ free → s.branchesBounded → s.linesFormed → t.linesFormed
  records : RecordsKept free s t
  meter : .metering ∉ free → s.meterFormed → t.meterFormed
  draws : DrawsKept free s t

section
variable {free : List Freedom} {s t u : State} {p : Port}

theorem Keeps.rest (h : Keeps free s t) : KeepsRest free s t := ⟨h.lines, h.records, h.meter, h.draws⟩

theorem KeepsRest.refl (s : State) : KeepsRest free s s := (Keeps.refl s).rest

theorem KeepsRest.trans (h1 : KeepsRest free s t) (h2 : KeepsRest free t u) : KeepsRest free s u where
  lines := fun hn hb h => h2.lines hn (h1.records.1 hn hb) (h1.lines hn hb h)
  records := ⟨fun hn h => h2.records.1 hn (h1.records.1 hn h), fun h => h2.records.2.1 (h1.records.2.1 h),
    fun h => h2.records.2.2 (h1.records.2.2 h)⟩
  meter := fun hm h => h2.meter hm (h1.meter hm h)
  draws := ⟨fun h => h2.draws.1 (h1.draws.1 h), fun hc p h => h1.draws.2 hc p (h2.draws.2 hc p h)⟩

theorem KeepsRest.foldl {α : Type} {f : State → α → State} (h : ∀ s a, KeepsRest free s (f s a)) (xs : List α)
    (s : State) : KeepsRest free s (xs.foldl f s) := by
  induction xs generalizing s with
  | nil => exact .refl s
  | cons x xs ih => exact (h s x).trans (ih _)

theorem KeepsRest.of_monitors (h : ChangesOnly (quietParts ++ everyPort .monitor) s t) : KeepsRest free s t where
  lines := fun _ _ => linesFormed_of_same fun p => h (.framer p) (by simp [quietParts, everyNotice])
  records := .of_same (h .pool (by simp [quietParts, everyNotice])) (h .waitList (by simp [quietParts, everyNotice]))
  meter := fun _ => meterFormed_of_same (h .converter (by simp [quietParts, everyNotice]))
    fun p => h (.measure p) (by simp [quietParts, everyNotice])
  draws := .of_same (fun p => h (.contract p) (by simp [quietParts, everyNotice]))
    fun p => h (.drawMonitor p) (by simp [quietParts, everyNotice])

theorem modMonitor_keepsRest (p : Port) (g : Monitor → Monitor) (s : State) : KeepsRest free s (s.modMonitor p g) :=
  .of_monitors ((modMonitor_changes s p g).mono (by simp))

/-- A framer that keeps its engine list, its exchange and the frame it sends. -/
theorem modFramer_keepsRest {g : Framer → Framer} (h : ∀ f, (g f).engine = f.engine ∧ (g f).exchange = f.exchange
    ∧ (g f).sending = f.sending) : KeepsRest free s (s.modFramer p g) where
  lines := fun _ _ hs q => by
    by_cases hq : q = p
    · subst hq
      obtain ⟨h1, h2, h3⟩ := h (s.framer.get q)
      simpa using (lineFormed_congr h1 h2 h3).mpr (hs q)
    · simpa [hq] using hs q
  records := .of_same rfl rfl
  meter := fun _ => meterFormed_of_same ⟨rfl, rfl⟩ fun _ => rfl
  draws := .of_same (fun _ => rfl) fun _ => rfl

theorem running_keepsRest {f : State → State} (h : running f s = .next t) (hf : ∀ s, KeepsRest free s (f s)) :
    KeepsRest free s t := by
  unfold running at h
  cases h
  split
  · exact .refl s
  · exact hf s

theorem takeCommand_keepsRest {wanted : LinkFrame → Bool} {carry : LinkFrame → State → State × ReplyBody}
    (hc : ∀ f s, KeepsRest free s (carry f s).1) (s : State) : KeepsRest free s (takeCommand wanted carry s) :=
  takeCommand_relates (fun h => .of_monitors (h.mono (by simp [quietParts]))) .trans hc s

theorem bar_keepsRest (p : Port) (flag : Bool) (s : State) : KeepsRest free s (bar p flag s) :=
  .of_monitors ((bar_changes p flag s).mono (by intro x hx; simp_all [quietParts]; tauto))

theorem execBarPort_keepsRest (h : execBarPort s = .next t) : KeepsRest free s t :=
  running_keepsRest h (takeCommand_keepsRest fun f s => by
    unfold checkLength checkPort
    split
    · split
      · dsimp only
        split
        · exact .refl s
        · exact bar_keepsRest _ _ s
      · exact .refl s
    · exact .refl s)

theorem carryRelay_keepsRest (p : Port) (f : LinkFrame) (s : State) : KeepsRest free s (carryRelay p f s).1 := by
  unfold carryRelay
  split_ifs
  · exact .refl s
  · exact .refl s
  · exact .refl s
  · exact .refl s
  · refine .trans (modFramer_keepsRest (g := fun x : Framer => { x with relay := x.relay ++ [f.relayed] })
      fun x => ⟨rfl, rfl, rfl⟩) (transmit_keeps p _).rest

theorem execRelayDown_keepsRest (h : execRelayDown s = .next t) : KeepsRest free s t :=
  running_keepsRest h (takeCommand_keepsRest fun f s => by
    split
    · exact .refl s
    · unfold checkPort
      split
      · exact carryRelay_keepsRest _ f s
      · exact .refl s)

theorem resetEnd_keepsRest (straps : BitVec 8) (presence : BitVec 4) (uhold : Bool) (s : State) :
    KeepsRest free s (resetEnd straps presence uhold s) := by
  have hplatform : KeepsRest free s (((s.modSupervisor fun _ => Supervisor.reset straps).modSupply fun u =>
      { u with budget := strapBudget straps }).modPolicy fun _ => PolicyStore.reset straps) :=
    .of_monitors (by intro part hpart; cases part <;> simp_all [Part.same, quietParts])
  have hsense (u : State) : KeepsRest free u (allPorts.foldl (fun t p => sensePresence presence p t) u) :=
    .foldl (f := fun t p => sensePresence presence p t) (fun u p =>
      .of_monitors ((sensePresence_changes presence p u).mono (by simp))) allPorts u
  have hlast (u : State) : KeepsRest free u { (u.modLink fun l => { l with uhold := uhold }) with inReset := false } :=
    .of_monitors (by intro part hpart; cases part <;> simp_all [Part.same, quietParts, mem_everyNotice])
  exact ((hplatform.trans ((queuePair_keeps _).trans (takeChannel_keeps _)).rest).trans (hsense _)).trans (hlast _)

theorem exec_keepsRest {c : Instr} (h : exec c s = .next t) (hc : c ≠ .powerOnReset) :
    KeepsRest (freedomOf c) s t := by
  by_cases hspecial : (∃ a b d, c = .resetEnd a b d) ∨ (∃ p, c = .presenceRise p) ∨ c = .barPort ∨ c = .relayDown
  · rcases hspecial with ⟨a, b, d, rfl⟩ | ⟨p, rfl⟩ | rfl | rfl
    · cases h
      split
      · exact resetEnd_keepsRest a b d s
      · exact .refl s
    · exact running_keepsRest (id h : execPresenceRise p s = .next t) fun s => modMonitor_keepsRest p _ s
    · exact execBarPort_keepsRest h
    · exact execRelayDown_keepsRest h
  · simp only [not_or, not_exists] at hspecial
    obtain ⟨hend, hrise, hbar, hrelay⟩ := hspecial
    by_cases hbegun : ∃ q kind f, receivedFrame c = some (q, kind, f) ∧ f.begins = true
    · obtain ⟨q, kind, f, hr, hf⟩ := hbegun
      exact running_keepsRest ((exec_of_begun hr hf s).symm.trans h) fun s => modFramer_keepsRest fun f => ⟨rfl, rfl, rfl⟩
    · refine (exec_keeps h ⟨hc, hend, hrise, hbar, hrelay, fun q kind f hr => ?_⟩).rest
      exact Bool.eq_false_iff.mpr fun hf => hbegun ⟨q, kind, f, hr, hf⟩

end

/-! ### Only a switching closes a draw switch -/

theorem closing_mem_freedomOf {c : Instr} (h : .closing ∈ freedomOf c) :
    c = .takeDemand ∨ c = .breakIntervalExpiry ∨ ∃ q, c = .claimSettled q := by
  cases c <;> simp_all [freedomOf]

/-- Settles O36. -/
theorem onlyASwitchingClosesADrawSwitch : Obligations.OnlyASwitchingClosesADrawSwitch := by
  intro c s t p h hopen hclosed
  by_cases hc : c = .powerOnReset
  · subst hc
    cases h
    simp [State.powerOn, Contract.reset] at hclosed
  · by_contra hnot
    have hkept := (exec_keepsRest h hc).draws.2 (fun hmem => hnot (closing_mem_freedomOf hmem)) p hclosed
    rw [hopen] at hkept
    cases hkept

end Sys2Proof.Machine
end

section
/-! PROOFS. The engine lists, the meter's queue and the suspended counts are kept by every step. -/

namespace Sys2Proof.Machine

open Sys2Proof

section
variable {s t : State}

theorem branchesBounded_of_recordsStand (h : s.recordsStand) : s.branchesBounded := by
  obtain ⟨-, hpool, -, hwait⟩ := h
  refine ⟨fun r hr => (hpool r hr).2.1, fun w hw => ?_⟩
  have hrecord := hwait w hw
  unfold State.hasRecord at hrecord
  split at hrecord
  · omega
  · obtain ⟨r, hr, hfor⟩ := List.any_eq_true.mp hrecord
    have := (hpool r hr).2.1
    simp only [PooledRecord.isFor, Bool.and_eq_true, beq_iff_eq] at hfor
    omega

theorem ExchangeCondition.tick_eq_queued (c : ExchangeCondition) : c.tick = .queued ↔ c = .queued := by
  cases c <;> simp [ExchangeCondition.tick]

theorem Framer.tick_lineFormed {f : Framer} (h : f.lineFormed) : f.tick.lineFormed := by
  obtain ⟨hlength, hanswers, hrelease, hone, hsupply, hmem, hsending, hexchange⟩ := h
  have hsend : f.tick.sendingExchange = f.sendingExchange := rfl
  refine ⟨hlength, hanswers, hrelease, hone, hsupply, fun k hk => ?_, fun hs => ?_, fun e he => ?_⟩
  · obtain ⟨hfree, e, he, hkind, hqueued, hwithdrawn⟩ := hmem k hk
    exact ⟨hfree, { e with condition := e.condition.tick }, by simp [Framer.tick, he], hkind,
      (ExchangeCondition.tick_eq_queued _).mpr hqueued, hwithdrawn⟩
  · obtain ⟨e, he, hqueued⟩ := hsending hs
    exact ⟨{ e with condition := e.condition.tick }, by simp [Framer.tick, he],
      (ExchangeCondition.tick_eq_queued _).mpr hqueued⟩
  · obtain ⟨e, _, rfl⟩ := Option.map_eq_some_iff.mp he
    obtain ⟨hqueued, hwithdrawn⟩ := hexchange _ ‹_›
    exact ⟨fun hc => hqueued ((ExchangeCondition.tick_eq_queued _).mp hc), hwithdrawn⟩

theorem tick_linesFormed (h : s.linesFormed) : (tick s).linesFormed := fun p => by
  simpa [tick] using Framer.tick_lineFormed (h p)

theorem Meter.tick_inFlightChannel (m : Meter) : m.tick.inFlightChannel = m.inFlightChannel := by
  simp [Meter.inFlightChannel, Meter.tick, Function.comp_def]

theorem tick_meterFormed (h : s.meterFormed) : (tick s).meterFormed := by
  have hchannel : (tick s).meter.inFlightChannel = s.meter.inFlightChannel := Meter.tick_inFlightChannel _
  unfold State.meterFormed
  rw [hchannel]
  exact h

theorem tick_suspendedHeld (h : s.suspendedHeld) : (tick s).suspendedHeld := fun p => by
  have hp := h p
  simpa [tick, Contract.tick, tickTimer] using hp

end

/-- Settles O57. -/
theorem stepsKeepTheLinesAndTheMeterFormed : Obligations.StepsKeepTheLinesAndTheMeterFormed := by
  intro s t h
  refine ⟨?_, ?_⟩
  · refine step_keeps (before := fun s => s.suppliesGranted ∧ s.linesFormed) h ?_ And.right
      ⟨reset_suppliesGranted, reset_linesFormed⟩ ?_ fun _ hs => tick_linesFormed hs.2
    · exact fun _ _ _ hs => hs
    · intro c s t hc _ hexec ⟨⟨_, hrecords, _⟩, hlines⟩
      exact (exec_keepsRest hexec hc).lines (by cases c <;> simp [freedomOf])
        (branchesBounded_of_recordsStand hrecords) hlines
  · refine step_keeps (before := State.meterFormed) h ?_ id reset_meterFormed ?_ fun _ => tick_meterFormed
    · exact fun _ _ _ hs => hs
    · intro c s t hc _ hexec
      exact (exec_keepsRest hexec hc).meter (by cases c <;> simp [freedomOf])

end Sys2Proof.Machine
end

section
/-! PROOFS. The ACTIVE image, the unpopulated ports, the silence timer, the queues and the suspended counts are kept by
every step. -/

namespace Sys2Proof.Machine

open Sys2Proof

section
variable {s t : State} {c : Instr} {P : State → Prop}

/-! ### A condition that a command keeps -/

theorem running_preserves {f : State → State} (h : running f s = .next t) (hf : P s → P (f s)) : P s → P t := by
  unfold running at h
  cases h
  split
  · exact id
  · exact hf

theorem takeCommand_preserves {wanted : LinkFrame → Bool} {carry : LinkFrame → State → State × ReplyBody}
    (hlink : ∀ {s t}, ChangesOnly [.receive, .uplink] s t → P s → P t) (hc : ∀ f s, P s → P (carry f s).1) (s : State) :
    P s → P (takeCommand wanted carry s) :=
  takeCommand_relates (rel := fun s t : State => P s → P t) hlink (fun h g => g ∘ h) hc s

theorem checkLength_preserves {n : Nat} {carry : LinkFrame → State → State × ReplyBody}
    (hc : ∀ f s, P s → P (carry f s).1) (f : LinkFrame) (s : State) (h : P s) : P (checkLength n carry f s).1 := by
  unfold checkLength
  split
  · exact hc f s h
  · exact h

theorem writePending_preserves {carry : LinkFrame → State → State × ReplyBody}
    (hc : ∀ f s, P s → P (carry f s).1) (f : LinkFrame) (s : State) (h : P s) : P (writePending carry f s).1 := by
  unfold writePending
  split
  · exact hc f s h
  · exact h

/-! ### The ACTIVE image (R73, R84, R191) -/

/-- What a change of the image or of the platform values makes the other blocks do. -/
def effectParts : List Part := .limit :: .budget :: (everyPort .demands ++ supplyParts)

theorem supply_effect_sub : supplyParts ⊆ effectParts := by
  intro x hx; simp [effectParts, hx]

theorem review_effects (s : State) : ChangesOnly effectParts s (reviewAttached s) :=
  (reviewAttached_changes s).mono fun x hx => by simp [effectParts, hx]

theorem rebalance_effects (n : Nat) (s : State) : ChangesOnly effectParts s (rebalance n s) :=
  (rebalance_changes n s).mono supply_effect_sub

theorem serve_effects (s : State) : ChangesOnly effectParts s (serve s) := (serve_changes s).mono supply_effect_sub

theorem recompute_effects (s : State) : ChangesOnly effectParts s (recompute s) :=
  (recompute_changes s).mono (by simp [effectParts])

theorem takeBudget_effects (n : Nat) (s : State) : ChangesOnly effectParts s (takeBudget n s) :=
  (takeBudget_changes n s).mono (by intro x hx; simp_all [effectParts]; tauto)

theorem imageValid_of_policy (h : t.policy = s.policy) (hs : s.imageValid) : t.imageValid := by
  unfold State.imageValid
  rw [h]
  exact hs

theorem applyPending_imageValid (_ : LinkFrame) (s : State) (hs : s.imageValid) : (applyPending s).1.imageValid := by
  unfold applyPending
  split
  · exact hs
  · next hvalid =>
    unfold State.imageValid
    rw [applySuccess_policy]
    exact hvalid

theorem autonomousEntry_effects (s : State) :
    ∃ u, ChangesOnly effectParts u (autonomousEntry s)
      ∧ u.supervisor = { s.supervisor with
          autonomous := true, silenceTimer := none, demand := strapPowerClass s.supervisor.straps }
      ∧ u.policy = { s.policy with
          active := fallbackImage (strapSixAmp s.supervisor.straps), origin := .fallback, pendingOpen := false } :=
  ⟨_, ((((rebalance_effects _ _).trans (takeBudget_effects _ _)).trans (serve_effects _)).trans
    (recompute_effects _)).trans (review_effects _), rfl, rfl⟩

theorem autonomousEntry_policy (s : State) :
    (autonomousEntry s).policy = { s.policy with
      active := fallbackImage (strapSixAmp s.supervisor.straps), origin := .fallback, pendingOpen := false } := by
  obtain ⟨u, hu, -, hpolicy⟩ := autonomousEntry_effects s
  exact (hu .policy (by simp [effectParts, supplyParts])).trans hpolicy

theorem silenceExpiry_imageValid (s : State) (hs : s.imageValid) : (silenceExpiry s).imageValid := by
  unfold silenceExpiry
  split
  · exact imageValid_of_policy (s := s) rfl hs
  · unfold State.imageValid
    rw [autonomousEntry_policy]
    exact fallbackImage_valid _

theorem resetEnd_policy (straps : BitVec 8) (presence : BitVec 4) (uhold : Bool) (s : State) :
    (resetEnd straps presence uhold s).policy = PolicyStore.reset straps := rfl

theorem exec_imageValid (h : exec c s = .next t) (hc : c ≠ .powerOnReset) : s.imageValid → t.imageValid := by
  by_cases happly : c = .applyPolicy
  · subst happly
    exact running_preserves (id h : execApplyPolicy s = .next t) (takeCommand_preserves
      (fun h => imageValid_of_policy (h .policy (by simp)))
      (checkLength_preserves (writePending_preserves applyPending_imageValid)) s)
  · by_cases hsilence : c = .silenceTimerExpiry
    · subst hsilence
      refine running_preserves (id h : execSilenceTimerExpiry s = .next t) fun hs => ?_
      split
      · exact silenceExpiry_imageValid s hs
      · exact hs
    · by_cases hend : ∃ a b d, c = .resetEnd a b d
      · obtain ⟨a, b, d, rfl⟩ := hend
        cases h
        intro hs
        split
        · unfold State.imageValid
          rw [resetEnd_policy]
          exact fallbackImage_valid _
        · exact hs
      · have himage := exec_settings h hc (fun a b d heq => hend ⟨a, b, d, heq⟩) .image
          (by cases c <;> simp_all [ownSettings])
        intro hs
        unfold State.imageValid
        rw [himage.1]
        exact hs

/-! ### The silence timer (R188 to R191) -/

theorem silenceTimed_of_supervisor (h : t.supervisor = s.supervisor) (hs : s.silenceTimed) : t.silenceTimed := by
  unfold State.silenceTimed
  rw [h]
  exact hs

theorem validFrameSeen_silenceTimed (s : State) : (validFrameSeen s).silenceTimed := by
  simp [validFrameSeen, State.silenceTimed]

theorem applySuccess_supervisor (s : State) : (applySuccess s).supervisor = s.supervisor := by
  have h : ChangesOnly effectParts (s.modPolicy PolicyStore.applied) (applySuccess s) :=
    (((review_effects _).trans (rebalance_effects _ _)).trans (serve_effects _)).trans (recompute_effects _)
  exact h .supervisor (by simp [effectParts, supplyParts])

theorem takePlatform_supervisor (v : PlatformValues) (s : State) :
    (takePlatform v s).supervisor = s.supervisor.taken v := by
  have hbudget : ChangesOnly effectParts (s.modSupervisor fun u => u.taken v)
      (setBudget v.budget (s.modSupervisor fun u => u.taken v)) := (takeBudget_effects _ _).trans (serve_effects _)
  have h : ChangesOnly effectParts (s.modSupervisor fun u => u.taken v) (takePlatform v s) :=
    .ite (hbudget.trans (review_effects _)) hbudget
  exact h .supervisor (by simp [effectParts, supplyParts])

theorem autonomousEntry_silenceTimed (s : State) : (autonomousEntry s).silenceTimed := by
  obtain ⟨u, hu, hsupervisor, -⟩ := autonomousEntry_effects s
  refine silenceTimed_of_supervisor (hu .supervisor (by simp [effectParts, supplyParts])) ?_
  simp [State.silenceTimed, hsupervisor]

theorem takePlatform_silenceTimed (v : PlatformValues) (s : State) (hs : s.silenceTimed) :
    (takePlatform v s).silenceTimed := by
  have hs : s.supervisor.silenceTimer = none ↔ s.supervisor.autonomous = true := hs
  unfold State.silenceTimed
  rw [takePlatform_supervisor]
  cases hauto : s.supervisor.autonomous <;> by_cases hperiod : v.silence = s.supervisor.silencePeriod <;>
    simp_all [Supervisor.taken]

theorem endReception_silenceTimed (bytes : List Byte) (s : State) (hs : s.silenceTimed) :
    (endReception bytes s).silenceTimed := by
  unfold endReception
  dsimp only
  split_ifs
  · exact hs
  · exact hs
  · exact hs
  · exact validFrameSeen_silenceTimed _

theorem receiveByte_silenceTimed (s : State) (b : Byte) (hs : s.silenceTimed) : (receiveByte s b).silenceTimed := by
  unfold receiveByte
  split
  · split_ifs
    · exact hs
    · exact hs
  · dsimp only
    split_ifs
    · exact hs
    · exact hs
    · exact hs
    · exact endReception_silenceTimed _ _ hs

theorem foldl_preserves {α : Type} {f : State → α → State} (hf : ∀ s a, P s → P (f s a)) (l : List α) :
    ∀ s, P s → P (l.foldl f s) := by
  induction l with
  | nil => exact fun s hs => hs
  | cons a l ih => exact fun s hs => ih _ (hf s a hs)

theorem silenceExpiry_silenceTimed (s : State) (hs : s.silenceTimed) (hexpired : s.supervisor.silenceTimer ≠ none) :
    (silenceExpiry s).silenceTimed := by
  have hs : s.supervisor.silenceTimer = none ↔ s.supervisor.autonomous = true := hs
  unfold silenceExpiry
  split
  · have hauto : s.supervisor.autonomous = false := Bool.eq_false_iff.mpr fun h => hexpired (hs.mpr h)
    have hpost : (post .silence noticeSilent (snapshotLow s.supervisor.silencePeriod) s).supervisor = s.supervisor := rfl
    simp [State.silenceTimed, hpost, hauto]
  · exact autonomousEntry_silenceTimed s

theorem supervisor_kept {l : List Part} (h : ChangesOnly l s t) (hl : .supervisor ∉ l) (hs : s.silenceTimed) :
    t.silenceTimed := silenceTimed_of_supervisor (h .supervisor hl) hs

theorem supervisor_not_mem (hc : setsNothing c = true) : .supervisor ∉ commandParts c :=
  setting_not_mem hc (by decide)

theorem exec_silenceTimed (h : exec c s = .next t) (hc : c ≠ .powerOnReset) : s.silenceTimed → t.silenceTimed := by
  cases c with
  | powerOnReset => exact absurd rfl hc
  | resetEnd a b d =>
    cases h
    intro hs
    split
    · exact silenceTimed_of_supervisor (s := s.modSupervisor fun _ => Supervisor.reset a) rfl
        (by simp [State.silenceTimed, Supervisor.reset])
    · exact hs
  | downlinkFrameStored bytes =>
    exact running_preserves (id h : execDownlinkFrameStored bytes s = .next t)
      (foldl_preserves receiveByte_silenceTimed bytes s)
  | byteGapTimeout =>
    refine running_preserves (id h : execByteGapTimeout s = .next t) fun hs => ?_
    split <;> exact hs
  | applyPolicy =>
    refine running_preserves (id h : execApplyPolicy s = .next t) (takeCommand_preserves
      (fun h => supervisor_kept h (by decide)) (checkLength_preserves (writePending_preserves fun f s hs => ?_)) s)
    unfold applyPending
    split
    · exact hs
    · exact silenceTimed_of_supervisor (applySuccess_supervisor s) hs
  | setPlatform =>
    refine running_preserves (id h : execSetPlatform s = .next t) (takeCommand_preserves
      (fun h => supervisor_kept h (by decide)) (checkLength_preserves fun f s hs => ?_) s)
    split
    · exact takePlatform_silenceTimed _ s hs
    · exact hs
  | restart =>
    refine running_preserves (id h : execRestart s = .next t) (takeCommand_preserves
      (fun h => supervisor_kept h (by decide)) (checkLength_preserves fun f s _ => ?_) s)
    simp [linkRestart, State.silenceTimed]
  | silenceTimerExpiry =>
    refine running_preserves (id h : execSilenceTimerExpiry s = .next t) fun hs => ?_
    split
    · next hexpired =>
      refine silenceExpiry_silenceTimed s hs fun hnone => ?_
      simp [Supervisor.silenceExpired, hnone, reached] at hexpired
    · exact hs
  | openPolicy | writeRule | writeHeads | writeRating | writeParams | setFrameClass =>
    exact supervisor_kept (exec_changes h hc) (by decide)
  | _ => exact supervisor_kept (exec_changes h hc) (supervisor_not_mem rfl)

end

end Sys2Proof.Machine
end

section
/-! PROOFS. The unpopulated ports and the bounds of the queues; the five conditions together. -/

namespace Sys2Proof.Machine

open Sys2Proof

section
variable {s t : State} {c : Instr} {P : State → Prop}

/-- A command with effect leaves the part out of reset. -/
theorem exec_runs (h : exec c s = .next t) (hc : c ≠ .powerOnReset)
    (hactive : s.inReset = false ∨ ∃ a b d, c = .resetEnd a b d ∧ s.inReset = true) : t.inReset = false := by
  by_cases hend : ∃ a b d, c = .resetEnd a b d
  · obtain ⟨a, b, d, rfl⟩ := hend
    cases h
    split
    · rfl
    · next hrun => simpa using hrun
  · have hrun : s.inReset = false := hactive.resolve_right fun ⟨a, b, d, heq, _⟩ => hend ⟨a, b, d, heq⟩
    have hkept : t.inReset = s.inReset := exec_settings h hc (fun a b d heq => hend ⟨a, b, d, heq⟩) .reset
      (by cases c <;> simp [ownSettings])
    exact hkept.trans hrun

theorem heldInReset_of_runs (h : s.inReset = false) : s.heldInReset := fun hheld => by
  rw [h] at hheld; cases hheld

/-! ### Unpopulated ports (R1) -/

theorem Monitor.rise_unpopulated (m : Monitor) : (m.rise false).state = m.state := by
  unfold Monitor.rise
  split_ifs <;> simp_all

theorem transmit_state (p q : Port) (s : State) : ((transmit p s).monitor.get q).state = (s.monitor.get q).state := by
  unfold transmit
  dsimp only
  split_ifs
  · by_cases hq : q = p
    · subst hq
      simp only [State.modMonitor, Four.get_set_same]
      split <;> rfl
    · simp [hq]
  · simp

theorem bar_state (p : Port) (flag : Bool) (q : Port) (s : State) :
    (((bar p flag s).monitor.get q).state) = (s.monitor.get q).state := by
  have hflag : ((s.modMonitor p fun m => { m with barred := flag }).monitor.get q).state = (s.monitor.get q).state := by
    by_cases hq : q = p
    · subst hq; simp
    · simp [hq]
  have hraise (u : State) : ((raiseDemand .review p u).monitor.get q).state = (u.monitor.get q).state :=
    congrArg Monitor.state (raiseDemand_changes _ p u (.monitor q) (by simp))
  unfold bar
  dsimp only
  split
  · exact (hraise _).trans hflag
  · exact hflag

theorem carryRelay_state (p : Port) (f : LinkFrame) (q : Port) (s : State) :
    ((carryRelay p f s).1.monitor.get q).state = (s.monitor.get q).state := by
  unfold carryRelay
  split_ifs
  · rfl
  · rfl
  · rfl
  · rfl
  · exact transmit_state p q _

theorem populated_congr (h : t.supervisor.straps = s.supervisor.straps) (p : Port) : t.populated p = s.populated p := by
  simp [State.populated, h]

/-- An unpopulated EMPTY port stays EMPTY under a command other than the end of reset. -/
theorem exec_empty (h : exec c s = .next t) (hc : c ≠ .powerOnReset) (hend : ∀ a b d, c ≠ .resetEnd a b d) {p : Port}
    (hpop : s.populated p = false) (hempty : (s.monitor.get p).state = .empty) :
    (t.monitor.get p).state = .empty := by
  have hmove {f : State → State} (h : running f s = .next t)
      (hf : ((f s).monitor.get p).state = (s.monitor.get p).state) : (t.monitor.get p).state = .empty :=
    running_preserves (P := fun u => (u.monitor.get p).state = .empty) h (fun h => hf.trans h) hempty
  by_cases hrise : ∃ q, c = .presenceRise q
  · obtain ⟨q, rfl⟩ := hrise
    refine hmove (id h : execPresenceRise q s = .next t) ?_
    by_cases hq : p = q
    · subst hq
      simpa [hpop] using Monitor.rise_unpopulated _
    · simp [hq]
  · by_cases hbar : c = .barPort
    · subst hbar
      refine running_preserves (P := fun u => (u.monitor.get p).state = .empty) (id h : execBarPort s = .next t)
        (takeCommand_preserves (fun h hs => (congrArg Monitor.state (h (.monitor p) (by simp))).trans hs) (checkLength_preserves
          fun f s hs => ?_) s) hempty
      unfold checkPort
      split
      · dsimp only
        split
        · exact hs
        · exact (bar_state _ _ p s).trans hs
      · exact hs
    · by_cases hrelay : c = .relayDown
      · subst hrelay
        refine running_preserves (P := fun u => (u.monitor.get p).state = .empty) (id h : execRelayDown s = .next t)
          (takeCommand_preserves (fun h hs => (congrArg Monitor.state (h (.monitor p) (by simp))).trans hs)
            (fun f s hs => ?_) s) hempty
        unfold checkPort
        split
        · exact hs
        · split
          · exact (carryRelay_state _ _ p s).trans hs
          · exact hs
      · by_cases hbegun : ∃ q kind f, receivedFrame c = some (q, kind, f) ∧ f.begins = true
        · obtain ⟨q, kind, f, hr, hf⟩ := hbegun
          exact hmove ((exec_of_begun hr hf s).symm.trans h) rfl
        · refine ((exec_keeps h ⟨hc, hend, fun q hq => hrise ⟨q, hq⟩, hbar, hrelay, fun q kind f hr => ?_⟩).monitors p).2.1
            hempty
          exact Bool.eq_false_iff.mpr fun hf => hbegun ⟨q, kind, f, hr, hf⟩

theorem resetEnd_unpopulatedEmpty (straps : BitVec 8) (presence : BitVec 4) (uhold : Bool)
    (hs : s.unpopulatedEmpty) (hheld : s.inReset = true) :
    (resetEnd straps presence uhold s).unpopulatedEmpty := by
  obtain ⟨-, -, hmonitor, -⟩ := hs.1 hheld
  refine ⟨heldInReset_of_runs rfl, fun p hp => ?_⟩
  have hp : ¬p.val < strapPopulated straps := of_decide_eq_false hp
  rw [resetEnd_monitor, hmonitor]
  simp [hp, Monitor.reset]

theorem exec_unpopulatedEmpty (h : exec c s = .next t) (hc : c ≠ .powerOnReset)
    (hactive : s.inReset = false ∨ ∃ a b d, c = .resetEnd a b d ∧ s.inReset = true) (hs : s.unpopulatedEmpty) :
    t.unpopulatedEmpty := by
  by_cases hend : ∃ a b d, c = .resetEnd a b d
  · obtain ⟨a, b, d, rfl⟩ := hend
    cases h
    split
    · next hheld => exact resetEnd_unpopulatedEmpty a b d hs hheld
    · exact hs
  · have hend : ∀ a b d, c ≠ .resetEnd a b d := fun a b d heq => hend ⟨a, b, d, heq⟩
    have hstraps := exec_settings h hc hend .straps (by cases c <;> simp [ownSettings])
    refine ⟨heldInReset_of_runs (exec_runs h hc hactive), fun p hp => ?_⟩
    rw [populated_congr hstraps] at hp
    exact exec_empty h hc hend hp (hs.2 p hp)

/-! ### The queues (R14, R35, R158, R168) -/

/-- The two buffers of the link hold no more than their room. -/
def State.buffersBounded (s : State) : Prop := s.link.receive.length ≤ 4 ∧ s.link.upstream.length ≤ 16

theorem look_upstream_le (l : LinkUnit) : l.look.upstream.length ≤ l.upstream.length := by
  unfold LinkUnit.look
  split
  · next hqueue => split <;> simp [hqueue]
  · exact le_rfl

theorem buffersBounded_congr (hreceive : t.link.receive = s.link.receive) (hupstream : t.link.upstream = s.link.upstream)
    (h : s.buffersBounded) : t.buffersBounded := by
  unfold State.buffersBounded
  rw [hreceive, hupstream]
  exact h

theorem buffersBounded_of_changes {l : List Part} (h : ChangesOnly l s t) (hr : .receive ∉ l) (hu : .uplink ∉ l)
    (hs : s.buffersBounded) : t.buffersBounded :=
  buffersBounded_congr (h .receive hr).1 (h .uplink hu).1 hs

/-- A frame that finds room is placed. -/
theorem placeUplink_buffersBounded (f : UplinkFrame) (hreceive : s.link.receive.length ≤ 4)
    (hupstream : s.link.upstream.length < 16) : (placeUplink f s).buffersBounded := by
  obtain ⟨hr, -⟩ := look_frame { s.link with upstream := s.link.upstream ++ [f] }
  have hu := look_upstream_le { s.link with upstream := s.link.upstream ++ [f] }
  refine ⟨?_, ?_⟩
  · rw [show (placeUplink f s).link.receive = s.link.receive from hr]
    exact hreceive
  · refine le_trans (show (placeUplink f s).link.upstream.length ≤ _ from hu) ?_
    simpa using hupstream

theorem carryParts_link {c : Instr} (hc : takesFrame c = true) (hrestart : c ≠ .restart) :
    .receive ∉ carryParts c ∧ .uplink ∉ carryParts c := by
  cases c with
  | restart => exact absurd rfl hrestart
  | unknownCommand | identify | readPort | readBook | readContract | readPartner | readLimit | readSupply | readMeter
  | measure | openPolicy | writeRule | writeHeads | writeRating | writeParams | readPolicy | applyPolicy | setPlatform
  | barPort | setFrameClass | releaseCapture | takeNotice | relayDown => exact ⟨by decide, by decide⟩
  | _ => cases hc

theorem rowOfFrame_of_isRestart {f : LinkFrame} (h : f.isRestart = true) : rowOfFrame f = .restart :=
  rowOfFrame_of_code ((isRestart_iff f).mp h).1

/-- The head frame leaves room for its reply, or is a RESTART of its required length (R172). -/
theorem takable_room {f : LinkFrame} (h : s.link.takable = some f) :
    f.isRestart = true ∨ s.link.upstream.length < 16 := by
  obtain ⟨rest, -, hroom⟩ := (takable_eq_some_iff _ _).mp h
  exact hroom.symm.imp_left (isRestart_iff f).mpr

theorem LinkRow.buffersBounded {wanted : LinkFrame → Bool} {carry : LinkFrame → State → State × ReplyBody}
    (hrow : LinkRow c wanted carry) (hc : takesFrame c = true) (hrestart : c ≠ .restart) (h : exec c s = .next t) :
    s.buffersBounded → t.buffersBounded := by
  rw [hrow.runs] at h
  refine running_preserves h fun hs => ?_
  unfold takeCommand
  split
  · exact hs
  · next f hf =>
    split
    · next hw =>
      have hroom : s.link.upstream.length < 16 := (takable_room hf).resolve_left fun hr =>
        hrestart ((hrow.row f hw).symm.trans (rowOfFrame_of_isRestart hr))
      obtain ⟨hreceive, huplink⟩ := carryParts_link hc hrestart
      have hcarried := (hrow.carried f (s.modLink fun l => { l with receive := l.receive.tail })).1
      refine placeUplink_buffersBounded _ ?_ ?_
      · rw [(hcarried .receive hreceive).1]
        exact le_trans (by simp) hs.1
      · rw [(hcarried .uplink huplink).1]
        exact hroom
    · exact hs

theorem execRestart_buffersBounded (h : execRestart s = .next t) : s.buffersBounded → t.buffersBounded := by
  refine running_preserves h fun hs => ?_
  unfold takeCommand
  split
  · exact hs
  · next f hf =>
    split
    · next hw =>
      dsimp only [checkLength]
      split
      · exact placeUplink_buffersBounded _ (by simp [linkRestart]) (by simp [linkRestart])
      · next hlength =>
        have hroom : s.link.upstream.length < 16 := (takable_room hf).resolve_left fun hr =>
          hlength ((isRestart_iff f).mp hr).2
        exact placeUplink_buffersBounded _ (le_trans (by simp [refuse]) hs.1) hroom
    · exact hs

theorem endReception_buffersBounded (bytes : List Byte) (s : State) (hs : s.buffersBounded) :
    (endReception bytes s).buffersBounded := by
  unfold endReception
  dsimp only
  split_ifs with h1 h2 h3
  · exact hs
  · exact hs
  · exact hs
  · refine ⟨?_, hs.2⟩
    have : s.link.receive.length < 4 := by simpa [Config.receiveSize] using h3
    simpa [validFrameSeen] using this

theorem receiveByte_buffersBounded (s : State) (b : Byte) (hs : s.buffersBounded) :
    (receiveByte s b).buffersBounded := by
  unfold receiveByte
  split
  · split_ifs
    · exact hs
    · exact hs
  · dsimp only
    split_ifs
    · exact hs
    · exact hs
    · exact hs
    · exact endReception_buffersBounded _ _ hs

theorem forwardFrame_buffersBounded (p : Port) (kind : BitVec 6) (f : RawFrame) (s : State) (hs : s.buffersBounded) :
    (forwardFrame p kind f s).buffersBounded := by
  unfold forwardFrame
  split
  · next hroom => exact placeUplink_buffersBounded _ hs.1 hroom
  · exact buffersBounded_of_changes (answerHold_changes _ _ _) (by simp [placeParts]) (by simp [placeParts]) hs

/-! ### A relation that a received frame keeps -/

section
variable {p : Port} {kind : BitVec 6} {f : RawFrame} {rel : State → State → Prop}

/-- A relation that composes and that no change of a line breaks holds of a received frame where it holds of taking
it. -/
theorem receiveFrame_relates (hline : ∀ {s t}, ChangesOnly (lineParts p) s t → rel s t)
    (htrans : ∀ {s t u}, rel s t → rel t u → rel s u) {take : State → State} (ht : ∀ s, rel s (take s)) (s : State) :
    rel s (receiveFrame p kind f take s) := by
  have hclear : rel s (lineCleared p s) := hline ((lineCleared_changes p s).mono (by simp [lineParts]))
  have htransmit (u : State) : rel u (transmit p u) :=
    hline ((transmit_changes p u).mono (by simp [lineParts, placeParts]))
  unfold receiveFrame
  split_ifs
  · exact hline ((modFramer_changes _ _ _).mono (by simp [lineParts]))
  · exact hclear
  · exact htrans hclear (htransmit _)
  · exact htrans (htrans (htrans hclear (hline ((countGood_changes p _).mono (by simp [lineParts])))) (ht _)) (htransmit _)
  · exact htrans (htrans hclear (hline ((countBad_changes p _).mono (by simp [lineParts])))) (htransmit _)

theorem takeTalking_relates (hline : ∀ {s t}, ChangesOnly (lineParts p) s t → rel s t) {route : State → State}
    (hr : ∀ s, rel s (route s)) (s : State) : rel s (takeTalking p kind f route s) := by
  have herror : rel s (protocolError p s) := hline ((protocolError_changes p s).mono (by simp [lineParts]))
  unfold takeTalking
  split_ifs
  · exact herror
  · exact herror
  · exact hline ((answerDeny_changes _ _ _ _).mono (by simp [lineParts, placeParts]))
  · exact herror
  · exact hr s

theorem withRecord_relates (hline : ∀ {s t}, ChangesOnly (.pool :: lineParts p) s t → rel s t)
    (htrans : ∀ {s t u}, rel s t → rel t u → rel s u) {b : Nat} {go : State → State} (hg : ∀ s, rel s (go s))
    (s : State) : rel s (withRecord p b go s) := by
  unfold withRecord
  split_ifs
  · exact hg s
  · exact htrans (hline ((setPool_changes _ _).mono (by simp))) (hg _)
  · exact hline (((answerDeny_changes _ _ _ _).mono (by simp [lineParts, placeParts])).trans
      ((postPartner_changes _ _ _).mono (by simp [lineParts])))

end

theorem execOtherKindFrame_buffersBounded {p : Port} {kind : BitVec 6} {f : RawFrame}
    (h : execOtherKindFrame p kind f s = .next t) : s.buffersBounded → t.buffersBounded := by
  have hline {s t : State} (h : ChangesOnly (.pool :: lineParts p) s t) (hs : s.buffersBounded) : t.buffersBounded :=
    buffersBounded_of_changes h (by simp [lineParts]) (by simp [lineParts]) hs
  have hline' {s t : State} (h : ChangesOnly (lineParts p) s t) : s.buffersBounded → t.buffersBounded :=
    hline (h.mono (List.subset_cons_self _ _))
  have hcapture (u : State) (hu : u.buffersBounded) : (captureFrame p kind f u).buffersBounded :=
    buffersBounded_of_changes (captureFrame_changes p kind f u) (by decide) (by decide) hu
  have hforward := forwardFrame_buffersBounded p kind f
  refine running_preserves h ?_
  dsimp only
  split
  · exact id
  · refine receiveFrame_relates (rel := fun s t => s.buffersBounded → t.buffersBounded) hline' (fun h g => g ∘ h)
      (takeTalking_relates hline' fun u => ?_) s
    have hrecord {go : State → State} (hgo : ∀ u, u.buffersBounded → (go u).buffersBounded) :=
      withRecord_relates (rel := fun s t : State => s.buffersBounded → t.buffersBounded) (p := p) (b := f.branch.toNat)
        hline (fun h g => g ∘ h) hgo u
    split
    · exact id
    · split
      · exact hforward u
      · exact hrecord hforward
    · split
      · exact hcapture u
      · exact hrecord hcapture

theorem modLink_buffersBounded {g : LinkUnit → LinkUnit} (hr : (g s.link).receive = s.link.receive)
    (hu : (g s.link).upstream.length ≤ s.link.upstream.length) (hs : s.buffersBounded) : (s.modLink g).buffersBounded :=
  ⟨(congrArg List.length hr).trans_le hs.1, hu.trans hs.2⟩

theorem resetEnd_link (straps : BitVec 8) (presence : BitVec 4) (uhold : Bool) (s : State) :
    (resetEnd straps presence uhold s).link = { s.link with uhold := uhold } := rfl

theorem execResetEnd_buffersBounded {a : BitVec 8} {b : BitVec 4} {d : Bool} (h : execResetEnd a b d s = .next t)
    (hs : s.buffersBounded) : t.buffersBounded := by
  cases h
  split
  · have hlink := resetEnd_link a b d s
    exact buffersBounded_congr (by rw [hlink]) (by rw [hlink]) hs
  · exact hs

theorem execUplinkFrameEnd_buffersBounded (h : execUplinkFrameEnd s = .next t) : s.buffersBounded → t.buffersBounded := by
  refine running_preserves h (modLink_buffersBounded ?_ ?_)
  · split
    · exact (look_frame _).1
    · rfl
  · split
    · exact look_upstream_le { s.link with uplink := none }
    · exact le_rfl

theorem exec_buffersBounded (h : exec c s = .next t) (hc : c ≠ .powerOnReset) :
    s.buffersBounded → t.buffersBounded := by
  have houtside : .receive ∉ outsideParts ∧ .uplink ∉ outsideParts := ⟨by decide, by decide⟩
  have hevent : .receive ∉ eventParts ∧ .uplink ∉ eventParts := ⟨by decide, by decide⟩
  cases htakes : takesFrame c with
  | true =>
    by_cases hrestart : c = .restart
    · subst hrestart
      exact execRestart_buffersBounded h
    · obtain ⟨_, _, hrow⟩ := linkRow_of_takesFrame htakes
      exact hrow.buffersBounded htakes hrestart h
  | false =>
  cases c with
  | powerOnReset => exact absurd rfl hc
  | resetEnd a b d =>
    exact execResetEnd_buffersBounded (id h : execResetEnd a b d s = .next t)
  | downlinkFrameStored bytes =>
    exact running_preserves (id h : execDownlinkFrameStored bytes s = .next t)
      (foldl_preserves receiveByte_buffersBounded bytes s)
  | byteGapTimeout =>
    refine running_preserves (id h : execByteGapTimeout s = .next t) fun hs => ?_
    split <;> exact hs
  | uholdChange high =>
    exact running_preserves (id h : execUholdChange high s = .next t)
      (modLink_buffersBounded (look_frame _).1 (look_upstream_le { s.link with uhold := high }))
  | uplinkFrameEnd => exact execUplinkFrameEnd_buffersBounded h
  | otherKindFrame p kind f => exact execOtherKindFrame_buffersBounded h
  | silenceTimerExpiry => exact buffersBounded_of_changes (exec_changes h hc) (by decide) (by decide)
  | presenceRise | presenceFall | debounceRiseExpiry | sensingFallExpiry | probeTimerExpiry | coolOffExpiry | badFrame
  | announce | offer | demand | retire | partOnlyKindFrame | talkFrameSent | resendTimerExpiry
  | referenceConversionEnd | portConversionEnd | conversionOpen =>
    exact buffersBounded_of_changes (exec_changes h hc) houtside.1 houtside.2
  | detach | grant | deny | ready | hold | answerTimerExpiry | takeDemand | claimSettled | settleTimerExpiry
  | readyTimerExpiry | breakIntervalExpiry | railSample | railLost | overvoltage | sagTrim | overdrawTrim
  | descentTimerExpiry | recoveryTimerExpiry | limitPeriod =>
    exact buffersBounded_of_changes (exec_changes h hc) hevent.1 hevent.2
  | _ => cases htakes

/-- The relay queue of a port takes a frame where it has room alone. -/
theorem carryRelay_relay (p : Port) (f : LinkFrame) (s : State) (hs : ∀ q, (s.framer.get q).relay.length ≤ 2) (q : Port) :
    ((carryRelay p f s).1.framer.get q).relay.length ≤ 2 := by
  unfold carryRelay
  split_ifs with h1 h2 h3 h4
  · exact hs q
  · exact hs q
  · exact hs q
  · exact hs q
  · refine le_trans ((transmit_keeps (free := []) p _).framers q).relay ?_
    by_cases hq : q = p
    · subst hq
      have : (s.framer.get q).relay.length < 2 := by simpa [Config.relaySize] using h4
      simpa using this
    · simpa [hq] using hs q

theorem exec_relay (h : exec c s = .next t) (hc : c ≠ .powerOnReset) (hs : ∀ q, (s.framer.get q).relay.length ≤ 2) :
    ∀ q, (t.framer.get q).relay.length ≤ 2 := by
  have hsame {l : List Part} (h : ChangesOnly l s t) (hl : ∀ q, .framer q ∉ l) (q : Port) :
      (t.framer.get q).relay.length ≤ 2 := by rw [h (.framer q) (hl q)]; exact hs q
  by_cases hrelay : c = .relayDown
  · subst hrelay
    refine running_preserves (P := fun u => ∀ q, (u.framer.get q).relay.length ≤ 2) (id h : execRelayDown s = .next t)
      (takeCommand_preserves (P := fun u => ∀ q, (u.framer.get q).relay.length ≤ 2)
        (fun h hs q => by rw [h (.framer q) (by simp)]; exact hs q) (fun f s hs => ?_) s) hs
    split
    · exact hs
    · unfold checkPort
      split
      · exact carryRelay_relay _ f s hs
      · exact hs
  · by_cases hend : ∃ a b d, c = .resetEnd a b d
    · obtain ⟨a, b, d, rfl⟩ := hend
      exact hsame (exec_changes h hc) (show ∀ q, Part.framer q ∉
        [Part.reset, .supervisor, .budget, .policy, .uplink] ++ meterParts by decide)
    · by_cases hrise : ∃ p, c = .presenceRise p
      · obtain ⟨p, rfl⟩ := hrise
        exact hsame (running_changes (id h : execPresenceRise p s = .next t) fun s => modMonitor_changes s p _) (by simp)
      · by_cases hbar : c = .barPort
        · subst hbar
          exact hsame (exec_changes h hc) (by decide)
        · by_cases hbegun : ∃ q kind f, receivedFrame c = some (q, kind, f) ∧ f.begins = true
          · obtain ⟨p, kind, f, hr, hf⟩ := hbegun
            refine running_preserves (P := fun u => ∀ q, (u.framer.get q).relay.length ≤ 2)
              ((exec_of_begun hr hf s).symm.trans h) (fun hs q => ?_) hs
            by_cases hq : q = p
            · subst hq; simpa [Framer.begun] using hs q
            · simpa [hq] using hs q
          · intro q
            refine le_trans ((exec_keeps h ⟨hc, fun a b d heq => hend ⟨a, b, d, heq⟩, fun p hp => hrise ⟨p, hp⟩, hbar,
              hrelay, fun q kind f hr => ?_⟩).framers q).relay (hs q)
            exact Bool.eq_false_iff.mpr fun hf => hbegun ⟨q, kind, f, hr, hf⟩

theorem exec_queuesBounded (h : exec c s = .next t) (hc : c ≠ .powerOnReset) (hs : s.queuesBounded) :
    t.queuesBounded := by
  obtain ⟨hreceive, hupstream, hwait, hpool, hrelay⟩ := hs
  obtain ⟨-, hpoolKept, hwaitKept⟩ := (exec_keepsRest h hc).records
  obtain ⟨hreceive', hupstream'⟩ := exec_buffersBounded h hc ⟨hreceive, hupstream⟩
  exact ⟨hreceive', hupstream', hwaitKept hwait, hpoolKept hpool, exec_relay h hc hrelay⟩

/-! ### A passing millisecond -/

theorem tick_unpopulatedEmpty (hrun : s.inReset = false) (hs : s.unpopulatedEmpty) : (tick s).unpopulatedEmpty :=
  ⟨heldInReset_of_runs hrun, fun p hp => by simpa [tick, Monitor.tick] using hs.2 p hp⟩

theorem tick_silenceTimed (hs : s.silenceTimed) : (tick s).silenceTimed := by
  unfold State.silenceTimed at hs ⊢
  simpa [tick, tickTimer] using hs

theorem tick_queuesBounded (hs : s.queuesBounded) : (tick s).queuesBounded := by
  obtain ⟨hreceive, hupstream, hwait, hpool, hrelay⟩ := hs
  exact ⟨hreceive, hupstream, hwait, hpool, fun p => by simpa [tick, Framer.tick] using hrelay p⟩

end

/-- Settles O54, condition by condition. -/
theorem stepsKeepImagePortsSilenceAndQueues : Obligations.StepsKeepImagePortsSilenceAndQueues := by
  intro s t h
  obtain ⟨himage, hports, hsilence, hqueues, -, -, -, -, -, hsuspended, -⟩ := resetMeetsEveryKeptCondition
  refine ⟨?_, ?_, ?_, ?_, ?_⟩
  · exact step_keeps (before := State.imageValid) h (fun _ _ _ hs => hs) id himage
      (fun c _ _ hc _ hexec => exec_imageValid hexec hc) fun _ hs => hs
  · exact step_keeps (before := State.unpopulatedEmpty) h (fun _ _ _ hs => hs) id hports
      (fun c _ _ hc hactive hexec => exec_unpopulatedEmpty hexec hc hactive) tick_unpopulatedEmpty
  · exact step_keeps (before := State.silenceTimed) h (fun _ _ _ hs => hs) id hsilence
      (fun c _ _ hc _ hexec => exec_silenceTimed hexec hc) fun _ => tick_silenceTimed
  · exact step_keeps (before := State.queuesBounded) h (fun _ _ _ hs => hs) id hqueues
      (fun c _ _ hc _ hexec => exec_queuesBounded hexec hc) fun _ => tick_queuesBounded
  · exact step_keeps (before := State.suspendedHeld) h (fun _ _ _ hs => hs) id hsuspended
      (fun c _ _ hc _ hexec => (exec_keepsRest hexec hc).draws.1) fun _ => tick_suspendedHeld

end Sys2Proof.Machine
end

section
/-! PROOFS. The limit as formed (R137 to R141, R150) under the operations of the Path Sequencer and of the draw
monitor. -/

namespace Sys2Proof.Machine

open Sys2Proof

/-- The limit's values for an allowance sum, a path reserve and a full scale. -/
def LimitUnit.formed (l : LimitUnit) (sum reserve fullScale : Nat) : Prop :=
  l.allowanceSum = sum ∧ l.trimBound = l.allowanceSum - reserve ∧ l.trim ≤ l.trimBound
    ∧ l.raw = min (l.allowanceSum - reserve - l.trim) fullScale
    ∧ l.published = (match l.ceiling with | some c => min l.raw c | none => l.raw)
    ∧ l.nextDuty = dutyOf l.published fullScale ∧ (l.recovery = none ↔ l.trim = 0)

/-- The limit stands as formed from the state's own inputs. -/
def State.limitOk (s : State) : Prop :=
  s.limit.formed (allowanceSumOf s.contract) s.policy.active.pathReserve s.policy.active.fullScale

/-- The recovery timer runs wherever the trim is above 0. -/
def State.trimTimed (s : State) : Prop := s.limit.recovery = none → s.limit.trim = 0

theorem LimitUnit.recomputed_formed {l : LimitUnit} (h : l.recovery = none → l.trim = 0) (sum reserve fullScale : Nat) :
    (l.recomputed sum reserve fullScale).formed sum reserve fullScale := by
  refine ⟨rfl, rfl, Nat.min_le_right _ _, rfl, ?_, rfl, ?_⟩
  · cases hc : l.ceiling <;> simp [LimitUnit.recomputed, publishedOf, hc]
  · by_cases htrim : min l.trim (sum - reserve) = 0
    · simp [LimitUnit.recomputed, htrim]
    · have hrecovery : l.recovery ≠ none := fun hnone => htrim (by simp [h hnone])
      simp only [LimitUnit.recomputed, if_neg htrim]
      exact iff_of_false hrecovery htrim

/-- An operation keeps the limit formed, and the recovery timer with the trim. -/
def LimitKept (s t : State) : Prop := (s.trimTimed → t.trimTimed) ∧ (s.limitOk → t.limitOk)

section
variable {s t u : State} {p : Port}

theorem State.limitOk.trimTimed (h : s.limitOk) : s.trimTimed := by
  obtain ⟨-, -, -, -, -, -, h⟩ := h
  exact h.mp

theorem LimitKept.refl (s : State) : LimitKept s s := ⟨id, id⟩

theorem LimitKept.trans (h : LimitKept s t) (g : LimitKept t u) : LimitKept s u := ⟨g.1 ∘ h.1, g.2 ∘ h.2⟩

theorem LimitKept.ite {c : Prop} [Decidable c] (h : LimitKept s t) (g : LimitKept s u) :
    LimitKept s (if c then t else u) := by split <;> assumption

theorem LimitKept.foldl {α : Type} {f : State → α → State} (hf : ∀ s a, LimitKept s (f s a)) (l : List α) (s : State) :
    LimitKept s (l.foldl f s) := by
  induction l generalizing s with
  | nil => exact .refl s
  | cons a l ih => exact (hf s a).trans (ih _)

/-- A state whose limit is formed outright. -/
theorem LimitKept.of_ok (h : t.limitOk) : LimitKept s t := ⟨fun _ => h.trimTimed, fun _ => h⟩

theorem allowanceSumOf_congr {c d : Four Contract} (h : ∀ p, (d.get p).counted = (c.get p).counted) :
    allowanceSumOf d = allowanceSumOf c := by
  have h0 := h 0
  have h1 := h 1
  have h2 := h 2
  have h3 := h 3
  simp only [Four.get] at h0 h1 h2 h3
  simp only [allowanceSumOf, h0, h1, h2, h3]

/-- The limit, the image and what each port counts stand. -/
theorem LimitKept.of_same (hlimit : t.limit = s.limit) (hcounted : ∀ p, (t.contract.get p).counted = (s.contract.get p).counted)
    (himage : t.policy.active = s.policy.active) : LimitKept s t := by
  constructor
  · intro h
    unfold State.trimTimed
    rw [hlimit]
    exact h
  · intro h
    unfold State.limitOk
    rw [hlimit, himage, allowanceSumOf_congr hcounted]
    exact h

theorem LimitKept.of_changes {l : List Part} (h : ChangesOnly l s t) (hlimit : .limit ∉ l) (hpolicy : .policy ∉ l)
    (hcontract : ∀ p, .contract p ∉ l) : LimitKept s t :=
  .of_same (h .limit hlimit) (fun p => congrArg Contract.counted (h (.contract p) (hcontract p)))
    (congrArg PolicyStore.active (h .policy hpolicy))

/-- A change of anything but the limit, then the recomputation. -/
theorem LimitKept.recompute (h : s.trimTimed → t.trimTimed) : LimitKept s (Machine.recompute t) := by
  have hok (ht : t.trimTimed) : (Machine.recompute t).limitOk := LimitUnit.recomputed_formed ht _ _ _
  exact ⟨fun hs => (hok (h hs)).trimTimed, fun hs => hok (h hs.trimTimed)⟩

theorem LimitKept.recompute_of_limit (h : t.limit = s.limit) : LimitKept s (Machine.recompute t) :=
  .recompute fun hs => by unfold State.trimTimed; rw [h]; exact hs

theorem modContract_limitKept {g : Contract → Contract} (h : (g (s.contract.get p)).counted = (s.contract.get p).counted) :
    LimitKept s (s.modContract p g) := by
  refine .of_same rfl (fun q => ?_) rfl
  by_cases hq : q = p
  · subst hq; simpa using h
  · simp [hq]

theorem modDrawMonitor_limitKept (p : Port) (g : DrawMonitor → DrawMonitor) (s : State) :
    LimitKept s (s.modDrawMonitor p g) := .of_same rfl (fun _ => rfl) rfl

theorem supply_limitKept {l : List Part} (h : ChangesOnly l s t) (hl : l ⊆ .service :: .freeCount ::
    (everyNotice ++ everyPort .demands ++ supplyParts)) : LimitKept s t :=
  .of_changes h (fun hx => by simpa [supplyParts, everyNotice] using hl hx)
    (fun hx => by simpa [supplyParts, everyNotice] using hl hx)
    fun p hx => by simpa [supplyParts, everyNotice] using hl hx

/-! ### The Limit Unit's own operations -/

theorem openDraw_limitKept (p : Port) (s : State) : LimitKept s (openDraw p s) := .recompute_of_limit rfl

theorem fallToBase_limitKept (p : Port) (v : Nat) (s : State) : LimitKept s (fallToBase p v s) := .recompute_of_limit rfl

theorem setCeiling_limitKept (c : Nat) (s : State) : LimitKept s (setCeiling c s) := .recompute id

theorem raiseTrim_limitKept (n : Nat) (s : State) : LimitKept s (raiseTrim n s) := .recompute fun _ => nofun

theorem lowerTrim_limitKept (n : Nat) (s : State) : LimitKept s (lowerTrim n s) := .recompute fun _ => nofun

theorem removeCeiling_limitOk (s : State) : (removeCeiling s).limitOk := LimitUnit.recomputed_formed (fun _ => rfl) _ _ _

theorem sagSeen_limitKept (s : State) : LimitKept s (s.modLimit LimitUnit.sagSeen) := by
  by_cases htrim : 0 < s.limit.trim
  · have hseen : s.limit.sagSeen = { s.limit with recovery := some 0 } := if_pos htrim
    constructor
    · intro _
      simp [State.trimTimed, hseen]
    · intro h
      obtain ⟨h1, h2, h3, h4, h5, h6, -⟩ := h
      change s.limit.sagSeen.formed _ _ _
      rw [hseen]
      exact ⟨h1, h2, h3, h4, h5, h6, iff_of_false nofun htrim.ne'⟩
  · have hseen : s.limit.sagSeen = s.limit := if_neg htrim
    exact .of_same hseen (fun _ => rfl) rfl

/-! ### The end of a transition forms the limit outright -/

theorem endTransition_limitOk (o : ContractOutcome) (p : Port) (s : State) : (endTransition o p s).limitOk :=
  removeCeiling_limitOk s

theorem endTransition_limitKept (o : ContractOutcome) (p : Port) (s t : State) : LimitKept s (endTransition o p t) :=
  .of_ok (endTransition_limitOk o p t)

theorem releaseAndEnd_limitOk (t : Transition) (s : State) : (releaseAndEnd t s).limitOk := endTransition_limitOk _ _ _

theorem closeAndEnd_limitOk (t : Transition) (s : State) : (closeAndEnd t s).limitOk := releaseAndEnd_limitOk _ _

theorem holdSwitching_limitOk (t : Transition) (s : State) : (holdSwitching t s).limitOk := endTransition_limitOk _ _ _

theorem raiseDemand_limitKept (d : DemandClass) (p : Port) (s : State) : LimitKept s (raiseDemand d p s) :=
  .of_same rfl (fun _ => rfl) rfl

theorem failClaim_limitKept (p : Port) (o : ContractOutcome) (s : State) : LimitKept s (failClaim p o s) :=
  .trans (endTransition_limitKept o p s _) (raiseDemand_limitKept _ _ _)

theorem staleClaim_limitKept (p : Port) (released : Bool) (s : State) : LimitKept s (staleClaim p released s) :=
  endTransition_limitKept _ _ _ _

theorem abortIfInvolved_limitKept (p : Port) (short : List Port) (s : State) :
    LimitKept s (abortIfInvolved p short s) := by
  unfold abortIfInvolved
  split
  · exact .refl s
  · exact .ite (endTransition_limitKept _ _ _ _) (.refl s)

/-! ### Claims and the switching -/

theorem openAll_limitKept (l : List Port) (s : State) : LimitKept s (openAll l s) :=
  .foldl (fun s p => openDraw_limitKept p s) l s

theorem baseFall_limitKept (pl : Plan) (s : State) : LimitKept s (baseFall pl s) := by
  unfold baseFall
  split
  · exact .ite (fallToBase_limitKept _ _ s) (.refl s)
  · exact .refl s
  · exact .refl s

theorem setStage_limitKept (g : Stage) (s : State) : LimitKept s (setStage g s) := .of_same rfl (fun _ => rfl) rfl

theorem switching_limitKept (s : State) : LimitKept s (switching s) := by
  unfold switching
  split
  · exact .refl s
  · exact .ite (.of_ok (releaseAndEnd_limitOk _ _)) (.ite (.of_ok (closeAndEnd_limitOk _ _))
      (.ite (((openAll_limitKept _ s).trans (baseFall_limitKept _ _)).trans (setStage_limitKept _ _))
        (.of_ok (holdSwitching_limitOk _ _))))

theorem stepOut_limitKept (p : Port) (s : State) : LimitKept s (stepOut p s) := by
  unfold stepOut
  exact .ite ((openDraw_limitKept p s).trans (.of_same rfl (fun _ => rfl) rfl)) (.refl s)

theorem startClaim_limitKept (e : PlanEntry) (g : Stage) (s : State) : LimitKept s (startClaim e g s) := by
  have hout : LimitKept s (stepOut e.port (setStage g s)) := (setStage_limitKept g s).trans (stepOut_limitKept _ _)
  unfold startClaim
  dsimp only
  split
  · exact (hout.trans (modContract_limitKept (by rfl))).trans
      (supply_limitKept (requestExchange_changes _ _ _) (by simp [placeParts, supplyParts]))
  · exact (hout.trans (modContract_limitKept (by rfl))).trans (modDrawMonitor_limitKept _ _ _)

theorem claimSecondary_limitKept (pl : Plan) (s : State) : LimitKept s (claimSecondary pl s) := by
  unfold claimSecondary
  split
  · exact .ite (startClaim_limitKept _ _ s) (switching_limitKept s)
  all_goals exact switching_limitKept s

theorem runClaims_limitKept (pl : Plan) (s : State) : LimitKept s (runClaims pl s) := by
  unfold runClaims
  split
  · exact .ite (startClaim_limitKept _ _ s) (claimSecondary_limitKept _ s)
  all_goals exact claimSecondary_limitKept _ s

theorem settleContract_limitKept (p : Port) (s : State) : LimitKept s (settleContract p s) := by
  unfold settleContract
  split
  · exact .recompute_of_limit rfl
  · exact .refl s

theorem continueClaims_limitKept (s : State) : LimitKept s (continueClaims s) := by
  unfold continueClaims
  split
  · exact .refl s
  · split
    · exact claimSecondary_limitKept _ s
    all_goals exact switching_limitKept s

theorem ceilingFor_limitKept (pl : Plan) (s : State) : LimitKept s (ceilingFor pl s) := by
  unfold ceilingFor
  split
  · exact .refl s
  all_goals exact setCeiling_limitKept _ s

theorem cutJoining_changes (l : List Port) (s : State) :
    ChangesOnly (.freeCount :: supplyParts) s (cutJoining l s) := by
  unfold cutJoining
  dsimp only
  have hcut (l : List Port) (s : State) : ChangesOnly (.freeCount :: supplyParts) s (l.foldl (fun u p => cutPort p u) s) :=
    .foldl (fun s p => cutPort_changes p s) l s
  split
  · exact ((takeFree_changes s).mono (by simp)).trans (hcut _ _)
  · exact hcut _ _

/-- The transition toward a plan as it begins (R117). -/
def State.transitionToward (s : State) (pl : Plan) : Transition :=
  { plan := pl, joining := s.joiningPorts pl, leaving := s.leavingPorts pl, steppedOut := [], stage := .start }

theorem beginTransition_eq (pl : Plan) (s : State) :
    beginTransition pl s = runClaims pl (cutJoining (s.joiningPorts pl)
      (ceilingFor pl (setTransition (some (s.transitionToward pl)) s))) := rfl

theorem beginTransition_limitKept (pl : Plan) (s : State) : LimitKept s (beginTransition pl s) := by
  have hset : LimitKept s (setTransition (some (s.transitionToward pl)) s) := .of_same rfl (fun _ => rfl) rfl
  have hcut (l : List Port) (u : State) : LimitKept u (cutJoining l u) :=
    supply_limitKept (cutJoining_changes l u) (by intro x hx; simp at hx ⊢; tauto)
  rw [beginTransition_eq]
  exact ((hset.trans (ceilingFor_limitKept _ _)).trans (hcut _ _)).trans (runClaims_limitKept _ _)

/-- The sequencer has taken port `p`'s demand (R115). -/
def State.demandTaken (s : State) (p : Port) : State :=
  s.modSequencer fun q => { q with demands := q.demands.set p DemandSet.none, inService := some p }

/-- The run of Selection stands recorded (R93). -/
def State.planRecorded (s : State) (d : DemandClass) (p : Port) : State :=
  { s.demandTaken p with
    lastPlan := some { plan := selectPlan (s.demandTaken p), cls := d, port := p, ms := s.msCount } }

theorem serveDemand_eq (d : DemandClass) (p : Port) (s : State) :
    serveDemand d p s
      = if (s.planRecorded d p).planInForce (selectPlan (s.demandTaken p)) then endService (s.planRecorded d p)
        else beginTransition (selectPlan (s.demandTaken p)) (s.planRecorded d p) := rfl

theorem serveDemand_limitKept (d : DemandClass) (p : Port) (s : State) : LimitKept s (serveDemand d p s) := by
  have hrecorded : LimitKept s (s.planRecorded d p) := .of_same rfl (fun _ => rfl) rfl
  rw [serveDemand_eq]
  exact .ite (hrecorded.trans (.of_same rfl (fun _ => rfl) rfl)) (hrecorded.trans (beginTransition_limitKept _ _))

theorem clearContract_limitKept (p : Port) (s : State) : LimitKept s (clearContract p s) := by
  have hopen : LimitKept s (if (s.contract.get p).drawClosed then openDraw p s else s) :=
    .ite (openDraw_limitKept p s) (.refl s)
  exact hopen.trans (.recompute_of_limit rfl)

theorem withdrawClaim_limitKept (p : Port) (s : State) : LimitKept s (withdrawClaim p s) :=
  supply_limitKept (withdrawClaim_changes p s) (by simp [placeParts, supplyParts])

theorem protect_limitKept (p : Port) (s : State) : LimitKept s (protect p s) := by
  unfold protect
  exact (((LimitKept.ite (withdrawClaim_limitKept p s) (.refl s)).trans (clearContract_limitKept p _)).trans
    (raiseDemand_limitKept _ _ _)).trans (abortIfInvolved_limitKept _ _ _)

end

end Sys2Proof.Machine
end

section
/-! PROOFS. Every step keeps the limit formed. -/

namespace Sys2Proof.Machine

open Sys2Proof

section
variable {s t : State} {p : Port}

/-! ### The commands that reach a contract -/

theorem outside_limitKept {l : List Part} (h : ChangesOnly l s t) (hl : l ⊆ .uplink :: outsideParts) : LimitKept s t :=
  .of_changes h (fun hx => by simpa [outsideParts, supplyParts, meterParts, everyNotice] using hl hx)
    (fun hx => by simpa [outsideParts, supplyParts, meterParts, everyNotice] using hl hx)
    fun p hx => by simpa [outsideParts, supplyParts, meterParts, everyNotice] using hl hx

theorem line_limitKept (h : ChangesOnly (lineParts p) s t) : LimitKept s t :=
  outside_limitKept h fun _ hx => List.mem_cons_of_mem _ (line_outside_sub p hx)

theorem place_limitKept (p : Port) (f : EngineFrame) (s : State) : LimitKept s (place p f s) :=
  line_limitKept ((place_changes p f s).mono (place_line_sub p))

theorem endExchange_limitKept (p : Port) (s : State) : LimitKept s (endExchange p s) :=
  line_limitKept ((endExchange_changes p s).mono (place_line_sub p))

theorem protocolError_limitKept (p : Port) (s : State) : LimitKept s (protocolError p s) :=
  outside_limitKept (protocolError_outside p s) (List.subset_cons_self _ _)

theorem modFramer_limitKept (p : Port) (g : Framer → Framer) (s : State) : LimitKept s (s.modFramer p g) :=
  .of_same rfl (fun _ => rfl) rfl

theorem modMonitor_limitKept (p : Port) (g : Monitor → Monitor) (s : State) : LimitKept s (s.modMonitor p g) :=
  .of_same rfl (fun _ => rfl) rfl

theorem modSupervisor_limitKept (g : Supervisor → Supervisor) (s : State) : LimitKept s (s.modSupervisor g) :=
  .of_same rfl (fun _ => rfl) rfl

theorem modPortMeasure_limitKept (p : Port) (g : PortMeasure → PortMeasure) (s : State) :
    LimitKept s (s.modPortMeasure p g) := .of_same rfl (fun _ => rfl) rfl

theorem clearNotice_limitKept (f : NoticeFlag) (s : State) : LimitKept s (clearNotice f s) :=
  .of_same rfl (fun _ => rfl) rfl

theorem post_limitKept (f : NoticeFlag) (code : Byte) (n : BitVec 32) (s : State) : LimitKept s (post f code n s) :=
  .of_same rfl (fun _ => rfl) rfl

theorem testGrant_limitKept (p : Port) (pt : PendingTerms) (g : GrantFields) (s : State) :
    LimitKept s (testGrant p pt g s) := by
  have hrelease := place_limitKept p .release s
  unfold testGrant
  exact .ite (hrelease.trans (staleClaim_limitKept _ _ _)) (.ite (hrelease.trans (staleClaim_limitKept _ _ _))
    (.ite (hrelease.trans (failClaim_limitKept _ _ _)) (.ite (hrelease.trans (failClaim_limitKept _ _ _))
      ((modContract_limitKept (by rfl)).trans (modDrawMonitor_limitKept _ _ _)))))

theorem takeGrant_limitKept (p : Port) (f : RawFrame) (s : State) : LimitKept s (takeGrant p f s) := by
  have hend := endExchange_limitKept p s
  unfold takeGrant
  refine .ite ?_ (place_limitKept _ _ s)
  dsimp only
  split
  · exact hend.trans (testGrant_limitKept _ _ _ _)
  · exact hend.trans (place_limitKept _ _ _)

theorem takeDeny_limitKept (p : Port) (f : RawFrame) (s : State) : LimitKept s (takeDeny p f s) := by
  have hend := endExchange_limitKept p s
  unfold takeDeny
  exact .ite (.ite hend (.ite (hend.trans (staleClaim_limitKept _ _ _)) (hend.trans (failClaim_limitKept _ _ _)))) (.refl s)

theorem takeReady_limitKept (p : Port) (f : RawFrame) (s : State) : LimitKept s (takeReady p f s) := by
  unfold takeReady
  dsimp only
  split
  · exact .ite ((modContract_limitKept (by rfl)).trans (modDrawMonitor_limitKept _ _ _)) (.refl s)
  · exact .refl s

theorem noAnswer_limitKept (p : Port) (s : State) : LimitKept s (noAnswer p s) := by
  have hend := endExchange_limitKept p s
  unfold noAnswer
  split
  · exact .ite (hend.trans (failClaim_limitKept _ _ _)) hend
  · exact hend
  · exact .refl s

theorem takeHold_limitKept (p : Port) (s : State) : LimitKept s (takeHold p s) := by
  unfold takeHold
  exact .ite (protocolError_limitKept p s) (.ite (line_limitKept ((holdExchange_changes p s).mono (place_line_sub p)))
    (noAnswer_limitKept p s))

theorem Contract.sampled_counted (c : Contract) (mv : Nat) : (c.sampled mv).counted = c.counted := by
  unfold Contract.sampled
  split <;> rfl

theorem examine_limitKept (p : Port) (mv ma : Nat) (s : State) : LimitKept s (examine p mv ma s) := by
  have hdraw (g : DrawMonitor → DrawMonitor) := modDrawMonitor_limitKept p g s
  unfold examine
  exact .ite (.ite ((hdraw _).trans (sagSeen_limitKept _)) (hdraw _)) (.refl s)

theorem detachPort_limitKept (p : Port) (s : State) : LimitKept s (detachPort p s) := by
  have hcut : LimitKept s (clearContract p ((s.modFramer p fun _ => Framer.reset).modMonitor p Monitor.detached)) :=
    ((modFramer_limitKept p _ s).trans (modMonitor_limitKept p _ _)).trans (clearContract_limitKept p _)
  have habort := ((hcut.trans (modDrawMonitor_limitKept p (fun _ => DrawMonitor.reset) _)).trans
    (raiseDemand_limitKept .loss p _)).trans (abortIfInvolved_limitKept p s.cutShort _)
  have hsupply := habort.trans (supply_limitKept (supplyDetach_changes p _) (by intro x hx; simp [hx]))
  have hrest (u : State) : LimitKept u (postPartner noticeDetached p (serve (clearNotice (.capture p)
      ((abandonMeasure p (((u.setOwn p none).setPool (u.table.pool.filter fun r => !(r.port == p))).modBook p
        fun _ => Book.detached u.msCount)).modPortMeasure p fun _ => PortMeasure.reset)))) := by
    refine .trans (t := ((u.setOwn p none).setPool (u.table.pool.filter fun r => !(r.port == p))).modBook p
        fun _ => Book.detached u.msCount) (.of_same rfl (fun _ => rfl) rfl) ?_
    refine .trans (outside_limitKept (abandonMeasure_changes p _) fun _ h => List.mem_cons_of_mem _ (meter_outside_sub h)) ?_
    exact (((modPortMeasure_limitKept p (fun _ => PortMeasure.reset) _).trans (clearNotice_limitKept (.capture p) _)).trans
      (supply_limitKept (serve_changes _) (by intro x hx; simp [hx]))).trans (post_limitKept _ _ _ _)
  exact hsupply.trans (hrest _)

/-! ### The commands that change the image -/

theorem applySuccess_limitKept (s : State) : LimitKept s (applySuccess s) := by
  refine .recompute_of_limit ?_
  have h : ChangesOnly (everyPort .demands ++ supplyParts) (s.modPolicy PolicyStore.applied)
      (serve (rebalance s.policy.active.sourcePortLimit (reviewAttached (s.modPolicy PolicyStore.applied)))) :=
    (((reviewAttached_changes _).mono (List.subset_append_left _ _)).trans
      ((rebalance_changes _ _).mono (List.subset_append_right _ _))).trans
      ((serve_changes _).mono (List.subset_append_right _ _))
  exact h .limit (by simp [supplyParts])

theorem reviewAttached_limitKept (s : State) : LimitKept s (reviewAttached s) :=
  supply_limitKept (reviewAttached_changes s) (by intro x hx; simp [hx])

theorem autonomousEntry_limitKept (s : State) : LimitKept s (autonomousEntry s) := by
  unfold autonomousEntry
  refine .trans (.recompute_of_limit ?_) (reviewAttached_limitKept _)
  have h (n m : Nat) (u : State) : ChangesOnly (.budget :: supplyParts) u
      (serve (takeBudget (min (rebalance n u).supply.budget m) (rebalance n u))) :=
    (((rebalance_changes n u).mono (List.subset_cons_self _ _)).trans (takeBudget_changes _ _)).trans
      ((serve_changes _).mono (List.subset_cons_self _ _))
  exact h _ _ _ .limit (by simp [supplyParts])

theorem takePlatform_limitKept (v : PlatformValues) (s : State) : LimitKept s (takePlatform v s) := by
  have hbudget : LimitKept s (setBudget v.budget (s.modSupervisor fun u => u.taken v)) :=
    (modSupervisor_limitKept _ s).trans (.of_changes (setBudget_changes _ _) (by decide) (by decide) (by decide))
  exact .ite (hbudget.trans (reviewAttached_limitKept _)) hbudget

theorem silenceExpiry_limitKept (s : State) : LimitKept s (silenceExpiry s) := by
  unfold silenceExpiry
  split
  · exact (post_limitKept _ _ _ s).trans (modSupervisor_limitKept _ _)
  · exact autonomousEntry_limitKept s

/-! ### Every command -/

theorem running_limitKept {f : State → State} (h : running f s = .next t) (hf : ∀ s, LimitKept s (f s)) :
    LimitKept s t := by
  unfold running at h
  cases h
  exact .ite (.refl s) (hf s)

theorem takeCommand_limitKept {wanted : LinkFrame → Bool} {carry : LinkFrame → State → State × ReplyBody}
    (hc : ∀ f s, LimitKept s (carry f s).1) (s : State) : LimitKept s (takeCommand wanted carry s) :=
  takeCommand_relates (fun h => .of_changes h (by decide) (by decide) (by decide)) .trans hc s

theorem checkLength_limitKept {n : Nat} {carry : LinkFrame → State → State × ReplyBody}
    (hc : ∀ f s, LimitKept s (carry f s).1) (f : LinkFrame) (s : State) : LimitKept s (checkLength n carry f s).1 := by
  unfold checkLength
  split
  · exact hc f s
  · exact .refl s

theorem heard_limitKept {kind : BitVec 6} {f : RawFrame} {take : State → State} (ht : ∀ s, LimitKept s (take s))
    (s : State) : LimitKept s (receiveFrame p kind f take s) := receiveFrame_relates line_limitKept .trans ht s

theorem routed_limitKept {kind : BitVec 6} {f : RawFrame} {take : State → State} (ht : ∀ s, LimitKept s (take s))
    (s : State) : LimitKept s (takeTalking p kind f take s) := takeTalking_relates line_limitKept ht s

theorem own_limitKept {kind : BitVec 6} {f : RawFrame} {take : State → State} (ht : ∀ s, LimitKept s (take s)) (s : State) :
    LimitKept s (receiveFrame p kind f (takeTalking p kind f fun s =>
      if f.branch = 0 then take s else protocolError p s) s) :=
  heard_limitKept (routed_limitKept fun s => .ite (ht s) (protocolError_limitKept p s)) s

theorem execHold_limitKept {f : RawFrame} (h : execHold p f s = .next t) : LimitKept s t := by
  refine running_limitKept h (heard_limitKept fun s => ?_)
  exact .ite (routed_limitKept (fun s => .ite (takeHold_limitKept p s) (.refl s)) s)
    (.ite (takeHold_limitKept p s) (protocolError_limitKept p s))

theorem execApplyPolicy_limitKept (h : execApplyPolicy s = .next t) : LimitKept s t := by
  refine running_limitKept h (takeCommand_limitKept (checkLength_limitKept fun f s => ?_))
  unfold writePending applyPending
  split
  · dsimp only
    split
    · exact .refl s
    · exact applySuccess_limitKept s
  · exact .refl s

theorem execSetPlatform_limitKept (h : execSetPlatform s = .next t) : LimitKept s t := by
  refine running_limitKept h (takeCommand_limitKept (checkLength_limitKept fun f s => ?_))
  split
  · exact takePlatform_limitKept _ s
  · exact .refl s

theorem protectPost_limitKept (c : Prop) [Decidable c] (f : NoticeFlag) (code : Byte) (n : BitVec 32) (p : Port)
    (s : State) : LimitKept s (if c then post f code n (protect p s) else s) :=
  .ite ((protect_limitKept p s).trans (post_limitKept _ _ _ _)) (.refl s)

theorem execOvervoltage_limitKept (h : execOvervoltage p s = .next t) : LimitKept s t :=
  running_limitKept h fun s => .ite (((protect_limitKept p s).trans (modMonitor_limitKept p _ _)).trans
    (post_limitKept _ _ _ _)) (.refl s)

theorem execTakeDemand_limitKept (h : execTakeDemand s = .next t) : LimitKept s t :=
  running_limitKept h fun s => by
    split
    · exact serveDemand_limitKept _ _ s
    · exact .refl s

theorem execBreakIntervalExpiry_limitKept (h : execBreakIntervalExpiry s = .next t) : LimitKept s t :=
  running_limitKept h fun s => by
    split
    · exact .ite (.of_ok (closeAndEnd_limitOk _ _)) (.refl s)
    · exact .refl s

theorem setRail_limitKept (r : Four RailReading) (s : State) : LimitKept s { s with rail := r } :=
  .of_same rfl (fun _ => rfl) rfl

theorem execRailSample_limitKept {mv ma : Nat} (h : execRailSample p mv ma s = .next t) : LimitKept s t :=
  running_limitKept h fun s => .trans ((examine_limitKept p mv ma s).trans
    (modContract_limitKept (p := p) (g := fun c => c.sampled mv) (Contract.sampled_counted _ mv)))
      (setRail_limitKept _ _)

theorem execLimitPeriod_limitKept (h : execLimitPeriod s = .next t) : LimitKept s t :=
  running_limitKept h fun _ => ⟨id, id⟩

theorem policyKept_limitKept {c : Instr} (h : exec c s = .next t) (hc : c ≠ .powerOnReset)
    (hend : ∀ a b d, c ≠ .resetEnd a b d) (himage : .image ∉ ownSettings c) (hlimit : .limit ∉ commandParts c)
    (hcontract : ∀ p, .contract p ∉ commandParts c) : LimitKept s t :=
  .of_same (exec_changes h hc .limit hlimit)
    (fun p => congrArg Contract.counted (exec_changes h hc (.contract p) (hcontract p)))
    (exec_settings h hc hend .image himage).1

theorem exec_limitKept {c : Instr} (h : exec c s = .next t) (hc : c ≠ .powerOnReset)
    (hend : ∀ a b d, c ≠ .resetEnd a b d) : LimitKept s t := by
  have houtside (hparts : commandParts c ⊆ .uplink :: outsideParts) : LimitKept s t :=
    outside_limitKept (exec_changes h hc) hparts
  cases c with
  | powerOnReset => exact absurd rfl hc
  | resetEnd a b d => exact absurd rfl (hend a b d)
  | detach p =>
    exact running_limitKept (id h : execDetach p s = .next t) fun s => .ite (detachPort_limitKept p s) (.refl s)
  | grant p f =>
    exact running_limitKept (id h : execGrant p f s = .next t) (own_limitKept (takeGrant_limitKept p f))
  | deny p f => exact running_limitKept (id h : execDeny p f s = .next t) (own_limitKept (takeDeny_limitKept p f))
  | ready p f => exact running_limitKept (id h : execReady p f s = .next t) (own_limitKept (takeReady_limitKept p f))
  | hold p f => exact execHold_limitKept h
  | answerTimerExpiry p =>
    exact running_limitKept (id h : execAnswerTimerExpiry p s = .next t) fun s => .ite (noAnswer_limitKept p s) (.refl s)
  | takeDemand => exact execTakeDemand_limitKept h
  | claimSettled p =>
    exact running_limitKept (id h : execClaimSettled p s = .next t) fun s =>
      .ite ((settleContract_limitKept p s).trans (continueClaims_limitKept _)) (.refl s)
  | settleTimerExpiry p =>
    exact running_limitKept (id h : execSettleTimerExpiry p s = .next t) fun s => .ite (failClaim_limitKept _ _ s) (.refl s)
  | readyTimerExpiry p =>
    exact running_limitKept (id h : execReadyTimerExpiry p s = .next t) fun s => .ite (failClaim_limitKept _ _ s) (.refl s)
  | breakIntervalExpiry => exact execBreakIntervalExpiry_limitKept h
  | railSample p mv ma => exact execRailSample_limitKept h
  | railLost p =>
    exact running_limitKept (id h : execRailLost p s = .next t) fun s => protectPost_limitKept _ _ _ _ p s
  | overvoltage p => exact execOvervoltage_limitKept h
  | sagTrim p =>
    exact running_limitKept (id h : execSagTrim p s = .next t) fun s =>
      .ite ((modDrawMonitor_limitKept p _ s).trans (raiseTrim_limitKept _ _)) (.refl s)
  | overdrawTrim p =>
    exact running_limitKept (id h : execOverdrawTrim p s = .next t) fun s =>
      .ite ((modDrawMonitor_limitKept p _ s).trans (raiseTrim_limitKept _ _)) (.refl s)
  | descentTimerExpiry p =>
    exact running_limitKept (id h : execDescentTimerExpiry p s = .next t) fun s =>
      .ite (modDrawMonitor_limitKept p _ s) (.refl s)
  | recoveryTimerExpiry =>
    exact running_limitKept (id h : execRecoveryTimerExpiry s = .next t) fun s => .ite (lowerTrim_limitKept _ s) (.refl s)
  | limitPeriod => exact execLimitPeriod_limitKept h
  | applyPolicy => exact execApplyPolicy_limitKept h
  | setPlatform => exact execSetPlatform_limitKept h
  | silenceTimerExpiry =>
    exact running_limitKept (id h : execSilenceTimerExpiry s = .next t) fun s => .ite (silenceExpiry_limitKept s) (.refl s)
  | presenceRise | presenceFall | debounceRiseExpiry | sensingFallExpiry | probeTimerExpiry | coolOffExpiry | badFrame
  | announce | offer | demand | retire | partOnlyKindFrame | talkFrameSent | resendTimerExpiry
  | referenceConversionEnd | portConversionEnd | conversionOpen => exact houtside (List.subset_cons_self _ _)
  | otherKindFrame => exact houtside (List.Subset.refl _)
  | downlinkFrameStored bytes =>
    exact policyKept_limitKept h hc hend (show _ ∉ [] by simp) (show _ ∉ byteParts by decide) (show ∀ p, _ ∉ byteParts by decide)
  | uholdChange high =>
    exact policyKept_limitKept h hc hend (show _ ∉ [] by simp) (show _ ∉ [Part.uplink] by decide)
      (show ∀ p, _ ∉ [Part.uplink] by decide)
  | _ => exact policyKept_limitKept h hc hend (by decide) (by decide) (by decide)

end

/-! ### Every step -/

theorem reset_formed (sixAmp : Bool) : LimitUnit.reset.formed (allowanceSumOf (Four.const Contract.reset))
    (fallbackImage sixAmp).pathReserve (fallbackImage sixAmp).fullScale := by
  unfold LimitUnit.formed
  cases sixAmp <;> decide +kernel

theorem resetEnd_limitOk (straps : BitVec 8) (presence : BitVec 4) (uhold : Bool) {s : State}
    (hcontract : s.contract = Four.const Contract.reset) (hlimit : s.limit = LimitUnit.reset) :
    (resetEnd straps presence uhold s).limitOk := by
  have hchanges := resetEnd_changes straps presence uhold s
  have hlimit' : (resetEnd straps presence uhold s).limit = LimitUnit.reset :=
    (hchanges .limit (by decide)).trans hlimit
  have hcontract' : (resetEnd straps presence uhold s).contract = Four.const Contract.reset :=
    (Four.ext_get fun p => hchanges (.contract p) (by revert p; decide)).trans hcontract
  unfold State.limitOk
  rw [hlimit', hcontract', resetEnd_policy]
  exact reset_formed _

theorem exec_limitFormed {c : Instr} {s t : State} (h : exec c s = .next t) (hc : c ≠ .powerOnReset)
    (hactive : s.inReset = false ∨ ∃ a b d, c = .resetEnd a b d ∧ s.inReset = true) (hs : s.limitFormed) :
    t.limitFormed := by
  obtain ⟨hheld, hok⟩ := hs
  refine ⟨heldInReset_of_runs (exec_runs h hc hactive), ?_⟩
  by_cases hend : ∃ a b d, c = .resetEnd a b d
  · obtain ⟨a, b, d, rfl⟩ := hend
    cases h
    split
    · next hreset =>
      obtain ⟨hcontract, hlimit, -⟩ := hheld hreset
      exact resetEnd_limitOk a b d hcontract hlimit
    · exact hok
  · exact (exec_limitKept h hc fun a b d heq => hend ⟨a, b, d, heq⟩).2 hok

theorem tick_limitFormed {s : State} (hrun : s.inReset = false) (hs : s.limitFormed) : (tick s).limitFormed := by
  obtain ⟨-, h1, h2, h3, h4, h5, h6, h7⟩ := hs
  have hsum : allowanceSumOf (tick s).contract = allowanceSumOf s.contract :=
    allowanceSumOf_congr fun p => by
      have hget : (tick s).contract.get p = (s.contract.get p).tick := by simp [tick]
      rw [hget]
      rfl
  refine ⟨heldInReset_of_runs hrun, h1.trans hsum.symm, h2, h3, h4, h5, h6, ?_⟩
  simpa [tick, tickTimer] using h7

/-- Settles O55. -/
theorem stepsKeepTheLimitFormed : Obligations.StepsKeepTheLimitFormed := fun _ _ hs h =>
  step_keeps (before := State.limitFormed) h (fun _ _ _ hs => hs) id reset_limitFormed
    (fun _ _ _ hc hactive hexec => exec_limitFormed hexec hc hactive) (fun hrun hs => tick_limitFormed hrun hs) hs

end Sys2Proof.Machine
end

section
/-! PROOFS. The ends of a claim (R11, R126 to R128), and what a line may change around them. -/

namespace Sys2Proof.Machine

open Sys2Proof

section
variable {s t u : State} {p : Port}

/-! ### What the line does around an operation -/

/-- Only the port's line has changed, and of its monitor the probe timer alone. -/
def onLine (p : Port) (s t : State) : Prop :=
  ChangesOnly (placeParts p) s t ∧ ∃ timer, t.monitor.get p = { s.monitor.get p with probeTimer := timer }

theorem onLine.refl (p : Port) (s : State) : onLine p s s := ⟨.refl _ _, _, rfl⟩

theorem onLine.trans (h : onLine p s t) (g : onLine p t u) : onLine p s u := by
  obtain ⟨h1, a, ha⟩ := h
  obtain ⟨g1, b, hb⟩ := g
  exact ⟨h1.trans g1, b, by rw [hb, ha]⟩

theorem onLine.ite {c : Prop} [Decidable c] (h : onLine p s t) (g : onLine p s u) : onLine p s (if c then t else u) := by
  split <;> assumption

theorem onLine.of_framer (h : ChangesOnly [.framer p] s t) : onLine p s t :=
  ⟨h.mono (framer_place_sub p), (s.monitor.get p).probeTimer, h (.monitor p) (by simp)⟩

theorem modFramer_onLine (p : Port) (g : Framer → Framer) (s : State) : onLine p s (s.modFramer p g) :=
  .of_framer (modFramer_changes s p g)

theorem transmit_onLine (p : Port) (s : State) : onLine p s (transmit p s) := by
  refine ⟨transmit_changes p s, ?_⟩
  unfold transmit
  dsimp only
  split
  · by_cases hprobing : (s.monitor.get p).state = .probing
    · exact ⟨some 0, by simp [hprobing]⟩
    · exact ⟨(s.monitor.get p).probeTimer, by simp [hprobing]⟩
  · exact ⟨_, rfl⟩

theorem place_onLine (p : Port) (f : EngineFrame) (s : State) : onLine p s (place p f s) :=
  (modFramer_onLine p _ s).trans (transmit_onLine p _)

theorem startExchange_onLine (p : Port) (k : ExchangeKind) (s : State) : onLine p s (startExchange p k s) :=
  (modFramer_onLine p _ s).trans (place_onLine p _ _)

theorem endExchange_onLine (p : Port) (s : State) : onLine p s (endExchange p s) := by
  unfold endExchange
  split
  · exact modFramer_onLine p _ s
  · exact (modFramer_onLine p _ s).trans (startExchange_onLine p _ _)

theorem counted_onLine (p : Port) (s : State) : onLine p s (countGood p (lineCleared p s)) := .of_framer (counted_changes p s)

/-- A part that the line does not reach. -/
theorem onLine.same (h : onLine p s t) {part : Part} (hpart : part ∉ placeParts p) : part.same s t := h.1 part hpart

/-! ### A failed claim (R11, R127) -/

/-- The contract of a claim that failed. -/
def Contract.failed (c : Contract) (o : ContractOutcome) : Contract := { c.idled with lastOutcome := o }

/-- The state as the transition of a failed claim ends. -/
def failedClaim (p : Port) (o : ContractOutcome) (s : State) : State :=
  let c := s.contract.get p
  let s1 := if c.grantTaken then place p .release s else s
  let s2 := raiseFailure p s1
  let s3 := if c.drawClosed then openDraw p s2 else s2
  let s4 := if c.established.isSome || c.base.isSome then raiseDemand .loss p s3 else s3
  recompute (s4.modContract p fun c => c.failed o)

theorem failClaim_eq (p : Port) (o : ContractOutcome) (s : State) :
    failClaim p o s = raiseDemand .review s.servicePort (endTransition o p (failedClaim p o s)) := rfl

theorem openDraw_contract (p : Port) (s : State) : (openDraw p s).contract.get p = { s.contract.get p with drawClosed := false } := by
  simp [openDraw, recompute]

/-- A port that has left the draw set, if it was in it. -/
theorem opened_contract (p : Port) (s : State) :
    (if (s.contract.get p).drawClosed then openDraw p s else s).contract.get p
      = { s.contract.get p with drawClosed := false } := by
  split
  · exact openDraw_contract p s
  · next hopen => simp [← Bool.eq_false_iff.mpr hopen]

theorem failedClaim_contract (p : Port) (o : ContractOutcome) (s : State) :
    (failedClaim p o s).contract.get p
      = { state := .idle, role := .none, established := none, base := none, pending := none, details := none,
          drawClosed := false, settleCount := 0, lastOutcome := o, readyTimer := none, settleTimer := none } := by
  have hreleased (c : Prop) [Decidable c] : (if c then place p .release s else s).contract.get p = s.contract.get p := by
    split
    · exact place_changes p _ s (.contract p) (by simp [placeParts])
    · rfl
  have hopened (u : State) (hu : u.contract.get p = s.contract.get p) :
      (if (s.contract.get p).drawClosed then openDraw p u else u).contract.get p
        = { s.contract.get p with drawClosed := false } := by rw [← hu]; exact opened_contract p u
  have hloss (c : Prop) [Decidable c] (u : State) :
      (if c then raiseDemand .loss p u else u).contract.get p = u.contract.get p := by split <;> rfl
  unfold failedClaim recompute
  simp only [State.modLimit_contract, State.modContract_contract, Four.get_set_same, hloss]
  rw [hopened (raiseFailure p _) (hreleased _)]
  rfl

theorem failedClaim_monitor (p : Port) (o : ContractOutcome) (s : State) :
    ((failedClaim p o s).monitor.get p).failures = min ((s.monitor.get p).failures + 1) 3
      ∧ ((failedClaim p o s).monitor.get p).coolOff = (if (s.monitor.get p).failures + 1 < 3 then some 0 else none) := by
  have hreleased (c : Prop) [Decidable c] : onLine p s (if c then place p .release s else s) :=
    .ite (place_onLine p _ s) (.refl p s)
  obtain ⟨-, timer, htimer⟩ := hreleased ((s.contract.get p).grantTaken = true)
  have hopened (c : Prop) [Decidable c] (u : State) : (if c then openDraw p u else u).monitor = u.monitor := by
    split <;> rfl
  have hloss (c : Prop) [Decidable c] (u : State) : (if c then raiseDemand .loss p u else u).monitor = u.monitor := by
    split <;> rfl
  have hraised (u : State) : (raiseFailure p u).monitor.get p = if (u.monitor.get p).failures + 1 < 3 then
      { u.monitor.get p with failures := (u.monitor.get p).failures + 1, coolOff := some 0 }
      else { u.monitor.get p with failures := 3, coolOff := none } := by simp [raiseFailure]
  unfold failedClaim recompute
  simp only [State.modLimit_monitor, State.modContract_monitor, hloss, hopened, hraised, htimer]
  split
  · exact ⟨by dsimp only; omega, rfl⟩
  · exact ⟨by dsimp only; omega, rfl⟩

/-- What the claim's own blocks do before the transition ends. -/
theorem failedClaim_changes (p : Port) (o : ContractOutcome) (s : State) :
    ChangesOnly [.framer p, .monitor p, .contract p, .drawMonitor p, .demands p, .limit] s (failedClaim p o s) := by
  have hrelease := (place_changes p .release s).mono
    (l' := [.framer p, .monitor p, .contract p, .drawMonitor p, .demands p, .limit]) (by simp [placeParts])
  have hopen (u : State) := (openDraw_changes p u).mono
    (l' := [.framer p, .monitor p, .contract p, .drawMonitor p, .demands p, .limit]) (by simp [switchParts])
  have hloss (u : State) := (raiseDemand_changes .loss p u).mono
    (l' := [.framer p, .monitor p, .contract p, .drawMonitor p, .demands p, .limit]) (by simp)
  unfold failedClaim
  refine .trans (.trans ?_ ((modContract_changes _ p _).mono (by simp))) ((recompute_changes _).mono (by simp))
  refine .trans (.trans (.trans (.ite hrelease (.refl _ _)) ((raiseFailure_changes p _).mono (by simp)))
    (.ite (hopen _) (.refl _ _))) (.ite (hloss _) (.refl _ _))

theorem failedClaim_loss (p : Port) (o : ContractOutcome) (s : State)
    (h : (s.contract.get p).established.isSome ∨ (s.contract.get p).base.isSome) :
    ((failedClaim p o s).sequencer.demands.get p).loss = true := by
  have hterms : ((s.contract.get p).established.isSome || (s.contract.get p).base.isSome) = true := by simpa using h
  unfold failedClaim recompute
  simp [hterms, DemandSet.add]

theorem endTransition_ends (o : ContractOutcome) (p : Port) (s : State) : serviceEnded (endTransition o p s) :=
  ⟨rfl, rfl, rfl, rfl⟩

theorem post_notice (f : NoticeFlag) (code : Byte) (n : BitVec 32) (s : State) :
    (post f code n s).link.notices.get f = some (postTo (s.link.notices.get f) code n s.msCount) := by
  simp [post, NoticeSet.get_put]

theorem endTransition_notice (o : ContractOutcome) (p : Port) (s : State) :
    (endTransition o p s).link.notices.get (.contract p)
      = some (postTo (s.link.notices.get (.contract p)) o.code
          (snapshotOf (s.contract.get p).state.code (s.contract.get p).role.code 0 0) s.msCount) :=
  post_notice _ _ _ _

theorem claimFailed_of_ended {o : ContractOutcome} {v : State} (h : ChangesOnly
    [.framer p, .monitor p, .contract p, .drawMonitor p, .demands p, .limit] s v)
    (hcontract : v.contract.get p
      = { state := .idle, role := .none, established := none, base := none, pending := none, details := none,
          drawClosed := false, settleCount := 0, lastOutcome := o, readyTimer := none, settleTimer := none })
    (hfailures : (v.monitor.get p).failures = min ((s.monitor.get p).failures + 1) 3)
    (hcoolOff : (v.monitor.get p).coolOff = (if (s.monitor.get p).failures + 1 < 3 then some 0 else none))
    (hloss : ((s.contract.get p).established.isSome ∨ (s.contract.get p).base.isSome) →
      (v.sequencer.demands.get p).loss = true) :
    claimFailed p o s (raiseDemand .review s.servicePort (endTransition o p v)) := by
  have hnotice : v.link.notices.get (.contract p) = s.link.notices.get (.contract p) := h (.notice (.contract p)) (by simp)
  have hclock : v.msCount = s.msCount := h .clock (by simp)
  have hended : ChangesOnly [.limit, .service, .notice (.contract p)] v (endTransition o p v) := endTransition_changes o p v
  have hpost := endTransition_notice o p v
  have hends := endTransition_ends o p v
  have hdemands : (endTransition o p v).sequencer.demands = v.sequencer.demands := rfl
  generalize endTransition o p v = w at *
  have hcontract' : w.contract.get p = v.contract.get p := hended (.contract p) (by simp)
  have hmonitor' : w.monitor.get p = v.monitor.get p := hended (.monitor p) (by simp)
  refine ⟨hcontract'.trans hcontract, ?_, ?_, fun hterms => ?_, ?_, ?_, hends, ?_⟩
  · exact (congrArg Monitor.failures hmonitor').trans hfailures
  · exact (congrArg Monitor.coolOff hmonitor').trans hcoolOff
  · have hw : (w.sequencer.demands.get p).loss = true := by rw [hdemands]; exact hloss hterms
    by_cases hport : p = s.servicePort
    · rw [← hport, raiseDemand_demands_same]
      exact hw
    · rw [show (raiseDemand .review s.servicePort w).sequencer.demands.get p = w.sequencer.demands.get p from
        raiseDemand_changes .review s.servicePort w (.demands p) (by simpa using hport)]
      exact hw
  · rw [raiseDemand_demands_same]
    rfl
  · refine hpost.trans ?_
    rw [hcontract, hnotice, hclock, show snapshotOf ContractState.idle.code Role.none.code 0 0 = 0 by decide]
  · refine .trans (.trans (h.mono ?_) (hended.mono ?_)) ((raiseDemand_changes _ _ _).mono ?_) <;> simp [claimParts]

theorem failClaim_claimFailed (p : Port) (o : ContractOutcome) (s : State) : claimFailed p o s (failClaim p o s) := by
  obtain ⟨hfailures, hcoolOff⟩ := failedClaim_monitor p o s
  rw [failClaim_eq]
  exact claimFailed_of_ended (failedClaim_changes p o s) (failedClaim_contract p o s) hfailures hcoolOff
    (failedClaim_loss p o s)

end

end Sys2Proof.Machine
end

section
/-! PROOFS. The ends of a claim around which the line changes (R121, R127, R128), and the claim's timers (O34). -/

namespace Sys2Proof.Machine

open Sys2Proof

section
variable {s t u v : State} {p : Port}

/-! ### A change of the line around the end of a claim -/

theorem onLine.contract (h : onLine p s t) (q : Port) : t.contract.get q = s.contract.get q :=
  h.same (part := .contract q) (by simp [placeParts])

theorem onLine.drawMonitor (h : onLine p s t) (q : Port) : t.drawMonitor.get q = s.drawMonitor.get q :=
  h.same (part := .drawMonitor q) (by simp [placeParts])

theorem onLine.book (h : onLine p s t) (q : Port) : t.book.get q = s.book.get q :=
  h.same (part := .book q) (by simp [placeParts])

theorem onLine.demands (h : onLine p s t) : t.sequencer.demands = s.sequencer.demands :=
  Four.ext_get fun q => h.same (part := .demands q) (by simp [placeParts])

theorem onLine.clock (h : onLine p s t) : t.msCount = s.msCount := h.same (part := .clock) (by simp [placeParts])

theorem onLine.notice (h : onLine p s t) (f : NoticeFlag) : t.link.notices.get f = s.link.notices.get f :=
  h.same (part := .notice f) (by simp [placeParts])

theorem onLine.service (h : onLine p s t) : t.sequencer.inService = s.sequencer.inService
    ∧ t.sequencer.rotation = s.sequencer.rotation ∧ t.sequencer.transition = s.sequencer.transition :=
  h.same (part := .service) (by simp [placeParts])

theorem onLine.limit (h : onLine p s t) : t.limit = s.limit := h.same (part := .limit) (by simp [placeParts])

theorem onLine.servicePort (h : onLine p s t) : t.servicePort = s.servicePort := by
  obtain ⟨hservice, hrotation, -⟩ := h.service
  simp only [State.servicePort, hservice, hrotation]

theorem onLine.failures (h : onLine p s t) : (t.monitor.get p).failures = (s.monitor.get p).failures
    ∧ (t.monitor.get p).coolOff = (s.monitor.get p).coolOff := by
  obtain ⟨-, timer, htimer⟩ := h
  rw [htimer]
  exact ⟨rfl, rfl⟩

theorem serviceEnded.of_onLine (h : serviceEnded s) (hline : onLine p s t) : serviceEnded t := by
  obtain ⟨hservice, -, htransition⟩ := hline.service
  unfold serviceEnded at *
  rw [hservice, htransition, hline.limit]
  exact h

theorem place_claim_sub (p q : Port) : placeParts p ⊆ claimParts p q := by simp [placeParts, claimParts]

/-- A claim that failed while only the line changed before and after. -/
theorem claimFailed.of_onLine {o : ContractOutcome} (h : claimFailed p o u v) (hbefore : onLine p s u)
    (hafter : onLine p v t) : claimFailed p o s t := by
  obtain ⟨hcontract, hfailures, hcoolOff, hloss, hreview, hnotice, hended, hchanges⟩ := h
  obtain ⟨hfailures', hcoolOff'⟩ := hafter.failures
  have hsame := hbefore.failures.1
  have hport := hbefore.servicePort
  refine ⟨(hafter.contract p).trans hcontract, ?_, ?_, fun hterms => ?_, ?_, ?_, hended.of_onLine hafter, ?_⟩
  · rw [hfailures', hfailures, hsame]
  · rw [hcoolOff', hcoolOff, hsame]
  · rw [hafter.demands]
    exact hloss (by rwa [hbefore.contract p])
  · rw [hafter.demands, ← hport]
    exact hreview
  · rw [hafter.notice, hnotice, hbefore.notice, hbefore.clock]
  · rw [hport] at hchanges
    exact ((hbefore.1.mono (place_claim_sub p _)).trans hchanges).trans (hafter.1.mono (place_claim_sub p _))

/-- A claim that ended STALE while only the line changed before and after. -/
theorem claimStale.of_onLine {toBase : Prop} (h : claimStale p toBase u v) (hbefore : onLine p s u)
    (hafter : onLine p v t) : claimStale p toBase s t := by
  obtain ⟨hpending, hdetails, houtcome, hrole, hdraw, hbase, hback, hfailures, hcoolOff, hdemands, ⟨n, hnotice⟩, hended,
    hchanges⟩ := h
  obtain ⟨hfailures', hcoolOff'⟩ := hafter.failures
  obtain ⟨hfailures'', hcoolOff''⟩ := hbefore.failures
  unfold claimStale
  dsimp only
  rw [hafter.contract p, ← hbefore.contract p]
  refine ⟨hpending, hdetails, houtcome, hrole, hdraw, hbase, hback, ?_, ?_, ?_, ⟨n, ?_⟩, hended.of_onLine hafter, ?_⟩
  · rw [hfailures', hfailures, hfailures'']
  · rw [hcoolOff', hcoolOff, hcoolOff'']
  · rw [hafter.demands, hdemands, hbefore.demands]
  · rw [hafter.notice, hnotice, hbefore.notice, hbefore.clock]
  · exact ((hbefore.1.mono (place_claim_sub p _)).trans hchanges).trans (hafter.1.mono (place_claim_sub p _))

/-! ### A stale claim (R128) -/

/-- The state as the transition of a stale claim ends. -/
def staledClaim (p : Port) (released : Bool) (s : State) : State :=
  setOutcome p .stale (if released && (s.contract.get p).drawClosed then fallToBase p Config.baseVoltage s
    else s.modContract p Contract.restored)

theorem staleClaim_eq (p : Port) (released : Bool) (s : State) :
    staleClaim p released s = endTransition .stale p (staledClaim p released s) := rfl

theorem staledClaim_changes (p : Port) (released : Bool) (s : State) :
    ChangesOnly [.contract p, .drawMonitor p, .limit] s (staledClaim p released s) := by
  refine .trans (.ite ((fallToBase_changes p _ s).mono (by simp [switchParts])) ((modContract_changes s p _).mono (by simp)))
    ((setOutcome_changes p _ _).mono (by simp))

theorem fallToBase_contract (p : Port) (v : Nat) (s : State) : (fallToBase p v s).contract.get p
    = { (s.contract.get p).withoutClaim with state := .base, base := some v, established := none } := by
  simp [fallToBase, recompute]

theorem staledClaim_contract (p : Port) (released : Bool) (s : State) : (staledClaim p released s).contract.get p
    = if released && (s.contract.get p).drawClosed then
        { (s.contract.get p).withoutClaim with
          state := .base, base := some 5000, established := none, lastOutcome := .stale }
      else { (s.contract.get p).restored with lastOutcome := .stale } := by
  unfold staledClaim setOutcome
  simp only [State.modContract_contract, Four.get_set_same]
  split
  · rw [fallToBase_contract]
    rfl
  · rw [State.modContract_contract, Four.get_set_same]

theorem staleClaim_claimStale {toBase : Prop} (released : Bool)
    (hbase : toBase ↔ released = true ∧ (s.contract.get p).drawClosed = true) :
    claimStale p toBase s (staleClaim p released s) := by
  have hchanges := staledClaim_changes p released s
  have hcontract := staledClaim_contract p released s
  rw [staleClaim_eq]
  generalize staledClaim p released s = v at *
  have hended := endTransition_changes .stale p v
  have hends := endTransition_ends .stale p v
  have hpost := endTransition_notice .stale p v
  have hdemands : (endTransition .stale p v).sequencer.demands = v.sequencer.demands := rfl
  generalize endTransition .stale p v = w at *
  have hw : w.contract.get p = v.contract.get p := hended (.contract p) (by simp)
  have hmonitor : w.monitor.get p = s.monitor.get p := (hended (.monitor p) (by simp)).trans (hchanges (.monitor p) (by simp))
  have hnotice : v.link.notices.get (.contract p) = s.link.notices.get (.contract p) :=
    hchanges (.notice (.contract p)) (by simp)
  have hclock : v.msCount = s.msCount := hchanges .clock (by simp)
  unfold claimStale
  dsimp only
  rw [hw, hcontract, hmonitor]
  have hif : (released && (s.contract.get p).drawClosed) = true ↔ toBase := by rw [hbase, Bool.and_eq_true]
  refine ⟨?_, ?_, ?_, ?_, ?_, fun h => ?_, fun h => ?_, rfl, rfl, ?_, ?_, hends, ?_⟩
  · split <;> rfl
  · split <;> rfl
  · split <;> rfl
  · split <;> rfl
  · split <;> rfl
  · rw [if_pos (hif.mpr h)]
    exact ⟨rfl, rfl, rfl⟩
  · rw [if_neg (mt hif.mp h)]
    exact ⟨rfl, rfl, rfl⟩
  · rw [hdemands]
    exact Four.ext_get fun q => hchanges (.demands q) (by simp)
  · exact ⟨_, by rw [hpost, hnotice, hclock]⟩
  · exact (hchanges.mono (by simp [claimParts])).trans (hended.mono (by simp [claimParts]))

/-! ### What is sent (R34, R36) -/

theorem place_framer (p : Port) (f : EngineFrame) (s : State) : (place p f s).framer.get p
    = Framer.look { s.framer.get p with engine := placeIn f (s.framer.get p).engine } := by
  simp [place]

/-- On a quiet line a frame of the engine list is sent at once. -/
theorem look_of_engine {f : Framer} {e : EngineFrame} {rest : List EngineFrame} (hquiet : f.quiet = true)
    (hengine : f.engine = e :: rest) : f.look = { f with engine := rest, sending := some (.engine e) } := by
  simp [Framer.look, hquiet, hengine]

theorem look_of_empty {f : Framer} (hengine : f.engine = []) (hrelay : f.relay = []) : f.look = f := by
  simp [Framer.look, hengine, hrelay]

theorem State.lineQuiet.quiet (h : s.lineQuiet p) : (s.framer.get p).quiet = true := by
  obtain ⟨⟨hsending, -, -⟩, hincoming⟩ := h
  exact (quiet_iff _).mpr ⟨hsending, hincoming⟩

/-- On a quiet line with nothing waiting, a frame that is placed is sent at once. -/
theorem place_sends (h : s.lineQuiet p) {f : EngineFrame} (hf : placeIn f [] = [f]) :
    (place p f s).framer.get p = { s.framer.get p with engine := [], sending := some (.engine f) } := by
  obtain ⟨⟨hsending, hengine, -⟩, hincoming⟩ := h
  rw [place_framer, hengine, hf]
  exact look_of_engine ((quiet_iff _).mpr ⟨hsending, hincoming⟩) rfl

theorem failedClaim_framer (p : Port) (o : ContractOutcome) (s : State) : (failedClaim p o s).framer
    = if (s.contract.get p).grantTaken then (place p .release s).framer else s.framer := by
  have hopened (c : Prop) [Decidable c] (u : State) : (if c then openDraw p u else u).framer = u.framer := by
    split <;> rfl
  have hloss (c : Prop) [Decidable c] (u : State) : (if c then raiseDemand .loss p u else u).framer = u.framer := by
    split <;> rfl
  unfold failedClaim recompute raiseFailure
  simp only [State.modLimit_framer, State.modContract_framer, State.modMonitor_framer, hloss, hopened]
  split <;> rfl

theorem failClaim_framer (p : Port) (o : ContractOutcome) (s : State) : (failClaim p o s).framer
    = if (s.contract.get p).grantTaken then (place p .release s).framer else s.framer := by
  have hended (v : State) : (raiseDemand .review s.servicePort (endTransition o p v)).framer = v.framer :=
    Four.ext_get fun q => endTransition_changes o p v (.framer q) (by simp)
  rw [failClaim_eq, hended, failedClaim_framer]

theorem failClaim_releases {o : ContractOutcome} (h : (s.contract.get p).grantTaken = true) (hquiet : s.lineQuiet p) :
    ((failClaim p o s).framer.get p).sending = some (.engine .release) := by
  rw [failClaim_framer, if_pos h, place_sends hquiet rfl]

/-! ### The claim's timers (R122, R123, R127) -/

theorem grantTaken_iff {c : Contract} (h : c.state = .awaiting ∨ c.state = .settling) :
    c.grantTaken = true ↔ ∃ pt, c.pending = some pt ∧ pt.source = .talk := by
  have hstate : (c.state == .awaiting || c.state == .settling) = true := by simpa using h
  simp only [Contract.grantTaken, hstate, Bool.true_and]
  cases c.pending <;> simp

/-- A claim timer that ran out fails the claim, and releases one that had been granted on the talk line. -/
theorem failClaim_ends (o : ContractOutcome) (h : (s.contract.get p).state = .awaiting ∨ (s.contract.get p).state = .settling) :
    claimFailed p o s (failClaim p o s)
      ∧ ((∃ pt, (s.contract.get p).pending = some pt ∧ pt.source = .talk) → s.lineQuiet p →
          ((failClaim p o s).framer.get p).sending = some (.engine .release))
      ∧ ((¬∃ pt, (s.contract.get p).pending = some pt ∧ pt.source = .talk) →
          (failClaim p o s).framer.get p = s.framer.get p) := by
  refine ⟨failClaim_claimFailed p o s, fun hgranted hquiet => ?_, fun hgranted => ?_⟩
  · exact failClaim_releases ((grantTaken_iff h).mpr hgranted) hquiet
  · rw [failClaim_framer, if_neg (mt (grantTaken_iff h).mp hgranted)]

theorem exec_settleTimerExpiry (hrun : s.inReset = false) : exec (.settleTimerExpiry p) s
    = .next (if (s.contract.get p).settleExpired then failClaim p .noSettle s else s) := exec_of_running rfl hrun

theorem exec_readyTimerExpiry (hrun : s.inReset = false) : exec (.readyTimerExpiry p) s
    = .next (if (s.contract.get p).readyExpired then failClaim p .noReady s else s) := exec_of_running rfl hrun

end

/-- Settles O34. -/
theorem claimTimersFailTheClaim : Obligations.ClaimTimersFailTheClaim := by
  intro s p hrun
  rw [exec_settleTimerExpiry hrun, exec_readyTimerExpiry hrun]
  refine ⟨fun h => ?_, fun h => ?_, fun h => ?_, fun h => ?_⟩
  · exact ⟨_, congrArg _ (if_pos ((settleExpired_iff _).mpr h)), failClaim_ends _ (.inr h.1)⟩
  · exact congrArg _ (if_neg (mt (settleExpired_iff _).mp h))
  · exact ⟨_, congrArg _ (if_pos ((readyExpired_iff _).mpr h)), failClaim_ends _ (.inl h.1)⟩
  · exact congrArg _ (if_neg (mt (readyExpired_iff _).mp h))

end Sys2Proof.Machine
end

section
/-! PROOFS. The exchanges of a talk line: what is sent, what ends without an answer, and what a HOLD delays (02; R28 to
R32, R34). -/

namespace Sys2Proof.Machine

open Sys2Proof

section
variable {s t : State} {p : Port}

/-! ### The transmitter's look (R34) -/

theorem look_sends (f : Framer) (hquiet : f.quiet = true) : f.lookedFrom f.look := by
  obtain ⟨hsending, -⟩ := (quiet_iff f).mp hquiet
  refine ⟨fun e rest he => ?_, fun r rest he hr => ?_, fun he hr => ?_⟩
  · rw [look_of_engine hquiet he]
    exact ⟨rfl, rfl, rfl⟩
  · rw [look_of_relay hquiet he hr]
    exact ⟨rfl, he, rfl⟩
  · rw [look_of_empty he hr]
    exact ⟨hsending, he, hr⟩

/-- A look with no engine frame waiting puts no PROBE on the line (R5). -/
theorem transmit_monitor_of_empty (h : (s.framer.get p).engine = []) : (transmit p s).monitor = s.monitor := by
  simp [transmit, Framer.startsProbe, h]

theorem transmit_changes_of_not_probing (h : (s.monitor.get p).state ≠ .probing) :
    ChangesOnly [.framer p] s (transmit p s) := fun part hpart => by
  by_cases hp : part = .monitor p
  · subst hp
    exact transmit_monitor_of_not_probing h
  · exact transmit_changes p s part (by simp_all [placeParts])

/-! ### The start and the end of an exchange (R28, R30) -/

theorem startExchange_framer (p : Port) (k : ExchangeKind) (s : State) : (startExchange p k s).framer.get p
    = Framer.look { s.framer.get p with
        exchange := some { kind := k, condition := .queued, holds := 0, withdrawn := false }
        engine := placeIn (.exchange k) (s.framer.get p).engine } := by
  unfold startExchange
  rw [place_framer, State.modFramer_framer, Four.get_set_same]

theorem endExchange_framer (hwaiting : (s.framer.get p).waiting = []) :
    (endExchange p s).framer.get p = { s.framer.get p with exchange := none } := by
  simp [endExchange, hwaiting]

theorem endExchange_incoming (p : Port) (s : State) :
    ((endExchange p s).framer.get p).incoming = (s.framer.get p).incoming := by
  unfold endExchange
  split
  · rw [State.modFramer_framer, Four.get_set_same]
  · obtain ⟨-, -, -, -, -, -, hincoming⟩ := look_keeps
      { (s.modFramer p fun f => { f with exchange := none, waiting := ‹_› }).framer.get p with
        exchange := some { kind := ‹_›, condition := .queued, holds := 0, withdrawn := false }
        engine := placeIn (.exchange ‹_›) (s.framer.get p).engine }
    rw [startExchange_framer]
    simpa using hincoming

/-! ### The end of a frame sent (R28, R32, R34) -/

/-- The line once its frame has been sent, before the transmitter looks again. -/
def sentFramer (p : Port) (s : State) : State :=
  match (s.framer.get p).sending with
  | none => s
  | some t =>
    match t, (s.framer.get p).exchange with
    | .engine (.exchange _), some { condition := .queued, withdrawn := false, .. } =>
      (s.modFramer p fun f => { f with sending := none }).modFramer p fun f =>
        { f with exchange := f.exchange.map fun e => { e with condition := .answerDue 0 } }
    | .engine (.exchange _), some { withdrawn := true, .. } => endExchange p (s.modFramer p fun f => { f with sending := none })
    | _, _ => s.modFramer p fun f => { f with sending := none }

theorem frameSent_eq (h : (s.framer.get p).sending ≠ none) : frameSent p s = transmit p (sentFramer p s) := by
  unfold frameSent sentFramer
  cases hsending : (s.framer.get p).sending with
  | none => exact absurd hsending h
  | some tx => rfl

/-- What the end of a frame leaves of the line, by the frame and the exchange. -/
theorem sentFramer_spec {tx : TalkTx} (h : (s.framer.get p).sending = some tx) :
    let f := s.framer.get p
    let g := (sentFramer p s).framer.get p
    (∀ k e, tx = .engine (.exchange k) → f.exchange = some e → e.condition = .queued → e.withdrawn = false →
        g.exchange = some { e with condition := .answerDue 0 })
      ∧ (∀ k e, tx = .engine (.exchange k) → f.exchange = some e → e.withdrawn = true → f.waiting = [] → g.exchange = none)
      ∧ ((∀ k, tx ≠ .engine (.exchange k)) → g.exchange = f.exchange)
      ∧ g.incoming = f.incoming
      ∧ ((∀ k, tx ≠ .engine (.exchange k)) ∨ f.waiting = [] →
          g.sending = none ∧ g.engine = f.engine ∧ g.relay = f.relay) := by
  dsimp only
  unfold sentFramer
  rw [h]
  dsimp only
  split
  · next k kind holds he =>
    simp [he]
  · next k kind condition holds he =>
    rw [endExchange_incoming]
    refine ⟨fun _ e _ hx _ hw => ?_, fun _ _ _ _ _ hwaiting => ?_, fun hno => absurd rfl (hno k), by simp, fun hor => ?_⟩
    · obtain rfl := Option.some.inj (he.symm.trans hx)
      exact absurd hw nofun
    · rw [endExchange_framer (by simpa using hwaiting)]
    · have hwaiting := hor.resolve_left fun hno => hno k rfl
      rw [endExchange_framer (by simpa using hwaiting)]
      simp
  · next hdue hwithdrawn =>
    refine ⟨fun k e hk he hc hw => ?_, fun k e hk he hw _ => ?_, fun _ => by simp, by simp, fun _ => by simp⟩
    · obtain ⟨kind, condition, holds, withdrawn⟩ := e
      obtain rfl : condition = .queued := hc
      obtain rfl : withdrawn = false := hw
      exact (hdue k kind holds hk he).elim
    · obtain ⟨kind, condition, holds, withdrawn⟩ := e
      obtain rfl : withdrawn = true := hw
      exact (hwithdrawn k kind condition holds hk he).elim

/-! ### An exchange that ends without an answer (R30) -/

/-- The claim of a port in CLAIMING fails with no RELEASE. -/
theorem failClaim_framer_of_claiming {o : ContractOutcome} (h : (s.contract.get p).state = .claiming) :
    (failClaim p o s).framer = s.framer := by
  rw [failClaim_framer, if_neg (by simp [Contract.grantTaken, h])]

theorem noAnswer_eq {e : Exchange} (he : (s.framer.get p).exchange = some e) :
    noAnswer p s = if e.kind ≠ .probe ∧ (s.contract.get p).state = .claiming
      then failClaim p .noAnswer (endExchange p s) else endExchange p s := by
  obtain ⟨kind, condition, holds, withdrawn⟩ := e
  unfold noAnswer
  rw [he]
  cases kind with
  | probe => simp
  | claim c =>
    have hstate : ((endExchange p s).contract.get p).state = (s.contract.get p).state := by
      rw [(endExchange_onLine p s).contract p]
    simp [hstate]

theorem noAnswer_ends {e : Exchange} (he : (s.framer.get p).exchange = some e) :
    (e.kind ≠ .probe → (s.contract.get p).state = .claiming → claimFailed p .noAnswer s (noAnswer p s))
      ∧ (e.kind = .probe ∨ (s.contract.get p).state ≠ .claiming → ChangesOnly (placeParts p) s (noAnswer p s))
      ∧ ((s.framer.get p).waiting = [] → ((noAnswer p s).framer.get p).exchange = none) := by
  have hline := endExchange_onLine p s
  rw [noAnswer_eq he]
  refine ⟨fun hkind hstate => ?_, fun hor => ?_, fun hwaiting => ?_⟩
  · rw [if_pos ⟨hkind, hstate⟩]
    exact (failClaim_claimFailed p .noAnswer _).of_onLine hline (.refl p _)
  · rw [if_neg fun h => hor.elim h.1 (fun hno => hno h.2)]
    exact hline.1
  · split
    · next h =>
      rw [failClaim_framer_of_claiming (by rw [hline.contract p]; exact h.2), endExchange_framer hwaiting]
    · rw [endExchange_framer hwaiting]

/-! ### The exchange timers (R30, R31) -/

theorem exec_answerTimerExpiry (hrun : s.inReset = false) : exec (.answerTimerExpiry p) s
    = .next (if (s.framer.get p).answerExpired then noAnswer p s else s) := exec_of_running rfl hrun

theorem exec_resendTimerExpiry (hrun : s.inReset = false) : exec (.resendTimerExpiry p) s
    = .next (if (s.framer.get p).resendExpired then resend p s else s) := exec_of_running rfl hrun

theorem resend_eq {e : Exchange} {n : Nat} (he : (s.framer.get p).exchange = some e) (hc : e.condition = .held n) :
    resend p s = place p (.exchange e.kind) (s.modFramer p fun f =>
      { f with exchange := f.exchange.map fun e => { e with condition := .queued } }) := by
  obtain ⟨kind, condition, holds, withdrawn⟩ := e
  obtain rfl : condition = .held n := hc
  simp [resend, he]

theorem resend_queues {e : Exchange} {n : Nat} (he : (s.framer.get p).exchange = some e) (hc : e.condition = .held n) :
    ((resend p s).framer.get p).exchange = some { e with condition := .queued }
      ∧ (s.lineQuiet p → ((resend p s).framer.get p).sending = some (.engine (.exchange e.kind))) := by
  rw [resend_eq he hc]
  constructor
  · rw [place_framer, look_exchange]
    simp [he]
  · intro hquiet
    rw [place_sends (by simpa [State.lineQuiet, State.lineIdle] using hquiet) rfl]

end

/-- Settles O18. -/
theorem exchangesAreSentAndTimed : Obligations.ExchangesAreSentAndTimed := by
  intro s p hrun
  have hsent : exec (.talkFrameSent p) s = .next (frameSent p s) := exec_of_running rfl hrun
  refine ⟨fun tx htx => ?sent, fun hnone => ?silent, fun e n he hc hn => ?answer, fun h => ?noAnswer,
    fun e n he hc hn => ?resend, fun h => ?noResend⟩
  case sent =>
    obtain ⟨hdue, hwithdrawn, hsame, hincoming, hlists⟩ := sentFramer_spec htx
    rw [hsent, frameSent_eq (by simp [htx])]
    have hchanges : ChangesOnly (placeParts p) s (transmit p (sentFramer p s)) :=
      frameSent_eq (s := s) (p := p) (by simp [htx]) ▸ frameSent_changes p s
    have hkeeps := look_keeps ((sentFramer p s).framer.get p)
    obtain ⟨-, -, -, hexchange, -, -, hquiet⟩ := hkeeps
    refine ⟨_, rfl, hchanges, ?_⟩
    rw [transmit_framer_same, hexchange, hquiet]
    refine ⟨fun e ⟨k, hk⟩ he hc hw => hdue k e hk he hc hw, fun e ⟨k, hk⟩ he hw hwaiting => hwithdrawn k e hk he hw hwaiting,
      fun hno => hsame fun k hk => hno ⟨k, hk⟩, hincoming, fun hor => ?_⟩
    obtain ⟨hsending, hengine, hrelay⟩ := hlists (hor.imp_left fun hno k hk => hno ⟨k, hk⟩)
    refine ⟨fun hin => ?_, fun hin => ?_⟩
    · have hlooked := look_sends _ ((quiet_iff _).mpr ⟨hsending, hincoming.trans hin⟩)
      unfold Framer.lookedFrom at hlooked ⊢
      rwa [hengine, hrelay] at hlooked
    · rw [look_of_not_quiet ((quiet_eq_false_iff _).mpr (.inr (by rw [hincoming]; exact hin)))]
      exact ⟨hsending, hengine, hrelay⟩
  case silent => rw [hsent]; simp [frameSent, hnone]
  case answer =>
    rw [exec_answerTimerExpiry hrun, if_pos ((answerExpired_iff _).mpr ⟨e, n, he, hc, hn⟩)]
    exact ⟨_, rfl, noAnswer_ends he⟩
  case noAnswer =>
    rw [exec_answerTimerExpiry hrun, if_neg]
    rw [answerExpired_iff]
    rintro ⟨e, n, he, hc, hn⟩
    exact absurd (h e n he hc) (by omega)
  case resend =>
    rw [exec_resendTimerExpiry hrun, if_pos ((resendExpired_iff _).mpr ⟨e, n, he, hc, hn⟩)]
    exact ⟨_, rfl, resend_changes p s, resend_queues he hc⟩
  case noResend =>
    rw [exec_resendTimerExpiry hrun, if_neg]
    rw [resendExpired_iff]
    rintro ⟨e, n, he, hc, hn⟩
    exact absurd (h e n he hc) (by omega)

/-! ### HOLD (R31) -/

section
variable {s t : State} {p : Port} {f : RawFrame}

/-- The state once a good frame has been counted. -/
abbrev State.counted (s : State) (p : Port) : State := countGood p (lineCleared p s)

theorem counted_framer (s : State) (p : Port) : (s.counted p).framer.get p
    = { s.framer.get p with incoming := .quiet, badCount := 0, unsound := false } := by
  simp [State.counted, countGood, lineCleared]

/-- Once the partner's frame has ended, a line on which nothing waits is quiet. -/
theorem State.lineIdle.counted (h : s.lineIdle p) : (s.counted p).lineQuiet p := by
  unfold State.lineQuiet State.lineIdle
  rw [counted_framer]
  exact ⟨h, rfl⟩

theorem exec_hold_of_branch0 (h : s.arrives p kindHold f) (hpayload : f.payload.length = 0) (hbranch : f.branch = 0) :
    exec (.hold p f) s = .next (transmit p (takeHold p (s.counted p))) := by
  obtain ⟨hrun, -⟩ := id h
  have hlength : lengthWrong kindHold f = false := by
    rw [show lengthWrong kindHold f = (f.payload.length != 0) from rfl, hpayload]
    rfl
  have hexec : exec (.hold p f) s = _ := exec_of_running rfl hrun
  rw [hexec, receiveFrame_of_arrives h]
  congr 2
  split
  · next htalking =>
    rw [takeTalking_of_passes htalking (by simp [hbranch]) (by simp [hbranch]) hlength]
  · rw [if_pos ⟨hbranch, hlength⟩]

theorem exec_hold_of_upper (h : s.arrives p kindHold f) (hpayload : f.payload.length = 0) (hzero : f.branch ≠ 0)
    (hseven : f.branch ≠ 7) (htalking : (s.monitor.get p).state = .talking) (hbranch : f.branch.toNat ≤ s.branchCount p) :
    exec (.hold p f) s = .next (transmit p (s.counted p)) := by
  obtain ⟨hrun, -⟩ := id h
  have hlength : lengthWrong kindHold f = false := by
    rw [show lengthWrong kindHold f = (f.payload.length != 0) from rfl, hpayload]
    rfl
  have hexec : exec (.hold p f) s = _ := exec_of_running rfl hrun
  rw [hexec, receiveFrame_of_arrives h]
  have hstate : ((s.counted p).monitor.get p).state = .talking := htalking
  rw [if_pos hstate, takeTalking_of_passes hstate hseven hbranch hlength, if_neg hzero]

theorem takeHold_of_due {e : Exchange} {n : Nat} (he : (s.framer.get p).exchange = some e) (hc : e.condition = .answerDue n) :
    takeHold p s = if e.holds < 4 then holdExchange p s else noAnswer p s := by
  have hdue : (s.framer.get p).exchangeDue = true := (exchangeDue_iff _).mpr ⟨e, n, he, hc⟩
  have hholds : (s.framer.get p).holds = e.holds := by simp [Framer.holds, he]
  simp [takeHold, hdue, hholds]

theorem holdExchange_framer (p : Port) (s : State) : (holdExchange p s).framer.get p
    = { s.framer.get p with exchange := (s.framer.get p).exchange.map fun e =>
        { e with condition := .held 0, holds := e.holds + 1 } } := by
  simp [holdExchange]

end

/-- Settles O17. -/
theorem holdDelaysTheExchange : Obligations.HoldDelaysTheExchange := by
  intro s p f harrives hpayload
  refine ⟨fun e n hbranch he hc => ?branch0, fun hzero hseven htalking hbranch => ?upper⟩
  case branch0 =>
    have he' : ((s.counted p).framer.get p).exchange = some e := by rw [counted_framer]; exact he
    have hcounted := counted_onLine p s
    have hsent (u : State) : onLine p u (transmit p u) := transmit_onLine p u
    refine ⟨_, exec_hold_of_branch0 harrives hpayload hbranch, fun hholds => ?_, fun hholds hkind hstate => ?_,
      fun hholds hor => ?_, fun hholds hwaiting => ?_⟩
    · rw [takeHold_of_due he' hc, if_pos hholds]
      have hheld : onLine p (s.counted p) (holdExchange p (s.counted p)) := modFramer_onLine p _ _
      refine ⟨?_, (hcounted.1.trans hheld.1).trans (hsent _).1, fun hidle => ?_⟩
      · rw [transmit_framer_same, look_exchange, holdExchange_framer, he']
        rfl
      · rw [transmit_monitor_of_empty]
        · rfl
        · rw [holdExchange_framer, counted_framer]
          exact hidle.2.1
    · rw [takeHold_of_due he' hc, if_neg (by omega)]
      exact ((noAnswer_ends he').1 hkind hstate).of_onLine hcounted (hsent _)
    · rw [takeHold_of_due he' hc, if_neg (by omega)]
      exact (hcounted.1.trans ((noAnswer_ends he').2.1 hor)).trans (hsent _).1
    · rw [takeHold_of_due he' hc, if_neg (by omega), transmit_framer_same, look_exchange]
      exact (noAnswer_ends he').2.2 (by rw [counted_framer]; exact hwaiting)
  case upper =>
    have hstate : ((s.counted p).monitor.get p).state = .talking := htalking
    refine ⟨_, exec_hold_of_upper harrives hpayload hzero hseven htalking hbranch,
      (counted_changes p s).trans (transmit_changes_of_not_probing (by simp [hstate])), ?_, fun hidle => ?_⟩
    · rw [transmit_framer_same, look_exchange, counted_framer]
    · obtain ⟨⟨hsending, hengine, hrelay⟩, -⟩ := hidle.counted
      rw [transmit_framer_same, look_of_empty hengine hrelay, hsending]

end Sys2Proof.Machine
end

section
/-! PROOFS. The answers to a claim: GRANT, DENY and READY (07; R24, R121, R122, R127 to R129). -/

namespace Sys2Proof.Machine

open Sys2Proof

section
variable {s t : State} {p : Port} {f : RawFrame}

/-! ### A frame of branch 0 that is routed (R22) -/

theorem exec_grant_of_takes (h : s.takes p kindGrant f) (hbranch : f.branch = 0) :
    exec (.grant p f) s = .next (transmit p (takeGrant p f (s.counted p))) := by
  obtain ⟨hrun, -⟩ := id h
  have hexec : exec (.grant p f) s = _ := exec_of_running rfl hrun
  rw [hexec, receiveFrame_of_takes h, if_pos hbranch]

theorem exec_deny_of_takes (h : s.takes p kindDeny f) (hbranch : f.branch = 0) :
    exec (.deny p f) s = .next (transmit p (takeDeny p f (s.counted p))) := by
  obtain ⟨hrun, -⟩ := id h
  have hexec : exec (.deny p f) s = _ := exec_of_running rfl hrun
  rw [hexec, receiveFrame_of_takes h, if_pos hbranch]

theorem exec_ready_of_takes (h : s.takes p kindReady f) (hbranch : f.branch = 0) :
    exec (.ready p f) s = .next (transmit p (takeReady p f (s.counted p))) := by
  obtain ⟨hrun, -⟩ := id h
  have hexec : exec (.ready p f) s = _ := exec_of_running rfl hrun
  rw [hexec, receiveFrame_of_takes h, if_pos hbranch]

theorem State.takes.talking (h : s.takes p kind f) : (s.monitor.get p).state = .talking := h.2.1

theorem State.takes.counted_not_probing (h : s.takes p kind f) : ((s.counted p).monitor.get p).state ≠ .probing := by
  have hstate : ((s.counted p).monitor.get p).state = .talking := h.talking
  simp [hstate]

/-! ### Outside PROBING the line alone changes (R5) -/

theorem place_changes_of_not_probing (h : (s.monitor.get p).state ≠ .probing) (f : EngineFrame) :
    ChangesOnly [.framer p] s (place p f s) :=
  (modFramer_changes s p _).trans (transmit_changes_of_not_probing (s := s.modFramer p _) h)

theorem endExchange_changes_of_not_probing (h : (s.monitor.get p).state ≠ .probing) :
    ChangesOnly [.framer p] s (endExchange p s) := by
  unfold endExchange
  split
  · exact modFramer_changes s p _
  · exact ((modFramer_changes s p _).trans (modFramer_changes _ p _)).trans
      (place_changes_of_not_probing (s := (s.modFramer p _).modFramer p _) h _)

/-- The look that ends a frame taken on a port that is not PROBING. -/
theorem transmit_changes_after {l : List Part} (h : ChangesOnly l s t) (hs : (s.monitor.get p).state ≠ .probing)
    (hmonitor : .monitor p ∉ l) (hframer : .framer p ∈ l) : ChangesOnly l s (transmit p t) := by
  have ht : (t.monitor.get p).state ≠ .probing := by
    rw [show t.monitor.get p = s.monitor.get p from h _ hmonitor]
    exact hs
  exact h.trans ((transmit_changes_of_not_probing ht).mono (by simpa using hframer))

/-- A frame being sent goes on: the transmitter does not look. -/
theorem transmit_framer_of_sending {tx : TalkTx} (h : (s.framer.get p).sending = some tx) :
    (transmit p s).framer.get p = s.framer.get p := by
  rw [transmit_framer_same, look_of_not_quiet ((quiet_eq_false_iff _).mpr (.inl (by simp [h])))]

theorem transmit_sending_of_idle (h : s.lineIdle p) : ((transmit p s).framer.get p).sending = none := by
  obtain ⟨hsending, hengine, hrelay⟩ := h
  rw [transmit_framer_same, look_of_empty hengine hrelay, hsending]

/-- The exchange has ended with no other waiting: the line is as it was. -/
theorem endExchange_lineQuiet (hwaiting : (s.framer.get p).waiting = []) (h : s.lineQuiet p) :
    (endExchange p s).lineQuiet p := by
  unfold State.lineQuiet State.lineIdle at *
  rw [endExchange_framer hwaiting]
  exact h

/-! ### A stale claim leaves the line (R128) -/

theorem staledClaim_framer (p : Port) (released : Bool) (s : State) : (staledClaim p released s).framer = s.framer := by
  unfold staledClaim setOutcome
  rw [State.modContract_framer]
  split <;> rfl

theorem staleClaim_framer (p : Port) (released : Bool) (s : State) : (staleClaim p released s).framer = s.framer := by
  have hended (v : State) : (endTransition .stale p v).framer = v.framer :=
    Four.ext_get fun q => endTransition_changes .stale p v (.framer q) (by simp)
  rw [staleClaim_eq, hended, staledClaim_framer]

/-! ### GRANT (R121, R129) -/

theorem takeGrant_of_unawaited (h : (s.framer.get p).claimDue = false) : takeGrant p f s = place p .release s := by
  simp [takeGrant, h]

theorem takeGrant_of_due {pt : PendingTerms} (h : (s.framer.get p).claimDue = true)
    (hstate : (s.contract.get p).state = .claiming) (hpending : (s.contract.get p).pending = some pt) :
    takeGrant p f s = testGrant p pt (grantFields f.payload) (endExchange p s) := by
  have hcontract := (endExchange_onLine p s).contract p
  simp only [takeGrant, h, if_true, hcontract, hstate, hpending]

/-- The claim a GRANT answers is STALE: the offer it names is no more the book's. -/
def grantStale (p : Port) (pt : PendingTerms) (g : GrantFields) (s : State) : Prop :=
  g.generation ≠ pt.generation ∨ g.generation ≠ (s.book.get p).generation ∨ (s.book.get p).points.length < pt.point

/-- The GRANT names another point, or too small a current. -/
def grantDenied (pt : PendingTerms) (g : GrantFields) : Prop := g.point ≠ pt.point ∨ min g.current pt.requested < 500

theorem testGrant_of_stale {pt : PendingTerms} {g : GrantFields} (h : grantStale p pt g s) :
    testGrant p pt g s = staleClaim p true (place p .release s) := by
  unfold testGrant
  dsimp only
  split
  · rfl
  · next hgeneration =>
    rw [if_pos]
    rcases h with h | h | h
    · exact absurd (.inl h) hgeneration
    · exact absurd (.inr h) hgeneration
    · exact h

theorem testGrant_of_denied {pt : PendingTerms} {g : GrantFields} (h : ¬grantStale p pt g s) (hdenied : grantDenied pt g) :
    testGrant p pt g s = failClaim p .denied (place p .release s) := by
  simp only [grantStale, not_or] at h
  obtain ⟨hpending, hbook, hpoint⟩ := h
  unfold testGrant
  dsimp only
  rw [if_neg (not_or.mpr ⟨hpending, hbook⟩), if_neg hpoint]
  split
  · rfl
  · next hsame => exact if_pos (hdenied.resolve_left hsame)

/-- The claim whose GRANT is taken. -/
def grantTakenContract (pt : PendingTerms) (g : GrantFields) (c : Contract) : Contract :=
  { c with state := .awaiting, readyTimer := some 0,
           details := some { current := min g.current pt.requested, ready := some (min g.ready 500) } }

theorem testGrant_of_taken {pt : PendingTerms} {g : GrantFields} (h : ¬grantStale p pt g s) (hdenied : ¬grantDenied pt g) :
    testGrant p pt g s = (s.modContract p (grantTakenContract pt g)).modDrawMonitor p DrawMonitor.suspendTests := by
  simp only [grantStale, grantDenied, not_or] at h hdenied
  obtain ⟨hpending, hbook, hpoint⟩ := h
  unfold testGrant
  dsimp only
  rw [if_neg (not_or.mpr ⟨hpending, hbook⟩), if_neg hpoint, if_neg hdenied.1]
  exact if_neg hdenied.2

/-- A GRANT that is turned away ends the exchange and places a RELEASE, before the claim ends. -/
theorem testGrant_framer {pt : PendingTerms} {g : GrantFields} (hstate : (s.contract.get p).state = .claiming)
    (h : grantStale p pt g s ∨ grantDenied pt g) : (testGrant p pt g s).framer = (place p .release s).framer := by
  by_cases hstale : grantStale p pt g s
  · rw [testGrant_of_stale hstale, staleClaim_framer]
  · rw [testGrant_of_denied hstale (h.resolve_left hstale), failClaim_framer_of_claiming]
    rw [(place_onLine p _ s).contract p]
    exact hstate

theorem modContract_drawMonitor_changes (p : Port) (g : Contract → Contract) (d : DrawMonitor → DrawMonitor) (s : State) :
    ChangesOnly [.contract p, .drawMonitor p] s ((s.modContract p g).modDrawMonitor p d) :=
  .then (modContract_changes s p g) (modDrawMonitor_changes _ p d) (by simp) (by simp)

end

/-- Settles O15. -/
theorem grantIsTakenOrAnsweredWithRelease : Obligations.GrantIsTakenOrAnsweredWithRelease := by
  intro s p f htakes hbranch
  have hcounted := counted_onLine p s
  have hprobing := htakes.counted_not_probing
  rw [exec_grant_of_takes htakes hbranch]
  refine ⟨fun hdue => ?unawaited, fun pt hdue hstate hpending => ?awaited⟩
  case unawaited =>
    have hplaced : ChangesOnly [.framer p] (s.counted p) (place p .release (s.counted p)) :=
      place_changes_of_not_probing hprobing _
    rw [takeGrant_of_unawaited (s := s.counted p) (by unfold Framer.claimDue at *; rw [counted_framer]; exact hdue)]
    refine ⟨_, rfl, transmit_changes_after ((counted_changes p s).trans hplaced) hprobing (by simp) (by simp), ?_,
      fun hidle => ?_⟩
    · rw [transmit_framer_same, look_exchange, place_framer, look_exchange, counted_framer]
    · have hsends := place_sends hidle.counted (f := .release) rfl
      rw [transmit_framer_of_sending (by rw [hsends]), hsends]
  case awaited =>
    have hended := endExchange_onLine p (s.counted p)
    have hplaced := place_onLine p .release (endExchange p (s.counted p))
    have hbefore := hcounted.trans (hended.trans hplaced)
    have hstale : grantStale p pt (grantFields f.payload) (endExchange p (s.counted p))
        ↔ grantStale p pt (grantFields f.payload) s := by
      unfold grantStale
      rw [hended.book p, hcounted.book p]
    have hstate' : ((endExchange p (s.counted p)).contract.get p).state = .claiming := by
      rw [hended.contract p]
      exact hstate
    have hwaits (hwaiting : (s.framer.get p).waiting = []) :
        (endExchange p (s.counted p)).framer.get p = { (s.counted p).framer.get p with exchange := none } :=
      endExchange_framer (by rw [counted_framer]; exact hwaiting)
    rw [takeGrant_of_due (s := s.counted p) (by unfold Framer.claimDue at *; rw [counted_framer]; exact hdue) hstate hpending]
    refine ⟨_, rfl, fun hwaiting => ?_, fun hnot hdenied => ?_, fun h => ?_, fun h => ?_, fun hor hidle hwaiting => ?_⟩
    · rw [transmit_framer_same, look_exchange]
      by_cases hor : grantStale p pt (grantFields f.payload) (endExchange p (s.counted p))
          ∨ grantDenied pt (grantFields f.payload)
      · rw [testGrant_framer hstate' hor, place_framer, look_exchange, hwaits hwaiting]
      · obtain ⟨hnot, hdenied⟩ := not_or.mp hor
        rw [testGrant_of_taken hnot hdenied]
        exact congrArg Framer.exchange (hwaits hwaiting)
    · have hdenied' : ¬grantDenied pt (grantFields f.payload) := fun h => hdenied ⟨hnot, h⟩
      rw [testGrant_of_taken (mt hstale.mp hnot) hdenied']
      have hline : ChangesOnly [.framer p] s (endExchange p (s.counted p)) :=
        (counted_changes p s).trans (endExchange_changes_of_not_probing hprobing)
      have htaken := modContract_drawMonitor_changes p (grantTakenContract pt (grantFields f.payload))
        DrawMonitor.suspendTests (endExchange p (s.counted p))
      refine ⟨?_, ?_, transmit_changes_after ((hline.mono (by simp)).trans (htaken.mono (by simp))) hprobing (by simp)
        (by simp)⟩
      · rw [(transmit_onLine p _).contract p, State.modDrawMonitor_contract, State.modContract_contract,
          Four.get_set_same, hended.contract p, hcounted.contract p]
        rfl
      · rw [(transmit_onLine p _).drawMonitor p, State.modDrawMonitor_drawMonitor, Four.get_set_same,
          State.modContract_drawMonitor, hended.drawMonitor p, hcounted.drawMonitor p]
        rfl
    · rw [testGrant_of_stale (hstale.mpr h)]
      refine (staleClaim_claimStale true ?_).of_onLine hbefore (transmit_onLine p _)
      rw [hbefore.contract p]
      simp
    · rw [testGrant_of_denied (mt hstale.mp h.1) h.2]
      exact (failClaim_claimFailed p .denied _).of_onLine hbefore (transmit_onLine p _)
    · have hends := endExchange_lineQuiet (by rw [counted_framer]; exact hwaiting) hidle.counted
      have hsends := place_sends hends (f := .release) rfl
      have hor' : grantStale p pt (grantFields f.payload) (endExchange p (s.counted p))
          ∨ grantDenied pt (grantFields f.payload) := hor.imp hstale.mpr And.right
      have hframer := testGrant_framer hstate' hor'
      rw [transmit_framer_of_sending (by rw [hframer, hsends]), hframer, hsends]

/-! ### DENY and READY (R24, R121, R122, R127 to R129) -/

section
variable {s t : State} {p : Port} {f : RawFrame}

theorem takeDeny_of_unawaited (h : (s.framer.get p).claimDue = false) : takeDeny p f s = s := by
  simp [takeDeny, h]

theorem takeDeny_of_due (h : (s.framer.get p).claimDue = true) (hstate : (s.contract.get p).state = .claiming) :
    takeDeny p f s = if byteAt f.payload 1 = 0x01 then staleClaim p false (endExchange p s)
      else failClaim p .denied (endExchange p s) := by
  have hcontract := (endExchange_onLine p s).contract p
  simp [takeDeny, h, hcontract, hstate]

/-- A denied claim leaves the line as the end of its exchange left it: no RELEASE is sent. -/
theorem takeDeny_framer (h : (s.framer.get p).claimDue = true) (hstate : (s.contract.get p).state = .claiming) :
    (takeDeny p f s).framer = (endExchange p s).framer := by
  rw [takeDeny_of_due h hstate]
  split
  · exact staleClaim_framer p false _
  · exact failClaim_framer_of_claiming (by rw [(endExchange_onLine p s).contract p]; exact hstate)

/-- A READY of the pending generation on a port in AWAITING. -/
def readyMatches (c : Contract) (f : RawFrame) : Prop :=
  c.state = .awaiting ∧ ∃ pt, c.pending = some pt ∧ generationOf f.payload = pt.generation

/-- The claim whose READY has come. -/
def Contract.readied (c : Contract) : Contract :=
  { c with state := .settling, readyTimer := none, settleCount := 0, settleTimer := some 0 }

theorem takeReady_of_matches (h : readyMatches (s.contract.get p) f) :
    takeReady p f s = (s.modContract p Contract.readied).modDrawMonitor p DrawMonitor.suspendTests := by
  obtain ⟨hstate, pt, hpending, hgeneration⟩ := h
  simp only [takeReady, hstate, hpending, if_pos hgeneration]
  rfl

theorem takeReady_of_other (h : ¬readyMatches (s.contract.get p) f) : takeReady p f s = s := by
  unfold takeReady
  dsimp only
  split
  · next pt hstate hpending => exact if_neg fun hgeneration => h ⟨hstate, pt, hpending, hgeneration⟩
  · rfl

theorem takeReady_framer (p : Port) (f : RawFrame) (s : State) : (takeReady p f s).framer = s.framer := by
  by_cases h : readyMatches (s.contract.get p) f
  · rw [takeReady_of_matches h]
    rfl
  · rw [takeReady_of_other h]

end

/-- Settles O16. -/
theorem denyEndsAndReadyAdvancesTheClaim : Obligations.DenyEndsAndReadyAdvancesTheClaim := by
  intro s p f hbranch
  have hcounted := counted_onLine p s
  have hended := endExchange_onLine p (s.counted p)
  have hsent (u : State) : onLine p u (transmit p u) := transmit_onLine p u
  refine ⟨fun htakes hdue => ?unawaited, fun htakes hdue hstate => ?deny, fun htakes => ?ready⟩
  case unawaited =>
    rw [exec_deny_of_takes htakes hbranch,
      takeDeny_of_unawaited (s := s.counted p) (by unfold Framer.claimDue at *; rw [counted_framer]; exact hdue)]
    refine ⟨_, rfl, transmit_changes_after (counted_changes p s) (by simp [htakes.talking]) (by simp) (by simp), ?_,
      fun hidle => transmit_sending_of_idle hidle.counted.1⟩
    rw [transmit_framer_same, look_exchange, counted_framer]
  case deny =>
    have hdue' : ((s.counted p).framer.get p).claimDue = true := by
      unfold Framer.claimDue at *
      rw [counted_framer]
      exact hdue
    have hframer := takeDeny_framer (f := f) (s := s.counted p) hdue' hstate
    have hwaits (hwaiting : (s.framer.get p).waiting = []) : ((s.counted p).framer.get p).waiting = [] := by
      rw [counted_framer]
      exact hwaiting
    rw [exec_deny_of_takes htakes hbranch]
    refine ⟨_, rfl, fun hwaiting => ?_, fun hreason => ?_, fun hreason => ?_, fun hidle hwaiting => ?_⟩
    · rw [transmit_framer_same, look_exchange, hframer, endExchange_framer (hwaits hwaiting)]
    · rw [takeDeny_of_due (s := s.counted p) hdue' hstate, if_pos hreason]
      exact (staleClaim_claimStale false (by simp)).of_onLine (hcounted.trans hended) (hsent _)
    · rw [takeDeny_of_due (s := s.counted p) hdue' hstate, if_neg hreason]
      exact (failClaim_claimFailed p .denied _).of_onLine (hcounted.trans hended) (hsent _)
    · have hquiet := endExchange_lineQuiet (hwaits hwaiting) hidle.counted
      refine transmit_sending_of_idle ?_
      unfold State.lineIdle
      rw [hframer]
      exact hquiet.1
  case ready =>
    have hprobing : (s.monitor.get p).state ≠ .probing := by simp [htakes.talking]
    rw [exec_ready_of_takes htakes hbranch]
    refine ⟨_, rfl, fun hmatches => ?_, fun hother => ?_, ?_, fun hidle => ?_⟩
    · rw [takeReady_of_matches (p := p) (s := s.counted p) hmatches]
      have htaken := modContract_drawMonitor_changes p Contract.readied DrawMonitor.suspendTests (s.counted p)
      refine ⟨?_, ?_, transmit_changes_after (((counted_changes p s).mono (by simp)).trans (htaken.mono (by simp)))
        hprobing (by simp) (by simp)⟩
      · rw [(hsent _).contract p, State.modDrawMonitor_contract, State.modContract_contract, Four.get_set_same,
          hcounted.contract p]
        rfl
      · rw [(hsent _).drawMonitor p, State.modDrawMonitor_drawMonitor, Four.get_set_same,
          State.modContract_drawMonitor, hcounted.drawMonitor p]
        rfl
    · rw [takeReady_of_other (p := p) (s := s.counted p) hother]
      exact transmit_changes_after (counted_changes p s) hprobing (by simp) (by simp)
    · rw [transmit_framer_same, look_exchange, takeReady_framer, counted_framer]
    · refine transmit_sending_of_idle ?_
      unfold State.lineIdle
      rw [takeReady_framer]
      exact hidle.counted.1

end Sys2Proof.Machine
end

section
/-! PROOFS. The trim and the counts of a draw monitor (08; R123, R138 to R150). -/

namespace Sys2Proof.Machine

open Sys2Proof

section
variable {s t : State} {p : Port}

/-! ### The trim (R147, R148, R150) -/

/-- The limit with a trim within its bound, as the recomputation forms it; the recovery timer runs with a trim. -/
def LimitUnit.trimmed (l : LimitUnit) (trim sum reserve fullScale : Nat) : LimitUnit :=
  ({ l with trim := trim, recovery := some 0 } : LimitUnit).recomputed sum reserve fullScale

theorem raiseTrim_limit (step : Nat) (s : State) : (raiseTrim step s).limit
    = s.limit.trimmed (min (s.limit.trim + step) s.limit.trimBound) (allowanceSumOf s.contract)
        s.policy.active.pathReserve s.policy.active.fullScale := rfl

theorem lowerTrim_limit (step : Nat) (s : State) : (lowerTrim step s).limit
    = s.limit.trimmed (s.limit.trim - step) (allowanceSumOf s.contract) s.policy.active.pathReserve
        s.policy.active.fullScale := rfl

theorem trimmed_spec {trim sum reserve fullScale : Nat} (l : LimitUnit) (h : trim ≤ sum - reserve) :
    let m := l.trimmed trim sum reserve fullScale
    m.trim = trim ∧ m.trimBound = sum - reserve ∧ m.raw = min (sum - reserve - trim) fullScale
      ∧ m.published = publishedOf m.raw l.ceiling ∧ m.nextDuty = dutyOf m.published fullScale
      ∧ m.duty = l.duty ∧ m.ceiling = l.ceiling ∧ m.recovery = (if trim = 0 then none else some 0) := by
  have htrim : min trim (sum - reserve) = trim := min_eq_left h
  simp [LimitUnit.trimmed, LimitUnit.recomputed, htrim]

theorem exec_sagTrim (hrun : s.inReset = false) : exec (.sagTrim p) s
    = .next (if (s.drawMonitor.get p).sagDone (s.contract.get p) then
        raiseTrim 100 (s.modDrawMonitor p fun d => { d with sag := 0 }) else s) := exec_of_running rfl hrun

theorem exec_overdrawTrim (hrun : s.inReset = false) : exec (.overdrawTrim p) s
    = .next (if (s.drawMonitor.get p).overdrawDone (s.contract.get p) then
        raiseTrim 200 (s.modDrawMonitor p fun d => { d with overdraw := 0 }) else s) := exec_of_running rfl hrun

theorem exec_recoveryTimerExpiry (hrun : s.inReset = false) : exec .recoveryTimerExpiry s
    = .next (if s.limit.recoveryExpired then lowerTrim 100 s else s) := exec_of_running rfl hrun

theorem suspended_iff (c : Contract) (d : DrawMonitor) :
    suspended c d = true ↔ c.state = .awaiting ∨ c.state = .settling ∨ d.descent.isSome = true := by
  simp [suspended, or_assoc]

end

/-- Settles O39. -/
theorem trimRisesAndRecovers : Obligations.TrimRisesAndRecovers := by
  intro s p hrun
  have hset {trim : Nat} (htrim : trim ≤ allowanceSumOf s.contract - s.policy.active.params[8]) :=
    trimmed_spec (fullScale := s.policy.active.params[9]) s.limit htrim
  refine ⟨fun h => ?idle, fun h => ?suspended, fun hbound htrim =>
    ⟨fun hclosed hsag hrunning => ?sag, fun hclosed hoverdraw => ?overdraw, fun h => ?recovery⟩⟩
  case idle => rw [exec_recoveryTimerExpiry hrun, if_neg (mt (recoveryExpired_iff _).mp h)]
  case suspended =>
    rw [exec_sagTrim hrun, (suspended_completes_nothing ((suspended_iff _ _).mpr h)).2, if_neg nofun]
  case sag =>
    have hrunning' := Bool.eq_false_iff.mpr (mt (suspended_iff _ _).mp hrunning)
    rw [exec_sagTrim hrun, if_pos ((sagDone_iff _ _).mpr ⟨hclosed, hrunning', hsag⟩)]
    refine ⟨_, rfl, ?_, by simp [raiseTrim, recompute], .then (modDrawMonitor_changes s p _) (raiseTrim_changes 100 _)
      (by simp) (by simp)⟩
    beta_reduce
    rw [raiseTrim_limit, State.modDrawMonitor_limit, hbound]
    exact hset (min_le_right _ _)
  case overdraw =>
    rw [exec_overdrawTrim hrun, if_pos ((overdrawDone_iff _ _).mpr ⟨hclosed, hoverdraw⟩)]
    refine ⟨_, rfl, ?_, by simp [raiseTrim, recompute], .then (modDrawMonitor_changes s p _) (raiseTrim_changes 200 _)
      (by simp) (by simp)⟩
    beta_reduce
    rw [raiseTrim_limit, State.modDrawMonitor_limit, hbound]
    exact hset (min_le_right _ _)
  case recovery =>
    rw [exec_recoveryTimerExpiry hrun, if_pos ((recoveryExpired_iff _).mpr h)]
    refine ⟨_, rfl, ?_, lowerTrim_changes 100 s⟩
    beta_reduce
    rw [lowerTrim_limit]
    exact hset (le_trans (Nat.sub_le _ _) htrim)

/-! ### The counts of a sample (R142 to R148) -/

section
variable {d : DrawMonitor} {c : Contract}

theorem protecting_iff (d : DrawMonitor) : d.protecting = true ↔ 3 ≤ d.railLost ∨ 3 ≤ d.overvoltage := by
  rw [DrawMonitor.protecting, Bool.or_eq_true]
  exact or_congr decide_eq_true_iff decide_eq_true_iff

theorem nextCount_of_lt {count full : Nat} (h : count < full) (met : Bool) :
    nextCount count full met = if met = true then count + 1 else 0 := if_neg (by omega)

theorem examined_descent (d : DrawMonitor) (c : Contract) (threshold mv ma : Nat) :
    (d.examined c threshold mv ma).descent = d.descent := by
  have hheld : (d.held c).descent = d.descent := by unfold DrawMonitor.held; split <;> rfl
  unfold DrawMonitor.examined
  dsimp only
  split_ifs <;> exact hheld

/-- The counts of a suspended test stay 0. -/
theorem examined_of_suspended (h : suspended c d = true) (threshold mv ma : Nat) :
    (d.examined c threshold mv ma).overvoltage = 0 ∧ (d.examined c threshold mv ma).sag = 0 := by
  unfold DrawMonitor.examined
  rw [held_of_suspended h, h]
  simp only [Bool.not_true, Bool.false_eq_true, if_false]
  split_ifs
  · exact ⟨rfl, rfl⟩
  · exact ⟨rfl, rfl⟩
  · exact ⟨rfl, rfl⟩

/-- The counts of a sample, before a completed protection takes the trim counts with it (R146). -/
def DrawMonitor.counting (d : DrawMonitor) (c : Contract) (threshold mv ma : Nat) : DrawMonitor :=
  { d with
    railLost := nextCount d.railLost 3 (railLostMet mv)
    overvoltage := if suspended c d then 0 else nextCount d.overvoltage 3 (overvoltageMet c mv)
    sag := if suspended c d then 0 else nextCount d.sag 8 (sagMet c threshold mv)
    overdraw := nextCount d.overdraw 16 (overdrawMet c ma) }

theorem not_protecting_held (hrail : d.railLost < 3) (hover : d.overvoltage < 3 ∨ suspended c d = true) :
    (d.held c).protecting = false := by
  refine Bool.eq_false_iff.mpr (mt (protecting_iff _).mp ?_)
  cases hs : suspended c d with
  | true => rw [held_of_suspended hs]; simpa using hrail
  | false =>
    rw [held_of_running hs]
    have := hover.resolve_right (by simp [hs])
    omega

theorem examined_eq (hrail : d.railLost < 3) (hover : d.overvoltage < 3 ∨ suspended c d = true) (threshold mv ma : Nat) :
    d.examined c threshold mv ma = if (d.counting c threshold mv ma).protecting then
        { d.counting c threshold mv ma with sag := 0, overdraw := 0 } else d.counting c threshold mv ma := by
  unfold DrawMonitor.examined
  dsimp only
  rw [if_neg (by simp [not_protecting_held hrail hover])]
  cases hs : suspended c d with
  | true => rw [held_of_suspended hs]; simp [DrawMonitor.counting, hs, railLostFull, overdrawFull, DrawMonitor.suspendTests]
  | false =>
    rw [held_of_running hs]
    simp [DrawMonitor.counting, hs, railLostFull, overdrawFull, overvoltageFull, sagFull]

theorem examined_counts (hrail : d.railLost < 3) (hover : d.overvoltage < 3 ∨ suspended c d = true) (threshold mv ma : Nat) :
    let e := d.examined c threshold mv ma
    let n := d.counting c threshold mv ma
    e.railLost = n.railLost ∧ e.overvoltage = n.overvoltage
      ∧ (3 ≤ e.railLost ∨ 3 ≤ e.overvoltage → e.sag = 0 ∧ e.overdraw = 0)
      ∧ (e.railLost < 3 → e.overvoltage < 3 → e.sag = n.sag ∧ e.overdraw = n.overdraw) := by
  dsimp only
  rw [examined_eq hrail hover]
  split
  · next hprotects =>
    have hprotects := (protecting_iff _).mp hprotects
    exact ⟨rfl, rfl, fun _ => ⟨rfl, rfl⟩, fun h1 h2 => by dsimp only at h1 h2; omega⟩
  · next hprotects =>
    have hprotects := mt (protecting_iff _).mpr hprotects
    exact ⟨rfl, rfl, fun h => absurd h hprotects, fun _ _ => ⟨rfl, rfl⟩⟩

end

section
variable {s : State} {p : Port}

theorem examine_of_open (h : (s.contract.get p).drawClosed = false) (mv ma : Nat) : examine p mv ma s = s := by
  simp [examine, h]

theorem examine_drawMonitor (h : (s.contract.get p).drawClosed = true) (mv ma : Nat) :
    (examine p mv ma s).drawMonitor.get p
      = (s.drawMonitor.get p).examined (s.contract.get p) s.policy.active.params[10] mv ma := by
  have hlimit (b : Bool) (u : State) : (if b = true then u.modLimit LimitUnit.sagSeen else u).drawMonitor = u.drawMonitor := by
    split <;> rfl
  simp only [examine, h, if_true, hlimit, State.modDrawMonitor_drawMonitor, Four.get_set_same]
  rfl

theorem examine_limit (h : (s.contract.get p).drawClosed = true) (mv ma : Nat) : (examine p mv ma s).limit
    = if isSagSample (s.drawMonitor.get p) (s.contract.get p) s.policy.active.params[10] mv then s.limit.sagSeen
      else s.limit := by
  simp only [examine, h, if_true]
  split
  · next hsag => exact (if_pos hsag).symm
  · next hsag => exact (if_neg hsag).symm

/-- A sag sample restarts the recovery timer while the trim is above 0 (R147, R150). -/
theorem sagSeen_if {b : Bool} {low : Prop} [Decidable low] (h : b = true ↔ low) {l : LimitUnit} :
    (if b = true then l.sagSeen else l) = { l with recovery := if low ∧ 0 < l.trim then some 0 else l.recovery } := by
  unfold LimitUnit.sagSeen
  by_cases hlow : low
  · by_cases htrim : 0 < l.trim
    · simp [h, hlow, htrim]
    · simp [h, hlow, htrim]
  · simp [h, hlow]

theorem examine_contract (p : Port) (mv ma : Nat) (s : State) : (examine p mv ma s).contract = s.contract := by
  unfold examine
  dsimp only
  split_ifs <;> rfl

theorem examine_changes (p : Port) (mv ma : Nat) (s : State) : ChangesOnly [.drawMonitor p, .limit] s (examine p mv ma s) :=
  .ite (.ite (.then (modDrawMonitor_changes s p _) (modLimit_changes _ _) (by simp) (by simp))
    ((modDrawMonitor_changes s p _).mono (by simp))) (.refl _ s)

theorem exec_railSample (hrun : s.inReset = false) (mv ma : Nat) : exec (.railSample p mv ma) s
    = .next { (examine p mv ma s).modContract p (fun c => c.sampled mv) with
        rail := s.rail.set p { mv := mv, ma := ma } } :=
  running_free (fun s => { (examine p mv ma s).modContract p (fun c => c.sampled mv) with
        rail := s.rail.set p { mv := mv, ma := ma } }) hrun

theorem railSample_parts (p : Port) (mv ma : Nat) (s : State) : ChangesOnly [.rail p, .drawMonitor p, .contract p, .limit] s
    { (examine p mv ma s).modContract p (fun c => c.sampled mv) with rail := s.rail.set p { mv := mv, ma := ma } } := by
  have hsampled : ChangesOnly [.drawMonitor p, .contract p, .limit] s
      ((examine p mv ma s).modContract p fun c => c.sampled mv) :=
    .then (examine_changes p mv ma s) (modContract_changes _ p _) (by simp) (by simp)
  have hrail := setRail_changes p { mv := mv, ma := ma } ((examine p mv ma s).modContract p fun c => c.sampled mv)
  rw [State.modContract_rail, examine_rail] at hrail
  exact .then hsampled hrail (by simp) (by simp)

theorem sampled_of_not_settling {c : Contract} (h : c.state ≠ .settling) (mv : Nat) : c.sampled mv = c := by
  unfold Contract.sampled
  split
  · exact absurd ‹_› h
  · rfl

theorem sampled_of_settling {c : Contract} {pt : PendingTerms} (h : c.state = .settling) (hpending : c.pending = some pt)
    (hcount : c.settleCount < 10) (mv : Nat) :
    c.sampled mv = { c with settleCount := if inBand pt.voltage mv then c.settleCount + 1 else 0 } := by
  unfold Contract.sampled
  rw [h, hpending]
  simp only [nextCount_of_lt (full := settleFull) hcount]

end

/-- Settles O37. -/
theorem railSampleMovesTheCounts : Obligations.RailSampleMovesTheCounts := by
  intro s p mv ma hrun
  rw [exec_railSample hrun]
  have hchanges : ChangesOnly [.rail p, .drawMonitor p, .contract p, .limit] s
      { (examine p mv ma s).modContract p (fun c => c.sampled mv) with rail := s.rail.set p { mv := mv, ma := ma } } :=
    railSample_parts p mv ma s
  have hopen (h : (s.contract.get p).drawClosed = false) : examine p mv ma s = s := examine_of_open h mv ma
  have hdraws (h : (s.contract.get p).drawClosed = true) := examine_drawMonitor (mv := mv) (ma := ma) h
  have hlimit (h : (s.contract.get p).drawClosed = true) := examine_limit (mv := mv) (ma := ma) h
  have hcontract := examine_contract p mv ma s
  have hsuspended := suspended_iff (s.contract.get p) (s.drawMonitor.get p)
  dsimp only
  rw [← hsuspended]
  refine ⟨_, rfl, Four.get_set_same _ _ _, fun h => ?opens, fun h hs => ?suspended, fun h hlost hover => ?counts, ?descent,
    fun h => ?other, fun pt h hpending hcount => ?settling, hchanges⟩
  case opens =>
    show (examine p mv ma s).drawMonitor.get p = _ ∧ (examine p mv ma s).limit = _
    rw [hopen h]
    exact ⟨rfl, rfl⟩
  case suspended =>
    show ((examine p mv ma s).drawMonitor.get p).overvoltage = 0 ∧ ((examine p mv ma s).drawMonitor.get p).sag = 0
      ∧ (examine p mv ma s).limit = s.limit
    rw [hdraws h, hlimit h]
    obtain ⟨hovervoltage, hsag⟩ := examined_of_suspended hs s.policy.active.params[10] mv ma
    exact ⟨hovervoltage, hsag, if_neg (by simp [isSagSample, hs])⟩
  case counts =>
    show ((examine p mv ma s).drawMonitor.get p).railLost = _
      ∧ (_ → ((examine p mv ma s).drawMonitor.get p).overvoltage = _ ∧ (examine p mv ma s).limit = _)
      ∧ (((examine p mv ma s).drawMonitor.get p).railLost = 3 ∨ ((examine p mv ma s).drawMonitor.get p).overvoltage = 3 →
        ((examine p mv ma s).drawMonitor.get p).sag = 0 ∧ ((examine p mv ma s).drawMonitor.get p).overdraw = 0)
      ∧ (((examine p mv ma s).drawMonitor.get p).railLost < 3 → ((examine p mv ma s).drawMonitor.get p).overvoltage < 3 →
        (_ → _ → ((examine p mv ma s).drawMonitor.get p).sag = _)
          ∧ (_ → ((examine p mv ma s).drawMonitor.get p).overdraw = _))
    obtain ⟨hrail, hvolts, hprotects, htrims⟩ := examined_counts hlost hover s.policy.active.params[10] mv ma
    rw [hdraws h, hlimit h]
    refine ⟨?_, fun hs => ⟨?_, ?_⟩, fun hthree => hprotects (by omega), fun hlow hlow' => ?_⟩
    · rw [hrail]
      simp [DrawMonitor.counting, nextCount_of_lt hlost, railLostMet]
    · have hlow := hover.resolve_right hs
      rw [hvolts]
      show (if suspended _ _ = true then 0 else nextCount _ 3 _) = _
      rw [if_neg hs, nextCount_of_lt hlow]
      exact if_congr decide_eq_true_iff rfl rfl
    · have hlow := hover.resolve_right hs
      have hrunning : suspended (s.contract.get p) (s.drawMonitor.get p) = false := Bool.eq_false_iff.mpr hs
      have hsample : isSagSample (s.drawMonitor.get p) (s.contract.get p) s.policy.active.params[10] mv
          = sagMet (s.contract.get p) s.policy.active.params[10] mv := by
        simp [isSagSample, not_protecting_held hlost hover, hrunning]
      rw [hsample]
      exact sagSeen_if decide_eq_true_iff
    · obtain ⟨hsag, hoverdraw⟩ := htrims hlow hlow'
      refine ⟨fun hcount hs => ?_, fun hcount => ?_⟩
      · rw [hsag]
        show (if suspended _ _ = true then 0 else nextCount _ 8 _) = _
        rw [if_neg hs, nextCount_of_lt hcount]
        exact if_congr decide_eq_true_iff rfl rfl
      · rw [hoverdraw]
        show nextCount _ 16 _ = _
        rw [nextCount_of_lt hcount]
        exact if_congr decide_eq_true_iff rfl rfl
  case descent =>
    show ((examine p mv ma s).drawMonitor.get p).descent = _
    cases h : (s.contract.get p).drawClosed with
    | false => rw [hopen h]
    | true => rw [hdraws h, examined_descent]
  case other =>
    show ((examine p mv ma s).contract.set p _).get p = _
    rw [Four.get_set_same, hcontract]
    exact sampled_of_not_settling h mv
  case settling =>
    show ((examine p mv ma s).contract.set p _).get p = _
    rw [Four.get_set_same, hcontract]
    refine (sampled_of_settling h hpending hcount mv).trans ?_
    simp [inBand]

end Sys2Proof.Machine
end

section
/-! PROOFS. Protection takes a port out of the draw set, and what the abort of a transition spares (07, 08; R12, R131,
R133, R144, R145). -/

namespace Sys2Proof.Machine

open Sys2Proof

section
variable {s t u : State} {p q : Port}

/-! ### An aborted claim (R131) -/

theorem withdrawClaim_onLine (p : Port) (s : State) : onLine p s (withdrawClaim p s) := by
  unfold withdrawClaim
  have hwaiting := modFramer_onLine p (fun f => { f with waiting := f.waiting.filter (· == .probe) }) s
  dsimp only
  split
  · exact .ite (hwaiting.trans (modFramer_onLine p _ _))
      ((hwaiting.trans (modFramer_onLine p _ _)).trans (endExchange_onLine p _))
  · exact hwaiting.trans (endExchange_onLine p _)
  · exact hwaiting

/-- What an abort of a claim may change. -/
def abortParts (p : Port) : List Part := [.framer p, .monitor p, .contract p, .drawMonitor p, .limit]

theorem place_abort_sub (p : Port) : placeParts p ⊆ abortParts p := by simp [placeParts, abortParts]

theorem switch_abort_sub (p : Port) : switchParts p ⊆ abortParts p := by simp [switchParts, abortParts]

/-- The line's part of an abort: a claim that is being made is withdrawn. -/
def withdrawn (p : Port) (s : State) : State :=
  if (s.contract.get p).state == .claiming then withdrawClaim p s else s

theorem withdrawn_onLine (p : Port) (s : State) : onLine p s (withdrawn p s) :=
  .ite (withdrawClaim_onLine p s) (.refl p s)

/-- A claim withdrawn unsent or silent ends with no word to the partner; any other is released. -/
def Contract.endsSilently (c : Contract) (f : Framer) : Bool :=
  c.state == .claiming && f.claimUnsent || c.state == .settling && !c.grantTaken

theorem abortClaim_eq (p : Port) (s : State) : abortClaim p s
    = if (s.contract.get p).endsSilently (s.framer.get p) then (withdrawn p s).modContract p Contract.unclaimed
      else if (s.contract.get p).drawClosed then fallToBase p Config.baseVoltage (place p .release (withdrawn p s))
      else recompute ((place p .release (withdrawn p s)).modContract p Contract.idled) := rfl

theorem abortClaim_changes (p : Port) (s : State) : ChangesOnly (abortParts p) s (abortClaim p s) := by
  have hline := (withdrawn_onLine p s).1.mono (place_abort_sub p)
  have hplaced := hline.trans ((place_changes p .release _).mono (place_abort_sub p))
  have hcontract {g : Contract → Contract} (u : State) : ChangesOnly (abortParts p) u (u.modContract p g) :=
    (modContract_changes u p g).mono (by simp [abortParts])
  rw [abortClaim_eq]
  exact .ite (hline.trans (hcontract _)) (.ite (hplaced.trans ((fallToBase_changes p _ _).mono (switch_abort_sub p)))
    ((hplaced.trans (hcontract _)).trans ((recompute_changes _).mono (by simp [abortParts]))))

theorem abortClaim_drawClosed (p : Port) (s : State) :
    ((abortClaim p s).contract.get p).drawClosed = (s.contract.get p).drawClosed := by
  have hline := (withdrawn_onLine p s).contract p
  have hplaced := (place_onLine p .release (withdrawn p s)).contract p
  rw [abortClaim_eq]
  split
  · rw [State.modContract_contract, Four.get_set_same, hline, unclaimed_drawClosed]
  · split
    · rw [fallToBase_contract, hplaced, hline]
      rfl
    · simp only [recompute, State.modLimit_contract, State.modContract_contract, Four.get_set_same, hplaced, hline]
      rfl

theorem sequencer_same {l : List Part} (h : ChangesOnly l s t) (hdemands : ∀ q, .demands q ∉ l) (hservice : .service ∉ l) :
    t.sequencer = s.sequencer := by
  obtain ⟨hin, hrotation, htransition⟩ := h .service hservice
  have hd : t.sequencer.demands = s.sequencer.demands := Four.ext_get fun q => h (.demands q) (hdemands q)
  cases ht : t.sequencer
  cases hs : s.sequencer
  simp_all

/-! ### What the abort of other claims spares -/

/-- The port keeps its record, its monitor's failure count and its draw monitor, and every draw switch stands; the
outcome of its contract may be told anew. -/
structure Spares (p : Port) (s t : State) : Prop where
  contract : ∃ o, t.contract.get p = { s.contract.get p with lastOutcome := o }
  drawMonitor : t.drawMonitor.get p = s.drawMonitor.get p
  failures : (t.monitor.get p).failures = (s.monitor.get p).failures
  draws : ∀ q, (t.contract.get q).drawClosed = (s.contract.get q).drawClosed
  sequencer : t.sequencer = s.sequencer

theorem Spares.refl (p : Port) (s : State) : Spares p s s := ⟨⟨_, rfl⟩, rfl, rfl, fun _ => rfl, rfl⟩

theorem Spares.trans (h : Spares p s t) (g : Spares p t u) : Spares p s u := by
  obtain ⟨a, ha⟩ := h.contract
  obtain ⟨b, hb⟩ := g.contract
  exact ⟨⟨b, by rw [hb, ha]⟩, g.drawMonitor.trans h.drawMonitor, g.failures.trans h.failures,
    fun q => (g.draws q).trans (h.draws q), g.sequencer.trans h.sequencer⟩

theorem abortClaim_spares (hq : q ≠ p) (s : State) : Spares p s (abortClaim q s) where
  contract := ⟨_, abortClaim_changes q s (.contract p) (by simp [abortParts, hq.symm])⟩
  drawMonitor := abortClaim_changes q s (.drawMonitor p) (by simp [abortParts, hq.symm])
  failures := congrArg Monitor.failures (abortClaim_changes q s (.monitor p) (by simp [abortParts, hq.symm]))
  draws r := by
    by_cases hr : r = q
    · rw [hr]
      exact abortClaim_drawClosed q s
    · exact congrArg Contract.drawClosed (abortClaim_changes q s (.contract r) (by simp [abortParts, hr]))
  sequencer := sequencer_same (abortClaim_changes q s) (by simp [abortParts]) (by simp [abortParts])

theorem setOutcome_spares (q : Port) (o : ContractOutcome) (s : State) : Spares p s (setOutcome q o s) where
  contract := by
    by_cases hq : p = q
    · exact ⟨o, by simp [setOutcome, hq]⟩
    · exact ⟨_, setOutcome_changes q o s (.contract p) (by simpa using hq)⟩
  drawMonitor := rfl
  failures := rfl
  draws r := by
    by_cases hr : r = q
    · simp [setOutcome, hr]
    · exact congrArg Contract.drawClosed (setOutcome_changes q o s (.contract r) (by simpa using hr))
  sequencer := rfl

/-- A port with no claim in flight is spared as the claims in flight are aborted. -/
theorem abortAll_spares (l : List Port) (h : (s.contract.get p).inFlight = false) :
    Spares p s (l.foldl (fun u q => if (u.contract.get q).inFlight then abortClaim q u else u) s) := by
  induction l generalizing s with
  | nil => exact .refl p s
  | cons q l ih =>
    have hone : Spares p s (if (s.contract.get q).inFlight then abortClaim q s else s) := by
      split
      · next hflight =>
        refine abortClaim_spares (fun hq => ?_) s
        rw [hq, h] at hflight
        exact absurd hflight nofun
      · exact .refl p s
    obtain ⟨o, ho⟩ := hone.contract
    exact hone.trans (ih (by rw [ho]; exact h))

theorem setOutcomes_spares (l : List Port) (o : ContractOutcome) (s : State) :
    Spares p s (l.foldl (fun u q => setOutcome q o u) s) := by
  induction l generalizing s with
  | nil => exact .refl p s
  | cons q l ih => exact (setOutcome_spares q o s).trans (ih _)

/-! ### The end of a transition (R126) -/

theorem endTransition_contract (o : ContractOutcome) (p : Port) (s : State) : (endTransition o p s).contract = s.contract :=
  Four.ext_get fun q => endTransition_changes o p s (.contract q) (by simp)

theorem endTransition_allowance (o : ContractOutcome) (p : Port) (s : State) :
    (endTransition o p s).limit.allowanceSum = allowanceSumOf (endTransition o p s).contract := rfl

/-! ### The abort of a transition (R131) -/

/-- The claims in flight of a transition that is aborted have ended. -/
def claimsAborted (short : List Port) (s : State) : State :=
  short.foldl (fun u q => setOutcome q .aborted u)
    (allPorts.foldl (fun u q => if (u.contract.get q).inFlight then abortClaim q u else u) s)

theorem claimsAborted_spares (short : List Port) (h : (s.contract.get p).inFlight = false) :
    Spares p s (claimsAborted short s) :=
  (abortAll_spares allPorts h).trans (setOutcomes_spares short .aborted _)

theorem abortIfInvolved_of_involved {tr : Transition} (htr : s.sequencer.transition = some tr) (h : tr.involves p = true)
    (short : List Port) : abortIfInvolved p short s = endTransition .aborted s.servicePort (claimsAborted short s) := by
  simp only [abortIfInvolved, htr, h, if_true]
  rfl

theorem abortIfInvolved_of_spared (h : ∀ tr, s.sequencer.transition = some tr → tr.involves p = false)
    (short : List Port) : abortIfInvolved p short s = s := by
  unfold abortIfInvolved
  split
  · rfl
  · next tr htr => exact if_neg (by simp [h tr htr])

/-- Involved or not, the port that has left is spared. -/
theorem abortIfInvolved_keeps_port (h : (s.contract.get p).inFlight = false) (short : List Port) :
    (∃ o, (abortIfInvolved p short s).contract.get p = { s.contract.get p with lastOutcome := o })
      ∧ (abortIfInvolved p short s).drawMonitor.get p = s.drawMonitor.get p
      ∧ ((abortIfInvolved p short s).monitor.get p).failures = (s.monitor.get p).failures
      ∧ (∀ q, ((abortIfInvolved p short s).contract.get q).drawClosed = (s.contract.get q).drawClosed)
      ∧ (abortIfInvolved p short s).sequencer.demands = s.sequencer.demands := by
  by_cases hinvolved : ∃ tr, s.sequencer.transition = some tr ∧ tr.involves p = true
  · obtain ⟨tr, htr, hp⟩ := hinvolved
    rw [abortIfInvolved_of_involved htr hp]
    have hspares := claimsAborted_spares short h
    have hended := endTransition_changes .aborted s.servicePort (claimsAborted short s)
    have hdemands : (endTransition .aborted s.servicePort (claimsAborted short s)).sequencer.demands
        = (claimsAborted short s).sequencer.demands := rfl
    rw [endTransition_contract, hdemands, hspares.sequencer]
    exact ⟨hspares.contract, (hended (.drawMonitor p) (by simp)).trans hspares.drawMonitor,
      (congrArg Monitor.failures (hended (.monitor p) (by simp))).trans hspares.failures, hspares.draws, rfl⟩
  · rw [abortIfInvolved_of_spared fun tr htr => Bool.eq_false_iff.mpr fun hp => hinvolved ⟨tr, htr, hp⟩]
    exact ⟨⟨_, rfl⟩, rfl, rfl, fun _ => rfl, rfl⟩

/-! ### Protection (R133) -/

theorem openDraw_drawMonitor (p : Port) (s : State) : (openDraw p s).drawMonitor.get p
    = { railLost := 0, overvoltage := 0, sag := 0, overdraw := 0, descent := none } := by
  simp [openDraw, recompute, DrawMonitor.clearCounts]

/-- The state as a port that drew has left the draw set, before the transition is looked at. -/
def takenOut (p : Port) (s : State) : State :=
  raiseDemand .loss p (clearContract p (if (s.contract.get p).state = .claiming then withdrawClaim p s else s))

theorem protect_eq (p : Port) (s : State) : protect p s = abortIfInvolved p s.cutShort (takenOut p s) := rfl

theorem clearContract_contract (p : Port) (s : State) : (clearContract p s).contract.get p
    = { (s.contract.get p).idled with drawClosed := false } := by
  simp only [clearContract, recompute, State.modLimit_contract, State.modContract_contract, Four.get_set_same,
    opened_contract]
  rfl

theorem clearContract_drawMonitor (h : (s.contract.get p).drawClosed = true) : (clearContract p s).drawMonitor.get p
    = { railLost := 0, overvoltage := 0, sag := 0, overdraw := 0, descent := none } := by
  simp only [clearContract, h, if_true]
  exact openDraw_drawMonitor p s

theorem takenOut_line (p : Port) (s : State) :
    onLine p s (if (s.contract.get p).state = .claiming then withdrawClaim p s else s) :=
  .ite (withdrawClaim_onLine p s) (.refl p s)

theorem takenOut_changes (p : Port) (s : State) : ChangesOnly (.demands p :: abortParts p) s (takenOut p s) :=
  (((takenOut_line p s).1.mono (by simp [placeParts, abortParts])).trans
    ((clearContract_changes p _).mono (by simp [switchParts, abortParts]))).trans
    ((raiseDemand_changes .loss p _).mono (by simp))

theorem takenOut_spec (h : (s.contract.get p).drawClosed = true) :
    (takenOut p s).contract.get p = { (s.contract.get p).idled with drawClosed := false }
      ∧ (∀ q, q ≠ p → (takenOut p s).contract.get q = s.contract.get q)
      ∧ ((takenOut p s).sequencer.demands.get p).loss = true
      ∧ (takenOut p s).drawMonitor.get p = { railLost := 0, overvoltage := 0, sag := 0, overdraw := 0, descent := none }
      ∧ (takenOut p s).limit.allowanceSum = allowanceSumOf (takenOut p s).contract
      ∧ ((takenOut p s).monitor.get p).failures = (s.monitor.get p).failures := by
  have hline := takenOut_line p s
  have hclosed : ((if (s.contract.get p).state = .claiming then withdrawClaim p s else s).contract.get p).drawClosed = true := by
    rw [hline.contract p]
    exact h
  refine ⟨?_, fun q hq => takenOut_changes p s (.contract q) (by simp [abortParts, hq]), ?_, ?_, rfl, ?_⟩
  · refine (clearContract_contract p _).trans ?_
    rw [hline.contract p]
  · unfold takenOut
    rw [raiseDemand_demands_same]
    rfl
  · exact clearContract_drawMonitor hclosed
  · exact (congrArg Monitor.failures (clearContract_changes p _ (.monitor p) (by simp [switchParts]))).trans hline.failures.1

/-- What protection has done of the port, of every draw switch and of the transition. -/
theorem protect_spec (h : (s.contract.get p).drawClosed = true) :
    (∃ o, (protect p s).contract.get p = { (s.contract.get p).idled with drawClosed := false, lastOutcome := o })
      ∧ (∀ q, q ≠ p → ((protect p s).contract.get q).drawClosed = (s.contract.get q).drawClosed)
      ∧ ((protect p s).sequencer.demands.get p).loss = true
      ∧ (protect p s).drawMonitor.get p = { railLost := 0, overvoltage := 0, sag := 0, overdraw := 0, descent := none }
      ∧ (protect p s).limit.allowanceSum = allowanceSumOf (protect p s).contract
      ∧ ((protect p s).monitor.get p).failures = (s.monitor.get p).failures
      ∧ ∀ tr, s.sequencer.transition = some tr →
          (tr.involves p = true → serviceEnded (protect p s))
            ∧ (tr.involves p = false → (protect p s).sequencer.transition = some tr
                ∧ (protect p s).sequencer.inService = s.sequencer.inService) := by
  obtain ⟨hcontract, hothers, hloss, hmonitor, hallowance, hfailures⟩ := takenOut_spec h
  obtain ⟨hin, -, htransition⟩ := takenOut_changes p s .service (by simp [abortParts])
  have hrest : ((takenOut p s).contract.get p).inFlight = false := by rw [hcontract]; rfl
  rw [protect_eq]
  generalize takenOut p s = v at *
  obtain ⟨⟨o, ho⟩, hmonitor', hfailures', hdraws, hdemands⟩ := abortIfInvolved_keeps_port hrest s.cutShort
  refine ⟨⟨o, by rw [ho, hcontract]⟩, fun q hq => by rw [hdraws, hothers q hq], by rw [hdemands]; exact hloss,
    hmonitor'.trans hmonitor, ?_, hfailures'.trans hfailures, fun tr htr => ⟨fun hp => ?_, fun hp => ?_⟩⟩
  · by_cases hinvolved : ∃ tr, v.sequencer.transition = some tr ∧ tr.involves p = true
    · obtain ⟨tr, htr, hp⟩ := hinvolved
      rw [abortIfInvolved_of_involved htr hp]
      exact endTransition_allowance _ _ _
    · rw [abortIfInvolved_of_spared fun tr htr => Bool.eq_false_iff.mpr fun hp => hinvolved ⟨tr, htr, hp⟩]
      exact hallowance
  · rw [abortIfInvolved_of_involved (htransition.trans htr) hp]
    exact endTransition_ends _ _ _
  · rw [abortIfInvolved_of_spared fun tr' htr' => ?_]
    · exact ⟨htransition.trans htr, hin⟩
    · obtain rfl := Option.some.inj ((htransition.trans htr).symm.trans htr')
      exact hp

theorem exec_railLost (hrun : s.inReset = false) : exec (.railLost p) s
    = .next (if (s.drawMonitor.get p).railLostDone (s.contract.get p) then
        post (.fault p) noticeRailLost (faultSnapshot (s.rail.get p).mv) (protect p s) else s) := exec_of_running rfl hrun

theorem exec_overvoltage (hrun : s.inReset = false) : exec (.overvoltage p) s
    = .next (if (s.drawMonitor.get p).overvoltageDone (s.contract.get p) then
        post (.fault p) noticeOvervolt (faultSnapshot (s.rail.get p).mv)
          ((protect p s).modMonitor p fun m => { m with failures := 3, coolOff := none }) else s) := exec_of_running rfl hrun

/-- A number in bytes 2 and 3 is its two low bytes (R197). -/
theorem snapshotLow_eq (n : Nat) : snapshotLow n = BitVec.ofNat 32 (n % 65536) := by
  apply BitVec.eq_of_toNat_eq
  simp only [snapshotLow, snapshotOf, BitVec.toNat_ofNat]
  omega

theorem protect_fault (p : Port) (s : State) : (protect p s).link.notices.get (.fault p) = s.link.notices.get (.fault p)
    ∧ (protect p s).msCount = s.msCount :=
  ⟨protect_seq p s (.notice (.fault p)) (by simp [sequencerParts, supplyParts]),
    protect_seq p s .clock (by simp [sequencerParts, supplyParts])⟩

end

/-- Settles O38. -/
theorem protectionTakesThePortOut : Obligations.ProtectionTakesThePortOut := by
  intro s p hrun hclosed d suspended mv sample takenOut
  obtain ⟨⟨o, ho⟩, hdraws, hloss, hmonitor, hallowance, hfailures, htransition⟩ := protect_spec hclosed
  obtain ⟨hfault, hclock⟩ := protect_fault p s
  have htaken (code : Byte) {v : State} (hv : ChangesOnly [.monitor p] (protect p s) v)
      (hcontract : v.contract = (protect p s).contract) : takenOut (post (.fault p) code (faultSnapshot mv) v) code := by
    have hposted := post_changes (.fault p) code (faultSnapshot mv) v
    have hseq : ChangesOnly sequencerParts s v := (protect_seq p s).trans (hv.mono (by simp [sequencerParts, supplyParts]))
    have hcontract' : (post (.fault p) code (faultSnapshot mv) v).contract = (protect p s).contract := hcontract
    have hlimit : (post (.fault p) code (faultSnapshot mv) v).limit = (protect p s).limit := hv .limit (by simp)
    have hpost := post_notice (.fault p) code (faultSnapshot mv) v
    rw [show v.link.notices.get (.fault p) = _ from hv (.notice (.fault p)) (by simp), hfault,
      show v.msCount = _ from hv .clock (by simp), hclock] at hpost
    have hsequencer : (post (.fault p) code (faultSnapshot mv) v).sequencer = (protect p s).sequencer :=
      show v.sequencer = _ from sequencer_same hv (by simp) (by simp)
    show (_ ∧ _)
    rw [hcontract', hlimit, hsequencer, ho]
    refine ⟨rfl, rfl, rfl, rfl, rfl, rfl, rfl, hdraws, hloss, (hv (.drawMonitor p) (by simp)).trans hmonitor, hallowance,
      fun tr htr => ?_, hpost.trans (by rw [faultSnapshot, snapshotLow_eq]), .then hseq hposted (List.subset_cons_self _ _) (by simp)⟩
    unfold serviceEnded
    rw [hlimit, hsequencer]
    exact htransition tr htr
  refine ⟨fun h => ?lost, fun h hrunning => ?high, fun h => ?suspended⟩
  case lost =>
    rw [exec_railLost hrun, if_pos ((railLostDone_iff _ _).mpr ⟨hclosed, h⟩)]
    exact ⟨_, rfl, htaken 0x01 (.refl _ _) rfl, hfailures⟩
  case high =>
    have hrunning' := Bool.eq_false_iff.mpr (mt (suspended_iff _ _).mp hrunning)
    rw [exec_overvoltage hrun, if_pos ((overvoltageDone_iff _ _).mpr ⟨hclosed, hrunning', h⟩)]
    refine ⟨_, rfl, htaken 0x02 (modMonitor_changes _ p _) rfl, ?_, ?_⟩
    · exact congrArg Monitor.failures (Four.get_set_same _ _ _)
    · exact congrArg Monitor.coolOff (Four.get_set_same _ _ _)
  case suspended =>
    rw [exec_overvoltage hrun, (suspended_completes_nothing ((suspended_iff _ _).mpr h)).1, if_neg nofun]

end Sys2Proof.Machine
end

section
/-! PROOFS. The switching of a transition (07; R124 to R126): what it makes of every port's contract, in each of the
three ways. -/

namespace Sys2Proof.Machine

open Sys2Proof

section
variable {s t u w : State} {p q : Port} {tr : Transition} {pl : Plan}

/-! ### Changes of contracts, port by port -/

/-- A change of one port's contract after another, each of which is done once and for all. -/
theorem foldl_contract {f : State → Port → State} {F : Port → Contract → Contract}
    (hf : ∀ u p q, (f u p).contract.get q = if q = p then F p (u.contract.get p) else u.contract.get q)
    (hF : ∀ p c, F p (F p c) = F p c) (l : List Port) (s : State) (q : Port) :
    (l.foldl f s).contract.get q = if q ∈ l then F q (s.contract.get q) else s.contract.get q := by
  induction l generalizing s with
  | nil => simp
  | cons a l ih =>
    rw [List.foldl_cons, ih, hf]
    by_cases ha : q = a
    · subst ha
      simp [hF]
    · simp [ha]

/-- What the closing and opening of draw switches may change. -/
def drawParts : List Part := everyPort .contract ++ everyPort .drawMonitor ++ [.limit]

theorem switch_draw_sub (p : Port) : switchParts p ⊆ drawParts := by simp [switchParts, drawParts]

theorem openAll_contract (l : List Port) (s : State) (q : Port) : (openAll l s).contract.get q
    = if q ∈ l then { s.contract.get q with drawClosed := false } else s.contract.get q :=
  foldl_contract (F := fun _ c => { c with drawClosed := false }) (fun u p q => by simp [openDraw, recompute])
    (fun _ _ => rfl) l s q

theorem openAll_changes (l : List Port) (s : State) : ChangesOnly drawParts s (openAll l s) :=
  .foldl (fun u p => (openDraw_changes p u).mono (switch_draw_sub p)) l s

/-! ### The joining ports (R124) -/

/-- The contract of a joining port as its draw switch closes. -/
def joinedContract (pl : Plan) (c : Contract) : Contract :=
  match pl with
  | .base b =>
    { c.withoutClaim with state := .base, base := some b.voltage, established := none, drawClosed := true }
  | .draw _ _ | .empty => { c with drawClosed := true }

theorem closeJoining_contract (pl : Plan) (p : Port) (s : State) (q : Port) : (closeJoining pl p s).contract.get q
    = if q = p then joinedContract pl (s.contract.get p) else s.contract.get q := by
  cases pl <;> by_cases hq : q = p <;> simp [closeJoining, closeDraw, recompute, joinedContract, hq]

theorem closeJoining_changes (pl : Plan) (p : Port) (s : State) : ChangesOnly (switchParts p) s (closeJoining pl p s) := by
  cases pl with
  | base b => exact .then (modContract_changes s p _) (closeDraw_changes p _) (by simp [switchParts]) (fun _ h => h)
  | draw e sec => exact closeDraw_changes p s
  | empty => exact closeDraw_changes p s

theorem joinedContract_idem (pl : Plan) (c : Contract) : joinedContract pl (joinedContract pl c) = joinedContract pl c := by
  cases pl <;> rfl

/-- The contract of a base entry's port that already draws falls to base. -/
def fallenContract (pl : Plan) (p : Port) (c : Contract) : Contract :=
  match pl with
  | .base b => if b.port = p ∧ c.drawClosed = true ∧ c.state ≠ .base then joinedContract pl c else c
  | .draw _ _ | .empty => c

theorem baseFall_contract (pl : Plan) (s : State) (q : Port) :
    (baseFall pl s).contract.get q = fallenContract pl q (s.contract.get q) := by
  cases pl with
  | draw e sec => rfl
  | empty => rfl
  | base b =>
    simp only [baseFall, fallenContract]
    by_cases hq : b.port = q
    · subst hq
      by_cases hfalls : (s.contract.get b.port).drawClosed = true ∧ (s.contract.get b.port).state ≠ .base
      · obtain ⟨hclosed, hstate⟩ := hfalls
        simp [hclosed, hstate, fallToBase_contract, joinedContract, Contract.withoutClaim]
      · rw [if_neg (by simpa using hfalls), if_neg (by simpa using hfalls)]
    · have hkept : (fallToBase b.port b.voltage s).contract.get q = s.contract.get q :=
        fallToBase_changes b.port b.voltage s (.contract q) (by simpa [switchParts] using Ne.symm hq)
      simp only [hq, false_and, if_false]
      split
      · exact hkept
      · rfl

theorem baseFall_changes (pl : Plan) (s : State) : ChangesOnly drawParts s (baseFall pl s) := by
  cases pl with
  | base b => exact .ite ((fallToBase_changes _ _ s).mono (switch_draw_sub _)) (.refl _ s)
  | draw e sec => exact .refl _ s
  | empty => exact .refl _ s

/-! ### Make before break (R124) -/

/-- The switching so far: the ports closed stand joined, and a leaving port's draw switch alone has moved. -/
def switchedSoFar (tr : Transition) (done : List Port) (s u : State) : Prop :=
  ∀ q, (q ∈ done → u.contract.get q = joinedContract tr.plan (s.contract.get q))
    ∧ (q ∉ done → q ∉ tr.leaving → u.contract.get q = s.contract.get q)
    ∧ (q ∈ tr.leaving → u.contract.get q = { s.contract.get q with drawClosed := (u.contract.get q).drawClosed })

theorem switchedSoFar_openAll {done l : List Port} (h : switchedSoFar tr done s u) (hl : ∀ p ∈ l, p ∈ tr.leaving)
    (hdone : ∀ p ∈ done, p ∉ tr.leaving) : switchedSoFar tr done s (openAll l u) := by
  intro q
  obtain ⟨hjoined, hsame, hleaving⟩ := h q
  rw [openAll_contract]
  refine ⟨fun hq => ?_, fun hq hstays => ?_, fun hleaves => ?_⟩
  · rw [if_neg fun hmem => hdone q hq (hl q hmem), hjoined hq]
  · rw [if_neg fun hmem => hstays (hl q hmem), hsame hq hstays]
  · split
    · rw [hleaving hleaves]
    · exact hleaving hleaves

theorem switchedSoFar_close {done : List Port} (h : switchedSoFar tr done s u) (hp : p ∉ tr.leaving) :
    switchedSoFar tr (done ++ [p]) s (closeJoining tr.plan p u) := by
  intro q
  obtain ⟨hjoined, hsame, hleaving⟩ := h q
  rw [closeJoining_contract]
  by_cases hq : q = p
  · subst hq
    simp only [if_true]
    refine ⟨fun _ => ?_, fun hno => absurd (by simp) hno, fun hleaves => absurd hleaves hp⟩
    by_cases hdone : q ∈ done
    · rw [hjoined hdone, joinedContract_idem]
    · rw [hsame hdone hp]
  · simpa [hq] using ⟨hjoined, hsame, hleaving⟩

theorem mem_switchJoining : p ∈ s.switchJoining tr ↔ s.joins tr p := by
  simp [State.switchJoining, State.joins]

theorem mem_switchLeaving : p ∈ s.switchLeaving tr ↔ s.leavesClosed tr p := by
  simp [State.switchLeaving, State.leavesClosed]

/-- The closing of the joining ports, a leaving port being opened first where two draw. -/
theorem makeBeforeBreak_soFar (l : List Port) {done : List Port} (h : switchedSoFar tr done s u)
    (hl : ∀ p ∈ l, p ∉ tr.leaving) (hdone : ∀ p ∈ done, p ∉ tr.leaving) :
    switchedSoFar tr (done ++ l) s (l.foldl (fun u p =>
      let v := if 2 ≤ u.drawSet.length then openAll ((u.switchLeaving tr).take 1) u else u
      closeJoining tr.plan p v) u) := by
  induction l generalizing u done with
  | nil => simpa using h
  | cons p l ih =>
    have hopened : switchedSoFar tr done s
        (if 2 ≤ u.drawSet.length then openAll ((u.switchLeaving tr).take 1) u else u) := by
      split
      · exact switchedSoFar_openAll h (fun q hq => (mem_switchLeaving.mp (List.mem_of_mem_take hq)).1) hdone
      · exact h
    have hp : p ∉ tr.leaving := hl p (by simp)
    have hall := ih (switchedSoFar_close hopened hp) (fun q hq => hl q (by simp [hq])) (by
      intro q hq
      rcases List.mem_append.mp hq with hq | hq
      · exact hdone q hq
      · rw [List.mem_singleton.mp hq]
        exact hp)
    simpa using hall

theorem makeBeforeBreak_contract {joining : List Port} (hjoining : ∀ p ∈ joining, p ∉ tr.leaving) (s : State) (q : Port) :
    (makeBeforeBreak tr joining s).contract.get q
      = if q ∈ joining then joinedContract tr.plan (s.contract.get q)
        else if q ∈ tr.leaving then { s.contract.get q with drawClosed := false } else s.contract.get q := by
  have hstart : switchedSoFar tr [] s s := fun q => ⟨nofun, fun _ _ => rfl, fun _ => rfl⟩
  have hclosed := makeBeforeBreak_soFar joining hstart hjoining nofun
  unfold makeBeforeBreak
  rw [List.nil_append] at hclosed
  generalize joining.foldl _ s = v at hclosed ⊢
  obtain ⟨hjoined, hsame, hleaving⟩ := hclosed q
  dsimp only
  rw [openAll_contract]
  by_cases hq : q ∈ joining
  · rw [if_neg fun hmem => hjoining q hq (mem_switchLeaving.mp hmem).1, if_pos hq, hjoined hq]
  · rw [if_neg hq]
    by_cases hleaves : q ∈ tr.leaving
    · rw [if_pos hleaves]
      split
      · rw [hleaving hleaves]
      · next hopen =>
        have hopen : (v.contract.get q).drawClosed = false :=
          Bool.eq_false_iff.mpr fun hclosed => hopen (mem_switchLeaving.mpr ⟨hleaves, hclosed⟩)
        rw [hleaving hleaves, hopen]
    · rw [if_neg hleaves, if_neg fun hmem => hleaves (mem_switchLeaving.mp hmem).1, hsame hq hleaves]

theorem makeBeforeBreak_changes (tr : Transition) (joining : List Port) (s : State) :
    ChangesOnly drawParts s (makeBeforeBreak tr joining s) := by
  refine .trans (.foldl (fun u p => ?_) joining s) (openAll_changes _ _)
  exact .trans (.ite (openAll_changes _ u) (.refl _ u)) ((closeJoining_changes tr.plan p _).mono (switch_draw_sub p))

/-! ### Release, roles and the end (R125, R126) -/

/-- The contract of a leaving port. -/
def Contract.left (c : Contract) : Contract := { c.idled with lastOutcome := .dropped }

/-- The contract of a port of the plan as its role is given. -/
def Contract.given (r : Role) (c : Contract) : Contract :=
  if c.drawClosed then { c with role := r, lastOutcome := .settled } else { c with role := .none }

/-- The contract of a port after the release, the roles and the outcomes. -/
def endedContract (tr : Transition) (p : Port) (c : Contract) : Contract :=
  let c1 := if p ∈ tr.leaving then c.left else c
  if p ∈ tr.plan.ports then c1.given (tr.plan.roleOf p) else c1

/-- The state as a switching that was done ends. -/
def released (tr : Transition) (s : State) : State :=
  tr.plan.ports.foldl (fun u p => if (u.contract.get p).drawClosed then setOutcome p .settled u else u)
    (setRoles tr.plan (tr.leaving.foldl (fun u p => leavePort p u) s))

theorem releaseAndEnd_eq (tr : Transition) (s : State) :
    releaseAndEnd tr s = endTransition tr.plan.doneOutcome s.servicePort (released tr s) := rfl

theorem leavePort_contract (p : Port) (s : State) (q : Port) : (leavePort p s).contract.get q
    = if q = p then (s.contract.get p).left else s.contract.get q := by
  have hline (c : Prop) [Decidable c] : (if c then place p .release s else s).contract = s.contract := by
    split
    · exact Four.ext_get fun r => (place_onLine p .release s).contract r
    · rfl
  simp only [leavePort, State.modContract_contract, hline, Four.get_set]
  rfl

theorem setRoles_contract (pl : Plan) (s : State) (q : Port) : (setRoles pl s).contract.get q
    = if q ∈ pl.ports then
        { s.contract.get q with role := if (s.contract.get q).drawClosed then pl.roleOf q else .none }
      else s.contract.get q :=
  foldl_contract (F := fun p c => { c with role := if c.drawClosed then pl.roleOf p else .none })
    (fun u p q => by simp) (fun _ _ => rfl) pl.ports s q

theorem released_contract (tr : Transition) (s : State) (q : Port) :
    (released tr s).contract.get q = endedContract tr q (s.contract.get q) := by
  have houtcome (l : List Port) (u : State) :
      (l.foldl (fun u p => if (u.contract.get p).drawClosed then setOutcome p .settled u else u) u).contract.get q
        = if q ∈ l then
            if (u.contract.get q).drawClosed then { u.contract.get q with lastOutcome := .settled } else u.contract.get q
          else u.contract.get q :=
    foldl_contract (F := fun _ c => if c.drawClosed then { c with lastOutcome := .settled } else c)
      (fun u p q => by by_cases hq : q = p <;> split <;> simp_all [setOutcome]) (fun _ c => by split <;> simp_all) l u q
  have hleft : (tr.leaving.foldl (fun u p => leavePort p u) s).contract.get q
      = if q ∈ tr.leaving then (s.contract.get q).left else s.contract.get q :=
    foldl_contract (F := fun _ c => c.left) (fun u p q => leavePort_contract p u q) (fun _ _ => rfl) tr.leaving s q
  unfold released
  rw [houtcome, setRoles_contract, hleft]
  unfold endedContract Contract.given
  dsimp only
  generalize (if q ∈ tr.leaving then (s.contract.get q).left else s.contract.get q) = c
  by_cases hq : q ∈ tr.plan.ports
  · simp only [hq, if_true]
    split <;> simp_all
  · simp only [hq, if_false]

/-- What the release, the roles and the outcomes may change. -/
def releaseParts : List Part := everyPort .framer ++ everyPort .monitor ++ everyPort .contract

theorem leavePort_changes (p : Port) (s : State) : ChangesOnly releaseParts s (leavePort p s) :=
  .then (.ite (place_changes p .release s) (.refl _ s)) (modContract_changes _ p _) (by simp [placeParts, releaseParts])
    (by simp [releaseParts])

theorem released_changes (tr : Transition) (s : State) : ChangesOnly releaseParts s (released tr s) := by
  have hcontract (p : Port) (g : Contract → Contract) (u : State) : ChangesOnly releaseParts u (u.modContract p g) :=
    (modContract_changes u p g).mono (by simp [releaseParts])
  exact .trans (.trans (.foldl (fun u p => leavePort_changes p u) _ s) (.foldl (fun u p => hcontract p _ u) _ _))
    (.foldl (fun u p => .ite (hcontract p _ u) (.refl _ u)) _ _)

/-! ### The word to a leaving partner (R125) -/

/-- A leaving port whose partner is sent RELEASE. -/
def Contract.sendsRelease (c : Contract) : Bool :=
  c.state == .active && match c.established with
    | some t => t.source == .talk
    | none => false

theorem leavePort_framer (p : Port) (s : State) (q : Port) : (leavePort p s).framer.get q
    = if q = p ∧ (s.contract.get p).sendsRelease = true then (place p .release s).framer.get p else s.framer.get q := by
  have hother (hq : q ≠ p) : (place p .release s).framer.get q = s.framer.get q :=
    place_changes p .release s (.framer q) (by simp [placeParts, hq])
  have hsends : (leavePort p s).framer.get q
      = (if (s.contract.get p).sendsRelease then place p .release s else s).framer.get q := rfl
  rw [hsends]
  by_cases hq : q = p
  · subst hq
    by_cases h : (s.contract.get q).sendsRelease = true <;> simp [h]
  · by_cases h : (s.contract.get p).sendsRelease = true <;> simp [h, hq, hother]

theorem leaving_framer (l : List Port) (s : State) (q : Port) :
    (l.foldl (fun u p => leavePort p u) s).framer.get q
      = if q ∈ l ∧ (s.contract.get q).sendsRelease = true then (place q .release s).framer.get q else s.framer.get q := by
  induction l generalizing s with
  | nil => simp
  | cons a l ih =>
    rw [List.foldl_cons, ih, leavePort_framer, place_framer, leavePort_framer, leavePort_contract, place_framer]
    by_cases ha : q = a
    · subst ha
      have hleft : (s.contract.get q).left.sendsRelease = false := rfl
      by_cases h : (s.contract.get q).sendsRelease = true <;> simp [h, hleft, place_framer]
    · simp [ha, place_framer]

theorem released_framer (tr : Transition) (s : State) (q : Port) : (released tr s).framer.get q
    = if q ∈ tr.leaving ∧ (s.contract.get q).sendsRelease = true then (place q .release s).framer.get q
      else s.framer.get q := by
  rw [← leaving_framer]
  have hframer (l : List Port) {f : State → Port → State} (hf : ∀ u p, (f u p).framer = u.framer) (u : State) :
      (l.foldl f u).framer = u.framer := by
    induction l generalizing u with
    | nil => rfl
    | cons a l ih => rw [List.foldl_cons, ih, hf]
  have hroles (u : State) : (setRoles tr.plan u).framer = u.framer := by
    unfold setRoles
    refine hframer _ (fun _ _ => ?_) u
    rfl
  unfold released
  rw [hframer _ (fun u p => by split <;> rfl), hroles]

end

end Sys2Proof.Machine
end

section
/-! PROOFS. The three ways of switching and the end of the break interval (07; R124 to R126). -/

namespace Sys2Proof.Machine

open Sys2Proof

section
variable {s t u w : State} {p q : Port} {tr : Transition} {pl : Plan}

/-! ### The ports of one voltage -/

theorem activeVoltage_eq_some_iff (s : State) (p : Port) (v : Nat) :
    (s.contract.get p).activeVoltage = some v ↔ s.drawsAt p v := by
  unfold Contract.activeVoltage State.drawsAt
  split
  · next h => simp [h]
  · next h => simp [h]

theorem oneVoltage_iff (s : State) (l : List Port) : s.oneVoltage l = true ↔ ∃ v, ∀ p ∈ l, s.drawsAt p v := by
  cases l with
  | nil => exact ⟨fun _ => ⟨0, nofun⟩, fun _ => rfl⟩
  | cons p rest =>
    simp only [State.oneVoltage, Bool.and_eq_true, List.all_eq_true, beq_iff_eq, Option.isSome_iff_exists,
      ← activeVoltage_eq_some_iff]
    constructor
    · rintro ⟨⟨v, hv⟩, hrest⟩
      refine ⟨v, fun q hq => ?_⟩
      rcases List.mem_cons.mp hq with rfl | hq
      · exact hv
      · exact (hrest q hq).trans hv
    · rintro ⟨v, hv⟩
      have hp := hv p (by simp)
      exact ⟨⟨v, hp⟩, fun q hq => (hv q (by simp [hq])).trans hp.symm⟩

/-- Every leaving port that draws and every joining port is ACTIVE at one voltage. -/
def State.switchAgrees (s : State) (tr : Transition) : Prop :=
  ∃ v, ∀ p, s.joins tr p ∨ s.leavesClosed tr p → s.drawsAt p v

theorem oneVoltage_switch_iff (s : State) (tr : Transition) :
    s.oneVoltage (s.switchLeaving tr ++ s.switchJoining tr) = true ↔ s.switchAgrees tr := by
  rw [oneVoltage_iff]
  simp only [List.mem_append, mem_switchLeaving, mem_switchJoining, or_comm]
  rfl

theorem switchLeaving_isEmpty_iff (s : State) (tr : Transition) :
    (s.switchLeaving tr).isEmpty = true ↔ ∀ p, ¬s.leavesClosed tr p := by
  rw [List.isEmpty_iff, List.eq_nil_iff_forall_not_mem]
  simp only [mem_switchLeaving]

/-! ### The contracts of the plan's ports (R124, R125) -/

/-- The contract of a port of the plan that draws after the switching, before its role is given. -/
def closedContract (pl : Plan) (c : Contract) : Contract :=
  match pl with
  | .base _ => if c.drawClosed = true ∧ c.state = .base then c else joinedContract pl c
  | .draw _ _ | .empty => joinedContract pl c

theorem joinedContract_drawClosed (pl : Plan) (c : Contract) : (joinedContract pl c).drawClosed = true := by
  cases pl <;> rfl

theorem closedContract_drawClosed (pl : Plan) (c : Contract) : (closedContract pl c).drawClosed = true := by
  cases pl with
  | base b =>
    simp only [closedContract]
    split
    · next h => exact h.1
    · rfl
  | draw e sec => rfl
  | empty => rfl

/-- A joining port is closed; a base entry's port that draws already falls to base. -/
theorem fallenContract_joined (hq : q ∈ pl.ports) (joins : Prop) [Decidable joins] (c : Contract)
    (hopen : joins → c.drawClosed = false) :
    fallenContract pl q (if joins then joinedContract pl c else c)
      = if joins ∨ c.drawClosed = true then closedContract pl c else c := by
  cases pl with
  | base b =>
    obtain rfl : q = b.port := by simpa [Plan.ports] using hq
    by_cases hj : joins
    · have hstate : (joinedContract (.base b) c).state = .base := rfl
      simp [fallenContract, closedContract, hj, hopen hj, hstate]
    · by_cases hclosed : c.drawClosed = true
      · by_cases hstate : c.state = .base <;> simp [fallenContract, closedContract, hj, hclosed, hstate]
      · simp [fallenContract, hj, hclosed]
  | draw e sec =>
    by_cases hclosed : c.drawClosed = true
    · have hsame : joinedContract (.draw e sec) c = c := by
        cases c
        simp_all [joinedContract]
      by_cases hj : joins <;> simp [fallenContract, closedContract, hj, hclosed, hsame]
    · simp [fallenContract, closedContract, hclosed]
  | empty => exact absurd hq (by simp [Plan.ports])

theorem planned_of_closed (hq : q ∈ pl.ports) (c : Contract) :
    (closedContract pl c).given (pl.roleOf q) = planned pl q true c := by
  rw [Contract.given, if_pos (closedContract_drawClosed pl c)]
  cases pl with
  | base b =>
    obtain rfl : q = b.port := by simpa [Plan.ports] using hq
    have hrole : (Plan.base b).roleOf b.port = .primary := if_pos rfl
    rw [hrole]
    simp only [closedContract, planned, if_true]
    split <;> rfl
  | draw e sec => rfl
  | empty => exact absurd hq (by simp [Plan.ports])

/-! ### The switching that is done (R125, R126) -/

theorem sequencer_of_draw (h : ChangesOnly drawParts s w) : w.sequencer = s.sequencer :=
  sequencer_same h (by simp [drawParts]) (by simp [drawParts])

/-- A switching whose closings and openings are done: the plan's ports stand closed, of any other port the draw switch
alone has moved, if it leaves. -/
structure SwitchesMoved (tr : Transition) (s w : State) : Prop where
  changes : ChangesOnly drawParts s w
  planned : ∀ p ∈ tr.plan.ports, p ∉ tr.leaving → ∀ closes : Bool,
    (closes = true ↔ s.joins tr p ∨ (s.contract.get p).drawClosed = true) →
    w.contract.get p = if closes then closedContract tr.plan (s.contract.get p) else s.contract.get p
  others : ∀ p, p ∉ tr.plan.ports →
    w.contract.get p = { s.contract.get p with drawClosed := (w.contract.get p).drawClosed }
  staying : ∀ p, p ∉ tr.plan.ports → p ∉ tr.leaving → w.contract.get p = s.contract.get p

theorem releaseAndEnd_contract (tr : Transition) (s : State) (q : Port) :
    (releaseAndEnd tr s).contract.get q = endedContract tr q (s.contract.get q) := by
  rw [releaseAndEnd_eq, endTransition_contract, released_contract]

theorem doneOutcome_code (pl : Plan) : pl.doneOutcome.code = if pl = .empty then 0x02 else 0x01 := by
  cases pl <;> rfl

theorem releaseAndEnd_changes (tr : Transition) (s : State) :
    ChangesOnly (releaseParts ++ [.limit, .service, .notice (.contract s.servicePort)]) s (releaseAndEnd tr s) := by
  rw [releaseAndEnd_eq]
  exact .then (released_changes tr s) (endTransition_changes _ _ _) (by simp) (by simp)

theorem endTransition_rotation (o : ContractOutcome) (p : Port) (s : State) :
    (endTransition o p s).sequencer.rotation = s.servicePort := rfl

theorem endTransition_published (o : ContractOutcome) (p : Port) (s : State) :
    (endTransition o p s).limit.published = (endTransition o p s).limit.raw := rfl

theorem endTransition_framer (o : ContractOutcome) (p : Port) (s : State) : (endTransition o p s).framer = s.framer :=
  Four.ext_get fun q => endTransition_changes o p s (.framer q) (by simp)

theorem releaseAndEnd_framer (tr : Transition) (s : State) (q : Port) : (releaseAndEnd tr s).framer.get q
    = if q ∈ tr.leaving ∧ (s.contract.get q).sendsRelease = true then (place q .release s).framer.get q
      else s.framer.get q := by
  rw [releaseAndEnd_eq, endTransition_framer, released_framer]

theorem sendsRelease_of_talk {c : Contract} (hstate : c.state = .active)
    (htalk : ∃ e, c.established = some e ∧ e.source = .talk) : c.sendsRelease = true := by
  obtain ⟨e, he, hsource⟩ := htalk
  simp [Contract.sendsRelease, hstate, he, hsource]

theorem releaseAndEnd_notice (tr : Transition) (w : State) :
    (releaseAndEnd tr w).link.notices.get (.contract w.servicePort)
      = some (postTo (w.link.notices.get (.contract w.servicePort)) (if tr.plan = .empty then 0x02 else 0x01)
          (snapshotOf ((releaseAndEnd tr w).contract.get w.servicePort).state.code
            ((releaseAndEnd tr w).contract.get w.servicePort).role.code 0 0) w.msCount) := by
  have hreleased := released_changes tr w
  have hnotice : (released tr w).link.notices.get (.contract w.servicePort) = w.link.notices.get (.contract w.servicePort) :=
    hreleased (.notice (.contract w.servicePort)) (by simp [releaseParts])
  have hclock : (released tr w).msCount = w.msCount := hreleased .clock (by simp [releaseParts])
  rw [releaseAndEnd_eq, endTransition_contract, endTransition_notice, hnotice, hclock, doneOutcome_code]

theorem endedContract_of_left (hplan : p ∉ tr.plan.ports) (hleaving : p ∈ tr.leaving) (c : Contract) :
    endedContract tr p c = c.left := by simp [endedContract, hplan, hleaving]

theorem switchingDone_of_moved (h : SwitchesMoved tr s w) : switchingDone tr s (releaseAndEnd tr w) := by
  have hsequencer := sequencer_of_draw h.changes
  have hservice : w.servicePort = s.servicePort := by unfold State.servicePort; rw [hsequencer]
  have hnotice := releaseAndEnd_notice tr w
  have hchanges := releaseAndEnd_changes tr w
  rw [hservice] at hnotice hchanges
  rw [show w.msCount = s.msCount from h.changes .clock (by simp [drawParts]),
    show w.link.notices.get (.contract s.servicePort) = _ from h.changes (.notice _) (by simp [drawParts])] at hnotice
  refine ⟨endTransition_ends _ _ _, ?_, endTransition_published _ _ _, endTransition_allowance _ _ _,
    fun p hp hstays closes hcloses => ?_, fun p hp hleaves => ?_, fun p hp hstays => ?_, hnotice, ?_⟩
  · rw [releaseAndEnd_eq, endTransition_rotation]
    unfold State.servicePort at hservice ⊢
    rw [show (released tr w).sequencer = w.sequencer from
      sequencer_same (released_changes tr w) (by simp [releaseParts]) (by simp [releaseParts])]
    exact hservice
  · rw [releaseAndEnd_contract, h.planned p hp hstays closes hcloses]
    simp only [endedContract, hstays, if_false, hp, if_true]
    cases closes with
    | true => exact planned_of_closed hp _
    | false =>
      have hopen : (s.contract.get p).drawClosed = false :=
        Bool.eq_false_iff.mpr fun hclosed => Bool.false_ne_true (hcloses.mpr (.inr hclosed))
      simp [Contract.given, hopen, planned]
  · rw [releaseAndEnd_contract, endedContract_of_left hp hleaves]
    refine ⟨rfl, rfl, rfl, rfl, rfl, fun hstate htalk hquiet => ?_⟩
    have hsends : (w.contract.get p).sendsRelease = true := by
      rw [h.others p hp]
      exact sendsRelease_of_talk hstate htalk
    have hframer : w.framer.get p = s.framer.get p := h.changes (.framer p) (by simp [drawParts])
    have hquiet' : w.lineQuiet p := by
      unfold State.lineQuiet State.lineIdle at *
      rw [hframer]
      exact hquiet
    rw [releaseAndEnd_framer, if_pos ⟨hleaves, hsends⟩, place_sends hquiet' rfl]
  · rw [releaseAndEnd_contract, h.staying p hp hstays]
    simp [endedContract, hp, hstays]
  · refine .then h.changes hchanges (fun x hx => ?_) (fun x hx => ?_)
    · simp only [drawParts, List.mem_append] at hx ⊢
      grind
    · simp only [releaseParts, List.mem_append] at hx ⊢
      grind

/-! ### The ways (R124) -/

theorem switching_of_agrees (htr : s.sequencer.transition = some tr) (h : s.switchAgrees tr) :
    switching s = releaseAndEnd tr (baseFall tr.plan (makeBeforeBreak tr (s.switchJoining tr) s)) := by
  simp only [switching, htr]
  rw [if_pos ((oneVoltage_switch_iff s tr).mpr h)]

theorem switching_of_noneLeaves (htr : s.sequencer.transition = some tr) (h : ¬s.switchAgrees tr)
    (hnone : ∀ p, ¬s.leavesClosed tr p) : switching s = closeAndEnd tr s := by
  simp only [switching, htr]
  rw [if_neg (mt (oneVoltage_switch_iff s tr).mp h), if_pos ((switchLeaving_isEmpty_iff s tr).mpr hnone)]

theorem switching_of_battery (htr : s.sequencer.transition = some tr) (h : ¬s.switchAgrees tr)
    (hsome : ¬∀ p, ¬s.leavesClosed tr p) (hbattery : s.supervisor.batteryPresent = true) :
    switching s = setStage (.breaking 0) (baseFall tr.plan (openAll (s.switchLeaving tr) s)) := by
  simp only [switching, htr]
  rw [if_neg (mt (oneVoltage_switch_iff s tr).mp h), if_neg (mt (switchLeaving_isEmpty_iff s tr).mp hsome), if_pos hbattery]

theorem switching_of_held (htr : s.sequencer.transition = some tr) (h : ¬s.switchAgrees tr)
    (hsome : ¬∀ p, ¬s.leavesClosed tr p) (hbattery : s.supervisor.batteryPresent = false) :
    switching s = holdSwitching tr s := by
  simp only [switching, htr]
  rw [if_neg (mt (oneVoltage_switch_iff s tr).mp h), if_neg (mt (switchLeaving_isEmpty_iff s tr).mp hsome),
    if_neg (by simp [hbattery])]

/-- A joining port has its draw switch open (R117). -/
theorem State.joins.open (h : s.joins tr p) : (s.contract.get p).drawClosed = false := h.2.2

theorem State.joins.planned (h : s.joins tr p) : p ∈ tr.plan.ports := h.1

theorem fallenContract_of_unplanned (hq : q ∉ pl.ports) (c : Contract) : fallenContract pl q c = c := by
  cases pl with
  | base b =>
    have hport : b.port ≠ q := fun h => hq (by simp [Plan.ports, h])
    simp [fallenContract, hport]
  | draw e sec => rfl
  | empty => rfl

theorem fallenContract_drawClosed (pl : Plan) (p : Port) (c : Contract) :
    (fallenContract pl p c).drawClosed = c.drawClosed := by
  cases pl with
  | base b =>
    simp only [fallenContract]
    split
    · next h => exact (joinedContract_drawClosed _ c).trans h.2.1.symm
    · rfl
  | draw e sec => rfl
  | empty => rfl

theorem fallenContract_of_not_base (h : ∀ b, pl ≠ .base b) (p : Port) (c : Contract) : fallenContract pl p c = c := by
  cases pl with
  | base b => exact absurd rfl (h b)
  | draw e sec => rfl
  | empty => rfl

theorem madeBeforeBroken (hleaving : ∀ p ∈ tr.leaving, p ∉ tr.plan.ports) (s : State) :
    SwitchesMoved tr s (baseFall tr.plan (makeBeforeBreak tr (s.switchJoining tr) s)) := by
  have hjoining : ∀ p ∈ s.switchJoining tr, p ∉ tr.leaving := fun p hp hl =>
    hleaving p hl (mem_switchJoining.mp hp).planned
  refine ⟨(makeBeforeBreak_changes tr _ s).trans (baseFall_changes tr.plan _), fun p hp hstays closes hcloses => ?_,
    fun p hp => ?_, fun p hp hstays => ?_⟩
  · rw [baseFall_contract, makeBeforeBreak_contract hjoining, if_neg hstays, ← mem_switchJoining (tr := tr)] at *
    rw [fallenContract_joined hp _ _ fun h => (mem_switchJoining.mp h).open]
    exact if_congr hcloses.symm rfl rfl
  · have hno : p ∉ s.switchJoining tr := fun h => hp (mem_switchJoining.mp h).planned
    rw [baseFall_contract, makeBeforeBreak_contract hjoining, if_neg hno, fallenContract_of_unplanned hp]
    split <;> rfl
  · have hno : p ∉ s.switchJoining tr := fun h => hp (mem_switchJoining.mp h).planned
    rw [baseFall_contract, makeBeforeBreak_contract hjoining, if_neg hno, if_neg hstays, fallenContract_of_unplanned hp]

/-- The state as the joining ports have been closed, with no port opened. -/
def joinedState (tr : Transition) (s : State) : State :=
  baseFall tr.plan ((s.switchJoining tr).foldl (fun u p => closeJoining tr.plan p u) s)

theorem closeAndEnd_eq (tr : Transition) (s : State) : closeAndEnd tr s = releaseAndEnd tr (joinedState tr s) := rfl

theorem joinedState_contract (tr : Transition) (s : State) (q : Port) : (joinedState tr s).contract.get q
    = fallenContract tr.plan q
        (if q ∈ s.switchJoining tr then joinedContract tr.plan (s.contract.get q) else s.contract.get q) := by
  rw [joinedState, baseFall_contract]
  congr 1
  exact foldl_contract (F := fun _ c => joinedContract tr.plan c) (fun u p q => closeJoining_contract tr.plan p u q)
    (fun _ c => joinedContract_idem tr.plan c) _ s q

theorem joinedState_changes (tr : Transition) (s : State) : ChangesOnly drawParts s (joinedState tr s) :=
  .trans (.foldl (fun u p => (closeJoining_changes tr.plan p u).mono (switch_draw_sub p)) _ s) (baseFall_changes tr.plan _)

theorem joinedState_unplanned (hp : p ∉ tr.plan.ports) : (joinedState tr s).contract.get p = s.contract.get p := by
  have hno : p ∉ s.switchJoining tr := fun h => hp (mem_switchJoining.mp h).planned
  rw [joinedState_contract, if_neg hno, fallenContract_of_unplanned hp]

theorem joinedState_planned (hp : p ∈ tr.plan.ports) {closes : Bool}
    (hcloses : closes = true ↔ s.joins tr p ∨ (s.contract.get p).drawClosed = true) :
    (joinedState tr s).contract.get p
      = if closes then closedContract tr.plan (s.contract.get p) else s.contract.get p := by
  rw [joinedState_contract, fallenContract_joined hp _ _ fun h => (mem_switchJoining.mp h).open]
  refine if_congr ?_ rfl rfl
  rw [hcloses, mem_switchJoining]

theorem joined_moved (tr : Transition) (s : State) : SwitchesMoved tr s (joinedState tr s) :=
  ⟨joinedState_changes tr s, fun _ hp _ _ hcloses => joinedState_planned hp hcloses,
    fun p hp => by rw [joinedState_unplanned hp], fun _ hp _ => joinedState_unplanned hp⟩

theorem endedContract_drawClosed (tr : Transition) (p : Port) (c : Contract) :
    (endedContract tr p c).drawClosed = c.drawClosed := by
  unfold endedContract Contract.given
  dsimp only
  split_ifs <;> rfl

/-! ### The break interval and the held switching -/

theorem holdSwitching_contract (tr : Transition) (s : State) (q : Port) : (holdSwitching tr s).contract.get q
    = if q ∈ s.switchJoining tr then { s.contract.get q with role := .none, lastOutcome := .held } else s.contract.get q := by
  unfold holdSwitching
  dsimp only
  rw [endTransition_contract]
  exact foldl_contract (F := fun _ c => { c with role := .none, lastOutcome := .held }) (fun u p q => by simp)
    (fun _ _ => rfl) _ s q

/-- The state as a held switching ends. -/
def heldState (tr : Transition) (s : State) : State :=
  (s.switchJoining tr).foldl (fun u p => u.modContract p fun c => { c with role := .none, lastOutcome := .held }) s

theorem holdSwitching_eq (tr : Transition) (s : State) :
    holdSwitching tr s = endTransition .held s.servicePort (heldState tr s) := rfl

theorem heldState_changes (tr : Transition) (s : State) : ChangesOnly (everyPort .contract) s (heldState tr s) :=
  .foldl (fun u p => (modContract_changes u p _).mono (by simp)) _ s

theorem exec_breakIntervalExpiry (hrun : s.inReset = false) (htr : s.sequencer.transition = some tr) :
    exec .breakIntervalExpiry s = .next (if s.sequencer.breakExpired then closeAndEnd tr s else s) := by
  show execBreakIntervalExpiry s = _
  unfold execBreakIntervalExpiry
  rw [running_free _ hrun]
  simp only [htr]

/-- A row of the expiry whose time has not come changes nothing. -/
theorem exec_breakIntervalExpiry_early (htr : s.sequencer.transition = some tr)
    (h : ∀ n, tr.stage = .breaking n → n < 5) : exec .breakIntervalExpiry s = .next s := by
  cases hrun : s.inReset with
  | false =>
    rw [exec_breakIntervalExpiry hrun htr, if_neg]
    rw [breakExpired_iff]
    rintro ⟨tr', n, htr', hstage, hn⟩
    obtain rfl := Option.some.inj (htr.symm.trans htr')
    exact absurd (h n hstage) (by omega)
  | true => exact exec_of_held hrun nofun nofun

theorem setStage_sequencer (htr : s.sequencer.transition = some tr) (g : Stage) :
    (setStage g s).sequencer = { s.sequencer with transition := some { tr with stage := g } } := by
  simp [setStage, State.modSequencer, htr]

/-- The draw switches opened, the allowances are summed anew. -/
theorem openAll_allowance {l : List Port} (hl : l ≠ []) (s : State) :
    (openAll l s).limit.allowanceSum = allowanceSumOf (openAll l s).contract := by
  obtain ⟨before, last, rfl⟩ := (List.eq_nil_or_concat l).resolve_left hl
  simp only [openAll, List.concat_eq_append, List.foldl_append, List.foldl_cons, List.foldl_nil]
  rfl

theorem openAll_ceiling (l : List Port) (s : State) : (openAll l s).limit.ceiling = s.limit.ceiling := by
  induction l generalizing s with
  | nil => rfl
  | cons a l ih => exact ih _

theorem baseFall_limit (pl : Plan) (s : State) (h : s.limit.allowanceSum = allowanceSumOf s.contract) :
    (baseFall pl s).limit.allowanceSum = allowanceSumOf (baseFall pl s).contract
      ∧ (baseFall pl s).limit.ceiling = s.limit.ceiling := by
  cases pl with
  | base b =>
    simp only [baseFall]
    split
    · exact ⟨rfl, rfl⟩
    · exact ⟨h, rfl⟩
  | draw e sec => exact ⟨h, rfl⟩
  | empty => exact ⟨h, rfl⟩

end

/-- Settles O35. -/
theorem switchingTakesOneOfThreeWays : Obligations.SwitchingTakesOneOfThreeWays := by
  intro s tr htr oneVoltage noneLeaves service
  refine ⟨fun hleaving => ⟨fun hor => ?done, fun hdiffer hsome hbattery => ?breaks, fun hdiffer hsome hbattery => ?held⟩,
    fun n hrun hstage hn => ?expires, fun h => ?early⟩
  case done =>
    by_cases hagrees : s.switchAgrees tr
    · rw [switching_of_agrees htr hagrees]
      refine ⟨switchingDone_of_moved (madeBeforeBroken hleaving s), fun p hp => ?_⟩
      have hno : p ∉ s.switchJoining tr := fun h => hp (mem_switchJoining.mp h).planned
      rw [releaseAndEnd_contract, endedContract_drawClosed, baseFall_contract, fallenContract_of_unplanned hp,
        makeBeforeBreak_contract fun q hq hl => hleaving q hl (mem_switchJoining.mp hq).planned, if_neg hno]
      split <;> rfl
    · have hnone : noneLeaves := hor.resolve_left hagrees
      rw [switching_of_noneLeaves htr hagrees hnone, closeAndEnd_eq]
      refine ⟨switchingDone_of_moved (joined_moved tr s), fun p hp => ?_⟩
      rw [releaseAndEnd_contract, endedContract_drawClosed, joinedState_unplanned hp]
      split
      · next hl => exact Bool.eq_false_iff.mpr fun hclosed => hnone p ⟨hl, hclosed⟩
      · rfl
  case breaks =>
    rw [switching_of_battery htr hdiffer hsome hbattery]
    have hnonempty : s.switchLeaving tr ≠ [] := fun h => hsome fun p hp => by
      have := mem_switchLeaving.mpr hp
      simp [h] at this
    have hallowance := openAll_allowance hnonempty s
    have hceiling := openAll_ceiling (s.switchLeaving tr) s
    have hopened := openAll_contract (s.switchLeaving tr) s
    have hopenedChanges := openAll_changes (s.switchLeaving tr) s
    generalize openAll (s.switchLeaving tr) s = v at *
    obtain ⟨hallowance', hceiling'⟩ := baseFall_limit tr.plan v hallowance
    have hchanges := hopenedChanges.trans (baseFall_changes tr.plan v)
    have htr' : (baseFall tr.plan v).sequencer.transition = some tr := by rw [sequencer_of_draw hchanges, htr]
    have hcontract (p : Port) : (setStage (.breaking 0) (baseFall tr.plan v)).contract.get p
        = fallenContract tr.plan p (v.contract.get p) := baseFall_contract tr.plan v p
    refine ⟨?_, fun p hp => ?_, fun p hp => ?_, fun p hp hdraw => ?_, hceiling'.trans hceiling, hallowance', ?_⟩
    · rw [setStage_sequencer htr', sequencer_of_draw hchanges]
    · rw [hcontract, fallenContract_of_unplanned (hleaving p hp), hopened]
      split
      · rfl
      · next hno =>
        have hopen := Bool.eq_false_iff.mpr fun hclosed => hno (mem_switchLeaving.mpr ⟨hp, hclosed⟩)
        rw [← hopen]
    · have hno : p ∉ s.switchLeaving tr := fun h => hp (mem_switchLeaving.mp h).1
      rw [hcontract, fallenContract_drawClosed, hopened, if_neg hno]
    · have hno : p ∉ s.switchLeaving tr := fun h => hp (mem_switchLeaving.mp h).1
      rw [hcontract, fallenContract_of_not_base hdraw, hopened, if_neg hno]
    · exact .then hchanges (service_changes _ _ fun _ => rfl) (by simp [drawParts]) (by simp)
  case held =>
    rw [switching_of_held htr hdiffer hsome hbattery]
    have hheld := heldState_changes tr s
    refine ⟨endTransition_ends _ _ _, ?_, fun p hp => ?_, fun p hp => ?_, ?_, ?_⟩
    · rw [holdSwitching_eq, endTransition_rotation]
      unfold State.servicePort
      rw [sequencer_same hheld (by simp) (by simp)]
      rfl
    · rw [holdSwitching_contract, if_pos (mem_switchJoining.mpr hp)]
    · rw [holdSwitching_contract, if_neg (mt mem_switchJoining.mp hp)]
    · have hnotice : (heldState tr s).link.notices.get (.contract s.servicePort) = _ := hheld (.notice _) (by simp)
      have hclock : (heldState tr s).msCount = s.msCount := hheld .clock (by simp)
      rw [holdSwitching_eq, endTransition_notice, hnotice, hclock]
      exact ⟨_, rfl⟩
    · rw [holdSwitching_eq]
      exact .then hheld (endTransition_changes _ _ _) (by simp) (by simp [service])
  case expires =>
    rw [exec_breakIntervalExpiry hrun htr, if_pos ((breakExpired_iff _).mpr ⟨tr, n, htr, hstage, hn⟩), closeAndEnd_eq]
    refine ⟨_, rfl, switchingDone_of_moved (joined_moved tr s), fun p hp hjoins => ?_, fun p hp => ?_⟩
    · have hcloses : true = true ↔ s.joins tr p ∨ (s.contract.get p).drawClosed = true := by
        refine iff_of_true rfl ?_
        cases hclosed : (s.contract.get p).drawClosed with
        | true => exact .inr rfl
        | false => exact .inl ⟨hp, hjoins, hclosed⟩
      have hclosed : (if p ∈ tr.leaving then (closedContract tr.plan (s.contract.get p)).left
          else closedContract tr.plan (s.contract.get p)).drawClosed = true := by
        split <;> exact closedContract_drawClosed _ _
      rw [releaseAndEnd_contract, joinedState_planned hp hcloses, if_pos rfl]
      simp only [endedContract, hp, if_true, Contract.given]
      rw [if_pos hclosed]
      exact ⟨hclosed, rfl, rfl⟩
    · rw [releaseAndEnd_contract, endedContract_drawClosed, joinedState_unplanned hp]
  case early => exact exec_breakIntervalExpiry_early htr h

end Sys2Proof.Machine
end

section
/-! PROOFS. A settled claim, and the claim that follows it (07; R117, R120, R123). -/

namespace Sys2Proof.Machine

open Sys2Proof

section
variable {s t u w : State} {p q : Port} {tr : Transition} {pl : Plan} {e : PlanEntry}

/-! ### The start of a claim (R120) -/

/-- The port steps out: another port draws as well. -/
def State.stepsOut (s : State) (p : Port) : Bool := (s.contract.get p).drawClosed && s.otherDraws p

theorem stepOut_eq (p : Port) (s : State) : stepOut p s = if s.stepsOut p then
    (openDraw p s).modSequencer fun q =>
      { q with transition := q.transition.map fun t => { t with steppedOut := t.steppedOut ++ [p] } }
  else s := rfl

theorem stepOut_changes (p : Port) (s : State) : ChangesOnly (.service :: abortParts p) s (stepOut p s) := by
  rw [stepOut_eq]
  exact .ite (.then (openDraw_changes p s) (service_changes _ _ fun _ => rfl) (by simp [switchParts, abortParts]) (by simp))
    (.refl _ s)

theorem stepOut_contract (p : Port) (s : State) : (stepOut p s).contract.get p
    = { s.contract.get p with drawClosed := (s.contract.get p).drawClosed && !s.otherDraws p } := by
  have hclosed : ((s.contract.get p).drawClosed && !s.otherDraws p)
      = if s.stepsOut p then false else (s.contract.get p).drawClosed := by
    unfold State.stepsOut
    cases (s.contract.get p).drawClosed <;> cases s.otherDraws p <;> rfl
  rw [stepOut_eq, hclosed]
  split
  · exact openDraw_contract p s
  · rfl

/-- The claim of an entry as it starts: a CLAIM on the talk line, or the settling of a legacy supply. -/
def claimingContract (e : PlanEntry) (c : Contract) : Contract :=
  match e.source with
  | .talk => { c.withoutClaim with state := .claiming, pending := some e.pendingTerms }
  | .legacy =>
    { c.withoutClaim with state := .settling, pending := some e.pendingTerms,
                          details := some { current := e.requested, ready := none }, settleTimer := some 0 }

/-- The state as the entry's port has stepped out, if it does. -/
def claimState (e : PlanEntry) (g : Stage) (s : State) : State := stepOut e.port (setStage g s)

theorem startClaim_eq (e : PlanEntry) (g : Stage) (s : State) : startClaim e g s
    = match e.source with
      | .talk => requestExchange e.port
          (.claim { generation := e.generation, point := e.point, voltage := e.voltage, current := e.requested })
          ((claimState e g s).modContract e.port (claimingContract e))
      | .legacy =>
        ((claimState e g s).modContract e.port (claimingContract e)).modDrawMonitor e.port DrawMonitor.suspendTests := by
  unfold startClaim claimingContract
  cases e.source <;> rfl

theorem requestExchange_onLine (p : Port) (k : ExchangeKind) (s : State) : onLine p s (requestExchange p k s) := by
  unfold requestExchange
  split
  · exact startExchange_onLine p k s
  · exact modFramer_onLine p _ s

theorem setStage_changes (g : Stage) (s : State) : ChangesOnly [.service] s (setStage g s) :=
  service_changes s _ fun _ => rfl

theorem claimState_changes (e : PlanEntry) (g : Stage) (s : State) :
    ChangesOnly (.service :: abortParts e.port) s (claimState e g s) :=
  .then (setStage_changes g s) (stepOut_changes e.port _) (by simp) (fun _ h => h)

theorem startClaim_changes (e : PlanEntry) (g : Stage) (s : State) :
    ChangesOnly (.service :: abortParts e.port) s (startClaim e g s) := by
  have hclaimed := (claimState_changes e g s).trans
    ((modContract_changes (claimState e g s) e.port (claimingContract e)).mono
      (l' := .service :: abortParts e.port) (by simp [abortParts]))
  rw [startClaim_eq]
  split
  · exact hclaimed.trans ((requestExchange_onLine e.port _ _).1.mono (by simp [placeParts, abortParts]))
  · exact hclaimed.trans ((modDrawMonitor_changes _ e.port _).mono (by simp [abortParts]))

theorem otherDraws_setStage (g : Stage) (p : Port) (s : State) : (setStage g s).otherDraws p = s.otherDraws p := rfl

theorem startClaim_contract (e : PlanEntry) (g : Stage) (s : State) : (startClaim e g s).contract.get e.port
    = { claimingContract e (s.contract.get e.port) with
        drawClosed := (s.contract.get e.port).drawClosed && !s.otherDraws e.port } := by
  have hclaimed : ((claimState e g s).modContract e.port (claimingContract e)).contract.get e.port
      = { claimingContract e (s.contract.get e.port) with
          drawClosed := (s.contract.get e.port).drawClosed && !s.otherDraws e.port } := by
    rw [State.modContract_contract, Four.get_set_same, claimState, stepOut_contract, otherDraws_setStage]
    unfold claimingContract
    cases e.source <;> rfl
  rw [startClaim_eq]
  split
  · rw [(requestExchange_onLine e.port _ _).contract e.port, hclaimed]
  · exact hclaimed

theorem claimingContract_pending (e : PlanEntry) (c : Contract) :
    (claimingContract e c).pending = some e.pendingTerms
      ∧ ((claimingContract e c).state = .claiming ∨ (claimingContract e c).state = .settling) := by
  unfold claimingContract
  cases e.source
  · exact ⟨rfl, .inl rfl⟩
  · exact ⟨rfl, .inr rfl⟩

theorem stepOut_inService (p : Port) (s : State) : (stepOut p s).sequencer.inService = s.sequencer.inService := by
  rw [stepOut_eq]
  split <;> rfl

theorem startClaim_inService (e : PlanEntry) (g : Stage) (s : State) :
    (startClaim e g s).sequencer.inService = s.sequencer.inService := by
  have hstate : (claimState e g s).sequencer.inService = s.sequencer.inService := stepOut_inService e.port _
  rw [startClaim_eq]
  split
  · rw [(requestExchange_onLine e.port _ _).service.1]
    exact hstate
  · exact hstate

/-! ### What a switching leaves of a port that does not leave -/

/-- The contract has the same terms; its draw switch, its role and its outcome may have moved. -/
def Contract.sameTerms (c d : Contract) : Prop :=
  d.state = c.state ∧ d.base = c.base ∧ d.established = c.established ∧ d.pending = c.pending ∧ d.details = c.details

theorem Contract.sameTerms.refl (c : Contract) : c.sameTerms c := ⟨rfl, rfl, rfl, rfl, rfl⟩

theorem Contract.sameTerms.trans {c d e : Contract} (h : c.sameTerms d) (g : d.sameTerms e) : c.sameTerms e := by
  obtain ⟨h1, h2, h3, h4, h5⟩ := h
  obtain ⟨g1, g2, g3, g4, g5⟩ := g
  exact ⟨g1.trans h1, g2.trans h2, g3.trans h3, g4.trans h4, g5.trans h5⟩

/-- The port keeps its terms and its failure count. -/
def keepsTerms (p : Port) (s t : State) : Prop :=
  (s.contract.get p).sameTerms (t.contract.get p) ∧ (t.monitor.get p).failures = (s.monitor.get p).failures

theorem keepsTerms.refl (p : Port) (s : State) : keepsTerms p s s := ⟨.refl _, rfl⟩

theorem keepsTerms.trans (h : keepsTerms p s t) (g : keepsTerms p t u) : keepsTerms p s u :=
  ⟨h.1.trans g.1, g.2.trans h.2⟩

theorem keepsTerms.foldl {f : State → Port → State} (h : ∀ u q, keepsTerms p u (f u q)) (l : List Port) (s : State) :
    keepsTerms p s (l.foldl f s) := by
  induction l generalizing s with
  | nil => exact .refl p s
  | cons a l ih => exact (h s a).trans (ih _)

theorem keepsTerms.of_changes {l : List Part} (h : ChangesOnly l s t) (hcontract : .contract p ∉ l)
    (hmonitor : .monitor p ∉ l) : keepsTerms p s t := by
  refine ⟨?_, congrArg Monitor.failures (h (.monitor p) hmonitor)⟩
  rw [show t.contract.get p = s.contract.get p from h (.contract p) hcontract]
  exact .refl _

theorem openAll_keepsTerms (l : List Port) (s : State) : keepsTerms p s (openAll l s) := by
  refine ⟨?_, congrArg Monitor.failures (openAll_changes l s (.monitor p) (by simp [drawParts]))⟩
  rw [openAll_contract]
  split <;> exact ⟨rfl, rfl, rfl, rfl, rfl⟩

theorem closeJoining_keepsTerms (hpl : ∀ b, pl ≠ .base b) (q : Port) (s : State) : keepsTerms p s (closeJoining pl q s) := by
  refine ⟨?_, congrArg Monitor.failures (closeJoining_changes pl q s (.monitor p) (by simp [switchParts]))⟩
  rw [closeJoining_contract]
  split
  · next h =>
    subst h
    cases pl with
    | base b => exact absurd rfl (hpl b)
    | draw e sec => exact ⟨rfl, rfl, rfl, rfl, rfl⟩
    | empty => exact ⟨rfl, rfl, rfl, rfl, rfl⟩
  · exact .refl _

theorem baseFall_keepsTerms (hpl : ∀ b, pl ≠ .base b) (s : State) : keepsTerms p s (baseFall pl s) := by
  cases pl with
  | base b => exact absurd rfl (hpl b)
  | draw e sec => exact .refl p s
  | empty => exact .refl p s

theorem leavePort_keepsTerms (hq : p ≠ q) (s : State) : keepsTerms p s (leavePort q s) := by
  refine ⟨by rw [leavePort_contract, if_neg hq]; exact .refl _, ?_⟩
  have hline : onLine q s (if (s.contract.get q).sendsRelease then place q .release s else s) :=
    .ite (place_onLine q .release s) (.refl q s)
  exact congrArg Monitor.failures (hline.same (part := .monitor p) (by simp [placeParts, hq]))

theorem modContract_keepsTerms {q : Port} {g : Contract → Contract} (hg : ∀ c : Contract, c.sameTerms (g c)) (s : State) :
    keepsTerms p s (s.modContract q g) := by
  refine ⟨?_, rfl⟩
  rw [State.modContract_contract, Four.get_set]
  split
  · next h =>
    subst h
    exact hg _
  · exact .refl _

theorem endTransition_keepsTerms (o : ContractOutcome) (q : Port) (s : State) : keepsTerms p s (endTransition o q s) :=
  .of_changes (endTransition_changes o q s) (by simp) (by simp)

theorem foldl_leavePort_keepsTerms {l : List Port} (hp : p ∉ l) (s : State) :
    keepsTerms p s (l.foldl (fun u q => leavePort q u) s) := by
  induction l generalizing s with
  | nil => exact .refl p s
  | cons a l ih =>
    obtain ⟨ha, hl⟩ := not_or.mp (mt List.mem_cons.mpr hp)
    exact (leavePort_keepsTerms ha s).trans (ih hl _)

theorem releaseAndEnd_keepsTerms (hp : p ∉ tr.leaving) (s : State) : keepsTerms p s (releaseAndEnd tr s) := by
  rw [releaseAndEnd_eq]
  refine .trans ?_ (endTransition_keepsTerms _ _ _)
  refine .trans (.trans (foldl_leavePort_keepsTerms hp s) (.foldl (fun u q => ?_) _ _)) (.foldl (fun u q => ?_) _ _)
  · refine modContract_keepsTerms ?_ u
    exact fun c => ⟨rfl, rfl, rfl, rfl, rfl⟩
  · split
    · refine modContract_keepsTerms ?_ u
      exact fun c => ⟨rfl, rfl, rfl, rfl, rfl⟩
    · exact .refl p u

theorem makeBeforeBreak_keepsTerms (hpl : ∀ b, tr.plan ≠ .base b) (joining : List Port) (s : State) :
    keepsTerms p s (makeBeforeBreak tr joining s) := by
  refine .trans (.foldl (fun u q => ?_) joining s) (openAll_keepsTerms _ _)
  refine .trans ?_ (closeJoining_keepsTerms hpl q _)
  split
  · exact openAll_keepsTerms _ u
  · exact .refl p u

theorem holdSwitching_keepsTerms (s : State) : keepsTerms p s (holdSwitching tr s) := by
  rw [holdSwitching_eq]
  refine .trans (.foldl (fun u q => modContract_keepsTerms ?_ u) _ s) (endTransition_keepsTerms _ _ _)
  exact fun c => ⟨rfl, rfl, rfl, rfl, rfl⟩

theorem joinedState_keepsTerms (hpl : ∀ b, tr.plan ≠ .base b) (s : State) : keepsTerms p s (joinedState tr s) :=
  .trans (.foldl (fun u q => closeJoining_keepsTerms hpl q u) _ s) (baseFall_keepsTerms hpl _)

theorem switching_keepsTerms (htr : s.sequencer.transition = some tr) (hpl : ∀ b, tr.plan ≠ .base b)
    (hp : p ∉ tr.leaving) : keepsTerms p s (switching s) := by
  by_cases hagrees : s.switchAgrees tr
  · rw [switching_of_agrees htr hagrees]
    exact ((makeBeforeBreak_keepsTerms hpl _ s).trans (baseFall_keepsTerms hpl _)).trans (releaseAndEnd_keepsTerms hp _)
  · by_cases hnone : ∀ q, ¬s.leavesClosed tr q
    · rw [switching_of_noneLeaves htr hagrees hnone, closeAndEnd_eq]
      exact (joinedState_keepsTerms hpl s).trans (releaseAndEnd_keepsTerms hp _)
    · cases hbattery : s.supervisor.batteryPresent with
      | true =>
        rw [switching_of_battery htr hagrees hnone hbattery]
        exact ((openAll_keepsTerms _ s).trans (baseFall_keepsTerms hpl _)).trans
          (.of_changes (service_changes _ _ fun _ => rfl) (by simp) (by simp))
      | false =>
        rw [switching_of_held htr hagrees hnone hbattery]
        exact holdSwitching_keepsTerms s

/-! ### The settled claim (R123) -/

/-- The terms a settled claim is established on. -/
def PendingTerms.settledAt (pt : PendingTerms) (g : GrantDetails) : Terms :=
  { point := pt.point, generation := pt.generation, voltage := pt.voltage, granted := g.current,
    derate := pt.derate, weight := pt.weight, settle := pt.settle, source := pt.source }

/-- The contract of a settled claim. -/
def Contract.settled (c : Contract) (pt : PendingTerms) (g : GrantDetails) : Contract :=
  { c.withoutClaim with state := .active, base := none, established := some (pt.settledAt g) }

theorem settleContract_eq {pt : PendingTerms} {g : GrantDetails} (hpending : (s.contract.get p).pending = some pt)
    (hdetails : (s.contract.get p).details = some g) : settleContract p s
    = recompute (((s.modContract p fun c => c.settled pt g).modDrawMonitor p DrawMonitor.clearCounts).modMonitor p
        fun m => { m with failures := 0 }) := by
  simp only [settleContract, hpending, hdetails]
  rfl

theorem exec_claimSettled (hrun : s.inReset = false) : exec (.claimSettled p) s
    = .next (if (s.contract.get p).hasSettled then continueClaims (settleContract p s) else s) := exec_of_running rfl hrun

theorem continueClaims_of_primary (htr : s.sequencer.transition = some tr) (hstage : tr.stage = .claimPrimary) :
    continueClaims s = claimSecondary tr.plan s := by
  simp only [continueClaims, htr, hstage]

theorem continueClaims_of_later (htr : s.sequencer.transition = some tr) (hstage : tr.stage ≠ .claimPrimary) :
    continueClaims s = switching s := by
  simp only [continueClaims, htr]
  cases h : tr.stage with
  | claimPrimary => exact absurd h hstage
  | start => rfl
  | claimSecondary => rfl
  | breaking n => rfl

theorem claimSecondary_of_claim {e' : PlanEntry} (h : e'.action = .claim) (s : State) :
    claimSecondary (.draw e (some e')) s = startClaim e' .claimSecondary s := by
  simp [claimSecondary, h, EntryAction.isClaim]

theorem isClaim_iff (a : EntryAction) : a.isClaim = true ↔ a = .claim := by cases a <;> simp [EntryAction.isClaim]

theorem claimSecondary_of_none {sec : Option PlanEntry} (h : ∀ e', sec = some e' → e'.action ≠ .claim) (s : State) :
    claimSecondary (.draw e sec) s = switching s := by
  cases sec with
  | none => rfl
  | some e' =>
    have hkept : e'.action.isClaim = false := Bool.eq_false_iff.mpr fun hclaim => h e' rfl ((isClaim_iff _).mp hclaim)
    simp [claimSecondary, hkept]

end

/-- Settles O33. -/
theorem settledClaimIsEstablished : Obligations.SettledClaimIsEstablished := by
  intro s tr e sec p pt g hrun htr hplan hwaits hports hstays hstate hcount hpending hdetails
  have heq := settleContract_eq hpending hdetails
  have hu : (settleContract p s).contract.get p = (s.contract.get p).settled pt g := by
    rw [heq]
    exact Four.get_set_same _ _ _
  have hfailures : ((settleContract p s).monitor.get p).failures = 0 := by
    rw [heq]
    exact congrArg Monitor.failures (Four.get_set_same _ _ _)
  have hchanges : ChangesOnly [.contract p, .drawMonitor p, .monitor p, .limit] s (settleContract p s) :=
    settleContract_changes p s
  have htr' : (settleContract p s).sequencer.transition = some tr := by
    rw [sequencer_same hchanges (by simp) (by simp), htr]
  constructor
  · refine ⟨hu, ?_, ?_, ?_, hchanges.mono (by simp)⟩
    · rw [heq]
      exact Four.get_set_same _ _ _
    · rw [heq]
      exact Four.get_set_same _ _ _
    · rw [heq]
      rfl
  · rw [exec_claimSettled hrun, if_pos ((hasSettled_iff _).mpr ⟨hstate, hcount⟩)]
    have hseq : ChangesOnly sequencerParts s (continueClaims (settleContract p s)) :=
      (settleContract_seq p s).trans (continueClaims_seq _)
    have hnotBase : ∀ b, tr.plan ≠ .base b := by simp [hplan]
    have hswitching := switching_keepsTerms htr' hnotBase hstays
    generalize settleContract p s = u at *
    have hdone {t : State} (ht : keepsTerms p u t) : (t.contract.get p).state = .active ∧ (t.contract.get p).base = none
        ∧ (t.contract.get p).pending = none ∧ (t.contract.get p).details = none
        ∧ (t.contract.get p).established = some (pt.settledAt g) ∧ (t.monitor.get p).failures = 0 := by
      obtain ⟨⟨h1, h2, h3, h4, h5⟩, h6⟩ := ht
      rw [h1, h2, h3, h4, h5, h6, hu]
      exact ⟨rfl, rfl, rfl, rfl, rfl, hfailures⟩
    refine ⟨_, rfl, ?_⟩
    rcases hwaits with ⟨hstage, hp⟩ | ⟨e', he', hstage, hp⟩
    · rw [continueClaims_of_primary htr' hstage, hplan] at hseq ⊢
      by_cases hclaims : ∀ e', sec = some e' → e'.action ≠ .claim
      · rw [claimSecondary_of_none hclaims] at hseq ⊢
        obtain ⟨h1, h2, h3, h4, h5, h6⟩ := hdone hswitching
        exact ⟨h1, h2, h3, h4, h5, h6, fun _ => rfl, fun e' he' _ hclaim => absurd hclaim (hclaims e' he'), hseq⟩
      · obtain ⟨e', he', hclaim⟩ : ∃ e', sec = some e' ∧ e'.action = .claim := by simpa using hclaims
        subst he'
        have hother : p ≠ e'.port := by rw [hp]; exact (hports e' rfl).symm
        have hstarted := startClaim_changes e' .claimSecondary u
        obtain ⟨h1, h2, h3, h4, h5, h6⟩ := hdone (t := startClaim e' .claimSecondary u)
          (.of_changes hstarted (by simp [abortParts, hother]) (by simp [abortParts, hother]))
        obtain ⟨hterms, hclaiming⟩ := claimingContract_pending e' (u.contract.get e'.port)
        have hservice : u.sequencer.inService = s.sequencer.inService := (hchanges .service (by simp)).1
        rw [claimSecondary_of_claim hclaim] at hseq ⊢
        refine ⟨h1, h2, h3, h4, h5, h6, fun h => absurd hclaim (h e' rfl hp), fun e'' he'' _ _ => ?_, hseq⟩
        obtain rfl := Option.some.inj he''
        rw [startClaim_inService, startClaim_contract]
        exact ⟨hservice, hterms, hclaiming⟩
    · have hother : p ≠ e.port := by rw [hp]; exact hports e' he'
      rw [continueClaims_of_later htr' (by simp [hstage])] at hseq ⊢
      obtain ⟨h1, h2, h3, h4, h5, h6⟩ := hdone hswitching
      exact ⟨h1, h2, h3, h4, h5, h6, fun _ => rfl, fun _ _ h => absurd h hother, hseq⟩

end Sys2Proof.Machine
end

section
/-! PROOFS. The draws in agreement are not kept (07; R112, R124): the condition asks for grant details of a claim that
settles, and for none of a claim that awaits its READY, so a READY can bring a claim without details to the settling. -/

namespace Sys2Proof.Machine

open Sys2Proof

/-! ### A claim that awaits its READY with no grant details -/

/-- The plan's one entry: a claim at port 0. -/
def awaitedEntry : PlanEntry :=
  { role := .primary, port := 0, source := .talk, point := 1, generation := 0, rule := 0, voltage := 5000, usable := 3000,
    derated := 0, score := 0, requested := 3000, weight := 1, cap := 3000, derate := 0, settle := 100, action := .claim }

/-- The transition toward it, in which the part waits for the primary's claim. -/
def awaitedTransition : Transition :=
  { plan := .draw awaitedEntry none, joining := [0], leaving := [], steppedOut := [], stage := .claimPrimary }

/-- The claim awaits its READY; no grant details are recorded. -/
def awaitingContract : Contract :=
  { Contract.reset with state := .awaiting, pending := some awaitedEntry.pendingTerms, readyTimer := some 0 }

/-- The READY of generation 0 from branch 0. -/
def readyFrame : RawFrame :=
  { spare := 0, branch := 0, length := 1, payload := [0], check := crc16 [0x05, 0x01, 0x00] }

/-- The part in which the READY arrives. -/
def awaitingState : State :=
  { State.reset with
    inReset := false
    pending := [.ready 0 readyFrame]
    monitor := (Four.const Monitor.reset).set 0 { Monitor.reset with state := .talking, presence := true }
    contract := (Four.const Contract.reset).set 0 awaitingContract
    sequencer := { Sequencer.reset with inService := some 0, transition := some awaitedTransition } }

theorem awaitingState_contract (p : Port) :
    awaitingState.contract.get p = if p = 0 then awaitingContract else Contract.reset := by
  simp [awaitingState]

theorem awaitingState_drawClosed (p : Port) : (awaitingState.contract.get p).drawClosed = false := by
  rw [awaitingState_contract]
  split <;> rfl

theorem awaitingState_drawsAgree : awaitingState.drawsAgree := by
  have hopen := awaitingState_drawClosed
  have hcontract := awaitingState_contract
  have htransition : awaitingState.sequencer.transition = some awaitedTransition := rfl
  refine ⟨nofun, by decide, fun p q _ hp _ => absurd ((hopen p).symm.trans hp) nofun, fun p => ⟨fun h => ?_, fun h => ?_⟩,
    fun tr htr => ?_⟩
  · rw [hcontract p] at h
    split at h
    · exact absurd h nofun
    · exact absurd h nofun
  · rw [hcontract p] at h ⊢
    split at h
    · next hp => exact ⟨by rw [if_pos hp]; nofun, awaitedTransition, htransition, by rw [hp]; rfl⟩
    · exact absurd h nofun
  · obtain rfl := Option.some.inj (htransition.symm.trans htr)
    refine ⟨rfl, nofun, fun p hp => absurd ((hopen p).symm.trans hp) nofun, nofun, by decide, fun e sec hplan => ?_⟩
    obtain ⟨rfl, rfl⟩ : awaitedEntry = e ∧ none = sec := by simpa [awaitedTransition] using hplan
    refine ⟨rfl, nofun, fun x hx => ⟨fun hterms => ?_, fun _ => ?_⟩⟩
    · obtain rfl : x = awaitedEntry := by simpa using hx
      rcases hterms with h | ⟨n, h⟩ | ⟨h, -⟩
      · exact absurd h nofun
      · exact absurd h nofun
      · exact absurd h nofun
    · obtain rfl : x = awaitedEntry := by simpa using hx
      exact ⟨awaitedEntry.pendingTerms, rfl, rfl⟩

/-! ### The READY is taken -/

theorem awaitingState_takes (rest : List Instr) :
    ({ awaitingState with pending := rest } : State).takes 0 kindReady readyFrame := by
  refine ⟨rfl, rfl, ⟨rfl, rfl, nofun⟩, ?_, nofun, Nat.zero_le _, rfl⟩
  decide +kernel

/-- Refutes O59: `awaitingState` meets the condition, and the READY it waits for leaves port 0 SETTLING with no grant
details. -/
theorem not_stepsKeepTheDrawsInAgreement : ¬ Obligations.StepsKeepTheDrawsInAgreement := by
  intro h
  obtain ⟨t, hexec, hready, -⟩ := (denyEndsAndReadyAdvancesTheClaim { awaitingState with pending := [] } 0 readyFrame rfl).2.2
    (awaitingState_takes [])
  obtain ⟨hcontract, -⟩ := hready ⟨rfl, awaitedEntry.pendingTerms, rfl, rfl⟩
  obtain ⟨-, -, -, hports, -⟩ := h awaitingState t awaitingState_drawsAgree ((step_of_waiting rfl).trans hexec)
  obtain ⟨-, hflight⟩ := hports 0
  rw [hcontract] at hflight
  obtain ⟨hdetails, -⟩ := hflight rfl
  exact absurd (hdetails rfl) nofun

end Sys2Proof.Machine
end

section
/-! PROOFS. The grants in force and the records that carry them (09; R14, R154): the list of grants names each pair that
holds one once, and a change of one pair's grant changes the list by one entry. -/

namespace Sys2Proof.Machine

open Sys2Proof

section
variable {s t u : State} {p q : Port} {b d : Nat}

/-! ### Records and their pairs -/

/-- The pairs with a pooled record. -/
def State.keys (s : State) : List (Port × Nat) := s.table.pool.map fun r => (r.port, r.branch)

/-- One pooled record for a pair, and none for a branch 0. -/
def State.keyed (s : State) : Prop := s.keys.Nodup ∧ ∀ k ∈ s.keys, k.2 ≠ 0

/-- The same pairs have records. -/
def sameRecords (s t : State) : Prop :=
  (∀ p, (t.table.own.get p).isSome = (s.table.own.get p).isSome) ∧ t.keys = s.keys

theorem sameRecords.refl (s : State) : sameRecords s s := ⟨fun _ => rfl, rfl⟩

theorem sameRecords.trans (h : sameRecords s t) (g : sameRecords t u) : sameRecords s u :=
  ⟨fun p => (g.1 p).trans (h.1 p), g.2.trans h.2⟩

theorem sameRecords.of_changes {l : List Part} (h : ChangesOnly l s t) (hown : ∀ p, .own p ∉ l) (hpool : .pool ∉ l) :
    sameRecords s t := by
  refine ⟨fun p => by rw [show t.table.own.get p = s.table.own.get p from h (.own p) (hown p)], ?_⟩
  unfold State.keys
  rw [show t.table.pool = s.table.pool from h .pool hpool]

theorem State.keyed.of_same (h : s.keyed) (hsame : sameRecords s t) : t.keyed := by
  unfold State.keyed at *
  rw [hsame.2]
  exact h

theorem isFor_iff (p : Port) (b : Nat) (r : PooledRecord) : r.isFor p b = true ↔ r.port = p ∧ r.branch = b := by
  simp [PooledRecord.isFor]

theorem mem_keys_iff : (p, b) ∈ s.keys ↔ ∃ r ∈ s.table.pool, r.port = p ∧ r.branch = b := by
  simp [State.keys]

theorem hasRecord_iff : s.hasRecord p b = true ↔ (b = 0 ∧ (s.table.own.get p).isSome = true) ∨ (b ≠ 0 ∧ (p, b) ∈ s.keys) := by
  unfold State.hasRecord
  by_cases hb : b = 0
  · simp [hb]
  · simp [hb, mem_keys_iff, isFor_iff]

theorem sameRecords.hasRecord (h : sameRecords s t) (p : Port) (b : Nat) : t.hasRecord p b = s.hasRecord p b := by
  rw [Bool.eq_iff_iff, hasRecord_iff, hasRecord_iff, h.1, h.2]

/-- The pooled record of a pair is the one that is found for it. -/
theorem find_pool (h : s.keyed) {r : PooledRecord} (hr : r ∈ s.table.pool) :
    s.table.pool.find? (PooledRecord.isFor r.port r.branch) = some r := by
  obtain ⟨hnodup, -⟩ := h
  unfold State.keys at hnodup
  generalize s.table.pool = l at hnodup hr
  induction l with
  | nil => exact absurd hr nofun
  | cons x l ih =>
    rw [List.map_cons, List.nodup_cons] at hnodup
    rcases List.mem_cons.mp hr with rfl | hr
    · simp [PooledRecord.isFor]
    · have hx : x.isFor r.port r.branch = false := Bool.eq_false_iff.mpr fun hx => by
        obtain ⟨hport, hbranch⟩ := (isFor_iff _ _ _).mp hx
        exact hnodup.1 (List.mem_map.mpr ⟨r, hr, by rw [hport, hbranch]⟩)
      rw [List.find?_cons_of_neg (by simp [hx]), ih hnodup.2 hr]

theorem grantOf_of_pool (h : s.keyed) {r : PooledRecord} (hr : r ∈ s.table.pool) :
    s.grantOf r.port r.branch = r.grant := by
  have hbranch : r.branch ≠ 0 := h.2 _ (List.mem_map.mpr ⟨r, hr, rfl⟩)
  simp [State.grantOf, hbranch, find_pool h hr]

theorem grantOf_zero (s : State) (p : Port) : s.grantOf p 0 = (s.table.own.get p).bind PartnerRecord.grant := rfl

theorem grantOf_pooled (hb : b ≠ 0) : s.grantOf p b = (s.table.pool.find? (PooledRecord.isFor p b)).bind PooledRecord.grant :=
  if_neg hb

theorem hasRecord_of_grantOf {g : Grant} (h : s.grantOf p b = some g) : s.hasRecord p b = true := by
  rw [hasRecord_iff]
  by_cases hb : b = 0
  · subst hb
    rw [grantOf_zero] at h
    obtain ⟨r, hr, -⟩ := Option.bind_eq_some_iff.mp h
    exact .inl ⟨rfl, by simp [hr]⟩
  · rw [grantOf_pooled hb] at h
    obtain ⟨r, hr, -⟩ := Option.bind_eq_some_iff.mp h
    exact .inr ⟨hb, mem_keys_iff.mpr ⟨r, List.mem_of_find?_eq_some hr, (isFor_iff _ _ _).mp (List.find?_some hr)⟩⟩

/-! ### The list of grants -/

def GrantView.key (g : GrantView) : Port × Nat := (g.port, g.branch)

/-- The grants name a pair exactly where it holds one. -/
theorem mem_grants_iff (h : s.keyed) (g : GrantView) : g ∈ s.grants ↔ s.grantOf g.port g.branch = some g.grant := by
  obtain ⟨p, b, x⟩ := g
  simp only [State.grants, List.mem_append, List.mem_filterMap, Option.map_eq_some_iff]
  constructor
  · rintro (⟨q, -, y, hy, hg⟩ | ⟨r, hr, y, hy, hg⟩)
    · obtain ⟨rfl, rfl, rfl⟩ : q = p ∧ 0 = b ∧ y = x := by simpa using hg
      exact hy
    · obtain ⟨rfl, rfl, rfl⟩ : r.port = p ∧ r.branch = b ∧ y = x := by simpa using hg
      exact (grantOf_of_pool h hr).trans hy
  · intro hx
    by_cases hb : b = 0
    · subst hb
      exact .inl ⟨p, mem_allPorts p, x, hx, rfl⟩
    · rw [grantOf_pooled hb] at hx
      obtain ⟨r, hr, hgrant⟩ := Option.bind_eq_some_iff.mp hx
      obtain ⟨rfl, rfl⟩ := (isFor_iff _ _ _).mp (List.find?_some hr)
      exact .inr ⟨r, List.mem_of_find?_eq_some hr, x, hgrant, rfl⟩

theorem keys_filterMap_sublist {α : Type} (key : α → Port × Nat) (grant : α → Option Grant) (l : List α) :
    ((l.filterMap fun a => (grant a).map fun g => ({ port := (key a).1, branch := (key a).2, grant := g } : GrantView)).map
      GrantView.key).Sublist (l.map key) := by
  induction l with
  | nil => exact .slnil
  | cons a l ih =>
    rw [List.filterMap_cons, List.map_cons]
    cases grant a with
    | none => exact ih.cons _
    | some g => exact ih.cons_cons _

/-- A pair holds one grant at the most. -/
theorem grants_keys_nodup (h : s.keyed) : (s.grants.map GrantView.key).Nodup := by
  obtain ⟨hnodup, hzero⟩ := h
  have hown := keys_filterMap_sublist (fun p : Port => (p, 0)) (fun p => (s.table.own.get p).bind PartnerRecord.grant) allPorts
  have hpool := keys_filterMap_sublist (fun r : PooledRecord => (r.port, r.branch)) PooledRecord.grant s.table.pool
  rw [State.grants, List.map_append, List.nodup_append]
  refine ⟨hown.nodup (by decide), hpool.nodup hnodup, fun k hk k' hk' heq => ?_⟩
  obtain ⟨p, -, rfl⟩ := List.mem_map.mp (hown.subset hk)
  exact hzero k' (hpool.subset hk') (by rw [← heq])

theorem grants_nodup (h : s.keyed) : s.grants.Nodup := (grants_keys_nodup h).of_map _

/-- One pair more holds a grant. -/
theorem grants_perm (hs : s.keyed) (ht : t.keyed) {g : Grant} (hnone : s.grantOf p b = none) (hsome : t.grantOf p b = some g)
    (hother : ∀ q d, (q ≠ p ∨ d ≠ b) → t.grantOf q d = s.grantOf q d) :
    t.grants.Perm ({ port := p, branch := b, grant := g } :: s.grants) := by
  have hnew : ({ port := p, branch := b, grant := g } : GrantView) ∉ s.grants := by
    rw [mem_grants_iff hs, hnone]
    exact nofun
  rw [List.perm_ext_iff_of_nodup (grants_nodup ht) (List.nodup_cons.mpr ⟨hnew, grants_nodup hs⟩)]
  rintro ⟨q, d, x⟩
  rw [List.mem_cons, mem_grants_iff ht, mem_grants_iff hs]
  by_cases hkey : q = p ∧ d = b
  · obtain ⟨rfl, rfl⟩ := hkey
    simp [hnone, hsome, eq_comm]
  · have hkey : q ≠ p ∨ d ≠ b := not_and_or.mp hkey
    rw [hother q d hkey]
    refine ⟨.inr, fun h => h.resolve_left fun h => ?_⟩
    obtain ⟨rfl, rfl, -⟩ : q = p ∧ d = b ∧ x = g := by simpa using h
    exact hkey.elim (absurd rfl) (absurd rfl)

theorem mem_portGrants_iff (h : s.keyed) (p : Port) (g : GrantView) :
    g ∈ s.portGrants p ↔ g.port = p ∧ s.grantOf g.port g.branch = some g.grant := by
  rw [State.portGrants, List.mem_filter, mem_grants_iff h, beq_iff_eq, and_comm]

theorem portGrants_eq_nil_iff (h : s.keyed) (p : Port) : s.portGrants p = [] ↔ ∀ b, s.grantOf p b = none := by
  rw [List.eq_nil_iff_forall_not_mem]
  constructor
  · intro hno b
    cases hg : s.grantOf p b with
    | none => rfl
    | some g => exact absurd ((mem_portGrants_iff h p ⟨p, b, g⟩).mpr ⟨rfl, hg⟩) (hno _)
  · rintro hnone g hg
    obtain ⟨rfl, hgrant⟩ := (mem_portGrants_iff h p g).mp hg
    exact absurd ((hnone g.branch).symm.trans hgrant) nofun

/-! ### Sums of currents (R154) -/

theorem currentOf_cons (g : GrantView) (l : List GrantView) : currentOf (g :: l) = g.grant.current + currentOf l := by
  simp [currentOf]

theorem currentOf_perm {l l' : List GrantView} (h : l.Perm l') : currentOf l = currentOf l' := (h.map _).sum_eq

theorem reserved_eq (s : State) : s.reserved = currentOf s.grants * 5 := by
  show currentOf s.grants * 5000 / 1000 = _
  omega

theorem budgetRoom_eq (s : State) : s.budgetRoom = (s.supply.budget - currentOf s.grants * 5) * 1000 / 5000 / 10 * 10 := by
  rw [State.budgetRoom, reserved_eq]
  rfl

theorem portRoom_eq (s : State) (p : Port) : s.portRoom p = s.policy.active.params[13] - currentOf (s.portGrants p) := rfl

/-! ### Writing one pair's grant -/

theorem setGrant_records (p : Port) (b : Nat) (g : Option Grant) (s : State) : sameRecords s (setGrant p b g s) := by
  unfold setGrant
  split
  · refine ⟨fun q => ?_, rfl⟩
    show ((s.table.own.set p _).get q).isSome = _
    rw [Four.get_set]
    split
    · next hq => rw [hq, Option.isSome_map]
    · rfl
  · refine ⟨fun q => rfl, ?_⟩
    show (List.map _ (List.map _ s.table.pool)) = _
    rw [List.map_map]
    refine List.map_congr_left fun r _ => ?_
    simp only [Function.comp_apply]
    split <;> rfl

theorem find_setGrant (l : List PooledRecord) (p : Port) (b : Nat) (g : Option Grant) (q : Port) (d : Nat) :
    (l.map fun r => if r.isFor p b then { r with grant := g } else r).find? (PooledRecord.isFor q d)
      = (l.find? (PooledRecord.isFor q d)).map fun r => if r.isFor p b then { r with grant := g } else r := by
  induction l with
  | nil => rfl
  | cons r l ih =>
    have hkey : PooledRecord.isFor q d (if r.isFor p b then { r with grant := g } else r) = r.isFor q d := by
      split <;> rfl
    rw [List.map_cons, List.find?_cons, List.find?_cons, hkey]
    cases r.isFor q d with
    | true => rfl
    | false => exact ih

theorem setGrant_grantOf_other (g : Option Grant) (s : State) (h : q ≠ p ∨ d ≠ b) :
    (setGrant p b g s).grantOf q d = s.grantOf q d := by
  by_cases hb : b = 0
  · subst hb
    by_cases hd : d = 0
    · subst hd
      have hq : q ≠ p := h.resolve_right fun h => h rfl
      simp [setGrant, grantOf_zero, State.setOwn, hq]
    · rw [grantOf_pooled hd, grantOf_pooled hd]
      rfl
  · by_cases hd : d = 0
    · subst hd
      simp [setGrant, hb, grantOf_zero, State.setPool]
    · rw [grantOf_pooled hd, grantOf_pooled hd]
      simp only [setGrant, hb, if_false, State.setPool]
      rw [find_setGrant]
      cases hfind : s.table.pool.find? (PooledRecord.isFor q d) with
      | none => rfl
      | some r =>
        obtain ⟨rfl, rfl⟩ := (isFor_iff _ _ _).mp (List.find?_some hfind)
        have hno : r.isFor p b = false := Bool.eq_false_iff.mpr fun hr => by
          obtain ⟨rfl, rfl⟩ := (isFor_iff _ _ _).mp hr
          exact h.elim (absurd rfl) (absurd rfl)
        simp [hno]

theorem setGrant_grantOf (g : Option Grant) (h : s.hasRecord p b = true) : (setGrant p b g s).grantOf p b = g := by
  rw [hasRecord_iff] at h
  by_cases hb : b = 0
  · subst hb
    obtain ⟨r, hr⟩ := Option.isSome_iff_exists.mp (h.resolve_right fun h => h.1 rfl).2
    simp [setGrant, grantOf_zero, State.setOwn, hr]
  · obtain ⟨r, hr, hport, hbranch⟩ := mem_keys_iff.mp (h.resolve_left fun h => hb h.1).2
    have hsome : (s.table.pool.find? (PooledRecord.isFor p b)).isSome = true :=
      List.find?_isSome.mpr ⟨r, hr, (isFor_iff _ _ _).mpr ⟨hport, hbranch⟩⟩
    obtain ⟨x, hx⟩ := Option.isSome_iff_exists.mp hsome
    rw [grantOf_pooled hb]
    simp only [setGrant, hb, if_false, State.setPool]
    rw [find_setGrant, hx]
    simp [List.find?_some hx]

theorem setGrant_none_grantOf (p : Port) (b : Nat) (s : State) : (setGrant p b none s).grantOf p b = none := by
  cases h : s.hasRecord p b with
  | true => exact setGrant_grantOf none h
  | false =>
    cases hg : (setGrant p b none s).grantOf p b with
    | none => rfl
    | some g =>
      have := hasRecord_of_grantOf hg
      rw [(setGrant_records p b none s).hasRecord, h] at this
      exact absurd this nofun

/-! ### One function on every grant -/

theorem mapGrants_records (f : Grant → Grant) (s : State) : sameRecords s (mapGrants f s) := by
  refine ⟨fun p => ?_, ?_⟩
  · simp only [mapGrants, Four.get_map, Option.isSome_map]
  · show List.map _ (List.map _ s.table.pool) = _
    rw [List.map_map]
    rfl

theorem mapGrants_grants (f : Grant → Grant) (s : State) :
    (mapGrants f s).grants = s.grants.map fun g => { g with grant := f g.grant } := by
  simp only [State.grants, mapGrants, List.map_append, List.map_filterMap, List.filterMap_map, Four.get_map]
  congr 1
  · refine List.filterMap_congr fun p _ => ?_
    cases s.table.own.get p <;> simp [Option.map_map]
    rfl
  · refine List.filterMap_congr fun r _ => ?_
    simp [Option.map_map]
    rfl

theorem mapGrants_grantOf (f : Grant → Grant) (s : State) (p : Port) (b : Nat) :
    (mapGrants f s).grantOf p b = (s.grantOf p b).map f := by
  by_cases hb : b = 0
  · subst hb
    simp only [grantOf_zero, mapGrants, Four.get_map]
    cases s.table.own.get p <;> rfl
  · rw [grantOf_pooled hb, grantOf_pooled hb]
    simp only [mapGrants, List.find?_map]
    have hkey : (PooledRecord.isFor p b ∘ fun r : PooledRecord => { r with grant := r.grant.map f }) = PooledRecord.isFor p b := rfl
    rw [hkey]
    cases s.table.pool.find? (PooledRecord.isFor p b) <;> rfl

end

end Sys2Proof.Machine
end

section
/-! PROOFS. The making of a grant and the service of the wait list (09; R154, R157, R161). -/

namespace Sys2Proof.Machine

open Sys2Proof

section
variable {s t u : State} {p q : Port} {b d : Nat}

/-! ### What leaves the grants as they are -/

theorem table_of_changes {l : List Part} (h : ChangesOnly l s t) (hown : ∀ p, .own p ∉ l) (hpool : .pool ∉ l) :
    t.table = s.table := by
  have hpool' : t.table.pool = s.table.pool := h .pool hpool
  have hown' : t.table.own = s.table.own := Four.ext_get fun p => h (.own p) (hown p)
  cases ht : t.table
  cases hs : s.table
  simp_all

theorem grantOf_of_table (h : t.table = s.table) (p : Port) (b : Nat) : t.grantOf p b = s.grantOf p b := by
  unfold State.grantOf
  rw [h]

theorem grants_of_table (h : t.table = s.table) : t.grants = s.grants := by
  unfold State.grants
  rw [h]

theorem records_of_table (h : t.table = s.table) : sameRecords s t := by
  unfold sameRecords State.keys
  rw [h]
  exact ⟨fun _ => rfl, rfl⟩

theorem place_table (p : Port) (f : EngineFrame) (s : State) : (place p f s).table = s.table :=
  table_of_changes (place_changes p f s) (by simp [placeParts]) (by simp [placeParts])

theorem place_supply (p : Port) (f : EngineFrame) (s : State) : (place p f s).supply = s.supply := by
  unfold place transmit
  dsimp only
  split <;> rfl

/-! ### The order numbers (R157) -/

/-- A grant as it is renumbered. -/
def State.renumbered (s : State) (g : Grant) : Grant :=
  { g with order := 1 + (s.grants.filter fun h => decide (h.grant.order < g.order)).length }

theorem renumber_eq (s : State) : renumber s
    = (mapGrants s.renumbered s).modSupply fun u => { u with orderCounter := s.grants.length } := by
  have hrank (g : Grant) : (s.orders.filter (· < g.order)).length
      = (s.grants.filter fun h => decide (h.grant.order < g.order)).length := by
    rw [State.orders, List.filter_map, List.length_map]
    rfl
  have hcount : s.orders.length = s.grants.length := List.length_map _
  unfold renumber State.renumbered
  simp only [hrank, hcount]

/-- The order number of the next grant. -/
def State.nextOrder (s : State) : Nat := if s.supply.orderCounter < 65535 then s.supply.orderCounter + 1 else s.grants.length + 1

theorem takeOrder_of_room (h : s.supply.orderCounter < 65535) :
    takeOrder s = s.modSupply fun u => { u with orderCounter := u.orderCounter + 1 } := by
  unfold takeOrder
  rw [if_neg (by omega)]

theorem takeOrder_of_full (h : ¬s.supply.orderCounter < 65535) :
    takeOrder s = (renumber s).modSupply fun u => { u with orderCounter := u.orderCounter + 1 } := by
  unfold takeOrder
  rw [if_pos (by omega)]

theorem takeOrder_counter (s : State) : (takeOrder s).supply.orderCounter = s.nextOrder := by
  unfold State.nextOrder
  split
  · next h => rw [takeOrder_of_room h]; rfl
  · next h => rw [takeOrder_of_full h, renumber_eq]; rfl

theorem takeOrder_supply (s : State) : (takeOrder s).supply = { s.supply with orderCounter := s.nextOrder } := by
  unfold State.nextOrder
  split
  · next h => rw [takeOrder_of_room h]; rfl
  · next h => rw [takeOrder_of_full h, renumber_eq]; rfl

theorem takeOrder_grantOf (s : State) (p : Port) (b : Nat) : (takeOrder s).grantOf p b
    = if s.supply.orderCounter < 65535 then s.grantOf p b else (s.grantOf p b).map s.renumbered := by
  split
  · next h => rw [takeOrder_of_room h]; rfl
  · next h => rw [takeOrder_of_full h, renumber_eq, ← mapGrants_grantOf]; rfl

theorem takeOrder_records (s : State) : sameRecords s (takeOrder s) := by
  by_cases h : s.supply.orderCounter < 65535
  · rw [takeOrder_of_room h]
    exact ⟨fun _ => rfl, rfl⟩
  · rw [takeOrder_of_full h, renumber_eq]
    exact mapGrants_records _ s

theorem takeOrder_parts (h : s.supply.orderCounter < 65535) : ChangesOnly [.orderCounter] s (takeOrder s) := by
  rw [takeOrder_of_room h]
  intro part hpart
  cases part <;> simp_all [Part.same]

theorem takeOrder_all_parts (s : State) : ChangesOnly (.orderCounter :: .pool :: everyPort .own) s (takeOrder s) := by
  by_cases h : s.supply.orderCounter < 65535
  · exact (takeOrder_parts h).mono (by simp)
  · rw [takeOrder_of_full h, renumber_eq]
    intro part hpart
    cases part <;> simp_all [Part.same, mapGrants]

/-! ### A grant is written and told (R157) -/

theorem setGrant_parts (p : Port) (b : Nat) (g : Option Grant) (s : State) : ChangesOnly [.own p, .pool] s (setGrant p b g s) := by
  unfold setGrant
  exact .ite ((setOwn_changes s p _).mono (by simp)) ((setPool_changes s _).mono (by simp))

theorem setSupplySwitch_parts (p : Port) (c : Bool) (s : State) : ChangesOnly [.supplySwitch p] s (setSupplySwitch p c s) := by
  intro part hpart
  cases part <;> simp_all [Part.same, setSupplySwitch]

theorem setGrant_supply (p : Port) (b : Nat) (g : Option Grant) (s : State) : (setGrant p b g s).supply = s.supply := by
  unfold setGrant
  split <;> rfl

/-- A pair's grant is written and its partner told: the shared core of a grant, a renewal and a reduction. -/
def grantTold (p : Port) (b : Nat) (g : Grant) (s : State) : State := place p (.supply b g.current) (setGrant p b (some g) s)

theorem grantTold_grantOf (g : Grant) (h : s.hasRecord p b = true) : (grantTold p b g s).grantOf p b = some g := by
  rw [grantTold, grantOf_of_table (place_table _ _ _), setGrant_grantOf _ h]

theorem grantTold_grantOf_other (g : Grant) (s : State) (h : q ≠ p ∨ d ≠ b) :
    (grantTold p b g s).grantOf q d = s.grantOf q d := by
  rw [grantTold, grantOf_of_table (place_table _ _ _), setGrant_grantOf_other _ _ h]

theorem grantTold_records (p : Port) (b : Nat) (g : Grant) (s : State) : sameRecords s (grantTold p b g s) :=
  (setGrant_records p b _ s).trans (records_of_table (place_table _ _ _))

theorem grantTold_supply (p : Port) (b : Nat) (g : Grant) (s : State) : (grantTold p b g s).supply = s.supply :=
  (place_supply _ _ _).trans (setGrant_supply p b _ s)

theorem setGrant_framer (p : Port) (b : Nat) (g : Option Grant) (s : State) : (setGrant p b g s).framer = s.framer := by
  unfold setGrant
  split <;> rfl

theorem grantTold_changes (p : Port) (b : Nat) (g : Grant) (s : State) :
    ChangesOnly [.framer p, .monitor p, .own p, .pool] s (grantTold p b g s) :=
  .then (setGrant_parts p b _ s) (place_changes p _ _) (by simp) (by simp [placeParts])

theorem State.lineQuiet.of_framer (h : s.lineQuiet p) (hf : t.framer.get p = s.framer.get p) : t.lineQuiet p := by
  unfold State.lineQuiet State.lineIdle at *
  rw [hf]
  exact h

theorem grantTold_sends (h : s.lineQuiet p) (b : Nat) (g : Grant) :
    ((grantTold p b g s).framer.get p).sending = some (.engine (.supply b g.current)) := by
  rw [grantTold, place_sends (h.of_framer (by rw [setGrant_framer])) rfl]

/-! ### A grant is made (R157) -/

theorem makeGrant_eq (p : Port) (b current requested : Nat) (s : State) : makeGrant p b current requested s
    = postSupply noticeGranted p b (setSupplySwitch p true
        (grantTold p b { current := current, requested := requested, order := s.nextOrder } (takeOrder s))) := by
  rw [← takeOrder_counter]
  rfl

theorem makeGrant_table (p : Port) (b current requested : Nat) (s : State) : (makeGrant p b current requested s).table
    = (grantTold p b { current := current, requested := requested, order := s.nextOrder } (takeOrder s)).table := by
  rw [makeGrant_eq]
  rfl

theorem makeGrant_grantOf (current requested : Nat) (h : s.hasRecord p b = true) :
    (makeGrant p b current requested s).grantOf p b
      = some { current := current, requested := requested, order := s.nextOrder } := by
  rw [grantOf_of_table (makeGrant_table p b current requested s), grantTold_grantOf]
  rw [(takeOrder_records s).hasRecord]
  exact h

theorem makeGrant_grantOf_other (current requested : Nat) (s : State) (h : q ≠ p ∨ d ≠ b) :
    (makeGrant p b current requested s).grantOf q d
      = if s.supply.orderCounter < 65535 then s.grantOf q d else (s.grantOf q d).map s.renumbered := by
  rw [grantOf_of_table (makeGrant_table p b current requested s), grantTold_grantOf_other _ _ h, takeOrder_grantOf]

theorem makeGrant_records (p : Port) (b current requested : Nat) (s : State) :
    sameRecords s (makeGrant p b current requested s) :=
  ((takeOrder_records s).trans (grantTold_records p b _ _)).trans (records_of_table (makeGrant_table p b current requested s))

theorem makeGrant_supply (p : Port) (b current requested : Nat) (s : State) : (makeGrant p b current requested s).supply
    = { s.supply with orderCounter := s.nextOrder, switchClosed := s.supply.switchClosed.set p true } := by
  have hcore := (grantTold_supply p b { current := current, requested := requested, order := s.nextOrder }
    (takeOrder s)).trans (takeOrder_supply s)
  rw [makeGrant_eq]
  generalize grantTold p b _ _ = v at hcore ⊢
  show { v.supply with switchClosed := v.supply.switchClosed.set p true } = _
  rw [hcore]

theorem makeGrant_notice (p : Port) (b current requested : Nat) (s : State) :
    (makeGrant p b current requested s).link.notices.get .supply
      = some (postTo (s.link.notices.get .supply) noticeGranted (snapshotOf p.val b 0 0) s.msCount) := by
  have hcore := (takeOrder_all_parts s).then (grantTold_changes p b { current := current, requested := requested, order := s.nextOrder }
    (takeOrder s)) (l := .framer p :: .monitor p :: .orderCounter :: .pool :: everyPort .own) (by simp) (by simp)
  rw [makeGrant_eq]
  refine (post_notice .supply noticeGranted _ _).trans ?_
  congr 2
  · exact hcore (.notice .supply) (by simp)
  · exact hcore .clock (by simp)

theorem makeGrant_framer (p : Port) (b current requested : Nat) (s : State) :
    (makeGrant p b current requested s).framer
      = (grantTold p b { current := current, requested := requested, order := s.nextOrder } (takeOrder s)).framer := by
  rw [makeGrant_eq]
  rfl

theorem takeOrder_framer (s : State) : (takeOrder s).framer = s.framer :=
  Four.ext_get fun q => takeOrder_all_parts s (.framer q) (by simp)

theorem makeGrant_sends (h : s.lineQuiet p) (b current requested : Nat) :
    ((makeGrant p b current requested s).framer.get p).sending = some (.engine (.supply b current)) := by
  rw [makeGrant_framer]
  exact grantTold_sends (h.of_framer (by rw [takeOrder_framer])) b _

theorem makeGrant_parts (h : s.supply.orderCounter < 65535) (p : Port) (b current requested : Nat) :
    ChangesOnly [.framer p, .monitor p, .own p, .pool, .orderCounter, .supplySwitch p, .notice .supply] s
      (makeGrant p b current requested s) := by
  rw [makeGrant_eq]
  refine .trans (.trans (.then (takeOrder_parts h) (grantTold_changes p b _ _) (by simp) (by simp))
    ((setSupplySwitch_parts p true _).mono (by simp))) ((postSupply_changes _ _ _ _).mono (by simp))

/-! ### The service (R161) -/

theorem supplyBarred_iff (s : State) (p : Port) : s.supplyBarred p = true ↔ (s.contract.get p).drawClosed = true
    ∨ (s.contract.get p).state ≠ .idle ∨ s.isJoining p = true ∨ s.supplies p = true := by
  simp [State.supplyBarred, or_assoc]

theorem isJoining_iff (s : State) (p : Port) :
    s.isJoining p = true ↔ ∃ tr, s.sequencer.transition = some tr ∧ p ∈ tr.joining := by
  unfold State.isJoining
  cases s.sequencer.transition <;> simp

theorem serve_of_empty (h : s.supply.waitList = []) : serve s = s := by
  simp [serve, h, serveRounds]

/-- The current a waiting head would be granted. -/
def State.headCurrent (s : State) (w : WaitEntry) : Nat :=
  min (min w.requested s.policy.active.params[13]) (min s.budgetRoom (s.portRoom w.port))

theorem serveHead_eq {w : WaitEntry} {rest : List WaitEntry} (h : s.supply.waitList = w :: rest) : serveHead s
    = if s.supplyBarred w.port then some (answerDeny w.port w.branch .unavailable (setWaitList rest s))
      else if 500 ≤ s.headCurrent w then
        some (makeGrant w.port w.branch (s.headCurrent w) (min w.requested s.policy.active.params[13]) (setWaitList rest s))
      else none := by
  simp only [serveHead, h]
  rfl

theorem serve_of_continues {w : WaitEntry} {rest : List WaitEntry} (h : s.supply.waitList = w :: rest) (hhead : serveHead s = some t)
    (ht : t.supply.waitList = rest) : serve s = serve t := by
  simp [serve, h, serveRounds, hhead, ht]

theorem answerDeny_supply (p : Port) (b : Nat) (r : DenyReason) (s : State) : (answerDeny p b r s).supply = s.supply :=
  place_supply _ _ _

theorem serve_of_barred {w : WaitEntry} {rest : List WaitEntry} (h : s.supply.waitList = w :: rest)
    (hbarred : s.supplyBarred w.port = true) :
    serve s = serve (answerDeny w.port w.branch .unavailable (setWaitList rest s)) :=
  serve_of_continues h (by rw [serveHead_eq h, if_pos hbarred]) (by rw [answerDeny_supply]; rfl)

theorem serve_of_granted {w : WaitEntry} {rest : List WaitEntry} (h : s.supply.waitList = w :: rest)
    (hbarred : ¬s.supplyBarred w.port = true) (hcurrent : 500 ≤ s.headCurrent w) :
    serve s = serve (makeGrant w.port w.branch (s.headCurrent w) (min w.requested s.policy.active.params[13])
      (setWaitList rest s)) :=
  serve_of_continues h (by rw [serveHead_eq h, if_neg hbarred, if_pos hcurrent]) (by rw [makeGrant_supply]; rfl)

/-- The head that stays. -/
def State.loweredHead (s : State) (w : WaitEntry) : WaitEntry := { w with requested := min w.requested s.policy.active.params[13] }

theorem serve_of_stays {w : WaitEntry} {rest : List WaitEntry} (h : s.supply.waitList = w :: rest)
    (hbarred : ¬s.supplyBarred w.port = true) (hcurrent : ¬500 ≤ s.headCurrent w) :
    serve s = setWaitList (s.loweredHead w :: rest) s := by
  have hhead : serveHead s = none := by rw [serveHead_eq h, if_neg hbarred, if_neg hcurrent]
  unfold serve
  rw [h, List.length_cons, serveRounds, hhead]
  simp only [lowerHead, h]
  rfl

end

/-- Settles O23. -/
theorem serviceTakesTheWaitListFromItsHead : Obligations.ServiceTakesTheWaitListFromItsHead := by
  refine ⟨fun s h => serve_of_empty h, fun s w rest hlist => ?head, fun s p b current requested hrecord hroom => ?grant⟩
  case head =>
    have hbarred : (s.supplyBarred w.port = true) ↔ ((s.contract.get w.port).drawClosed = true
        ∨ (s.contract.get w.port).state ≠ .idle
        ∨ (∃ tr, s.sequencer.transition = some tr ∧ w.port ∈ tr.joining) ∨ s.supplies w.port = true) := by
      rw [supplyBarred_iff, isJoining_iff]
    have hcurrent : s.headCurrent w = min (min w.requested s.policy.active.params[13])
        (min ((s.supply.budget - currentOf s.grants * 5) * 1000 / 5000 / 10 * 10)
          (s.policy.active.params[13] - currentOf (s.portGrants w.port))) := by
      rw [State.headCurrent, budgetRoom_eq, portRoom_eq]
    dsimp only
    rw [← hbarred, ← hcurrent]
    exact ⟨serve_of_barred hlist, serve_of_granted hlist, fun hopen hlow => serve_of_stays hlist hopen (by omega)⟩
  case grant =>
    have horder : s.nextOrder = s.supply.orderCounter + 1 := if_pos hroom
    refine ⟨by rw [makeGrant_grantOf _ _ hrecord, horder], fun q d h => ?_, ?_, ?_, makeGrant_notice _ _ _ _ _,
      fun hquiet => makeGrant_sends hquiet _ _ _, makeGrant_parts hroom _ _ _ _⟩
    · rw [makeGrant_grantOf_other _ _ _ h, if_pos hroom]
    · rw [makeGrant_supply, horder]
    · rw [makeGrant_supply]
      exact Four.get_set_same _ _ _

end Sys2Proof.Machine
end

section
/-! PROOFS. A DEMAND at the Supply Unit (09; R15, R155 to R161). -/

namespace Sys2Proof.Machine

open Sys2Proof

section
variable {s t u : State} {p q : Port} {b d : Nat} {f : RawFrame}

/-- A part that reads the same need not be named. -/
theorem ChangesOnly.without {l l' : List Part} (h : ChangesOnly l s t) {x : Part} (hx : x.same s t)
    (hl : ∀ y ∈ l, y = x ∨ y ∈ l') : ChangesOnly l' s t := fun part hpart => by
  by_cases hmem : part ∈ l
  · rw [(hl part hmem).resolve_right hpart]
    exact hx
  · exact h part hmem

/-! ### Services of the wait list, round by round (R161) -/

/-- What every round of a service keeps, the whole service keeps. -/
theorem serve_relates {rel : State → State → Prop} (refl : ∀ s, rel s s) (trans : ∀ {s t u}, rel s t → rel t u → rel s u)
    (barred : ∀ {s w rest}, s.supply.waitList = w :: rest → s.supplyBarred w.port = true →
      rel s (answerDeny w.port w.branch .unavailable (setWaitList rest s)))
    (granted : ∀ {s w rest}, s.supply.waitList = w :: rest → ¬s.supplyBarred w.port = true → 500 ≤ s.headCurrent w →
      rel s (makeGrant w.port w.branch (s.headCurrent w) (min w.requested s.policy.active.params[13]) (setWaitList rest s)))
    (stays : ∀ {s w rest}, s.supply.waitList = w :: rest → rel s (setWaitList (s.loweredHead w :: rest) s)) (s : State) :
    rel s (serve s) := by
  generalize hl : s.supply.waitList = l
  induction l generalizing s with
  | nil =>
    rw [serve_of_empty hl]
    exact refl s
  | cons w rest ih =>
    by_cases hbarred : s.supplyBarred w.port = true
    · rw [serve_of_barred hl hbarred]
      exact trans (barred hl hbarred) (ih _ (by rw [answerDeny_supply]; rfl))
    · by_cases hcurrent : 500 ≤ s.headCurrent w
      · rw [serve_of_granted hl hbarred hcurrent]
        exact trans (granted hl hbarred hcurrent) (ih _ (by rw [makeGrant_supply]; rfl))
      · rw [serve_of_stays hl hbarred hcurrent]
        exact stays hl

/-- A frame that is being sent goes on. -/
def sendingKept (s t : State) : Prop :=
  ∀ p x, (s.framer.get p).sending = some x → (t.framer.get p).sending = some x

theorem sendingKept.of_framer (h : t.framer = s.framer) : sendingKept s t := fun p x hx => by rw [h]; exact hx

theorem place_sendingKept (p : Port) (f : EngineFrame) (s : State) : sendingKept s (place p f s) := fun q x hx => by
  by_cases hq : q = p
  · subst hq
    rw [place_framer, look_of_not_quiet]
    · exact hx
    · exact (quiet_eq_false_iff _).mpr (.inl (by simp [hx]))
  · rw [show (place p f s).framer.get q = s.framer.get q from place_changes p f s (.framer q) (by simp [placeParts, hq])]
    exact hx

theorem sendingKept.trans (h : sendingKept s t) (g : sendingKept t u) : sendingKept s u := fun p x hx => g p x (h p x hx)

theorem makeGrant_sendingKept (p : Port) (b current requested : Nat) (s : State) :
    sendingKept s (makeGrant p b current requested s) := by
  refine .trans (.of_framer (takeOrder_framer s)) (.trans (.of_framer (setGrant_framer p b _ _))
    (.trans (place_sendingKept p _ _) (.of_framer (makeGrant_framer p b current requested s))))

theorem serve_sendingKept (s : State) : sendingKept s (serve s) :=
  serve_relates (rel := sendingKept) (fun _ _ _ h => h) sendingKept.trans
    (fun {s _ rest} _ _ => .trans (t := setWaitList rest s) (.of_framer rfl) (place_sendingKept _ _ _))
    (fun {s _ rest} _ _ _ => .trans (t := setWaitList rest s) (.of_framer rfl) (makeGrant_sendingKept _ _ _ _ _))
    (fun _ => .of_framer rfl) s

/-! ### The pairs that do not wait -/

theorem waits_iff (s : State) (p : Port) (b : Nat) :
    s.waits p b = true ↔ ∃ w ∈ s.supply.waitList, w.port = p ∧ w.branch = b := by
  simp [State.waits, WaitEntry.isFor]

/-- A pair that does not wait keeps its grant, which may be renumbered. -/
def pairKept (s t : State) : Prop :=
  ∀ p b, s.waits p b = false → t.waits p b = false ∧ ∃ f : Grant → Grant,
    (∀ g, (f g).current = g.current ∧ (f g).requested = g.requested) ∧ t.grantOf p b = (s.grantOf p b).map f

theorem pairKept.refl (s : State) : pairKept s s := fun _ _ h => ⟨h, id, fun _ => ⟨rfl, rfl⟩, by simp⟩

theorem pairKept.trans (h : pairKept s t) (g : pairKept t u) : pairKept s u := fun p b hb => by
  obtain ⟨ht, f, hf, hg⟩ := h p b hb
  obtain ⟨hu, f', hf', hg'⟩ := g p b ht
  refine ⟨hu, f' ∘ f, fun x => ?_, by rw [hg', hg, Option.map_map]⟩
  obtain ⟨h1, h2⟩ := hf x
  obtain ⟨h3, h4⟩ := hf' (f x)
  exact ⟨h3.trans h1, h4.trans h2⟩

theorem not_waits_of_sub (h : ∀ w ∈ t.supply.waitList, ∃ v ∈ s.supply.waitList, v.port = w.port ∧ v.branch = w.branch)
    (hs : s.waits p b = false) : t.waits p b = false := by
  refine Bool.eq_false_iff.mpr fun ht => ?_
  obtain ⟨w, hw, rfl, rfl⟩ := (waits_iff _ _ _).mp ht
  obtain ⟨v, hv, hport, hbranch⟩ := h w hw
  exact Bool.eq_false_iff.mp hs ((waits_iff _ _ _).mpr ⟨v, hv, hport, hbranch⟩)

theorem pairKept.of_same (hgrants : ∀ p b, t.grantOf p b = s.grantOf p b)
    (h : ∀ w ∈ t.supply.waitList, ∃ v ∈ s.supply.waitList, v.port = w.port ∧ v.branch = w.branch) : pairKept s t :=
  fun p b hb => ⟨not_waits_of_sub h hb, id, fun _ => ⟨rfl, rfl⟩, by simp [hgrants p b]⟩

theorem makeGrant_of_head_pairKept {w : WaitEntry} {rest : List WaitEntry} (h : s.supply.waitList = w :: rest)
    (current requested : Nat) :
    pairKept s (makeGrant w.port w.branch current requested (setWaitList rest s)) := fun p b hb => by
  have hkey : p ≠ w.port ∨ b ≠ w.branch := by
    by_contra hno
    simp only [not_or, not_not] at hno
    exact Bool.eq_false_iff.mp hb ((waits_iff _ _ _).mpr ⟨w, by simp [h], hno.1.symm, hno.2.symm⟩)
  refine ⟨not_waits_of_sub (fun v hv => ?_) hb, ?_⟩
  · rw [makeGrant_supply] at hv
    exact ⟨v, by rw [h]; exact List.mem_cons_of_mem _ hv, rfl, rfl⟩
  · rw [makeGrant_grantOf_other _ _ _ hkey]
    split
    · refine ⟨id, fun _ => ⟨rfl, rfl⟩, ?_⟩
      rw [Option.map_id]
      rfl
    · refine ⟨(setWaitList rest s).renumbered, fun g => ⟨?_, ?_⟩, ?_⟩ <;> rfl

theorem serve_pairKept (s : State) : pairKept s (serve s) := by
  refine serve_relates pairKept.refl pairKept.trans (fun {s w rest} h _ => ?_) (fun {s w rest} h _ _ => ?_)
    (fun {s w rest} h => ?_) s
  · refine .of_same (fun p b => grantOf_of_table (place_table _ _ _) p b) fun v hv => ?_
    rw [answerDeny_supply] at hv
    exact ⟨v, by rw [h]; exact List.mem_cons_of_mem _ hv, rfl, rfl⟩
  · exact makeGrant_of_head_pairKept h _ _
  · refine .of_same (fun p b => rfl) fun v hv => ?_
    rw [h]
    rcases List.mem_cons.mp hv with rfl | hv
    · exact ⟨w, by simp, rfl, rfl⟩
    · exact ⟨v, List.mem_cons_of_mem _ hv, rfl, rfl⟩

theorem serve_records (s : State) : sameRecords s (serve s) :=
  serve_relates (rel := sameRecords) sameRecords.refl sameRecords.trans
    (fun {s _ rest} _ _ => records_of_table (place_table _ _ (setWaitList rest s)))
    (fun {s _ rest} _ _ _ => sameRecords.trans (t := setWaitList rest s) (records_of_table rfl)
      (makeGrant_records _ _ _ _ _)) (fun _ => records_of_table rfl) s

/-- What a service leaves of the wait list: entries go from the head alone, and a head that stays asks for no more than
the limit. -/
def servedList (limit : Nat) (l l' : List WaitEntry) : Prop :=
  ∃ k, l' = match l.drop k with
    | [] => []
    | w :: rest => { w with requested := min w.requested limit } :: rest

theorem serve_servedList (s : State) : servedList s.policy.active.params[13] s.supply.waitList (serve s).supply.waitList := by
  generalize hl : s.supply.waitList = l
  induction l generalizing s with
  | nil =>
    rw [serve_of_empty hl, hl]
    exact ⟨0, rfl⟩
  | cons w rest ih =>
    have hnext {t : State} (ht : t.supply.waitList = rest) (hpolicy : t.policy = s.policy) :
        servedList s.policy.active.params[13] (w :: rest) (serve t).supply.waitList := by
      obtain ⟨k, hk⟩ := ih t ht
      rw [hpolicy] at hk
      exact ⟨k + 1, by rw [List.drop_succ_cons]; exact hk⟩
    have hpolicy {t : State} (h : ChangesOnly supplyParts (setWaitList rest s) t) : t.policy = s.policy :=
      h .policy (by simp [supplyParts])
    by_cases hbarred : s.supplyBarred w.port = true
    · rw [serve_of_barred hl hbarred]
      exact hnext (by rw [answerDeny_supply]; rfl) (hpolicy (answerDeny_supply_changes _ _ _ _))
    · by_cases hcurrent : 500 ≤ s.headCurrent w
      · rw [serve_of_granted hl hbarred hcurrent]
        exact hnext (by rw [makeGrant_supply]; rfl) (hpolicy (makeGrant_changes _ _ _ _ _))
      · rw [serve_of_stays hl hbarred hcurrent]
        exact ⟨0, rfl⟩

/-! ### The record a frame needs (R15) -/

/-- The state with a record in use for the pair. -/
def recorded (p : Port) (b : Nat) (s : State) : State :=
  if s.hasRecord p b then s else s.setPool (s.table.pool ++ [{ port := p, branch := b, grant := none }])

theorem withRecord_of_finds (h : s.findsRecord p b) (go : State → State) :
    withRecord p b go s = go (recorded p b s) := by
  unfold withRecord recorded
  split
  · rfl
  · next hno => exact if_pos (h.resolve_left hno).2

theorem withRecord_of_full (hno : s.hasRecord p b = false) (hfull : 12 ≤ s.table.pool.length) (go : State → State) :
    withRecord p b go s = postPartner noticeTableFull p (answerDeny p b .full s) := by
  unfold withRecord
  rw [if_neg (by simp [hno]), if_neg]
  show ¬s.table.pool.length < 12
  omega

theorem recorded_of_record (h : s.hasRecord p b = true) : recorded p b s = s := if_pos h

theorem recorded_changes (p : Port) (b : Nat) (s : State) : ChangesOnly [.pool] s (recorded p b s) :=
  .ite (.refl _ s) (setPool_changes s _)

theorem recorded_supply (p : Port) (b : Nat) (s : State) : (recorded p b s).supply = s.supply := by
  unfold recorded
  split <;> rfl

theorem recorded_hasRecord (hb : b ≠ 0) : (recorded p b s).hasRecord p b = true := by
  unfold recorded
  split
  · assumption
  · exact hasRecord_iff.mpr (.inr ⟨hb, by simp [State.keys, State.setPool]⟩)

theorem recorded_hasRecord_of_finds (h : s.findsRecord p b) : (recorded p b s).hasRecord p b = true := by
  by_cases hb : b = 0
  · have hrecord : s.hasRecord p b = true := h.resolve_right fun h => h.1 hb
    rw [recorded_of_record hrecord]
    exact hrecord
  · exact recorded_hasRecord hb

theorem recorded_grants (p : Port) (b : Nat) (s : State) : (recorded p b s).grants = s.grants := by
  unfold recorded
  split
  · rfl
  · simp [State.grants, State.setPool]

theorem recorded_grantOf (p : Port) (b : Nat) (s : State) (q : Port) (d : Nat) :
    (recorded p b s).grantOf q d = s.grantOf q d := by
  unfold recorded
  split
  · rfl
  · by_cases hd : d = 0
    · subst hd
      rfl
    · rw [grantOf_pooled hd, grantOf_pooled hd]
      simp only [State.setPool, List.find?_append]
      cases s.table.pool.find? (PooledRecord.isFor q d) with
      | some r => rfl
      | none =>
        cases hfor : PooledRecord.isFor q d { port := p, branch := b, grant := none } <;> simp [hfor]

/-! ### A DEMAND as it comes to the Supply Unit -/

/-- The state in which the Supply Unit finds a frame that needs a record. -/
def State.atSupply (s : State) (p : Port) (b : Nat) : State := recorded p b (s.counted p)

theorem atSupply_changes (s : State) (p : Port) (b : Nat) : ChangesOnly [.framer p, .pool] s (s.atSupply p b) :=
  .then (counted_changes p s) (recorded_changes p b _) (by simp) (by simp)

theorem atSupply_supply (s : State) (p : Port) (b : Nat) : (s.atSupply p b).supply = s.supply := recorded_supply p b _

theorem atSupply_framer (s : State) (p : Port) (b : Nat) : (s.atSupply p b).framer = (s.counted p).framer := by
  unfold State.atSupply recorded
  split <;> rfl

theorem atSupply_grants (s : State) (p : Port) (b : Nat) : (s.atSupply p b).grants = s.grants := recorded_grants p b _

theorem atSupply_grantOf (s : State) (p : Port) (b : Nat) (q : Port) (d : Nat) :
    (s.atSupply p b).grantOf q d = s.grantOf q d := recorded_grantOf p b _ q d

theorem atSupply_portGrants (s : State) (p : Port) (b : Nat) (q : Port) : (s.atSupply p b).portGrants q = s.portGrants q := by
  unfold State.portGrants
  rw [atSupply_grants]

theorem atSupply_policy (s : State) (p : Port) (b : Nat) : (s.atSupply p b).policy = s.policy :=
  atSupply_changes s p b .policy (by simp)

theorem State.lineIdle.atSupply (h : s.lineIdle p) (b : Nat) : (s.atSupply p b).lineQuiet p :=
  h.counted.of_framer (by rw [atSupply_framer])

theorem exec_demand_of_takes (h : s.takes p kindDemand f) (hfinds : f.branch.toNat = 0 ∨ s.findsRecord p f.branch.toNat) :
    exec (.demand p f) s = .next (transmit p (supplyDemand p f.branch.toNat (voltageField f.payload 0)
      (currentField f.payload 2) (if f.branch.toNat = 0 then s.counted p else s.atSupply p f.branch.toNat))) := by
  obtain ⟨hrun, -⟩ := id h
  have hexec : exec (.demand p f) s = _ := exec_of_running rfl hrun
  rw [hexec, receiveFrame_of_takes h]
  congr 2
  by_cases hb : f.branch.toNat = 0
  · rw [if_pos hb, if_pos hb]
  · have hfinds' : (s.counted p).findsRecord p f.branch.toNat := hfinds.resolve_left hb
    rw [if_neg hb, if_neg hb]
    exact withRecord_of_finds hfinds' _

/-- With a branch-0 record in use the Supply Unit finds the frame's state as it was counted. -/
theorem atSupply_zero (h : s.findsRecord p 0) : s.atSupply p 0 = s.counted p :=
  recorded_of_record (h.resolve_right fun h => h.1 rfl)

theorem exec_demand_of_finds (h : s.takes p kindDemand f) (hfinds : s.findsRecord p f.branch.toNat) :
    exec (.demand p f) s = .next (transmit p (supplyDemand p f.branch.toNat (voltageField f.payload 0)
      (currentField f.payload 2) (s.atSupply p f.branch.toNat))) := by
  rw [exec_demand_of_takes h (.inr hfinds)]
  split
  · next hb =>
    rw [hb] at hfinds
    rw [hb, atSupply_zero hfinds]
  · rfl

theorem exec_demand_of_full (h : s.takes p kindDemand f) (hb : f.branch.toNat ≠ 0) (hno : s.hasRecord p f.branch.toNat = false)
    (hfull : 12 ≤ s.table.pool.length) : exec (.demand p f) s
      = .next (transmit p (postPartner noticeTableFull p (answerDeny p f.branch.toNat .full (s.counted p)))) := by
  obtain ⟨hrun, -⟩ := id h
  have hexec : exec (.demand p f) s = _ := exec_of_running rfl hrun
  rw [hexec, receiveFrame_of_takes h]
  congr 2
  exact (if_neg hb).trans (withRecord_of_full (s := s.counted p) hno hfull _)

/-! ### A refused DEMAND (R155) -/

/-- Conditions 1 to 3 of R155, or no budget. -/
def State.unavailable (s : State) (p : Port) : Prop :=
  (s.contract.get p).drawClosed = true ∨ (s.contract.get p).state ≠ .idle ∨ s.isJoining p = true
    ∨ s.supplies p = true ∨ s.supply.budget = 0

theorem demandRefusal_of_unavailable (h : s.unavailable p) (voltage : Nat) :
    s.demandRefusal p voltage = some .unavailable := by
  unfold State.demandRefusal
  split
  · rfl
  · next hbarred =>
    rw [supplyBarred_iff] at hbarred
    rw [if_pos]
    simp only [not_or] at hbarred
    obtain ⟨h1, h2, h3, h4⟩ := hbarred
    exact (((h.resolve_left h1).resolve_left h2).resolve_left h3).resolve_left h4

theorem demandRefusal_of_low {voltage : Nat} (h : ¬s.unavailable p) (hlow : voltage < 4500) :
    s.demandRefusal p voltage = some .badRequest := by
  simp only [State.unavailable, not_or] at h
  obtain ⟨h1, h2, h3, h4, h5⟩ := h
  have hbarred : ¬s.supplyBarred p = true := by
    rw [supplyBarred_iff]
    simp [h1, h2, h3, h4]
  rw [State.demandRefusal, if_neg hbarred, if_neg h5, if_pos hlow]

theorem demandRefusal_of_passes {voltage : Nat} (h : s.demandPasses p voltage) : s.demandRefusal p voltage = none := by
  obtain ⟨h1, h2, h3, h4, h5, h6⟩ := h
  have hbarred : ¬s.supplyBarred p = true := by
    rw [supplyBarred_iff]
    simp [h1, h2, h3, h4]
  rw [State.demandRefusal, if_neg hbarred, if_neg h5, if_neg (by omega)]

theorem supplyDemand_of_refused {r : DenyReason} {voltage : Nat} (h : s.demandRefusal p voltage = some r) (b current : Nat) :
    supplyDemand p b voltage current s = answerDeny p b r s := by
  simp [supplyDemand, h]

theorem supplies_of_table {u : State} (h : u.table.own.get p = s.table.own.get p) : u.supplies p = s.supplies p := by
  unfold State.supplies
  rw [h]

/-- A state that differs from another by a line and the pool alone has the same conditions of R155. -/
theorem unavailable_iff_of_changes {l : List Part} (h : ChangesOnly l s t) (hl : l ⊆ [.framer p, .pool]) :
    t.unavailable p ↔ s.unavailable p := by
  have h := h.mono hl
  have hcontract : t.contract.get p = s.contract.get p := h (.contract p) (by simp)
  have hbudget : t.supply.budget = s.supply.budget := h .budget (by simp)
  have hsupplies : t.supplies p = s.supplies p := supplies_of_table (h (.own p) (by simp))
  have hjoining : t.isJoining p = s.isJoining p := by
    unfold State.isJoining
    rw [(h .service (by simp)).2.2]
  unfold State.unavailable
  rw [hcontract, hbudget, hsupplies, hjoining]

theorem transmit_table (p : Port) (s : State) : (transmit p s).table = s.table :=
  table_of_changes (transmit_changes p s) (by simp [placeParts]) (by simp [placeParts])

theorem transmit_supply (p : Port) (s : State) : (transmit p s).supply = s.supply := by
  unfold transmit
  dsimp only
  split <;> rfl

theorem State.takes.atSupply_not_probing (h : s.takes p kind f) (b : Nat) :
    ((s.atSupply p b).monitor.get p).state ≠ .probing := by
  rw [show (s.atSupply p b).monitor.get p = s.monitor.get p from atSupply_changes s p b (.monitor p) (by simp), h.talking]
  exact nofun

theorem place_transmit_sends (h : s.lineQuiet p) {f : EngineFrame} (hf : placeIn f [] = [f]) :
    ((transmit p (place p f s)).framer.get p).sending = some (.engine f) := by
  have hsends := place_sends h hf
  rw [transmit_framer_of_sending (by rw [hsends]), hsends]

end

/-- Settles O19. -/
theorem refusedDemandChangesNoGrant : Obligations.RefusedDemandChangesNoGrant := by
  intro s p f htakes
  have hprobing : (s.monitor.get p).state ≠ .probing := by simp [htakes.talking]
  refine ⟨fun hfinds hrefused => ?refused, fun hb hno hfull => ?full⟩
  case refused =>
    have hu : ∃ u : State, u = (if f.branch.toNat = 0 then s.counted p else s.atSupply p f.branch.toNat)
        ∧ ChangesOnly [.framer p, .pool] s u ∧ u.supply = s.supply ∧ u.grants = s.grants
        ∧ (f.branch.toNat = 0 → u.table = s.table) ∧ (f.branch.toNat ≠ 0 → u.hasRecord p f.branch.toNat = true)
        ∧ (s.lineIdle p → u.lineQuiet p) := by
      refine ⟨_, rfl, ?_⟩
      split
      · next hb =>
        exact ⟨(counted_changes p s).mono (by simp), rfl, rfl, fun _ => rfl, fun h => absurd hb h, fun h => h.counted⟩
      · next hb =>
        exact ⟨atSupply_changes s p _, atSupply_supply s p _, atSupply_grants s p _, fun h => absurd h hb,
          fun _ => recorded_hasRecord hb, fun h => h.atSupply _⟩
    obtain ⟨u, hdef, hchanges, hsupply, hgrants, htable, hrecord, hquiet⟩ := hu
    have hunavailable : u.unavailable p ↔ s.unavailable p := unavailable_iff_of_changes hchanges (List.Subset.refl _)
    have hreason : ∃ r, u.demandRefusal p (voltageField f.payload 0) = some r
        ∧ (s.unavailable p → r = .unavailable) ∧ (¬s.unavailable p → r = .badRequest) := by
      by_cases h : s.unavailable p
      · exact ⟨_, demandRefusal_of_unavailable (hunavailable.mpr h) _, fun _ => rfl, fun hno => absurd h hno⟩
      · exact ⟨_, demandRefusal_of_low (mt hunavailable.mp h) (hrefused.resolve_left h), fun h' => absurd h' h, fun _ => rfl⟩
    obtain ⟨r, hr, hyes, hnot⟩ := hreason
    have hmonitor : u.monitor.get p = s.monitor.get p := hchanges (.monitor p) (by simp)
    have hplaced : ChangesOnly [.framer p] u (answerDeny p f.branch.toNat r u) :=
      place_changes_of_not_probing (by rw [hmonitor]; exact hprobing) _
    have hsame : (transmit p (answerDeny p f.branch.toNat r u)).table = u.table :=
      (transmit_table p _).trans (place_table _ _ _)
    have hsends (h : s.lineIdle p) := place_transmit_sends (f := .deny f.branch.toNat r) (hquiet h) rfl
    rw [exec_demand_of_takes htakes hfinds, ← hdef, supplyDemand_of_refused hr]
    refine ⟨_, rfl, ?_, ?_, ?_, fun hb => hsame.trans (htable hb), fun hb => ?_, fun h hidle => ?_, fun h hidle => ?_⟩
    · rw [transmit_supply, answerDeny_supply, hsupply]
    · rw [grants_of_table hsame, hgrants]
    · exact transmit_changes_after (hchanges.trans (hplaced.mono (by simp))) hprobing (by simp) (by simp)
    · rw [(records_of_table hsame).hasRecord]
      exact hrecord hb
    · rw [← hyes h]
      exact hsends hidle
    · rw [← hnot h]
      exact hsends hidle
  case full =>
    have hplaced : ChangesOnly [.framer p] (s.counted p) (answerDeny p f.branch.toNat .full (s.counted p)) :=
      place_changes_of_not_probing htakes.counted_not_probing _
    have hline := (counted_changes p s).trans hplaced
    have hposted := postPartner_changes noticeTableFull p (answerDeny p f.branch.toNat .full (s.counted p))
    rw [exec_demand_of_full htakes hb hno hfull]
    refine ⟨_, rfl, transmit_changes_after (.then hline hposted (by simp) (by simp)) hprobing (by simp) (by simp),
      fun hidle => ?_, ?_⟩
    · have hsends := place_sends hidle.counted (f := .deny f.branch.toNat .full) rfl
      have hposts : (postPartner noticeTableFull p (answerDeny p f.branch.toNat .full (s.counted p))).framer.get p = _ := hsends
      rw [transmit_framer_of_sending (by rw [hposts]), hposts]
    · have hpost := post_notice (.partner p) noticeTableFull
        (snapshotOf ((answerDeny p f.branch.toNat .full (s.counted p)).monitor.get p).state.code
          ((answerDeny p f.branch.toNat .full (s.counted p)).classView p).code 0 0)
        (answerDeny p f.branch.toNat .full (s.counted p))
      rw [show (answerDeny p f.branch.toNat .full (s.counted p)).link.notices.get (.partner p) = _ from
        hline (.notice (.partner p)) (by simp),
        show (answerDeny p f.branch.toNat .full (s.counted p)).msCount = _ from hline .clock (by simp)] at hpost
      exact ⟨_, (transmit_changes p _ (.notice (.partner p)) (by simp [placeParts])).trans hpost⟩

end Sys2Proof.Machine
end

section
/-! PROOFS. A DEMAND that is granted, renewed or held, and a RETIRE (09; R156 to R163). -/

namespace Sys2Proof.Machine

open Sys2Proof

section
variable {s t u : State} {p q : Port} {b d : Nat} {f : RawFrame} {l : List Part}

/-! ### A DEMAND that passes R155 -/

theorem demandPasses_iff {voltage : Nat} : s.demandPasses p voltage ↔ ¬s.unavailable p ∧ 4500 ≤ voltage := by
  unfold State.demandPasses State.unavailable
  simp only [not_or, ne_eq, not_not, Bool.not_eq_true]
  tauto

theorem atSupply_passes {voltage : Nat} (h : s.demandPasses p voltage) (b : Nat) :
    (s.atSupply p b).demandPasses p voltage := by
  rw [demandPasses_iff] at h ⊢
  exact ⟨mt (unavailable_iff_of_changes (atSupply_changes s p b) (List.Subset.refl _)).mp h.1, h.2⟩

theorem supplyDemand_of_grant {voltage current : Nat} {old : Grant} (h : s.demandPasses p voltage)
    (hold : s.grantOf p b = some old) :
    supplyDemand p b voltage current s = serve (demandRenew p b old (s.takenRequest current) s) := by
  simp [supplyDemand, demandRefusal_of_passes h, hold]

theorem supplyDemand_of_waits {voltage current : Nat} (h : s.demandPasses p voltage) (hnone : s.grantOf p b = none)
    (hwaits : s.waits p b = true) :
    supplyDemand p b voltage current s = serve (demandWaiting p b (s.takenRequest current) s) := by
  simp [supplyDemand, demandRefusal_of_passes h, hnone, hwaits]

theorem supplyDemand_of_new {voltage current : Nat} (h : s.demandPasses p voltage) (hnone : s.grantOf p b = none)
    (hwaits : s.waits p b = false) :
    supplyDemand p b voltage current s = serve (demandNew p b (s.takenRequest current) s) := by
  simp [supplyDemand, demandRefusal_of_passes h, hnone, hwaits]

theorem not_waits_of_empty (h : s.supply.waitList = []) : s.waits p b = false := by simp [State.waits, h]

/-- R156 step 3, with nothing waiting. -/
def State.newCurrent (s : State) (p : Port) (requested : Nat) : Nat := min requested (min s.budgetRoom (s.portRoom p))

theorem demandNew_of_room {requested : Nat} (hempty : s.supply.waitList = []) (h : 500 ≤ s.newCurrent p requested) :
    demandNew p b requested s = makeGrant p b (s.newCurrent p requested) requested s :=
  if_pos (by
    rw [hempty]
    exact decide_eq_true h)

theorem demandNew_joins {requested : Nat} (h : s.supply.waitList = [] → s.newCurrent p requested < 500) :
    demandNew p b requested s = joinWaitList p b requested s :=
  if_neg (by
    rw [Bool.and_eq_true, List.isEmpty_iff, decide_eq_true_iff]
    exact fun ⟨hempty, hroom⟩ => absurd (h hempty) (Nat.not_lt.mpr hroom))

/-! ### What the answered frame leaves, and that no transmitter restarts a probe -/

theorem grantTold_parts (h : (s.monitor.get p).state ≠ .probing) (b : Nat) (g : Grant) :
    ChangesOnly [.framer p, .own p, .pool] s (grantTold p b g s) := by
  have hset := setGrant_parts p b (some g) s
  refine hset.then (place_changes_of_not_probing ?_ _) (by simp) (by simp)
  rw [show (setGrant p b (some g) s).monitor.get p = s.monitor.get p from hset (.monitor p) (by simp)]
  exact h

theorem makeGrant_changes_of_order (hs : (s.monitor.get p).state ≠ .probing) (hl : ChangesOnly l s (takeOrder s))
    (hmonitor : .monitor p ∉ l) (b current requested : Nat) :
    ChangesOnly (l ++ [.framer p, .own p, .pool, .supplySwitch p, .notice .supply]) s
      (makeGrant p b current requested s) := by
  rw [makeGrant_eq]
  refine .trans (.trans (.then hl (grantTold_parts ?_ b _) (by simp) (by simp))
    ((setSupplySwitch_parts p true _).mono (by simp))) ((postSupply_changes _ _ _ _).mono (by simp))
  rw [show (takeOrder s).monitor.get p = s.monitor.get p from hl (.monitor p) hmonitor]
  exact hs

/-! ### A renewal (R159) -/

/-- The state whose order numbers a renewal has taken. -/
def State.reordered (s : State) (grows : Bool) : State := if grows then takeOrder s else s

/-- The grant as it is renewed. -/
def State.renewedGrant (s : State) (p : Port) (old : Grant) (requested : Nat) : Grant :=
  { current := s.renewedCurrent p old requested
    requested := requested
    order := if old.current < s.renewedCurrent p old requested then s.nextOrder else old.order }

/-- The renewed grant written and told. -/
def State.renewedTold (s : State) (p : Port) (b : Nat) (old : Grant) (requested : Nat) : State :=
  grantTold p b (s.renewedGrant p old requested) (s.reordered (decide (old.current < s.renewedCurrent p old requested)))

theorem demandRenew_eq (p : Port) (b : Nat) (old : Grant) (requested : Nat) (s : State) :
    demandRenew p b old requested s
      = if s.renewedCurrent p old requested ≠ old.current
        then postSupply noticeGranted p b (s.renewedTold p b old requested) else s.renewedTold p b old requested := by
  unfold State.renewedTold State.renewedGrant State.reordered grantTold demandRenew
  by_cases h : old.current < s.renewedCurrent p old requested
  · simp only [gt_iff_lt, h, if_true, decide_true, takeOrder_counter]
  · simp only [gt_iff_lt, h, if_false, decide_false, Bool.false_eq_true]

theorem reordered_records (s : State) (grows : Bool) : sameRecords s (s.reordered grows) := by
  unfold State.reordered
  split
  · exact takeOrder_records s
  · exact .refl s

theorem reordered_grantOf (s : State) (grows : Bool) (p : Port) (b : Nat) : (s.reordered grows).grantOf p b
    = if grows = true ∧ 65535 ≤ s.supply.orderCounter then (s.grantOf p b).map s.renumbered else s.grantOf p b := by
  unfold State.reordered
  cases grows with
  | false => simp
  | true =>
    rw [if_pos rfl, takeOrder_grantOf]
    by_cases h : s.supply.orderCounter < 65535
    · rw [if_pos h, if_neg (by omega)]
    · rw [if_neg h, if_pos ⟨rfl, by omega⟩]

theorem reordered_supply (s : State) (grows : Bool) : (s.reordered grows).supply
    = { s.supply with orderCounter := if grows then s.nextOrder else s.supply.orderCounter } := by
  cases grows with
  | false => rfl
  | true => exact takeOrder_supply s

theorem reordered_framer (s : State) (grows : Bool) : (s.reordered grows).framer = s.framer := by
  cases grows with
  | false => rfl
  | true => exact takeOrder_framer s

theorem reordered_changes (h : ChangesOnly l s (takeOrder s)) (grows : Bool) : ChangesOnly l s (s.reordered grows) :=
  .ite h ((ChangesOnly.refl [] s).mono (by simp))

theorem demandRenew_table (p : Port) (b : Nat) (old : Grant) (requested : Nat) (s : State) :
    (demandRenew p b old requested s).table = (s.renewedTold p b old requested).table := by
  rw [demandRenew_eq]
  split <;> rfl

theorem demandRenew_framer (p : Port) (b : Nat) (old : Grant) (requested : Nat) (s : State) :
    (demandRenew p b old requested s).framer = (s.renewedTold p b old requested).framer := by
  rw [demandRenew_eq]
  split <;> rfl

theorem demandRenew_supply (p : Port) (b : Nat) (old : Grant) (requested : Nat) (s : State) :
    (demandRenew p b old requested s).supply
      = { s.supply with orderCounter :=
            if old.current < s.renewedCurrent p old requested then s.nextOrder else s.supply.orderCounter } := by
  have hsame : (demandRenew p b old requested s).supply = (s.renewedTold p b old requested).supply := by
    rw [demandRenew_eq]
    split <;> rfl
  rw [hsame, State.renewedTold, grantTold_supply, reordered_supply]
  simp only [decide_eq_true_eq]

theorem demandRenew_grantOf {old : Grant} (h : s.grantOf p b = some old) (requested : Nat) :
    (demandRenew p b old requested s).grantOf p b = some (s.renewedGrant p old requested) := by
  rw [grantOf_of_table (demandRenew_table p b old requested s)]
  refine grantTold_grantOf _ ?_
  rw [(reordered_records s _).hasRecord]
  exact hasRecord_of_grantOf h

theorem demandRenew_grantOf_other (old : Grant) (requested : Nat) (s : State) (h : q ≠ p ∨ d ≠ b) :
    (demandRenew p b old requested s).grantOf q d
      = if old.current < s.renewedCurrent p old requested ∧ 65535 ≤ s.supply.orderCounter
        then (s.grantOf q d).map s.renumbered else s.grantOf q d := by
  rw [grantOf_of_table (demandRenew_table p b old requested s), State.renewedTold, grantTold_grantOf_other _ _ h,
    reordered_grantOf]
  simp only [decide_eq_true_eq]

theorem renewedTold_changes (hs : (s.monitor.get p).state ≠ .probing) (hl : ChangesOnly l s (takeOrder s))
    (hmonitor : .monitor p ∉ l) (b : Nat) (old : Grant) (requested : Nat) :
    ChangesOnly (l ++ [.framer p, .own p, .pool]) s (s.renewedTold p b old requested) := by
  have horder := reordered_changes hl (decide (old.current < s.renewedCurrent p old requested))
  refine .then horder (grantTold_parts ?_ b _) (by simp) (by simp)
  rw [show (s.reordered _).monitor.get p = s.monitor.get p from horder (.monitor p) hmonitor]
  exact hs

theorem demandRenew_changes_of_order (hs : (s.monitor.get p).state ≠ .probing) (hl : ChangesOnly l s (takeOrder s))
    (hmonitor : .monitor p ∉ l) (b : Nat) (old : Grant) (requested : Nat) :
    ChangesOnly (l ++ [.framer p, .own p, .pool, .notice .supply]) s (demandRenew p b old requested s) := by
  have htold := renewedTold_changes hs hl hmonitor b old requested
  rw [demandRenew_eq]
  exact .ite (.then htold (postSupply_changes _ _ _ _) (by simp) (by simp)) (htold.mono (by simp))

theorem demandRenew_notices (hs : (s.monitor.get p).state ≠ .probing) (b : Nat) {old : Grant} {requested : Nat}
    (h : s.renewedCurrent p old requested = old.current) :
    (demandRenew p b old requested s).link.notices = s.link.notices := by
  have htold := renewedTold_changes hs (takeOrder_all_parts s) (by simp) b old requested
  rw [demandRenew_eq, if_neg (by simpa using h)]
  exact NoticeSet.ext_of_get fun flag => htold (.notice flag) (by simp)

theorem demandRenew_notice (hs : (s.monitor.get p).state ≠ .probing) (b : Nat) {old : Grant} {requested : Nat}
    (h : s.renewedCurrent p old requested ≠ old.current) :
    (demandRenew p b old requested s).link.notices.get .supply
      = some (postTo (s.link.notices.get .supply) noticeGranted (snapshotOf p.val b 0 0) s.msCount) := by
  have htold := renewedTold_changes hs (takeOrder_all_parts s) (by simp) b old requested
  rw [demandRenew_eq, if_pos h]
  refine (post_notice .supply noticeGranted _ _).trans ?_
  congr 2
  · exact htold (.notice .supply) (by simp)
  · exact htold .clock (by simp)

theorem demandRenew_sends (h : s.lineQuiet p) (b : Nat) (old : Grant) (requested : Nat) :
    ((demandRenew p b old requested s).framer.get p).sending
      = some (.engine (.supply b (s.renewedCurrent p old requested))) := by
  rw [demandRenew_framer]
  exact grantTold_sends (h.of_framer (by rw [reordered_framer])) b _

theorem renewedCurrent_of_empty (h : s.supply.waitList = []) (p : Port) (old : Grant) (requested : Nat) :
    s.renewedCurrent p old requested
      = min requested (min ((s.supply.budget - (currentOf s.grants * 5 - old.current * 5)) * 1000 / 5000 / 10 * 10)
          (s.policy.active.params[13] - (currentOf (s.portGrants p) - old.current))) := by
  have hold : old.current * Config.baseVoltage / 1000 = old.current * 5 := by
    show old.current * 5000 / 1000 = _
    omega
  unfold State.renewedCurrent
  rw [h, reserved_eq, hold]
  rfl

theorem renewedCurrent_of_waiting (h : s.supply.waitList ≠ []) (p : Port) (old : Grant) (requested : Nat) :
    s.renewedCurrent p old requested
      = min requested (min old.current (s.policy.active.params[13] - (currentOf (s.portGrants p) - old.current))) := by
  unfold State.renewedCurrent
  rw [if_neg (by simpa using h)]
  rfl

end

/-- Settles O20. -/
theorem demandIsGrantedOrRenewed : Obligations.DemandIsGrantedOrRenewed := by
  intro s p f htakes b limit requested sum portSum counter next renumbered hpasses
  have hprobing : (s.monitor.get p).state ≠ .probing := by simp [htakes.talking]
  set u := s.atSupply p b with hu
  have hchanges : ChangesOnly [.framer p, .pool] s u := atSupply_changes s p b
  have hsupply : u.supply = s.supply := atSupply_supply s p b
  have hgrants : u.grants = s.grants := atSupply_grants s p b
  have hgrantOf (q : Port) (d : Nat) : u.grantOf q d = s.grantOf q d := atSupply_grantOf s p b q d
  have hpolicy : u.policy = s.policy := atSupply_policy s p b
  have hprobing' : (u.monitor.get p).state ≠ .probing := htakes.atSupply_not_probing b
  have hnext : u.nextOrder = next := by
    unfold State.nextOrder
    rw [hsupply, hgrants]
  have hrenumbered : u.renumbered = renumbered := by
    funext g
    unfold State.renumbered
    rw [hgrants]
  have hnotice : u.link.notices.get .supply = s.link.notices.get .supply := hchanges (.notice .supply) (by simp)
  have hclock : u.msCount = s.msCount := hchanges .clock (by simp)
  have hrequested : u.takenRequest (currentField f.payload 2) = requested := by
    unfold State.takenRequest
    rw [hpolicy]
    rfl
  refine ⟨?granted, fun old hold => ?renewed⟩
  case granted =>
    intro room current hfinds hnone hempty hcurrent
    have hroom : u.newCurrent p requested = current := by
      unfold State.newCurrent
      rw [budgetRoom_eq, portRoom_eq, hgrants, hsupply, hpolicy, atSupply_portGrants]
      rfl
    have hexec : exec (.demand p f) s = .next (transmit p (makeGrant p b current requested u)) := by
      rw [exec_demand_of_finds htakes hfinds, ← hu, supplyDemand_of_new (atSupply_passes hpasses b)
        ((hgrantOf p b).trans hnone) (not_waits_of_empty (by rw [hsupply]; exact hempty)), hrequested,
        demandNew_of_room (by rw [hsupply]; exact hempty) (by rw [hroom]; exact hcurrent), hroom, serve_of_empty]
      rw [makeGrant_supply, hsupply]
      exact hempty
    have hrecord : u.hasRecord p b = true := recorded_hasRecord_of_finds hfinds
    refine ⟨_, hexec, ?_, fun q d hkey => ?_, ?_, ?_, ?_, fun hidle => ?_, fun hlow => ?_, ?_⟩
    · rw [grantOf_of_table (transmit_table p _), makeGrant_grantOf _ _ hrecord, hnext]
    · rw [grantOf_of_table (transmit_table p _), makeGrant_grantOf_other _ _ _ hkey, hsupply, hgrantOf, hrenumbered]
    · rw [transmit_supply, makeGrant_supply, hnext]
    · rw [transmit_supply, makeGrant_supply]
      exact Four.get_set_same _ _ _
    · rw [show (transmit p _).link.notices.get .supply = _ from
        transmit_changes p _ (.notice .supply) (by simp [placeParts]), makeGrant_notice, hnotice, hclock]
    · have hsends := makeGrant_sends (hidle.atSupply b) b current requested
      rw [transmit_framer_of_sending (by rw [hsends]), hsends]
    · have horder : ChangesOnly [.orderCounter] u (takeOrder u) := takeOrder_parts (by rw [hsupply]; exact hlow)
      have hmake := makeGrant_changes_of_order hprobing' horder (by simp) b current requested
      exact transmit_changes_after (hchanges.then hmake (by simp) (by simp)) hprobing (by simp) (by simp)
    · have hmake := makeGrant_changes_of_order hprobing' (takeOrder_all_parts u) (by simp) b current requested
      exact transmit_changes_after (hchanges.then hmake (by simp)
        (fun x hx => by simp only [List.mem_append, List.mem_cons, mem_everyPort] at hx ⊢; grind)) hprobing (by simp) (by simp)
  case renewed =>
    intro room portRoom
    have hfinds : s.findsRecord p b := .inl (hasRecord_of_grantOf hold)
    have hexec : exec (.demand p f) s = .next (transmit p (serve (demandRenew p b old requested u))) := by
      rw [exec_demand_of_finds htakes hfinds, ← hu, supplyDemand_of_grant (atSupply_passes hpasses b)
        ((hgrantOf p b).trans hold), hrequested]
    refine ⟨fun hempty => ?alone, fun hwaiting hwaits => ?waiting⟩
    case alone =>
      intro current
      have hempty' : u.supply.waitList = [] := by rw [hsupply]; exact hempty
      have hcurrent : u.renewedCurrent p old requested = current := by
        rw [renewedCurrent_of_empty hempty', hgrants, hsupply, hpolicy, atSupply_portGrants]
        rfl
      have hgrant : u.renewedGrant p old requested = { current := current, requested := requested
                                                       order := if old.current < current then next else old.order } := by
        unfold State.renewedGrant
        rw [hcurrent, hnext]
      rw [serve_of_empty (by rw [demandRenew_supply]; exact hempty')] at hexec
      refine ⟨_, hexec, ?_, fun q d hkey => ?_, ?_, ?_, fun hsame => ?_, fun hdiffers => ?_, fun hidle => ?_,
        fun hlow => ?_, ?_⟩
      · rw [grantOf_of_table (transmit_table p _), demandRenew_grantOf ((hgrantOf p b).trans hold), hgrant]
      · rw [grantOf_of_table (transmit_table p _), demandRenew_grantOf_other _ _ _ hkey, hcurrent, hsupply, hgrantOf,
          hrenumbered]
      · rw [transmit_supply, demandRenew_supply, hcurrent, hnext, hsupply]
      · rw [transmit_supply, demandRenew_supply, hsupply]
      · have hnotices : u.link.notices = s.link.notices := NoticeSet.ext_of_get fun flag => hchanges (.notice flag) (by simp)
        refine Eq.trans (NoticeSet.ext_of_get fun flag => transmit_changes p _ (.notice flag) (by simp [placeParts])) ?_
        rw [demandRenew_notices hprobing' b (hcurrent.trans hsame), hnotices]
      · rw [show (transmit p _).link.notices.get .supply = _ from
          transmit_changes p _ (.notice .supply) (by simp [placeParts]),
          demandRenew_notice hprobing' b (by rw [hcurrent]; exact hdiffers), hnotice, hclock]
      · have hsends := demandRenew_sends (hidle.atSupply b) b old requested
        rw [transmit_framer_of_sending (by rw [hsends]), hsends, ← hu, hcurrent]
      · have horder : ChangesOnly [.orderCounter] u (takeOrder u) := takeOrder_parts (by rw [hsupply]; exact hlow)
        have hmake := demandRenew_changes_of_order hprobing' horder (by simp) b old requested
        exact transmit_changes_after (hchanges.then hmake (by simp) (by simp)) hprobing (by simp) (by simp)
      · have hmake := demandRenew_changes_of_order hprobing' (takeOrder_all_parts u) (by simp) b old requested
        exact transmit_changes_after (hchanges.then hmake (by simp)
          (fun x hx => by simp only [List.mem_append, List.mem_cons, mem_everyPort] at hx ⊢; grind)) hprobing (by simp) (by simp)
    case waiting =>
      have hwaiting' : u.supply.waitList ≠ [] := by rw [hsupply]; exact hwaiting
      have hcurrent : u.renewedCurrent p old requested = min requested (min old.current portRoom) := by
        rw [renewedCurrent_of_waiting hwaiting', hpolicy, atSupply_portGrants]
        rfl
      have hstill : (demandRenew p b old requested u).waits p b = false := by
        unfold State.waits
        rw [demandRenew_supply, hsupply]
        exact hwaits
      obtain ⟨-, g, hg, hserved⟩ := serve_pairKept (demandRenew p b old requested u) p b hstill
      rw [demandRenew_grantOf ((hgrantOf p b).trans hold)] at hserved
      refine ⟨_, g (u.renewedGrant p old requested), hexec, ?_, (hg _).1.trans hcurrent, (hg _).2, ?_⟩
      · rw [grantOf_of_table (transmit_table p _), hserved]
        rfl
      · exact .trans (hchanges.mono (by simp [supplyParts])) (.trans (demandRenew_changes p b old requested u)
          (.trans (serve_changes _) ((transmit_changes p _).mono (by simp [supplyParts, placeParts]))))

end Sys2Proof.Machine
end

section
/-! PROOFS. A DEMAND that waits (09; R156, R158, R160, R161). -/

namespace Sys2Proof.Machine

open Sys2Proof

section
variable {s t u : State} {p q : Port} {b d : Nat} {f : RawFrame}

theorem sendingKept.get {x : TalkTx} (h : sendingKept s t) (hs : (s.framer.get p).sending = some x) :
    (t.framer.get p).sending = some x := h p x hs

theorem place_sending (h : s.lineQuiet p) {a : EngineFrame} (ha : placeIn a [] = [a]) :
    ((place p a s).framer.get p).sending = some (.engine a) := by rw [place_sends h ha]

/-- An answer placed on a quiet line is being sent after the service and the transmitter's look. -/
theorem place_served_sends (h : s.lineQuiet p) {a : EngineFrame} (ha : placeIn a [] = [a]) :
    ((transmit p (serve (place p a s))).framer.get p).sending = some (.engine a) := by
  have hserved := (serve_sendingKept (place p a s)).get (place_sending h ha)
  rw [transmit_framer_of_sending hserved, hserved]

theorem setWaitList_parts_waitList (l : List WaitEntry) (s : State) : ChangesOnly [.waitList] s (setWaitList l s) := by
  intro part hpart
  cases part <;> simp_all [Part.same, setWaitList]

/-! ### Where the entry of a DEMAND goes -/

theorem joinWaitList_of_room {requested : Nat} (h : s.supply.waitList.length < 8) : joinWaitList p b requested s
    = answerHold p b (setWaitList (s.supply.waitList ++ [{ port := p, branch := b, requested := requested }]) s) :=
  if_pos h

theorem joinWaitList_of_full {requested : Nat} (h : 8 ≤ s.supply.waitList.length) :
    joinWaitList p b requested s = answerDeny p b .full s := if_neg (Nat.not_lt.mpr h)

theorem answerHold_supply (p : Port) (b : Nat) (s : State) : (answerHold p b s).supply = s.supply := place_supply _ _ _

theorem supplyBarred_of_passes {voltage : Nat} (h : s.demandPasses p voltage) : s.supplyBarred p = false := by
  rw [Bool.eq_false_iff, ne_eq, supplyBarred_iff]
  obtain ⟨hdraws, hidle, hjoins, hsupplies, -⟩ := h
  simp [hdraws, hidle, hjoins, hsupplies]

theorem headCurrent_of_table (htable : t.table = s.table) (hbudget : t.supply.budget = s.supply.budget)
    (hpolicy : t.policy = s.policy) (w : WaitEntry) : t.headCurrent w = s.headCurrent w := by
  unfold State.headCurrent
  rw [budgetRoom_eq, budgetRoom_eq, portRoom_eq, portRoom_eq, State.portGrants, State.portGrants, grants_of_table htable,
    hbudget, hpolicy]

theorem unavailable_iff_of_waitList {l : List Part} (h : ChangesOnly l s t) (hl : l ⊆ [.framer p, .waitList]) :
    t.unavailable p ↔ s.unavailable p := by
  have h := h.mono hl
  have hcontract : t.contract.get p = s.contract.get p := h (.contract p) (by simp)
  have hbudget : t.supply.budget = s.supply.budget := h .budget (by simp)
  have hsupplies : t.supplies p = s.supplies p := supplies_of_table (h (.own p) (by simp))
  have hjoining : t.isJoining p = s.isJoining p := by
    unfold State.isJoining
    rw [(h .service (by simp)).2.2]
  unfold State.unavailable
  rw [hcontract, hbudget, hsupplies, hjoining]

/-- With nothing else waiting and too little room, the service leaves the new entry as the whole list. -/
theorem serve_newEntry {voltage requested : Nat} (hpasses : s.demandPasses p voltage) (hempty : s.supply.waitList = [])
    (hprobing : (s.monitor.get p).state ≠ .probing) (hlimit : requested ≤ s.policy.active.params[13])
    (hroom : s.newCurrent p requested < 500) :
    ∃ t, serve (demandNew p b requested s) = setWaitList [{ port := p, branch := b, requested := requested }] t
      ∧ t = answerHold p b (setWaitList [{ port := p, branch := b, requested := requested }] s) := by
  refine ⟨_, ?_, rfl⟩
  have hjoins : demandNew p b requested s
      = answerHold p b (setWaitList [{ port := p, branch := b, requested := requested }] s) := by
    rw [demandNew_joins fun _ => hroom, joinWaitList_of_room (by simp [hempty]), hempty]
    rfl
  rw [hjoins]
  set w : WaitEntry := { port := p, branch := b, requested := requested } with hw
  set v := answerHold p b (setWaitList [w] s) with hv
  have hchanges : ChangesOnly [.framer p, .waitList] s v :=
    .then (setWaitList_parts_waitList [w] s)
      (place_changes_of_not_probing (s := setWaitList [w] s) hprobing _) (by simp) (by simp)
  have hwait : v.supply.waitList = [w] := by
    rw [hv, answerHold_supply]
    rfl
  have hpolicy : v.policy = s.policy := hchanges .policy (by simp)
  have hlow : v.headCurrent w = s.newCurrent p requested := by
    have htable : v.table = s.table := place_table p _ (setWaitList [w] s)
    rw [headCurrent_of_table htable (hchanges .budget (by simp)) hpolicy, State.headCurrent,
      Nat.min_eq_left hlimit]
    rfl
  have hpasses' : v.demandPasses p voltage := by
    rw [demandPasses_iff] at hpasses ⊢
    exact ⟨mt (unavailable_iff_of_waitList hchanges (by simp)).mp hpasses.1, hpasses.2⟩
  rw [serve_of_stays hwait (by simp [hw, supplyBarred_of_passes hpasses']) (by omega), State.loweredHead, hpolicy,
    Nat.min_eq_left hlimit]

end

/-- Settles O21. -/
theorem demandThatMustWaitIsHeld : Obligations.DemandThatMustWaitIsHeld := by
  intro s p f htakes b limit requested entry served hfinds hpasses hnone
  have hprobing : (s.monitor.get p).state ≠ .probing := by simp [htakes.talking]
  set u := s.atSupply p b with hu
  have hchanges : ChangesOnly [.framer p, .pool] s u := atSupply_changes s p b
  have hsupply : u.supply = s.supply := atSupply_supply s p b
  have hpolicy : u.policy = s.policy := atSupply_policy s p b
  have hprobing' : (u.monitor.get p).state ≠ .probing := htakes.atSupply_not_probing b
  have hpasses' := atSupply_passes hpasses b
  have hnone' : u.grantOf p b = none := (atSupply_grantOf s p b p b).trans hnone
  have hrequested : u.takenRequest (currentField f.payload 2) = requested := by
    unfold State.takenRequest
    rw [hpolicy]
    rfl
  have hnew (hwaits : u.waits p b = false) :
      exec (.demand p f) s = .next (transmit p (serve (demandNew p b requested u))) := by
    rw [exec_demand_of_finds htakes hfinds, ← hu, supplyDemand_of_new hpasses' hnone' hwaits, hrequested]
  have hframe {v : State} (hv : ChangesOnly supplyParts u v) : ChangesOnly supplyParts s (transmit p (serve v)) :=
    .trans (hchanges.mono (by simp [supplyParts])) (.trans hv
      (.trans (serve_changes _) ((transmit_changes p _).mono (by simp [supplyParts, placeParts]))))
  have hserved {v : State} {l : List WaitEntry} (hv : v.supply.waitList = l) (hpolicy' : v.policy = u.policy) :
      served l (transmit p (serve v)) := by
    obtain ⟨k, hk⟩ := serve_servedList v
    rw [hv, hpolicy', hpolicy] at hk
    exact ⟨k, by rw [transmit_supply]; exact hk⟩
  refine ⟨fun hempty hlow => ?alone, fun hwaiting => ?behind⟩
  case alone =>
    have hempty' : u.supply.waitList = [] := by rw [hsupply]; exact hempty
    have hroom : u.newCurrent p requested < 500 := by
      refine lt_of_eq_of_lt ?_ hlow
      unfold State.newCurrent
      rw [budgetRoom_eq, budgetRoom_eq, portRoom_eq, portRoom_eq, atSupply_grants, hsupply, hpolicy, atSupply_portGrants]
    have hlimit : requested ≤ u.policy.active.params[13] := by
      rw [hpolicy]
      exact min_le_right _ _
    obtain ⟨v, hv, hdef⟩ := serve_newEntry (b := b) hpasses' hempty' hprobing' hlimit hroom
    have hheld : ChangesOnly [.framer p, .waitList] u v := by
      rw [hdef]
      exact .then (setWaitList_parts_waitList [entry] u)
        (place_changes_of_not_probing (s := setWaitList [entry] u) hprobing' _) (by simp) (by simp)
    refine ⟨_, hnew (not_waits_of_empty hempty'), ?_, fun hidle => ?_, ?_⟩
    · rw [transmit_supply, hv]
      rfl
    · have hsends : (v.framer.get p).sending = some (.engine (.hold b)) := by
        rw [hdef]
        exact place_sending (s := setWaitList [entry] u) ((hidle.atSupply b).of_framer rfl) rfl
      rw [hv, transmit_framer_of_sending (s := setWaitList [entry] v) hsends]
      exact hsends
    · rw [hv]
      exact transmit_changes_after (.trans (hchanges.then hheld (by simp) (by simp))
        ((setWaitList_parts_waitList _ v).mono (by simp))) hprobing (by simp) (by simp)
  case behind =>
    have hwaiting' : u.supply.waitList ≠ [] := by rw [hsupply]; exact hwaiting
    have hsame : u.waits p b = s.waits p b := by
      unfold State.waits
      rw [hsupply]
    cases hwaits : s.waits p b with
    | true =>
      have hexec : exec (.demand p f) s = .next (transmit p (serve (demandWaiting p b requested u))) := by
        rw [exec_demand_of_finds htakes hfinds, ← hu, supplyDemand_of_waits hpasses' hnone' (hsame.trans hwaits),
          hrequested]
      have hlist : (demandWaiting p b requested u).supply.waitList
          = s.supply.waitList.map fun w => if w.port = p ∧ w.branch = b then entry else w := by
        unfold demandWaiting
        rw [answerHold_supply, hsupply]
        refine List.map_congr_left fun w _ => ?_
        by_cases hw : w.port = p ∧ w.branch = b
        · rw [if_pos (by simpa [WaitEntry.isFor] using hw), if_pos hw]
          obtain ⟨rfl, hbranch⟩ := hw
          simp only [hbranch, entry]
        · rw [if_neg (by simpa [WaitEntry.isFor] using hw), if_neg hw]
      have hsends (hidle : s.lineIdle p) :
          ((transmit p (serve (demandWaiting p b requested u))).framer.get p).sending = some (.engine (.hold b)) := by
        unfold demandWaiting
        generalize hl : u.supply.waitList.map _ = l
        exact place_served_sends (s := setWaitList l u) ((hidle.atSupply b).of_framer rfl) rfl
      have hchanges' := demandWaiting_changes p b requested u
      exact ⟨_, hexec, fun _ => ⟨hserved hlist (hchanges' .policy (by simp [supplyParts])), hsends⟩, nofun, nofun,
        hframe hchanges'⟩
    | false =>
      have hjoins : demandNew p b requested u = joinWaitList p b requested u := demandNew_joins fun h => absurd h hwaiting'
      have hpolicy' : (joinWaitList p b requested u).policy = u.policy := joinWaitList_changes p b requested u .policy (by simp [supplyParts])
      rw [hnew (hsame.trans hwaits), hjoins]
      refine ⟨_, rfl, nofun, fun _ hroom => ?_, fun _ hfull => ?_, hframe (joinWaitList_changes p b requested u)⟩
      · have hheld := joinWaitList_of_room (p := p) (b := b) (requested := requested) (s := u) (by rw [hsupply]; exact hroom)
        refine ⟨hserved ?_ hpolicy', fun hidle => ?_⟩
        · rw [hheld, answerHold_supply, hsupply]
          rfl
        · rw [hheld]
          exact place_served_sends (s := setWaitList (u.supply.waitList ++ [entry]) u) ((hidle.atSupply b).of_framer rfl) rfl
      · have hdenied := joinWaitList_of_full (p := p) (b := b) (requested := requested) (s := u) (by rw [hsupply]; exact hfull)
        refine ⟨hserved ?_ hpolicy', fun hidle => ?_⟩
        · rw [hdenied, answerDeny_supply, hsupply]
        · rw [hdenied]
          exact place_served_sends (hidle.atSupply b) rfl

end Sys2Proof.Machine
end

section
/-! PROOFS. A RETIRE at the Supply Unit (09; R16, R162, R163). -/

namespace Sys2Proof.Machine

open Sys2Proof

section
variable {s t u : State} {p q : Port} {b d : Nat} {f : RawFrame}

/-! ### What a branch gives up -/

theorem openIfUnused_table (p : Port) (s : State) : (openIfUnused p s).table = s.table := by
  unfold openIfUnused
  split <;> rfl

theorem openIfUnused_parts (p : Port) (s : State) : ChangesOnly [.supplySwitch p] s (openIfUnused p s) :=
  .ite (setSupplySwitch_parts p false s) ((ChangesOnly.refl [] s).mono (by simp))

theorem openIfUnused_waitList (p : Port) (s : State) : (openIfUnused p s).supply.waitList = s.supply.waitList := by
  unfold openIfUnused
  split <;> rfl

theorem openIfUnused_framer (p : Port) (s : State) : (openIfUnused p s).framer = s.framer := by
  unfold openIfUnused
  split <;> rfl

theorem giveUp_of_grant {g : Grant} (h : s.grantOf p b = some g) :
    giveUp p b s = openIfUnused p (setGrant p b none (removeWait p b s)) := by
  have h' : (removeWait p b s).grantOf p b = some g := h
  simp [giveUp, h']

theorem giveUp_of_none (h : s.grantOf p b = none) : giveUp p b s = removeWait p b s := by
  have h' : (removeWait p b s).grantOf p b = none := h
  simp [giveUp, h']

theorem giveUp_grantOf (p : Port) (b : Nat) (s : State) : (giveUp p b s).grantOf p b = none := by
  cases h : s.grantOf p b with
  | none => rw [giveUp_of_none h]; exact h
  | some g => rw [giveUp_of_grant h, grantOf_of_table (openIfUnused_table p _), setGrant_none_grantOf]

theorem giveUp_grantOf_other (s : State) (h : q ≠ p ∨ d ≠ b) : (giveUp p b s).grantOf q d = s.grantOf q d := by
  cases hg : s.grantOf p b with
  | none => rw [giveUp_of_none hg]; rfl
  | some g =>
    rw [giveUp_of_grant hg, grantOf_of_table (openIfUnused_table p _), setGrant_grantOf_other _ _ h]
    rfl

theorem giveUp_records (p : Port) (b : Nat) (s : State) : sameRecords s (giveUp p b s) := by
  have hwait : sameRecords s (removeWait p b s) := records_of_table rfl
  cases h : s.grantOf p b with
  | none => rw [giveUp_of_none h]; exact hwait
  | some g =>
    rw [giveUp_of_grant h]
    exact (hwait.trans (setGrant_records p b none _)).trans (records_of_table (openIfUnused_table p _))

theorem giveUp_waitList (p : Port) (b : Nat) (s : State) :
    (giveUp p b s).supply.waitList = s.supply.waitList.filter fun w => !w.isFor p b := by
  cases h : s.grantOf p b with
  | none => rw [giveUp_of_none h]; rfl
  | some g =>
    rw [giveUp_of_grant h, openIfUnused_waitList, setGrant_supply]
    rfl

theorem giveUp_framer (p : Port) (b : Nat) (s : State) : (giveUp p b s).framer = s.framer := by
  cases h : s.grantOf p b with
  | none => rw [giveUp_of_none h]; rfl
  | some g =>
    rw [giveUp_of_grant h, openIfUnused_framer, setGrant_framer]
    rfl

theorem giveUp_waits (p : Port) (b : Nat) (s : State) : (giveUp p b s).waits p b = false := by
  unfold State.waits
  rw [giveUp_waitList]
  simp

theorem removeWait_of_empty (h : s.supply.waitList = []) : removeWait p b s = s := by
  unfold removeWait setWaitList State.modSupply
  rw [h, List.filter_nil, ← h]

theorem giveUp_parts (h : s.supply.waitList = []) (p : Port) (b : Nat) :
    ChangesOnly [.own p, .pool, .supplySwitch p] s (giveUp p b s) := by
  cases hg : s.grantOf p b with
  | none =>
    rw [giveUp_of_none hg, removeWait_of_empty h]
    exact .refl _ s
  | some g =>
    rw [giveUp_of_grant hg, removeWait_of_empty h]
    exact .then (setGrant_parts p b none s) (openIfUnused_parts p _) (by simp) (by simp)

/-! ### A freed record -/

theorem freePooled_keys (p : Port) (b : Nat) (s : State) : (p, b) ∉ (freePooled p b s).keys := by
  rw [mem_keys_iff]
  rintro ⟨r, hr, hport, hbranch⟩
  obtain ⟨-, hno⟩ := List.mem_filter.mp hr
  simp [PooledRecord.isFor, hport, hbranch] at hno

theorem freePooled_hasRecord (hb : b ≠ 0) (s : State) : (freePooled p b s).hasRecord p b = false := by
  rw [Bool.eq_false_iff, ne_eq, hasRecord_iff]
  rintro (⟨rfl, -⟩ | ⟨-, hkey⟩)
  · exact hb rfl
  · exact freePooled_keys p b s hkey

theorem freePooled_grantOf (hb : b ≠ 0) (s : State) : (freePooled p b s).grantOf p b = none := by
  by_contra hg
  obtain ⟨g, hg⟩ := Option.ne_none_iff_exists'.mp hg
  have hrecord := hasRecord_of_grantOf hg
  rw [freePooled_hasRecord hb] at hrecord
  exact Bool.false_ne_true hrecord

theorem freePooled_grantOf_other (s : State) (h : q ≠ p ∨ d ≠ b) : (freePooled p b s).grantOf q d = s.grantOf q d := by
  by_cases hd : d = 0
  · subst hd
    rfl
  · rw [grantOf_pooled hd, grantOf_pooled hd]
    congr 1
    simp only [freePooled, State.setPool, List.find?_filter]
    refine List.find?_congr fun r _ => ?_
    by_cases hfor : r.isFor q d = true
    · obtain ⟨rfl, rfl⟩ := (isFor_iff q d r).mp hfor
      have hno : r.isFor p b = false := by
        rw [Bool.eq_false_iff, ne_eq, isFor_iff]
        rintro ⟨rfl, rfl⟩
        simp at h
      simp [hfor, hno]
    · simp [hfor]

/-- A record without a grant is freed without a change of the grants. -/
theorem freePooled_grants (h : ∀ r ∈ s.table.pool, r.isFor p b = true → r.grant = none) :
    (freePooled p b s).grants = s.grants := by
  unfold State.grants freePooled State.setPool
  congr 1
  rw [List.filterMap_filter]
  refine List.filterMap_congr fun r hr => ?_
  by_cases hfor : r.isFor p b = true
  · simp [hfor, h r hr hfor]
  · simp [hfor]

theorem setGrant_none_pool (hb : b ≠ 0) (s : State) :
    ∀ r ∈ (setGrant p b none s).table.pool, r.isFor p b = true → r.grant = none := by
  intro r hr hfor
  unfold setGrant at hr
  rw [if_neg hb] at hr
  obtain ⟨r', -, rfl⟩ := List.mem_map.mp hr
  by_cases h : r'.isFor p b = true
  · rw [if_pos h]
  · rw [if_neg h] at hfor
    exact absurd hfor h

/-! ### RETIRE -/

/-- What a RETIRE gives up before the wait list is served. -/
def retired (p : Port) (b : Nat) (s : State) : State := if b = 0 then giveUp p b s else freePooled p b (giveUp p b s)

theorem retired_grantOf (p : Port) (b : Nat) (s : State) : (retired p b s).grantOf p b = none := by
  unfold retired
  split
  · exact giveUp_grantOf p b s
  · next hb => exact freePooled_grantOf hb _

theorem retired_supply (p : Port) (b : Nat) (s : State) : (retired p b s).supply = (giveUp p b s).supply := by
  unfold retired
  split <;> rfl

theorem retired_framer (p : Port) (b : Nat) (s : State) : (retired p b s).framer = s.framer := by
  refine Eq.trans ?_ (giveUp_framer p b s)
  unfold retired
  split <;> rfl

theorem retired_waits (p : Port) (b : Nat) (s : State) : (retired p b s).waits p b = false := by
  rw [State.waits, retired_supply]
  exact giveUp_waits p b s

theorem retired_own (p q : Port) (b : Nat) (s : State) :
    ((retired p b s).table.own.get q).isSome = (s.table.own.get q).isSome := by
  refine Eq.trans ?_ ((giveUp_records p b s).1 q)
  unfold retired
  split <;> rfl

theorem retired_changes (p : Port) (b : Nat) (s : State) : ChangesOnly supplyParts s (retired p b s) :=
  .ite (giveUp_changes p b s) ((giveUp_changes p b s).trans (freePooled_changes p b _))

theorem freePooled_parts (p : Port) (b : Nat) (s : State) : ChangesOnly [.pool] s (freePooled p b s) := setPool_changes s _

theorem retired_parts (h : s.supply.waitList = []) (p : Port) (b : Nat) :
    ChangesOnly [.own p, .pool, .supplySwitch p] s (retired p b s) :=
  .ite (giveUp_parts h p b) (.then (giveUp_parts h p b) (freePooled_parts p b _) (by simp) (by simp))

theorem retired_grants {g : Grant} (h : s.grantOf p b = some g) :
    (retired p b s).grants = (setGrant p b none (removeWait p b s)).grants := by
  unfold retired
  rw [giveUp_of_grant h]
  split
  · exact grants_of_table (openIfUnused_table p _)
  · next hb =>
    rw [freePooled_grants, grants_of_table (openIfUnused_table p _)]
    rw [openIfUnused_table]
    exact setGrant_none_pool hb _

/-- The supply switch opens with the port's last grant (R163). -/
theorem retired_switch {g : Grant} (h : s.grantOf p b = some g) (hlast : (retired p b s).portGrants p = []) :
    (retired p b s).supply.switchClosed.get p = false := by
  rw [State.portGrants, retired_grants h] at hlast
  rw [retired_supply, giveUp_of_grant h, openIfUnused, if_pos (by rw [State.portGrants, hlast]; rfl)]
  exact Four.get_set_same _ _ _

theorem exec_retire_of_record (h : s.takes p kindRetire f)
    (hrecord : f.branch.toNat = 0 ∨ s.hasRecord p f.branch.toNat = true) :
    exec (.retire p f) s = .next (transmit p (serve (retired p f.branch.toNat (s.counted p)))) := by
  obtain ⟨hrun, -⟩ := id h
  have hexec : exec (.retire p f) s = _ := exec_of_running rfl hrun
  rw [hexec, receiveFrame_of_takes h]
  congr 2
  exact if_pos hrecord

theorem exec_retire_of_none (h : s.takes p kindRetire f) (hb : f.branch.toNat ≠ 0)
    (hno : s.hasRecord p f.branch.toNat = false) : exec (.retire p f) s = .next (transmit p (s.counted p)) := by
  obtain ⟨hrun, -⟩ := id h
  have hexec : exec (.retire p f) s = _ := exec_of_running rfl hrun
  rw [hexec, receiveFrame_of_takes h]
  congr 2
  exact if_neg fun hor => hor.elim hb fun hyes => Bool.false_ne_true (hno.symm.trans hyes)

end

/-- Settles O22. -/
theorem retireGivesUpItsGrant : Obligations.RetireGivesUpItsGrant := by
  intro s p f htakes b
  have hprobing : (s.monitor.get p).state ≠ .probing := by simp [htakes.talking]
  have hcounted : ChangesOnly [.framer p] s (s.counted p) := counted_changes p s
  refine ⟨fun hrecord => ?gone, fun hb hno => ?discarded⟩
  case gone =>
    set u := retired p b (s.counted p) with hu
    have hexec : exec (.retire p f) s = .next (transmit p (serve u)) := exec_retire_of_record htakes hrecord
    obtain ⟨hwaits, g, -, hgrant⟩ := serve_pairKept u p b (retired_waits p b _)
    rw [hu, retired_grantOf, ← hu] at hgrant
    have hrecords : sameRecords u (transmit p (serve u)) :=
      (serve_records u).trans (records_of_table (transmit_table p (serve u)))
    refine ⟨_, hexec, ?_, ?_, fun hb => ?_, fun _ => ?_, ?_, fun hempty => ?_⟩
    · rw [grantOf_of_table (transmit_table p _), hgrant]
      rfl
    · rw [State.waits, transmit_supply]
      exact hwaits
    · rw [hrecords.hasRecord, hu, retired, if_neg hb]
      exact freePooled_hasRecord hb _
    · rw [hrecords.1]
      exact retired_own p p b (s.counted p)
    · exact .trans (hcounted.mono (by simp [supplyParts])) (.trans (retired_changes p b _)
        (.trans (serve_changes u) ((transmit_changes p _).mono (by simp [supplyParts, placeParts]))))
    · have hserve : serve u = u := by
        refine serve_of_empty ?_
        rw [hu, retired_supply, giveUp_waitList]
        exact congrArg (List.filter _) hempty
      rw [hserve]
      refine ⟨fun hgranted hlast => ?_, fun hnone => ?_, fun hidle => ?_, ?_⟩
      · obtain ⟨old, hold⟩ := Option.isSome_iff_exists.mp hgranted
        rw [State.portGrants, grants_of_table (transmit_table p u)] at hlast
        rw [transmit_supply]
        exact retired_switch (s := s.counted p) hold hlast
      · rw [transmit_supply, hu, retired_supply, giveUp_of_none (s := s.counted p) hnone,
          removeWait_of_empty (s := s.counted p) hempty]
        rfl
      · refine transmit_sending_of_idle ?_
        unfold State.lineIdle
        rw [hu, retired_framer]
        exact hidle.counted.1
      · exact transmit_changes_after (hcounted.then (retired_parts (s := s.counted p) hempty p b) (by simp) (by simp))
          hprobing (by simp) (by simp)
  case discarded =>
    rw [exec_retire_of_none htakes hb hno]
    exact ⟨_, rfl, transmit_changes_after hcounted hprobing (by simp) (by simp),
      fun hidle => transmit_sending_of_idle hidle.counted.1⟩

end Sys2Proof.Machine
end

section
/-! PROOFS. Grants that give way from the newest (09; R164, R165). -/

namespace Sys2Proof.Machine

open Sys2Proof

section
variable {s t u : State} {p q : Port} {b d : Nat}

/-! ### One grant gives way -/

theorem State.recordsStand.keyed (h : s.recordsStand) : s.keyed := by
  obtain ⟨-, hpool, hnodup, -⟩ := h
  refine ⟨hnodup, fun k hk => ?_⟩
  obtain ⟨r, hr, rfl⟩ := List.mem_map.mp hk
  obtain ⟨hbranch, -⟩ := hpool r hr
  exact Nat.one_le_iff_ne_zero.mp hbranch

theorem giveWay_of_more {g : GrantView} (step : Nat) (h : 500 < g.grant.current) :
    giveWay g step s = reduceGrant g step s := if_pos h

theorem giveWay_of_least {g : GrantView} (step : Nat) (h : g.grant.current ≤ 500) : giveWay g step s = cutGrant g s :=
  if_neg (Nat.not_lt.mpr h)

/-- The grant as it is reduced. -/
def GrantView.reduced (g : GrantView) (step : Nat) : Grant := { g.grant with current := max 500 (g.grant.current - step) }

theorem reduceGrant_eq (g : GrantView) (step : Nat) (s : State) : reduceGrant g step s
    = postSupply noticeReduced g.port g.branch (grantTold g.port g.branch (g.reduced step) s) := rfl

/-- A grant taken from its branch, which is told of it. -/
def cutTold (p : Port) (b : Nat) (s : State) : State := place p (.cut b) (setGrant p b none s)

theorem cutTold_table (p : Port) (b : Nat) (s : State) : (cutTold p b s).table = (setGrant p b none s).table :=
  place_table _ _ _

theorem cutTold_supply (p : Port) (b : Nat) (s : State) : (cutTold p b s).supply = s.supply :=
  (place_supply _ _ _).trans (setGrant_supply p b none s)

theorem cutTold_changes (p : Port) (b : Nat) (s : State) :
    ChangesOnly [.framer p, .monitor p, .own p, .pool] s (cutTold p b s) :=
  .then (setGrant_parts p b none s) (place_changes p _ _) (by simp) (by simp [placeParts])

theorem cutTold_sends (h : s.lineQuiet p) (b : Nat) :
    ((cutTold p b s).framer.get p).sending = some (.engine (.cut b)) :=
  place_sending (h.of_framer (by rw [setGrant_framer])) rfl

/-- A cut grant's port and notice, before its branch joins the wait list. -/
def cutPosted (g : GrantView) (s : State) : State :=
  postSupply noticeCut g.port g.branch (openIfUnused g.port (cutTold g.port g.branch s))

theorem cutPosted_table (g : GrantView) (s : State) :
    (cutPosted g s).table = (setGrant g.port g.branch none s).table :=
  Eq.trans (openIfUnused_table g.port _) (cutTold_table g.port g.branch s)

theorem cutPosted_waitList (g : GrantView) (s : State) : (cutPosted g s).supply.waitList = s.supply.waitList := by
  rw [show (cutPosted g s).supply.waitList = (openIfUnused g.port (cutTold g.port g.branch s)).supply.waitList from rfl,
    openIfUnused_waitList, cutTold_supply]

theorem cutPosted_switch (g : GrantView) (s : State) : (cutPosted g s).supply.switchClosed.get g.port = true
    ↔ s.supply.switchClosed.get g.port = true ∧ (cutPosted g s).portGrants g.port ≠ [] := by
  have hgrants : (cutPosted g s).portGrants g.port = (cutTold g.port g.branch s).portGrants g.port := by
    unfold State.portGrants
    rw [grants_of_table ((cutPosted_table g s).trans (cutTold_table g.port g.branch s).symm)]
  rw [hgrants, show (cutPosted g s).supply = (openIfUnused g.port (cutTold g.port g.branch s)).supply from rfl, openIfUnused]
  by_cases hlast : (cutTold g.port g.branch s).portGrants g.port = []
  · simp [hlast, setSupplySwitch, State.modSupply]
  · rw [if_neg (by simpa using hlast), cutTold_supply]
    simp [hlast]

theorem cutPosted_changes (g : GrantView) (s : State) :
    ChangesOnly [.framer g.port, .monitor g.port, .own g.port, .pool, .supplySwitch g.port, .notice .supply] s
      (cutPosted g s) :=
  .then (.then (cutTold_changes g.port g.branch s) (openIfUnused_parts g.port _) (l := [.framer g.port, .monitor g.port,
    .own g.port, .pool, .supplySwitch g.port]) (by simp) (by simp)) (postSupply_changes _ _ _ _) (by simp) (by simp)

theorem cutPosted_notice (g : GrantView) (s : State) : (cutPosted g s).link.notices.get .supply
    = some (postTo (s.link.notices.get .supply) noticeCut (snapshotOf g.port.val g.branch 0 0) s.msCount) := by
  have hcore : ChangesOnly [.framer g.port, .monitor g.port, .own g.port, .pool, .supplySwitch g.port] s
      (openIfUnused g.port (cutTold g.port g.branch s)) :=
    .then (cutTold_changes g.port g.branch s) (openIfUnused_parts g.port _) (by simp) (by simp)
  refine (post_notice .supply noticeCut _ _).trans ?_
  congr 2
  · exact hcore (.notice .supply) (by simp)
  · exact hcore .clock (by simp)

theorem cutPosted_framer (g : GrantView) (s : State) : (cutPosted g s).framer = (cutTold g.port g.branch s).framer :=
  Eq.trans rfl (openIfUnused_framer g.port _)

/-- The wait-list entry of a cut branch. -/
def GrantView.entry (g : GrantView) : WaitEntry := { port := g.port, branch := g.branch, requested := g.grant.requested }

theorem cutGrant_of_room (g : GrantView) (h : s.supply.waitList.length < 8) :
    cutGrant g s = setWaitList (s.supply.waitList ++ [g.entry]) (cutPosted g s) := by
  rw [← cutPosted_waitList g s] at h ⊢
  exact if_pos h

theorem cutGrant_of_full (g : GrantView) (h : 8 ≤ s.supply.waitList.length) :
    cutGrant g s = postSupply noticeDropped g.port g.branch (cutPosted g s) := by
  rw [← cutPosted_waitList g s] at h
  exact if_neg (Nat.not_lt.mpr h)

theorem cutGrant_table (g : GrantView) (s : State) :
    (cutGrant g s).table = (setGrant g.port g.branch none s).table := by
  rw [← cutPosted_table]
  rcases Nat.lt_or_ge s.supply.waitList.length 8 with h | h
  · rw [cutGrant_of_room g h]
    rfl
  · rw [cutGrant_of_full g h]
    rfl

theorem reduceGrant_table (g : GrantView) (step : Nat) (s : State) :
    (reduceGrant g step s).table = (setGrant g.port g.branch (some (g.reduced step)) s).table := place_table _ _ _

theorem giveWay_grantOf_other (g : GrantView) (step : Nat) (s : State) (h : q ≠ g.port ∨ d ≠ g.branch) :
    (giveWay g step s).grantOf q d = s.grantOf q d := by
  rcases Nat.lt_or_ge 500 g.grant.current with hmore | hleast
  · rw [giveWay_of_more step hmore, grantOf_of_table (reduceGrant_table g step s), setGrant_grantOf_other _ _ h]
  · rw [giveWay_of_least step hleast, grantOf_of_table (cutGrant_table g s), setGrant_grantOf_other _ _ h]

theorem giveWay_records (g : GrantView) (step : Nat) (s : State) : sameRecords s (giveWay g step s) := by
  rcases Nat.lt_or_ge 500 g.grant.current with hmore | hleast
  · rw [giveWay_of_more step hmore]
    exact (setGrant_records _ _ _ s).trans (records_of_table (reduceGrant_table g step s))
  · rw [giveWay_of_least step hleast]
    exact (setGrant_records _ _ _ s).trans (records_of_table (cutGrant_table g s))

theorem giveWay_grantOf_more {g : GrantView} (step : Nat) (hg : s.grantOf g.port g.branch = some g.grant)
    (h : 500 < g.grant.current) : (giveWay g step s).grantOf g.port g.branch = some (g.reduced step) := by
  rw [giveWay_of_more step h, grantOf_of_table (reduceGrant_table g step s), setGrant_grantOf _ (hasRecord_of_grantOf hg)]

theorem giveWay_grantOf_least {g : GrantView} (step : Nat) (h : g.grant.current ≤ 500) :
    (giveWay g step s).grantOf g.port g.branch = none := by
  rw [giveWay_of_least step h, grantOf_of_table (cutGrant_table g s), setGrant_none_grantOf]

theorem giveWay_parts (g : GrantView) (step : Nat) (s : State) : ChangesOnly
    [.framer g.port, .monitor g.port, .own g.port, .pool, .waitList, .supplySwitch g.port, .notice .supply] s
    (giveWay g step s) := by
  rcases Nat.lt_or_ge 500 g.grant.current with hmore | hleast
  · rw [giveWay_of_more step hmore, reduceGrant_eq]
    exact .then (grantTold_changes _ _ _ s) (postSupply_changes _ _ _ _) (by simp) (by simp)
  · rw [giveWay_of_least step hleast]
    rcases Nat.lt_or_ge s.supply.waitList.length 8 with h | h
    · rw [cutGrant_of_room g h]
      exact .then (cutPosted_changes g s) (setWaitList_parts_waitList _ _) (by simp) (by simp)
    · rw [cutGrant_of_full g h]
      exact .then (cutPosted_changes g s) (postSupply_changes _ _ _ _) (by simp) (by simp)

/-- What a reduced grant shows besides (R164 step 3). -/
theorem reduceGrant_spec (g : GrantView) (step : Nat) (s : State) : (reduceGrant g step s).supply = s.supply
    ∧ (reduceGrant g step s).link.notices.get .supply
        = some (postTo (s.link.notices.get .supply) noticeReduced (snapshotOf g.port.val g.branch 0 0) s.msCount)
    ∧ (s.lineQuiet g.port →
        ((reduceGrant g step s).framer.get g.port).sending = some (.engine (.supply g.branch (g.reduced step).current))) := by
  rw [reduceGrant_eq]
  have hcore := grantTold_changes g.port g.branch (g.reduced step) s
  refine ⟨grantTold_supply g.port g.branch _ s, ?_, fun h => grantTold_sends h g.branch (g.reduced step)⟩
  refine (post_notice .supply noticeReduced _ _).trans ?_
  congr 2
  · exact hcore (.notice .supply) (by simp)
  · exact hcore .clock (by simp)

/-- What a cut grant shows besides (R164 step 4). -/
theorem cutGrant_spec (g : GrantView) (s : State) :
    let cut := postTo (s.link.notices.get .supply) noticeCut (snapshotOf g.port.val g.branch 0 0) s.msCount
    ((cutGrant g s).supply.switchClosed.get g.port = true
        ↔ s.supply.switchClosed.get g.port = true ∧ (cutGrant g s).portGrants g.port ≠ [])
      ∧ (s.supply.waitList.length < 8 → (cutGrant g s).supply.waitList = s.supply.waitList ++ [g.entry]
          ∧ (cutGrant g s).link.notices.get .supply = some cut)
      ∧ (8 ≤ s.supply.waitList.length → (cutGrant g s).supply.waitList = s.supply.waitList
          ∧ (cutGrant g s).link.notices.get .supply
              = some (postTo (some cut) noticeDropped (snapshotOf g.port.val g.branch 0 0) s.msCount))
      ∧ (s.lineQuiet g.port → ((cutGrant g s).framer.get g.port).sending = some (.engine (.cut g.branch))) := by
  intro cut
  have hsends (h : s.lineQuiet g.port) : ((cutPosted g s).framer.get g.port).sending = some (.engine (.cut g.branch)) := by
    rw [cutPosted_framer]
    exact cutTold_sends h g.branch
  rcases Nat.lt_or_ge s.supply.waitList.length 8 with h | h
  · rw [cutGrant_of_room g h]
    exact ⟨cutPosted_switch g s, fun _ => ⟨rfl, cutPosted_notice g s⟩, fun h' => absurd h (Nat.not_lt.mpr h'), hsends⟩
  · rw [cutGrant_of_full g h]
    refine ⟨cutPosted_switch g s, fun h' => absurd h' (Nat.not_lt.mpr h), fun _ => ⟨cutPosted_waitList g s, ?_⟩, hsends⟩
    refine (post_notice .supply noticeDropped _ _).trans ?_
    rw [cutPosted_notice, show (cutPosted g s).msCount = s.msCount from cutPosted_changes g s .clock (by simp)]

theorem giveWay_givesWay {group : List GrantView} {g : GrantView} (step : Nat) (hmem : g ∈ group)
    (hnewest : ∀ h ∈ group, h.grant.order ≤ g.grant.order) (hg : s.grantOf g.port g.branch = some g.grant) :
    givesWay group step s (giveWay g step s) := by
  refine ⟨g, hmem, hnewest, fun q b hkey => giveWay_grantOf_other g step s hkey, fun hmore => ?_, fun hleast => ?_,
    giveWay_parts g step s⟩
  · refine ⟨giveWay_grantOf_more step hg hmore, ?_⟩
    rw [giveWay_of_more step hmore]
    exact reduceGrant_spec g step s
  · refine ⟨giveWay_grantOf_least step hleast, ?_⟩
    rw [giveWay_of_least step hleast]
    exact cutGrant_spec g s

theorem newestGrant_of_ne_nil : ∀ {l : List GrantView}, l ≠ [] →
    ∃ g, newestGrant l = some g ∧ ∀ h ∈ l, h.grant.order ≤ g.grant.order
  | [], h => absurd rfl h
  | x :: rest, _ => by
    unfold newestGrant
    by_cases hrest : rest = []
    · subst hrest
      exact ⟨x, rfl, by simp⟩
    · obtain ⟨g, hg, hmax⟩ := newestGrant_of_ne_nil hrest
      rw [hg]
      dsimp only
      split
      · next hmore => exact ⟨g, rfl, fun h hh => (List.mem_cons.mp hh).elim (fun e => e ▸ Nat.le_of_lt hmore) (hmax h)⟩
      · next hless =>
        refine ⟨x, rfl, fun h hh => (List.mem_cons.mp hh).elim (fun e => e ▸ Nat.le_refl _) fun hh => ?_⟩
        have := hmax h hh
        omega

/-! ### The grants but one -/

/-- The grants of a state but one pair's. -/
theorem grants_perm_cons (hs : s.keyed) {g : GrantView} (hg : s.grantOf g.port g.branch = some g.grant) :
    s.grants.Perm (g :: (setGrant g.port g.branch none s).grants) :=
  grants_perm (hs.of_same (setGrant_records _ _ _ s)) hs (setGrant_none_grantOf _ _ s) hg
    fun _ _ hkey => (setGrant_grantOf_other _ s hkey).symm

theorem giveWay_grants_more (hs : s.keyed) {g : GrantView} (step : Nat) (hg : s.grantOf g.port g.branch = some g.grant)
    (h : 500 < g.grant.current) : (giveWay g step s).grants.Perm
      ({ g with grant := g.reduced step } :: (setGrant g.port g.branch none s).grants) :=
  grants_perm (hs.of_same (setGrant_records _ _ _ s)) (hs.of_same (giveWay_records g step s))
    (setGrant_none_grantOf _ _ s) (giveWay_grantOf_more step hg h)
    fun _ _ hkey => (giveWay_grantOf_other g step s hkey).trans (setGrant_grantOf_other _ s hkey).symm

theorem giveWay_grants_least {g : GrantView} (step : Nat) (h : g.grant.current ≤ 500) :
    (giveWay g step s).grants = (setGrant g.port g.branch none s).grants := by
  rw [giveWay_of_least step h, grants_of_table (cutGrant_table g s)]

/-! ### Grants give way until the rest fit -/

/-- The steps a group of grants can still take: two for one above 500 mA, one for another. -/
def takings (l : List GrantView) : Nat := (l.map fun g => if 500 < g.grant.current then 2 else 1).sum

theorem takings_cons (g : GrantView) (l : List GrantView) :
    takings (g :: l) = (if 500 < g.grant.current then 2 else 1) + takings l := rfl

theorem takings_perm {l l' : List GrantView} (h : l.Perm l') : takings l = takings l' := (h.map _).sum_eq

theorem takings_le (l : List GrantView) : takings l ≤ 2 * l.length := by
  induction l with
  | nil => exact Nat.le_refl 0
  | cons g l ih =>
    rw [takings_cons, List.length_cons]
    split <;> omega

theorem currentOf_of_no_takings {l : List GrantView} (h : takings l = 0) : currentOf l = 0 := by
  cases l with
  | nil => rfl
  | cons g l =>
    rw [takings_cons] at h
    split at h <;> omega

/-- A group of grants named by their ports. -/
def State.groupOf (s : State) (ports : Port → Bool) : List GrantView := s.grants.filter fun g => ports g.port

/-- One taking brings a group within its limit, or leaves it fewer takings. -/
theorem giveWay_group (hs : s.keyed) {ports : Port → Bool} {g : GrantView} (hmem : g ∈ s.groupOf ports) {scale limit step : Nat}
    (hstep : currentOf (s.groupOf ports) * scale - limit ≤ step * scale) :
    currentOf ((giveWay g step s).groupOf ports) * scale ≤ limit
      ∨ takings ((giveWay g step s).groupOf ports) < takings (s.groupOf ports) := by
  obtain ⟨hgrant, hport⟩ := List.mem_filter.mp hmem
  have hg := (mem_grants_iff hs g).mp hgrant
  have hold : (s.groupOf ports).Perm (g :: (setGrant g.port g.branch none s).groupOf ports) := by
    have h := (grants_perm_cons hs hg).filter fun g => ports g.port
    rwa [List.filter_cons_of_pos (p := fun g : GrantView => ports g.port) hport] at h
  rw [currentOf_perm hold, currentOf_cons] at hstep
  rw [takings_perm hold, takings_cons]
  rcases Nat.lt_or_ge 500 g.grant.current with hmore | hleast
  · have hnew : ((giveWay g step s).groupOf ports).Perm
        ({ g with grant := g.reduced step } :: (setGrant g.port g.branch none s).groupOf ports) := by
      have h := (giveWay_grants_more hs step hg hmore).filter fun g => ports g.port
      rwa [List.filter_cons_of_pos (p := fun g : GrantView => ports g.port) (by exact hport)] at h
    rw [currentOf_perm hnew, takings_perm hnew, currentOf_cons, takings_cons, if_pos hmore]
    generalize currentOf ((setGrant g.port g.branch none s).groupOf ports) = rest at hstep ⊢
    show (max 500 (g.grant.current - step) + rest) * scale ≤ limit ∨ (if 500 < max 500 (g.grant.current - step) then 2 else 1) + _ < _
    rcases Nat.lt_or_ge 500 (g.grant.current - step) with hstill | hdone
    · left
      have hsplit : (g.grant.current + rest) * scale = (g.grant.current - step + rest) * scale + step * scale := by
        rw [← Nat.add_mul]
        congr 1
        omega
      rw [Nat.max_eq_right (Nat.le_of_lt hstill)]
      omega
    · right
      rw [Nat.max_eq_left hdone, if_neg (Nat.lt_irrefl 500)]
      omega
  · right
    have hnew : (giveWay g step s).groupOf ports = (setGrant g.port g.branch none s).groupOf ports := by
      unfold State.groupOf
      rw [giveWay_grants_least step hleast]
    rw [hnew]
    split <;> omega

/-- The newest grants of a group give way while it exceeds its limit. -/
def shed (ports : Port → Bool) (scale : Nat) (limit step : State → Nat) : Nat → State → State
  | 0, s => s
  | n + 1, s =>
    if limit s < currentOf (s.groupOf ports) * scale then
      match newestGrant (s.groupOf ports) with
      | some g => shed ports scale limit step n (giveWay g (step s) s)
      | none => s
    else s

theorem shed_of_within {ports : Port → Bool} {scale : Nat} {limit step : State → Nat}
    (h : currentOf (s.groupOf ports) * scale ≤ limit s) (n : Nat) : shed ports scale limit step n s = s := by
  cases n with
  | zero => rfl
  | succ n => exact if_neg (Nat.not_lt.mpr h)

theorem shed_relates {ports : Port → Bool} {scale : Nat} {limit step : State → Nat} {rel : State → State → Prop}
    (hlimit : ∀ g n s, limit (giveWay g n s) = limit s)
    (hstep : ∀ s, currentOf (s.groupOf ports) * scale - limit s ≤ step s * scale)
    (done : ∀ s, currentOf (s.groupOf ports) * scale ≤ limit s → rel s s)
    (more : ∀ {s t u}, limit s < currentOf (s.groupOf ports) * scale → givesWay (s.groupOf ports) (step s) s t →
      rel t u → rel s u) :
    ∀ n s, s.keyed → (limit s < currentOf (s.groupOf ports) * scale → takings (s.groupOf ports) ≤ n) →
      rel s (shed ports scale limit step n s)
        ∧ currentOf ((shed ports scale limit step n s).groupOf ports) * scale ≤ limit (shed ports scale limit step n s)
        ∧ sameRecords s (shed ports scale limit step n s) := by
  intro n
  induction n with
  | zero =>
    intro s hs hfuel
    have hwithin : currentOf (s.groupOf ports) * scale ≤ limit s := by
      by_contra hover
      have hno := hfuel (Nat.lt_of_not_le hover)
      rw [currentOf_of_no_takings (Nat.le_zero.mp hno), Nat.zero_mul] at hover
      exact hover (Nat.zero_le _)
    exact ⟨done s hwithin, hwithin, .refl s⟩
  | succ n ih =>
    intro s hs hfuel
    rcases Nat.lt_or_ge (limit s) (currentOf (s.groupOf ports) * scale) with hover | hwithin
    · have hne : s.groupOf ports ≠ [] := by
        intro hnil
        rw [hnil] at hover
        simp [currentOf] at hover
      obtain ⟨g, hg, hnewest⟩ := newestGrant_of_ne_nil hne
      have hmem := newestGrant_mem hg
      have hgrant := (mem_grants_iff hs g).mp (List.mem_filter.mp hmem).1
      have hone := giveWay_givesWay (step s) hmem hnewest hgrant
      have hrecords := giveWay_records g (step s) s
      have hrest := ih (giveWay g (step s) s) (hs.of_same hrecords) fun hstill => by
        have hfewer := (giveWay_group hs hmem (hstep s)).resolve_left (by rw [hlimit] at hstill; omega)
        have := hfuel hover
        omega
      have heq : shed ports scale limit step (n + 1) s = shed ports scale limit step n (giveWay g (step s) s) := by
        rw [shed, if_pos hover, hg]
      rw [heq]
      obtain ⟨hrel, hwithin, hsame⟩ := hrest
      exact ⟨more hover hone hrel, hwithin, hrecords.trans hsame⟩
    · rw [shed_of_within hwithin]
      exact ⟨done s hwithin, hwithin, .refl s⟩

/-! ### The budget decrease (R164) -/

theorem groupOf_all (s : State) : s.groupOf (fun _ => true) = s.grants := by simp [State.groupOf]

/-- The step of R164: the excess over 5 V, rounded up to 10 mA. -/
def State.budgetStep (s : State) : Nat := ((s.reserved - s.supply.budget) * 1000 + 10 * 5000 - 1) / (10 * 5000) * 10

theorem decreaseSteps_eq (n : Nat) (s : State) :
    decreaseSteps n s = shed (fun _ => true) 5 (fun s => s.supply.budget) State.budgetStep n s := by
  induction n generalizing s with
  | zero => rfl
  | succ n ih =>
    rw [decreaseSteps, shed, groupOf_all, ← reserved_eq]
    split
    · cases newestGrant s.grants with
      | none => rfl
      | some g => exact ih _
    · rfl

theorem budgetStep_spec (s : State) : s.budgetStep % 10 = 0 ∧ currentOf s.grants * 5 - s.supply.budget ≤ s.budgetStep * 5
    ∧ (0 < currentOf s.grants * 5 - s.supply.budget →
        s.budgetStep * 5 < currentOf s.grants * 5 - s.supply.budget + 50) := by
  unfold State.budgetStep
  rw [reserved_eq]
  omega

theorem decreaseSteps_decreases (hs : s.keyed) {n : Nat} (hn : 2 * s.grants.length ≤ n) : Decreases s (decreaseSteps n s)
    ∧ currentOf (decreaseSteps n s).grants * 5 ≤ (decreaseSteps n s).supply.budget
    ∧ sameRecords s (decreaseSteps n s) := by
  rw [decreaseSteps_eq]
  have h := shed_relates (ports := fun _ => true) (scale := 5) (limit := fun s => s.supply.budget)
    (step := State.budgetStep) (rel := Decreases)
    (fun g n s => giveWay_parts g n s .budget (by simp))
    (fun s => by rw [groupOf_all]; exact (budgetStep_spec s).2.1)
    (fun s hwithin => .done s (by rwa [groupOf_all] at hwithin))
    (fun {s t u} hover hone hrest => by
      rw [groupOf_all] at hover hone
      obtain ⟨htens, henough, hleast⟩ := budgetStep_spec s
      exact .more hover s.budgetStep htens henough (hleast (by omega)) hone hrest) n s hs
    fun _ => by
      rw [groupOf_all]
      exact (takings_le _).trans hn
  rwa [groupOf_all] at h

theorem takeBudget_of_room {budget : Nat} (h : s.supply.budget ≤ budget) :
    takeBudget budget s = { s with supply := { s.supply with budget := budget } } := if_neg (Nat.not_lt.mpr h)

theorem takeBudget_of_less {budget : Nat} (h : budget < s.supply.budget) : takeBudget budget s
    = decreaseSteps (2 * s.grants.length + 1) { s with supply := { s.supply with budget := budget } } := if_pos h

/-! ### The rebalance (R165) -/

/-- The step of R165: the excess, rounded up to 10 mA. -/
def State.limitStep (p : Port) (limit : Nat) (s : State) : Nat := roundUpTen (currentOf (s.portGrants p) - limit)

theorem groupOf_port (s : State) (p : Port) : s.groupOf (fun q => q == p) = s.portGrants p := rfl

theorem rebalancePort_eq (p : Port) (limit n : Nat) (s : State) :
    rebalancePort p limit n s = shed (fun q => q == p) 1 (fun _ => limit) (State.limitStep p limit) n s := by
  induction n generalizing s with
  | zero => rfl
  | succ n ih =>
    rw [rebalancePort, shed, groupOf_port, Nat.mul_one]
    refine if_congr Iff.rfl ?_ rfl
    cases newestGrant (s.portGrants p) with
    | none => rfl
    | some g => exact ih _

theorem rebalancePort_rebalances (hs : s.keyed) (p : Port) (limit : Nat) {n : Nat} (hn : 2 * (s.portGrants p).length ≤ n) :
    Rebalances p limit s (rebalancePort p limit n s)
      ∧ currentOf ((rebalancePort p limit n s).portGrants p) ≤ limit ∧ sameRecords s (rebalancePort p limit n s) := by
  rw [rebalancePort_eq]
  have h := shed_relates (ports := fun q => q == p) (scale := 1) (limit := fun _ => limit)
    (step := State.limitStep p limit) (rel := Rebalances p limit) (fun _ _ _ => rfl)
    (fun s => by
      rw [groupOf_port, State.limitStep, roundUpTen]
      omega)
    (fun s hwithin => .done s (by rwa [groupOf_port, Nat.mul_one] at hwithin))
    (fun {s t u} hover hone hrest => by
      rw [groupOf_port, Nat.mul_one] at hover
      rw [groupOf_port] at hone
      refine .more hover (s.limitStep p limit) ?_ ?_ ?_ hone hrest <;> unfold State.limitStep roundUpTen <;> omega) n s hs
    fun _ => by
      rw [groupOf_port]
      exact (takings_le _).trans hn
  rwa [groupOf_port, Nat.mul_one] at h

theorem rebalancePort_grantOf_other (p : Port) (limit n : Nat) (s : State) (hq : q ≠ p) (d : Nat) :
    (rebalancePort p limit n s).grantOf q d = s.grantOf q d := by
  induction n generalizing s with
  | zero => rfl
  | succ n ih =>
    unfold rebalancePort
    split
    · split
      · next g hg =>
        have hport : g.port = p := by simpa using (List.mem_filter.mp (newestGrant_mem hg)).2
        rw [ih, giveWay_grantOf_other]
        exact .inl (hport ▸ hq)
      · rfl
    · rfl

theorem portGrants_perm_same (hs : s.keyed) (ht : t.keyed) (h : ∀ d, t.grantOf p d = s.grantOf p d) :
    (t.portGrants p).Perm (s.portGrants p) := by
  refine (List.perm_ext_iff_of_nodup ((grants_nodup ht).filter _) ((grants_nodup hs).filter _)).mpr fun g => ?_
  have hs' := mem_portGrants_iff hs p g
  have ht' := mem_portGrants_iff ht p g
  rw [State.portGrants] at hs' ht'
  rw [hs', ht']
  refine and_congr_right fun hport => ?_
  rw [hport, h]

theorem rebalance_of_room {old : Nat} (h : old ≤ s.policy.active.params[13]) :
    rebalance old s = lowerRequests s.policy.active.params[13] s :=
  congrArg (lowerRequests s.policy.active.params[13]) (if_neg (Nat.not_lt.mpr h))

theorem rebalance_of_less {old : Nat} (h : s.policy.active.params[13] < old) :
    rebalance old s = lowerRequests s.policy.active.params[13] (([0, 1, 2, 3] : List Port).foldl (fun t p =>
      rebalancePort p s.policy.active.params[13] (2 * (t.portGrants p).length + 1) t) s) :=
  congrArg (lowerRequests s.policy.active.params[13]) (if_pos h)

/-- What the rebalance of one port does. -/
structure Fitted (p : Port) (limit : Nat) (s t : State) : Prop where
  eq : t = rebalancePort p limit (2 * (s.portGrants p).length + 1) s
  rebalances : Rebalances p limit s t
  within : currentOf (t.portGrants p) ≤ limit
  keyed : t.keyed
  others : ∀ q, q ≠ p → ∀ d, t.grantOf q d = s.grantOf q d

theorem exists_fitted (limit : Nat) (p : Port) (hs : s.keyed) : ∃ t, Fitted p limit s t := by
  obtain ⟨hrel, hwithin, hsame⟩ := rebalancePort_rebalances hs p limit (Nat.le_succ (2 * (s.portGrants p).length))
  exact ⟨_, rfl, hrel, hwithin, hs.of_same hsame, fun _ hq d => rebalancePort_grantOf_other p limit _ s hq d⟩

theorem Fitted.keeps {limit : Nat} (h : Fitted p limit s t) (hs : s.keyed) (hq : q ≠ p)
    (hwithin : currentOf (s.portGrants q) ≤ limit) : currentOf (t.portGrants q) ≤ limit := by
  rwa [currentOf_perm (portGrants_perm_same hs h.keyed (h.others q hq))]

/-! ### Lowered requests (R165) -/

theorem lowerRequests_grantOf (limit : Nat) (s : State) (p : Port) (b : Nat) : (lowerRequests limit s).grantOf p b
    = (s.grantOf p b).map fun g => { g with requested := min g.requested limit } :=
  mapGrants_grantOf (fun g => { g with requested := min g.requested limit }) s p b

theorem lowerRequests_supply (limit : Nat) (s : State) : (lowerRequests limit s).supply
    = { s.supply with waitList := s.supply.waitList.map fun w => { w with requested := min w.requested limit } } := rfl

theorem mapGrants_parts (f : Grant → Grant) (s : State) : ChangesOnly (everyPort .own ++ [.pool]) s (mapGrants f s) := by
  intro part hpart
  cases part <;> simp_all [Part.same, mapGrants]

theorem lowerRequests_parts (limit : Nat) (s : State) :
    ChangesOnly (everyPort .own ++ [.pool, .waitList]) s (lowerRequests limit s) :=
  .then (mapGrants_parts _ s) (setWaitList_parts_waitList _ _)
    (fun x hx => by simp only [List.mem_append, List.mem_cons] at hx ⊢; tauto) (by simp)

theorem lowerRequests_portGrants (limit : Nat) (s : State) (p : Port) :
    currentOf ((lowerRequests limit s).portGrants p) = currentOf (s.portGrants p) := by
  unfold State.portGrants currentOf
  rw [show (lowerRequests limit s).grants = _ from mapGrants_grants _ s, List.filter_map, List.map_map]
  rfl

end

/-- Settles O24. -/
theorem grantsGiveWayFromTheNewest : Obligations.GrantsGiveWayFromTheNewest := by
  intro s hstand
  have hs := hstand.keyed
  refine ⟨fun budget => ?_, fun old => ?_⟩
  · intro u
    refine ⟨takeBudget_of_room, fun hless => ?_⟩
    have hgives := decreaseSteps_decreases (s := u) (n := 2 * s.grants.length + 1) hs (Nat.le_succ _)
    have hbudget : (takeBudget budget s).supply.budget = budget := by
      rw [takeBudget_of_less hless]
      exact decreaseSteps_changes _ u .budget (by simp [supplyParts])
    rw [takeBudget_of_less hless] at hbudget ⊢
    exact ⟨hgives.1, hgives.2.1.trans (Nat.le_of_eq hbudget)⟩
  · intro limit lowered
    have hlowered (u : State) : lowered u (lowerRequests limit u) :=
      ⟨lowerRequests_grantOf limit u, lowerRequests_supply limit u, lowerRequests_parts limit u⟩
    refine ⟨fun hroom => ?_, fun hless => ?_⟩
    · rw [rebalance_of_room (s := s) hroom]
      exact hlowered s
    · obtain ⟨s0, h0⟩ := exists_fitted limit 0 hs
      obtain ⟨s1, h1⟩ := exists_fitted limit 1 h0.keyed
      obtain ⟨s2, h2⟩ := exists_fitted limit 2 h1.keyed
      obtain ⟨s3, h3⟩ := exists_fitted limit 3 h2.keyed
      have heq : rebalance old s = lowerRequests limit s3 := by
        rw [rebalance_of_less hless, List.foldl_cons, List.foldl_cons, List.foldl_cons, List.foldl_cons,
          List.foldl_nil, ← h0.eq, ← h1.eq, ← h2.eq, ← h3.eq]
      rw [heq]
      refine ⟨s0, s1, s2, s3, h0.rebalances, h1.rebalances, h2.rebalances, h3.rebalances, hlowered s3, fun p => ?_⟩
      rw [lowerRequests_portGrants]
      have hp : p = 0 ∨ p = 1 ∨ p = 2 ∨ p = 3 := by revert p; decide
      rcases hp with rfl | rfl | rfl | rfl
      · exact h3.keeps h2.keyed (by decide) (h2.keeps h1.keyed (by decide) (h1.keeps h0.keyed (by decide) h0.within))
      · exact h3.keeps h2.keyed (by decide) (h2.keeps h1.keyed (by decide) h1.within)
      · exact h3.keeps h2.keyed (by decide) h2.within
      · exact h3.within

end Sys2Proof.Machine
end

section
/-! PROOFS. The supply switches stand with the grants: what each operation of the Supply Unit keeps (R14 to R17, R163). -/

namespace Sys2Proof.Machine

open Sys2Proof

section
variable {s t u : State} {p q : Port} {b d : Nat}

/-! ### The conditions -/

/-- The port holds a grant. -/
def State.holds (s : State) (p : Port) : Prop := ∃ b g, s.grantOf p b = some g

/-- A port's supply switch is closed exactly while it holds a grant (R163). -/
def State.switchesGranted (s : State) : Prop := ∀ p, s.supply.switchClosed.get p = true ↔ s.holds p

/-- The records and the switches stand. -/
def State.sound (s : State) : Prop := s.recordsStand ∧ s.switchesGranted

/-- The supply switch of the port may close: its draw switch is open, its contract IDLE, and it joins no transition (R155). -/
def State.supplyFree (s : State) (p : Port) : Prop :=
  (s.contract.get p).drawClosed = false ∧ (s.contract.get p).state = .idle ∧ s.isJoining p = false

theorem portGrants_ne_nil_iff (h : s.keyed) (p : Port) : s.portGrants p ≠ [] ↔ s.holds p := by
  rw [ne_eq, portGrants_eq_nil_iff h, not_forall]
  exact exists_congr fun b => Option.ne_none_iff_exists'

theorem suppliesGranted_iff (s : State) : s.suppliesGranted ↔ s.heldInReset ∧ s.sound := by
  unfold State.suppliesGranted State.sound
  refine and_congr_right fun _ => and_congr_right fun hstand => forall_congr' fun p => ?_
  rw [Bool.eq_iff_iff, ← portGrants_ne_nil_iff hstand.keyed p]
  simp

theorem recordsStand_iff (s : State) : s.recordsStand ↔ (∀ p, (s.table.own.get p).isSome = s.attached p)
    ∧ (∀ k ∈ s.keys, 1 ≤ k.2 ∧ k.2 ≤ 6 ∧ s.attached k.1 = true) ∧ s.keys.Nodup
    ∧ ∀ w ∈ s.supply.waitList, s.hasRecord w.port w.branch = true := by
  unfold State.recordsStand State.keys
  simp only [List.mem_map, forall_exists_index, and_imp, forall_apply_eq_imp_iff₂]

theorem holds_congr (h : ∀ b, (t.grantOf p b).isSome = (s.grantOf p b).isSome) : t.holds p ↔ s.holds p := by
  unfold State.holds
  simp only [← Option.isSome_iff_exists, h]

theorem grantOf_none_of_record (h : s.hasRecord p b = false) : s.grantOf p b = none := by
  by_contra hg
  obtain ⟨g, hg⟩ := Option.ne_none_iff_exists'.mp hg
  exact Bool.false_ne_true (h.symm.trans (hasRecord_of_grantOf hg))

/-! ### What an operation of the Supply Unit keeps -/

/-- The contracts, the transition in service and the attached ports stand. -/
structure Still (s t : State) : Prop where
  contract : t.contract = s.contract
  transition : t.sequencer.transition = s.sequencer.transition
  attached : ∀ p, t.attached p = s.attached p

/-- The records and the switches stand on, and a supply switch closes only where it may. -/
structure Supplied (s t : State) : Prop extends Still s t where
  sound : s.sound → t.sound
  opens : s.sound → ∀ p, t.supply.switchClosed.get p = true → s.supply.switchClosed.get p = true ∨ s.supplyFree p

theorem Still.refl (s : State) : Still s s := ⟨rfl, rfl, fun _ => rfl⟩

theorem Still.trans (h : Still s t) (g : Still t u) : Still s u :=
  ⟨g.contract.trans h.contract, g.transition.trans h.transition, fun p => (g.attached p).trans (h.attached p)⟩

theorem Still.of_changes {l : List Part} (h : ChangesOnly l s t) (hl : l ⊆ .budget :: .freeCount :: supplyParts)
    (hk : Keeps [.branches] s t) : Still s t where
  contract := Four.ext_get fun p => h (.contract p) fun hp => by simpa [supplyParts] using hl hp
  transition := (h .service fun hp => by simpa [supplyParts] using hl hp).2.2
  attached := fun p => (hk.monitors p).2.2 (by simp)

theorem Still.supplyFree (h : Still s t) (p : Port) : t.supplyFree p ↔ s.supplyFree p := by
  unfold State.supplyFree State.isJoining
  rw [h.contract, h.transition]

theorem Supplied.refl (s : State) : Supplied s s := { Still.refl s with sound := id, opens := fun _ _ h => .inl h }

theorem Supplied.trans (h : Supplied s t) (g : Supplied t u) : Supplied s u :=
  { Still.trans h.toStill g.toStill with
    sound := fun hs => g.sound (h.sound hs)
    opens := fun hs p hp => (g.opens (h.sound hs) p hp).elim (h.opens hs p)
      fun hfree => .inr ((h.supplyFree p).mp hfree) }

theorem Supplied.ite {c : Prop} [Decidable c] (h : Supplied s t) (g : Supplied s u) : Supplied s (if c then t else u) := by
  split <;> assumption

theorem Supplied.foldl {α : Type} {f : State → α → State} (hf : ∀ s a, Supplied s (f s a)) (l : List α) (s : State) :
    Supplied s (l.foldl f s) := by
  induction l generalizing s with
  | nil => exact .refl s
  | cons a l ih => exact (hf s a).trans (ih _)

/-! ### Records that stand on -/

theorem recordsStand_of_same (hs : s.recordsStand) (hattached : ∀ p, t.attached p = s.attached p) (hrecords : sameRecords s t)
    (hwait : ∀ w ∈ t.supply.waitList, s.hasRecord w.port w.branch = true) : t.recordsStand := by
  rw [recordsStand_iff] at hs ⊢
  obtain ⟨hown, hpool, hnodup, -⟩ := hs
  rw [hrecords.2]
  simp only [hattached, hrecords.1, hrecords.hasRecord]
  exact ⟨hown, hpool, hnodup, hwait⟩

theorem State.recordsStand.waits (h : s.recordsStand) {w : WaitEntry} (hw : w ∈ s.supply.waitList) :
    s.hasRecord w.port w.branch = true := h.2.2.2 w hw

/-- An operation that keeps the records and each pair's holding of a grant. -/
theorem Supplied.of_holders (hstill : Still s t) (hrecords : sameRecords s t)
    (hgrants : ∀ q d, (t.grantOf q d).isSome = (s.grantOf q d).isSome)
    (hswitch : t.supply.switchClosed = s.supply.switchClosed)
    (hwait : s.recordsStand → ∀ w ∈ t.supply.waitList, s.hasRecord w.port w.branch = true) : Supplied s t :=
  { hstill with
    sound := fun ⟨hstand, hswitches⟩ => ⟨recordsStand_of_same hstand hstill.attached hrecords (hwait hstand), fun q => by
      rw [hswitch, holds_congr (hgrants q)]
      exact hswitches q⟩
    opens := fun _ p hp => .inl (by rwa [hswitch] at hp) }

theorem Supplied.of_table (hstill : Still s t) (htable : t.table = s.table)
    (hswitch : t.supply.switchClosed = s.supply.switchClosed)
    (hwait : s.recordsStand → ∀ w ∈ t.supply.waitList, s.hasRecord w.port w.branch = true) : Supplied s t :=
  .of_holders hstill (records_of_table htable) (fun q d => by rw [grantOf_of_table htable]) hswitch hwait

/-- An operation that leaves the records and the Supply Unit. -/
theorem Supplied.of_same (hstill : Still s t) (htable : t.table = s.table) (hsupply : t.supply = s.supply) : Supplied s t :=
  .of_table hstill htable (by rw [hsupply]) fun hs w hw => hs.waits (by rwa [hsupply] at hw)

theorem place_still (p : Port) (f : EngineFrame) (s : State) : Still s (place p f s) where
  contract := Four.ext_get fun q => place_changes p f s (.contract q) (by simp [placeParts])
  transition := (place_changes p f s .service (by simp [placeParts])).2.2
  attached := fun q => congrArg Attach.attached (transmit_state p q _)

theorem place_supplied (p : Port) (f : EngineFrame) (s : State) : Supplied s (place p f s) :=
  .of_same (place_still p f s) (place_table p f s) (place_supply p f s)

theorem setWaitList_supplied {l : List WaitEntry} (h : s.recordsStand → ∀ w ∈ l, s.hasRecord w.port w.branch = true) :
    Supplied s (setWaitList l s) := .of_table ⟨rfl, rfl, fun _ => rfl⟩ rfl rfl h

/-! ### Grants (R157) -/

theorem setGrant_still (p : Port) (b : Nat) (g : Option Grant) (s : State) : Still s (setGrant p b g s) := by
  unfold setGrant
  split <;> exact ⟨rfl, rfl, fun _ => rfl⟩

theorem takeOrder_still (s : State) : Still s (takeOrder s) := by
  by_cases h : s.supply.orderCounter < 65535
  · rw [takeOrder_of_room h]
    exact ⟨rfl, rfl, fun _ => rfl⟩
  · rw [takeOrder_of_full h, renumber_eq]
    exact ⟨rfl, rfl, fun _ => rfl⟩

theorem grantTold_still (p : Port) (b : Nat) (g : Grant) (s : State) : Still s (grantTold p b g s) :=
  (setGrant_still p b _ s).trans (place_still p _ _)

theorem makeGrant_still (p : Port) (b current requested : Nat) (s : State) : Still s (makeGrant p b current requested s) := by
  rw [makeGrant_eq]
  exact ((takeOrder_still s).trans (grantTold_still p b _ _)).trans ⟨rfl, rfl, fun _ => rfl⟩

theorem makeGrant_sound (hs : s.sound) (hrecord : s.hasRecord p b = true) (current requested : Nat) :
    (makeGrant p b current requested s).sound := by
  obtain ⟨hstand, hswitches⟩ := hs
  refine ⟨recordsStand_of_same hstand (makeGrant_still p b current requested s).attached (makeGrant_records p b _ _ s)
    fun w hw => hstand.waits (by rwa [makeGrant_supply] at hw), fun q => ?_⟩
  have hgrant := makeGrant_grantOf (p := p) (b := b) current requested hrecord
  rw [makeGrant_supply]
  show (s.supply.switchClosed.set p true).get q = true ↔ _
  by_cases hq : q = p
  · subst hq
    simp only [Four.get_set_same, true_iff]
    exact ⟨b, _, hgrant⟩
  · rw [Four.get_set_other _ hq, hswitches q]
    refine (holds_congr fun d => ?_).symm
    rw [makeGrant_grantOf_other _ _ _ (.inl hq)]
    split <;> simp

theorem makeGrant_switch {current requested : Nat} (h : (makeGrant p b current requested s).supply.switchClosed.get q = true) :
    s.supply.switchClosed.get q = true ∨ q = p := by
  rw [makeGrant_supply] at h
  by_cases hq : q = p
  · exact .inr hq
  · exact .inl (by simpa [hq] using h)

theorem makeGrant_supplied {current requested : Nat} (hrecord : s.recordsStand → s.hasRecord p b = true)
    (hfree : s.supplyFree p) : Supplied s (makeGrant p b current requested s) where
  toStill := makeGrant_still p b current requested s
  sound := fun hs => makeGrant_sound hs (hrecord hs.1) current requested
  opens := fun _ q hq => (makeGrant_switch hq).imp_right fun h => by rwa [h]

theorem reordered_still (s : State) (grows : Bool) : Still s (s.reordered grows) := by
  cases grows with
  | false => exact .refl s
  | true => exact takeOrder_still s

theorem demandRenew_supplied {old : Grant} (hold : s.grantOf p b = some old) (requested : Nat) :
    Supplied s (demandRenew p b old requested s) := by
  have hstill : Still s (demandRenew p b old requested s) := by
    rw [demandRenew_eq]
    have htold : Still s (s.renewedTold p b old requested) := (reordered_still s _).trans (grantTold_still p b _ _)
    split
    · exact htold.trans ⟨rfl, rfl, fun _ => rfl⟩
    · exact htold
  refine .of_holders hstill ?_ (fun q d => ?_) (by rw [demandRenew_supply])
    fun hs w hw => hs.waits (by rwa [demandRenew_supply] at hw)
  · refine .trans ?_ (records_of_table (demandRenew_table p b old requested s))
    exact (reordered_records s _).trans (grantTold_records p b _ _)
  · by_cases hkey : q ≠ p ∨ d ≠ b
    · rw [demandRenew_grantOf_other _ _ _ hkey]
      split <;> simp
    · simp only [not_or, ne_eq, not_not] at hkey
      obtain ⟨rfl, rfl⟩ := hkey
      rw [demandRenew_grantOf hold, hold]
      rfl

/-! ### The service of the wait list (R161) -/

theorem supplyFree_of_unbarred (h : ¬s.supplyBarred p = true) : s.supplyFree p := by
  rw [supplyBarred_iff] at h
  simp only [not_or, Bool.not_eq_true, ne_eq, not_not] at h
  obtain ⟨hdraws, hidle, hjoins, -⟩ := h
  exact ⟨hdraws, hidle, hjoins⟩

theorem setRest_supplied {w : WaitEntry} {rest : List WaitEntry} (h : s.supply.waitList = w :: rest) :
    Supplied s (setWaitList rest s) :=
  setWaitList_supplied fun hs v hv => hs.waits (by rw [h]; exact List.mem_cons_of_mem _ hv)

theorem serve_supplied (s : State) : Supplied s (serve s) := by
  refine serve_relates (rel := Supplied) .refl .trans (fun {s w rest} h _ => ?_) (fun {s w rest} h hbarred _ => ?_)
    (fun {s w rest} h => ?_) s
  · exact (setRest_supplied h).trans (place_supplied _ _ _)
  · have hrest := setRest_supplied h
    have hrecord (hs : s.recordsStand) : (setWaitList rest s).hasRecord w.port w.branch = true := by
      rw [(records_of_table (t := setWaitList rest s) (s := s) rfl).hasRecord]
      exact hs.waits (by simp [h])
    refine { Still.trans hrest.toStill (makeGrant_still _ _ _ _ _) with
      sound := fun hs => makeGrant_sound (hrest.sound hs) (hrecord hs.1) _ _, opens := fun hs p hp => ?_ }
    refine (makeGrant_switch hp).imp_right fun hport => ?_
    rw [hport]
    exact supplyFree_of_unbarred hbarred
  · refine setWaitList_supplied fun hs v hv => ?_
    rcases List.mem_cons.mp hv with rfl | hv
    · exact hs.waits (w := w) (by simp [h])
    · exact hs.waits (by rw [h]; exact List.mem_cons_of_mem _ hv)

/-! ### A DEMAND (R155 to R160) -/

theorem joinWaitList_supplied (hrecord : s.recordsStand → s.hasRecord p b = true) (requested : Nat) :
    Supplied s (joinWaitList p b requested s) := by
  rcases Nat.lt_or_ge s.supply.waitList.length 8 with h | h
  · rw [joinWaitList_of_room h]
    refine .trans (setWaitList_supplied fun hs w hw => ?_) (place_supplied _ _ _)
    rcases List.mem_append.mp hw with hw | hw
    · exact hs.waits hw
    · obtain rfl := List.mem_singleton.mp hw
      exact hrecord hs
  · rw [joinWaitList_of_full h]
    exact place_supplied _ _ _

theorem demandNew_supplied (hrecord : s.recordsStand → s.hasRecord p b = true) (hfree : s.supplyFree p) (requested : Nat) :
    Supplied s (demandNew p b requested s) := by
  unfold demandNew
  exact .ite (makeGrant_supplied hrecord hfree) (joinWaitList_supplied hrecord requested)

theorem demandWaiting_supplied (p : Port) (b requested : Nat) (s : State) :
    Supplied s (demandWaiting p b requested s) := by
  unfold demandWaiting
  generalize hl : s.supply.waitList.map _ = l
  refine .trans (t := setWaitList l s) (setWaitList_supplied fun hs w hw => ?_) (place_supplied p _ _)
  rw [← hl] at hw
  obtain ⟨v, hv, rfl⟩ := List.mem_map.mp hw
  have hkey : (if v.isFor p b then { v with requested := requested } else v).port = v.port
      ∧ (if v.isFor p b then { v with requested := requested } else v).branch = v.branch := by
    split <;> exact ⟨rfl, rfl⟩
  rw [hkey.1, hkey.2]
  exact hs.waits hv

theorem demandRefusal_none_unbarred {voltage : Nat} (h : s.demandRefusal p voltage = none) : ¬s.supplyBarred p = true := by
  intro hbarred
  simp [State.demandRefusal, hbarred] at h

theorem supplyDemand_supplied (hrecord : s.recordsStand → s.hasRecord p b = true) (voltage current : Nat) :
    Supplied s (supplyDemand p b voltage current s) := by
  unfold supplyDemand
  split
  · exact place_supplied _ _ _
  · next hpasses =>
    have hfree := supplyFree_of_unbarred (demandRefusal_none_unbarred hpasses)
    split
    · next old hold => exact (demandRenew_supplied hold _).trans (serve_supplied _)
    · exact .ite ((demandWaiting_supplied p b _ s).trans (serve_supplied _))
        ((demandNew_supplied hrecord hfree _).trans (serve_supplied _))

/-! ### Grants that end (R162 to R166) -/

/-- A pair's grant ends, and its port's switch opens with the last. -/
theorem switchesGranted_of_ended (hs : s.switchesGranted) (hheld : (s.grantOf p b).isSome = true)
    (hother : ∀ q d, (q ≠ p ∨ d ≠ b) → t.grantOf q d = s.grantOf q d)
    (hswitch : ∀ q, t.supply.switchClosed.get q = true ↔ s.supply.switchClosed.get q = true ∧ (q = p → t.holds p)) :
    t.switchesGranted := fun q => by
  obtain ⟨g, hg⟩ := Option.isSome_iff_exists.mp hheld
  rw [hswitch, hs q]
  by_cases hq : q = p
  · subst hq
    exact ⟨fun h => h.2 rfl, fun h => ⟨⟨b, g, hg⟩, fun _ => h⟩⟩
  · rw [← holds_congr (t := t) (s := s) fun d => by rw [hother q d (.inl hq)]]
    exact ⟨fun h => h.1, fun h => ⟨h, fun h' => absurd h' hq⟩⟩

theorem openIfUnused_switch (p q : Port) (s : State) : (openIfUnused p s).supply.switchClosed.get q = true
    ↔ s.supply.switchClosed.get q = true ∧ (q = p → s.portGrants p ≠ []) := by
  unfold openIfUnused
  by_cases hq : q = p
  · subst hq
    by_cases h : s.portGrants q = []
    · simp [h, setSupplySwitch, State.modSupply]
    · simp [h]
  · split
    · simp [hq, setSupplySwitch, State.modSupply]
    · simp [hq]

theorem openIfUnused_still (p : Port) (s : State) : Still s (openIfUnused p s) := by
  unfold openIfUnused
  split <;> exact ⟨rfl, rfl, fun _ => rfl⟩

theorem giveUp_still (p : Port) (b : Nat) (s : State) : Still s (giveUp p b s) := by
  cases h : s.grantOf p b with
  | none => rw [giveUp_of_none h]; exact ⟨rfl, rfl, fun _ => rfl⟩
  | some g =>
    rw [giveUp_of_grant h]
    exact .trans (⟨rfl, rfl, fun _ => rfl⟩ : Still s (removeWait p b s)) ((setGrant_still p b none _).trans (openIfUnused_still p _))

theorem removeWait_switch (p : Port) (b : Nat) (s : State) :
    (removeWait p b s).supply.switchClosed = s.supply.switchClosed := rfl

theorem giveUp_switch {g : Grant} (hs : s.keyed) (h : s.grantOf p b = some g) (q : Port) :
    (giveUp p b s).supply.switchClosed.get q = true
      ↔ s.supply.switchClosed.get q = true ∧ (q = p → (giveUp p b s).holds p) := by
  have htable := openIfUnused_table p (setGrant p b none (removeWait p b s))
  rw [← portGrants_ne_nil_iff (hs.of_same (giveUp_records p b s)), giveUp_of_grant h, openIfUnused_switch, setGrant_supply,
    removeWait_switch, State.portGrants, State.portGrants, grants_of_table htable]

theorem giveUp_supplied (p : Port) (b : Nat) (s : State) : Supplied s (giveUp p b s) := by
  have hwait (hs : s.recordsStand) : ∀ w ∈ (giveUp p b s).supply.waitList, s.hasRecord w.port w.branch = true := by
    rw [giveUp_waitList]
    exact fun w hw => hs.waits (List.mem_of_mem_filter hw)
  cases h : s.grantOf p b with
  | none =>
    refine .of_table (giveUp_still p b s) ?_ ?_ hwait <;> rw [giveUp_of_none h] <;> rfl
  | some g =>
    refine { giveUp_still p b s with sound := fun ⟨hstand, hswitches⟩ => ⟨?_, ?_⟩, opens := fun hs q hq => ?_ }
    · exact recordsStand_of_same hstand (giveUp_still p b s).attached (giveUp_records p b s) (hwait hstand)
    · exact switchesGranted_of_ended hswitches (by rw [h]; rfl) (fun q d hkey => giveUp_grantOf_other s hkey)
        (giveUp_switch hstand.keyed h)
    · exact .inl ((giveUp_switch hs.1.keyed h q).mp hq).1

theorem freePooled_keys_eq (p : Port) (b : Nat) (s : State) :
    (freePooled p b s).keys = s.keys.filter fun k => !(k == (p, b)) := by
  unfold State.keys freePooled State.setPool
  rw [List.filter_map]
  rfl

theorem freePooled_hasRecord_other (h : q ≠ p ∨ d ≠ b) : (freePooled p b s).hasRecord q d = s.hasRecord q d := by
  rw [Bool.eq_iff_iff, hasRecord_iff, hasRecord_iff, freePooled_keys_eq, List.mem_filter]
  have hkey : (!((q, d) == (p, b))) = true := by
    rw [Bool.not_eq_true', beq_eq_false_iff_ne, ne_eq, Prod.mk.injEq]
    exact fun ⟨hq, hd⟩ => h.elim (absurd hq) (absurd hd)
  rw [hkey]
  simp [freePooled, State.setPool]

theorem waits_false_iff (s : State) (p : Port) (b : Nat) :
    s.waits p b = false ↔ ∀ w ∈ s.supply.waitList, w.port ≠ p ∨ w.branch ≠ b := by
  rw [Bool.eq_false_iff, ne_eq, waits_iff]
  simp only [not_exists, not_and, ne_eq, imp_iff_not_or]

/-- A record whose branch holds nothing and does not wait is freed. -/
theorem freePooled_sound (hb : b ≠ 0) (hgrant : s.grantOf p b = none) (hwaits : s.waits p b = false) (hs : s.sound) :
    (freePooled p b s).sound := by
  obtain ⟨hstand, hswitches⟩ := hs
  have hgrants (q : Port) (d : Nat) : (freePooled p b s).grantOf q d = s.grantOf q d := by
    by_cases hkey : q ≠ p ∨ d ≠ b
    · exact freePooled_grantOf_other s hkey
    · simp only [not_or, ne_eq, not_not] at hkey
      obtain ⟨rfl, rfl⟩ := hkey
      rw [freePooled_grantOf hb, hgrant]
  refine ⟨?_, fun q => (hswitches q).trans (holds_congr fun d => by rw [hgrants]).symm⟩
  rw [recordsStand_iff] at hstand ⊢
  obtain ⟨hown, hpool, hnodup, hwait⟩ := hstand
  rw [freePooled_keys_eq]
  refine ⟨hown, fun k hk => hpool k (List.mem_of_mem_filter hk), hnodup.filter _, fun w hw => ?_⟩
  rw [freePooled_hasRecord_other ((waits_false_iff s p b).mp hwaits w hw)]
  exact hwait w hw

theorem retired_supplied (p : Port) (b : Nat) (s : State) : Supplied s (retired p b s) := by
  have hgone := giveUp_supplied p b s
  unfold retired
  split
  · exact hgone
  · next hb =>
    exact { Still.trans hgone.toStill ⟨rfl, rfl, fun _ => rfl⟩ with
      sound := fun hs => freePooled_sound hb (giveUp_grantOf p b s) (giveUp_waits p b s) (hgone.sound hs)
      opens := hgone.opens }

theorem supplyRetire_supplied (p : Port) (b : Nat) (s : State) : Supplied s (supplyRetire p b s) :=
  (retired_supplied p b s).trans (serve_supplied _)

theorem freeAbove_supplied (p : Port) (count : Nat) (s : State) : Supplied s (freeAbove p count s) := by
  have hfold (l : List Nat) (hl : ∀ b ∈ l, b ≠ 0) (s : State) :
      Supplied s (l.foldl (fun t b => freePooled p b (giveUp p b t)) s) := by
    induction l generalizing s with
    | nil => exact .refl s
    | cons b l ih =>
      have hone : Supplied s (freePooled p b (giveUp p b s)) := by
        have h := retired_supplied p b s
        rwa [retired, if_neg (hl b (by simp))] at h
      exact hone.trans (ih (fun b hb => hl b (by simp [hb])) _)
  unfold freeAbove
  refine .ite (.refl s) (.trans (hfold _ (fun b hb => ?_) s) (serve_supplied _))
  obtain ⟨r, hr, rfl⟩ := List.mem_map.mp hb
  have := (List.mem_filter.mp hr).2
  simp only [Bool.and_eq_true, decide_eq_true_eq] at this
  omega

/-! ### A record that is allocated (R15) -/

theorem recorded_keys (h : s.hasRecord p b = false) : (recorded p b s).keys = s.keys ++ [(p, b)] := by
  unfold recorded
  rw [if_neg (by simp [h])]
  simp [State.keys, State.setPool]

theorem recorded_hasRecord_of (h : s.hasRecord q d = true) : (recorded p b s).hasRecord q d = true := by
  unfold recorded
  split
  · exact h
  · rw [hasRecord_iff] at h ⊢
    refine h.imp id fun ⟨hd, hk⟩ => ⟨hd, ?_⟩
    simp only [State.keys, State.setPool, List.map_append, List.mem_append]
    exact .inl hk

theorem recorded_still (p : Port) (b : Nat) (s : State) : Still s (recorded p b s) := by
  unfold recorded
  split <;> exact ⟨rfl, rfl, fun _ => rfl⟩

theorem recorded_supplied (hb : 1 ≤ b) (hb' : b ≤ 6) (hattached : s.attached p = true) : Supplied s (recorded p b s) := by
  cases h : s.hasRecord p b with
  | true =>
    rw [recorded_of_record h]
    exact .refl s
  | false =>
    refine { recorded_still p b s with
      sound := fun ⟨hstand, hswitches⟩ => ⟨?_, fun q => ?_⟩, opens := fun _ q hq => .inl (by rwa [recorded_supply] at hq) }
    · have hwait := fun w hw => recorded_hasRecord_of (p := p) (b := b) (hstand.waits (w := w) hw)
      rw [recordsStand_iff] at hstand ⊢
      obtain ⟨hown, hpool, hnodup, -⟩ := hstand
      have hnew : (p, b) ∉ s.keys := fun hk => by
        rw [hasRecord_iff.mpr (.inr ⟨by omega, hk⟩)] at h
        cases h
      have hattached' := (recorded_still p b s).attached
      rw [recorded_keys h, recorded_supply]
      refine ⟨fun q => ?_, fun k hk => ?_, ?_, hwait⟩
      · rw [hattached', show (recorded p b s).table.own = s.table.own by unfold recorded; split <;> rfl]
        exact hown q
      · rw [hattached']
        rcases List.mem_append.mp hk with hk | hk
        · exact hpool k hk
        · obtain rfl := List.mem_singleton.mp hk
          exact ⟨hb, hb', hattached⟩
      · refine List.nodup_append.mpr ⟨hnodup, List.nodup_singleton _, fun k hk k' hk' => ?_⟩
        obtain rfl := List.mem_singleton.mp hk'
        exact fun heq => hnew (heq ▸ hk)
    · rw [recorded_supply, hswitches q]
      exact (holds_congr fun d => by rw [recorded_grantOf]).symm

theorem withRecord_supplied {go : State → State} (hb : 1 ≤ b) (hb' : b ≤ 6) (hattached : s.attached p = true)
    (hgo : ∀ u, (u.recordsStand → u.hasRecord p b = true) → Supplied u (go u)) : Supplied s (withRecord p b go s) := by
  by_cases hfinds : s.findsRecord p b
  · rw [withRecord_of_finds hfinds]
    exact (recorded_supplied hb hb' hattached).trans (hgo _ fun _ => recorded_hasRecord_of_finds hfinds)
  · unfold State.findsRecord at hfinds
    simp only [not_or, not_and, Nat.not_lt, Bool.not_eq_true] at hfinds
    rw [withRecord_of_full hfinds.1 (hfinds.2 (by omega))]
    exact (place_supplied p _ s).trans (.of_same ⟨rfl, rfl, fun _ => rfl⟩ rfl rfl)

end

end Sys2Proof.Machine
end

section
/-! PROOFS. The supply switches stand with the grants: grants that give way, and the cut of a port (R164 to R166). -/

namespace Sys2Proof.Machine

open Sys2Proof

section
variable {s t u : State} {p q : Port} {b d : Nat}

theorem Still.foldl {α : Type} {f : State → α → State} (hf : ∀ s a, Still s (f s a)) (l : List α) (s : State) :
    Still s (l.foldl f s) := by
  induction l generalizing s with
  | nil => exact .refl s
  | cons a l ih => exact (hf s a).trans (ih _)

/-! ### Grants that give way -/

theorem giveWay_still (g : GrantView) (step : Nat) (s : State) : Still s (giveWay g step s) :=
  .of_changes (giveWay_changes g step s) (by simp) (giveWay_keeps (.inr (by simp)) step s)

theorem giveWay_waitList (g : GrantView) (step : Nat) (s : State) :
    ∀ w ∈ (giveWay g step s).supply.waitList, w ∈ s.supply.waitList ∨ w = g.entry := by
  intro w hw
  rcases Nat.lt_or_ge 500 g.grant.current with hmore | hleast
  · rw [giveWay_of_more step hmore, (reduceGrant_spec g step s).1] at hw
    exact .inl hw
  · obtain ⟨-, hroom, hfull, -⟩ := cutGrant_spec g s
    rw [giveWay_of_least step hleast] at hw
    rcases Nat.lt_or_ge s.supply.waitList.length 8 with h | h
    · rw [(hroom h).1] at hw
      simpa using hw
    · rw [(hfull h).1] at hw
      exact .inl hw

theorem giveWay_switch (g : GrantView) (step : Nat) (hs : s.keyed) (q : Port) :
    (giveWay g step s).supply.switchClosed.get q = true
      ↔ s.supply.switchClosed.get q = true ∧ (g.grant.current ≤ 500 → q = g.port → (giveWay g step s).holds g.port) := by
  by_cases hq : q = g.port
  · subst hq
    rw [← portGrants_ne_nil_iff (hs.of_same (giveWay_records g step s))]
    rcases Nat.lt_or_ge 500 g.grant.current with hmore | hleast
    · rw [giveWay_of_more step hmore, (reduceGrant_spec g step s).1]
      exact ⟨fun h => ⟨h, fun h' => absurd hmore (Nat.not_lt.mpr h')⟩, fun h => h.1⟩
    · rw [giveWay_of_least step hleast, (cutGrant_spec g s).1]
      exact ⟨fun h => ⟨h.1, fun _ _ => h.2⟩, fun h => ⟨h.1, h.2 hleast rfl⟩⟩
  · rw [show (giveWay g step s).supply.switchClosed.get q = s.supply.switchClosed.get q from
      giveWay_parts g step s (.supplySwitch q) (by simp [hq])]
    exact ⟨fun h => ⟨h, fun _ h' => absurd h' hq⟩, fun h => h.1⟩

theorem giveWay_supplied {g : GrantView} (hg : g ∈ s.grants) (step : Nat) : Supplied s (giveWay g step s) :=
  { giveWay_still g step s with
    sound := fun ⟨hstand, hswitches⟩ => by
      have hkeyed := hstand.keyed
      have hgrant := (mem_grants_iff hkeyed g).mp hg
      refine ⟨recordsStand_of_same hstand (giveWay_still g step s).attached (giveWay_records g step s) fun w hw => ?_, ?_⟩
      · rcases giveWay_waitList g step s w hw with hw | rfl
        · exact hstand.waits hw
        · exact hasRecord_of_grantOf hgrant
      · rcases Nat.lt_or_ge 500 g.grant.current with hmore | hleast
        · intro q
          rw [giveWay_switch g step hkeyed, hswitches q]
          have hsame := holds_congr (p := q) (t := giveWay g step s) (s := s) fun d => by
            by_cases hkey : q ≠ g.port ∨ d ≠ g.branch
            · rw [giveWay_grantOf_other g step s hkey]
            · simp only [not_or, ne_eq, not_not] at hkey
              obtain ⟨rfl, rfl⟩ := hkey
              rw [giveWay_grantOf_more step hgrant hmore, hgrant]
              rfl
          rw [hsame]
          exact ⟨fun h => h.1, fun h => ⟨h, fun h' => absurd hmore (Nat.not_lt.mpr h')⟩⟩
        · refine switchesGranted_of_ended (p := g.port) (b := g.branch) hswitches (by rw [hgrant]; rfl)
            (fun q d hkey => giveWay_grantOf_other g step s hkey) fun q => ?_
          rw [giveWay_switch g step hkeyed]
          exact and_congr_right fun _ => ⟨fun h => h hleast, fun h _ => h⟩
    opens := fun hs q hq => .inl ((giveWay_switch g step hs.1.keyed q).mp hq).1 }

theorem decreaseSteps_supplied (n : Nat) (s : State) : Supplied s (decreaseSteps n s) := by
  induction n generalizing s with
  | zero => exact .refl s
  | succ n ih =>
    unfold decreaseSteps
    split
    · split
      · next g hg => exact (giveWay_supplied (newestGrant_mem hg) _).trans (ih _)
      · exact .refl s
    · exact .refl s

theorem takeBudget_supplied (budget : Nat) (s : State) : Supplied s (takeBudget budget s) := by
  have hset : Supplied s (s.modSupply fun u => { u with budget := budget }) :=
    .of_table ⟨rfl, rfl, fun _ => rfl⟩ rfl rfl fun hs w hw => hs.waits hw
  exact .ite (hset.trans (decreaseSteps_supplied _ _)) hset

theorem setBudget_supplied (budget : Nat) (s : State) : Supplied s (setBudget budget s) :=
  (takeBudget_supplied budget s).trans (serve_supplied _)

theorem rebalancePort_supplied (p : Port) (limit n : Nat) (s : State) : Supplied s (rebalancePort p limit n s) := by
  induction n generalizing s with
  | zero => exact .refl s
  | succ n ih =>
    unfold rebalancePort
    split
    · split
      · next g hg => exact (giveWay_supplied (List.mem_of_mem_filter (newestGrant_mem hg)) _).trans (ih _)
      · exact .refl s
    · exact .refl s

theorem lowerRequests_records (limit : Nat) (s : State) : sameRecords s (lowerRequests limit s) :=
  (mapGrants_records _ s).trans (records_of_table rfl)

theorem lowerRequests_supplied (limit : Nat) (s : State) : Supplied s (lowerRequests limit s) := by
  refine .of_holders ⟨rfl, rfl, fun _ => rfl⟩ (lowerRequests_records limit s) (fun q d => ?_) rfl fun hs w hw => ?_
  · rw [lowerRequests_grantOf, Option.isSome_map]
  · rw [lowerRequests_supply] at hw
    obtain ⟨v, hv, rfl⟩ := List.mem_map.mp hw
    have hrecord := hs.waits hv
    exact hrecord

theorem rebalance_supplied (old : Nat) (s : State) : Supplied s (rebalance old s) := by
  rcases Nat.lt_or_ge s.policy.active.params[13] old with h | h
  · rw [rebalance_of_less h]
    exact (Supplied.foldl (fun _ _ => rebalancePort_supplied _ _ _ _) _ s).trans (lowerRequests_supplied _ _)
  · rw [rebalance_of_room h]
    exact lowerRequests_supplied _ s

/-! ### The grants of a port end together (R166, R167) -/

/-- Grants of one port taken one after another. -/
theorem ended_fold {F : State → GrantView → State} (l : List GrantView)
    (hF : ∀ t, ∀ g ∈ l, (F t g).table = (setGrant p g.branch none t).table) (s : State) :
    sameRecords s (l.foldl F s) ∧ (∀ q d, q ≠ p → (l.foldl F s).grantOf q d = s.grantOf q d)
      ∧ ∀ d, (l.foldl F s).grantOf p d = if ∃ g ∈ l, g.branch = d then none else s.grantOf p d := by
  induction l generalizing s with
  | nil => exact ⟨.refl s, fun _ _ _ => rfl, fun d => by simp⟩
  | cons g l ih =>
    obtain ⟨hrecords, hother, hown⟩ := ih (fun t h hh => hF t h (by simp [hh])) (F s g)
    have htable := hF s g (by simp)
    refine ⟨.trans ((setGrant_records p g.branch none s).trans (records_of_table htable)) hrecords, fun q d hq => ?_,
      fun d => ?_⟩
    · rw [List.foldl_cons, hother q d hq, grantOf_of_table htable, setGrant_grantOf_other _ _ (.inl hq)]
    · rw [List.foldl_cons, hown d, grantOf_of_table htable]
      by_cases hd : d = g.branch
      · subst hd
        rw [setGrant_none_grantOf]
        simp
      · rw [setGrant_grantOf_other _ _ (.inr hd)]
        simp [Ne.symm hd]

/-- With every grant of a port taken it holds none. -/
theorem ended_all (hs : s.keyed) {F : State → GrantView → State} {l : List GrantView} (hl : l.Perm (s.portGrants p))
    (hF : ∀ t, ∀ g ∈ l, (F t g).table = (setGrant p g.branch none t).table) (d : Nat) :
    (l.foldl F s).grantOf p d = none := by
  rw [(ended_fold l hF s).2.2 d]
  split
  · rfl
  · next hno =>
    by_contra hg
    obtain ⟨g, hg⟩ := Option.ne_none_iff_exists'.mp hg
    exact hno ⟨⟨p, d, g⟩, hl.mem_iff.mpr ((mem_portGrants_iff hs p _).mpr ⟨rfl, hg⟩), rfl⟩

/-- A port that gives up its grants, its switch and its place in the wait list. -/
theorem sound_of_ended (hs : s.sound) (hstill : Still s t) (hrecords : sameRecords s t)
    (hother : ∀ q d, q ≠ p → t.grantOf q d = s.grantOf q d) (hnone : ∀ d, t.grantOf p d = none)
    (hswitch : t.supply.switchClosed = s.supply.switchClosed.set p false)
    (hwait : ∀ w ∈ t.supply.waitList, w ∈ s.supply.waitList) : t.sound := by
  obtain ⟨hstand, hswitches⟩ := hs
  refine ⟨recordsStand_of_same hstand hstill.attached hrecords fun w hw => hstand.waits (hwait w hw), fun q => ?_⟩
  rw [hswitch]
  by_cases hq : q = p
  · subst hq
    simp [State.holds, hnone]
  · rw [Four.get_set_other _ hq, hswitches q]
    exact (holds_congr fun d => by rw [hother q d hq]).symm

theorem opens_of_ended (hswitch : t.supply.switchClosed = s.supply.switchClosed.set p false)
    (hq : t.supply.switchClosed.get q = true) : s.supply.switchClosed.get q = true := by
  rw [hswitch] at hq
  by_cases h : q = p
  · subst h
    simp at hq
  · rwa [Four.get_set_other _ h] at hq

/-- The grants of a port cut one after another. -/
def cutAll (p : Port) (l : List GrantView) (s : State) : State :=
  l.foldl (fun t g => place p (.cut g.branch) (setGrant p g.branch none t)) s

theorem cutAll_supply (p : Port) (l : List GrantView) (s : State) : (cutAll p l s).supply = s.supply := by
  unfold cutAll
  induction l generalizing s with
  | nil => rfl
  | cons g l ih =>
    rw [List.foldl_cons, ih]
    exact cutTold_supply p g.branch s

theorem cutAll_still (p : Port) (l : List GrantView) (s : State) : Still s (cutAll p l s) := by
  unfold cutAll
  refine Still.foldl (fun t g => ?_) l s
  exact (setGrant_still p g.branch none t).trans (place_still p _ _)

theorem denyAll_still (p : Port) (l : List WaitEntry) (s : State) :
    Still s (l.foldl (fun t w => answerDeny p w.branch .unavailable t) s) := by
  refine Still.foldl (fun t w => ?_) l s
  exact place_still p _ t

theorem denyAll_supply (p : Port) (l : List WaitEntry) (s : State) :
    (l.foldl (fun t w => answerDeny p w.branch .unavailable t) s).supply = s.supply := by
  induction l generalizing s with
  | nil => rfl
  | cons w l ih => rw [List.foldl_cons, ih, answerDeny_supply]

theorem denyAll_table (p : Port) (l : List WaitEntry) (s : State) :
    (l.foldl (fun t w => answerDeny p w.branch .unavailable t) s).table = s.table := by
  induction l generalizing s with
  | nil => rfl
  | cons w l ih =>
    rw [List.foldl_cons, ih]
    exact place_table p _ s

/-- A port cut from supply, before the wait list is served. -/
def cutOff (p : Port) (s : State) : State :=
  let s1 := (takeFree s).2
  let cut := arrange (takeFree s).1 (s1.portGrants p)
  let s3 := setSupplySwitch p false (cutAll p cut s1)
  let s4 := (s3.supply.waitList.filter fun w => w.port == p).foldl (fun t w => answerDeny p w.branch .unavailable t)
    (dropWaits p s3)
  match cut.getLast? with
  | some g => postSupply noticeCut p g.branch s4
  | none => s4

theorem cutPort_eq (p : Port) (s : State) : cutPort p s = serve (cutOff p s) := rfl

/-- What the posting of the last cut leaves. -/
theorem cutOff_core (p : Port) (s : State) : ∃ l : List GrantView, ∃ v : State, l.Perm (s.portGrants p)
    ∧ v = (cutAll p l (takeFree s).2) ∧ Still s (cutOff p s) ∧ (cutOff p s).table = v.table
    ∧ (cutOff p s).supply = { s.supply with waitList := s.supply.waitList.filter fun w => !(w.port == p)
                                            switchClosed := s.supply.switchClosed.set p false } := by
  obtain ⟨l, hdef⟩ : ∃ l, l = arrange (takeFree s).1 ((takeFree s).2.portGrants p) := ⟨_, rfl⟩
  obtain ⟨w, hw⟩ : ∃ w, w = dropWaits p (setSupplySwitch p false (cutAll p l (takeFree s).2)) := ⟨_, rfl⟩
  have hstill : Still s w := by
    rw [hw]
    refine .trans (.trans (⟨rfl, rfl, fun _ => rfl⟩ : Still s (takeFree s).2) (cutAll_still p l _)) ⟨rfl, rfl, fun _ => rfl⟩
  have hsupply : w.supply = { s.supply with waitList := s.supply.waitList.filter fun w => !(w.port == p)
                                            switchClosed := s.supply.switchClosed.set p false } := by
    rw [hw]
    have hcut := cutAll_supply p l (takeFree s).2
    generalize cutAll p l (takeFree s).2 = v at hcut
    have hends : (dropWaits p (setSupplySwitch p false v)).supply
        = { v.supply with waitList := v.supply.waitList.filter fun w => !(w.port == p)
                          switchClosed := v.supply.switchClosed.set p false } := rfl
    rw [hends, hcut]
    rfl
  obtain ⟨l', hl'⟩ : ∃ l' : List WaitEntry, l' = (setSupplySwitch p false (cutAll p l (takeFree s).2)).supply.waitList.filter
    fun w => w.port == p := ⟨_, rfl⟩
  have hcut : cutOff p s = match l.getLast? with
      | some g => postSupply noticeCut p g.branch (l'.foldl (fun t w => answerDeny p w.branch .unavailable t) w)
      | none => l'.foldl (fun t w => answerDeny p w.branch .unavailable t) w := by
    rw [hl', hw, hdef]
    rfl
  have hdenied := hstill.trans (denyAll_still p l' w)
  refine ⟨l, cutAll p l (takeFree s).2, hdef ▸ arrange_perm _ _, rfl, ?_⟩
  rw [hcut, ← hsupply]
  have htable : w.table = (cutAll p l (takeFree s).2).table := by rw [hw]; rfl
  rw [← htable]
  split
  · exact ⟨hdenied.trans ⟨rfl, rfl, fun _ => rfl⟩, denyAll_table p l' w, denyAll_supply p l' w⟩
  · exact ⟨hdenied, denyAll_table p l' w, denyAll_supply p l' w⟩

theorem cutOff_supplied (p : Port) (s : State) : Supplied s (cutOff p s) := by
  obtain ⟨l, v, hl, hv, hstill, htable, hsupply⟩ := cutOff_core p s
  have hF (t : State) (g : GrantView) (_ : g ∈ l) :
      (place p (.cut g.branch) (setGrant p g.branch none t)).table = (setGrant p g.branch none t).table := place_table _ _ _
  obtain ⟨hrecords, hother, -⟩ := ended_fold (p := p) l hF (takeFree s).2
  have hv' : v = l.foldl (fun t g => place p (.cut g.branch) (setGrant p g.branch none t)) (takeFree s).2 := hv
  rw [← hv'] at hrecords hother
  have hswitch : (cutOff p s).supply.switchClosed = s.supply.switchClosed.set p false := by rw [hsupply]
  refine { hstill with sound := fun hs => ?_, opens := fun _ q hq => .inl (opens_of_ended hswitch hq) }
  have hnone (d : Nat) : v.grantOf p d = none := by
    rw [hv']
    exact ended_all (s := (takeFree s).2) hs.1.keyed hl hF d
  refine sound_of_ended hs hstill ?_ (fun q d hq => ?_) (fun d => ?_) hswitch fun w hw => ?_
  · exact .trans hrecords (records_of_table htable)
  · rw [grantOf_of_table htable, hother q d hq]
    rfl
  · rw [grantOf_of_table htable, hnone]
  · rw [hsupply] at hw
    exact List.mem_of_mem_filter hw

theorem cutPort_supplied (p : Port) (s : State) : Supplied s (cutPort p s) := (cutOff_supplied p s).trans (serve_supplied _)

/-- A joining port that is cut stands with its supply switch open. -/
theorem cutPort_switch (hs : s.sound) (hjoins : s.isJoining p = true) : (cutPort p s).supply.switchClosed.get p = false := by
  obtain ⟨-, -, -, -, hstill, -, hsupply⟩ := cutOff_core p s
  rw [cutPort_eq, ← Bool.not_eq_true]
  intro hclosed
  rcases (serve_supplied (cutOff p s)).opens ((cutOff_supplied p s).sound hs) p hclosed with h | h
  · rw [hsupply] at h
    simp at h
  · obtain ⟨-, -, hno⟩ := (hstill.supplyFree p).mp h
    rw [hjoins] at hno
    cases hno

/-- A port whose switch may not close keeps it open. -/
theorem Supplied.keeps_open (h : Supplied s t) (hs : s.sound) (hopen : s.supply.switchClosed.get p = false)
    (hjoins : s.isJoining p = true) : t.supply.switchClosed.get p = false := by
  rw [← Bool.not_eq_true]
  intro hclosed
  rcases h.opens hs p hclosed with h | ⟨-, -, hno⟩
  · rw [hopen] at h
    cases h
  · rw [hjoins] at hno
    cases hno

theorem Still.isJoining (h : Still s t) (p : Port) : t.isJoining p = s.isJoining p := by
  unfold State.isJoining
  rw [h.transition]

theorem cutPorts_spec (l : List Port) (s : State) : Supplied s (l.foldl (fun u p => cutPort p u) s)
    ∧ (s.sound → ∀ p, s.isJoining p = true → (p ∈ l ∨ s.supply.switchClosed.get p = false) →
        (l.foldl (fun u p => cutPort p u) s).supply.switchClosed.get p = false) := by
  induction l generalizing s with
  | nil => exact ⟨.refl s, fun _ p _ h => h.resolve_left (by simp)⟩
  | cons q l ih =>
    obtain ⟨hsupplied, hopen⟩ := ih (cutPort q s)
    have hone := cutPort_supplied q s
    refine ⟨hone.trans hsupplied, fun hs p hjoins hp => ?_⟩
    have hjoins' : (cutPort q s).isJoining p = true := (hone.toStill.isJoining p).trans hjoins
    refine hopen (hone.sound hs) p hjoins' ?_
    rcases hp with hp | hp
    · rcases List.mem_cons.mp hp with rfl | hp
      · exact .inr (cutPort_switch hs hjoins)
      · exact .inl hp
    · exact .inr (hone.keeps_open hs hp hjoins)

/-- Every joining port stands with its supply switch open after the cut (R119). -/
theorem cutJoining_spec (l : List Port) (s : State) : Supplied s (cutJoining l s)
    ∧ (s.sound → ∀ p ∈ l, s.isJoining p = true → (cutJoining l s).supply.switchClosed.get p = false) := by
  obtain ⟨cut, hcut⟩ : ∃ cut, cut = l.filter fun p => s.supply.switchClosed.get p || !(s.portGrants p).isEmpty := ⟨_, rfl⟩
  obtain ⟨k, v, heq, hv⟩ : ∃ k v, cutJoining l s = (arrange k cut).foldl (fun u p => cutPort p u) v
      ∧ (v = s ∨ v = (takeFree s).2) := by
    unfold cutJoining
    rw [hcut]
    by_cases h : 2 ≤ (l.filter fun p => s.supply.switchClosed.get p || !(s.portGrants p).isEmpty).length
    · refine ⟨(takeFree s).1, (takeFree s).2, ?_, .inr rfl⟩
      dsimp only
      rw [if_pos h]
    · refine ⟨0, s, ?_, .inl rfl⟩
      dsimp only
      rw [if_neg h]
  have hfirst : Supplied s v ∧ v.supply = s.supply := by
    rcases hv with rfl | rfl
    · exact ⟨.refl _, rfl⟩
    · exact ⟨.of_same ⟨rfl, rfl, fun _ => rfl⟩ rfl rfl, rfl⟩
  obtain ⟨hsupplied, hopen⟩ := cutPorts_spec (arrange k cut) v
  rw [heq]
  refine ⟨hfirst.1.trans hsupplied, fun hs p hp hjoins => ?_⟩
  refine hopen (hfirst.1.sound hs) p ((hfirst.1.toStill.isJoining p).trans hjoins) ?_
  rw [(arrange_perm k cut).mem_iff, hfirst.2, hcut, List.mem_filter]
  by_cases hclosed : s.supply.switchClosed.get p = true
  · exact .inl ⟨hp, by simp [hclosed]⟩
  · exact .inr (by simpa using hclosed)

end

end Sys2Proof.Machine
end

section
/-! PROOFS. The commands that do not reach the Supply Unit: the grants, the switches and the transition they leave
(07; R117, R119). -/

namespace Sys2Proof.Machine

open Sys2Proof

section
variable {s t u : State} {p q : Port} {c : Instr}

/-! ### The Supply Unit and the records stand -/

/-- The records and the Supply Unit stand. -/
def Unsupplied (s t : State) : Prop := t.table = s.table ∧ t.supply = s.supply

/-- The parts beside the records, the Supply Unit and the transition. -/
def besideParts : List Part :=
  [.queue, .freeCount, .reset, .clock, .references, .refreshCount, .converter, .policy, .lastPlan, .limit, .receive, .uplink,
      .frameClass, .supervisor]
    ++ everyPort .rail ++ everyPort .monitor ++ everyPort .framer ++ everyPort .book ++ everyPort .measure
    ++ everyPort .demands ++ everyPort .drawMonitor ++ everyNotice

/-- Those, with the contracts and the transition. -/
def unsuppliedParts : List Part := .service :: (everyPort .contract ++ besideParts)

theorem Unsupplied.refl (s : State) : Unsupplied s s := ⟨rfl, rfl⟩

theorem Unsupplied.trans (h : Unsupplied s t) (g : Unsupplied t u) : Unsupplied s u :=
  ⟨g.1.trans h.1, g.2.trans h.2⟩

theorem Unsupplied.ite {c : Prop} [Decidable c] (h : Unsupplied s t) (g : Unsupplied s u) :
    Unsupplied s (if c then t else u) := by split <;> assumption

theorem Unsupplied.foldl {α : Type} {f : State → α → State} (hf : ∀ s a, Unsupplied s (f s a)) (l : List α) (s : State) :
    Unsupplied s (l.foldl f s) := by
  induction l generalizing s with
  | nil => exact .refl s
  | cons a l ih => exact (hf s a).trans (ih _)

theorem supply_of_parts (hbudget : Part.budget.same s t) (horder : Part.orderCounter.same s t) (hwait : Part.waitList.same s t)
    (hswitch : ∀ p, (Part.supplySwitch p).same s t) : t.supply = s.supply := by
  have hswitches : t.supply.switchClosed = s.supply.switchClosed := Four.ext_get hswitch
  cases ht : t.supply
  simp only [Part.same, ht] at hbudget horder hwait hswitches
  rw [hbudget, horder, hwait, hswitches]

theorem Unsupplied.of_changes {l : List Part} (h : ChangesOnly l s t) (hl : l ⊆ unsuppliedParts) : Unsupplied s t := by
  have h := h.mono hl
  refine ⟨table_of_changes h (by simp [unsuppliedParts, besideParts, everyNotice]) (by decide), ?_⟩
  exact supply_of_parts (h _ (by decide)) (h _ (by decide)) (h _ (by decide))
    fun p => h _ (by simp [unsuppliedParts, besideParts, everyNotice])

/-! ### The Path Sequencer's operations -/

theorem service_unsupplied (f : Sequencer → Sequencer) (s : State) : Unsupplied s (s.modSequencer f) := ⟨rfl, rfl⟩

theorem place_unsupplied (p : Port) (f : EngineFrame) (s : State) : Unsupplied s (place p f s) :=
  ⟨place_table p f s, place_supply p f s⟩

theorem placeParts_unsupplied (h : ChangesOnly (placeParts p) s t) : Unsupplied s t :=
  .of_changes h (by simp [placeParts, unsuppliedParts, besideParts])

theorem switch_unsupplied (h : ChangesOnly (switchParts p) s t) : Unsupplied s t :=
  .of_changes h (by simp [switchParts, unsuppliedParts, besideParts])

theorem recompute_unsupplied (s : State) : Unsupplied s (recompute s) := ⟨rfl, rfl⟩

theorem modContract_unsupplied (p : Port) (g : Contract → Contract) (s : State) : Unsupplied s (s.modContract p g) := ⟨rfl, rfl⟩

theorem modDrawMonitor_unsupplied (p : Port) (g : DrawMonitor → DrawMonitor) (s : State) :
    Unsupplied s (s.modDrawMonitor p g) := ⟨rfl, rfl⟩

theorem modMonitor_unsupplied (p : Port) (g : Monitor → Monitor) (s : State) : Unsupplied s (s.modMonitor p g) := ⟨rfl, rfl⟩

theorem raiseDemand_unsupplied (d : DemandClass) (p : Port) (s : State) : Unsupplied s (raiseDemand d p s) := by
  unfold raiseDemand
  exact ⟨rfl, rfl⟩

theorem endTransition_unsupplied (o : ContractOutcome) (p : Port) (s : State) : Unsupplied s (endTransition o p s) := ⟨rfl, rfl⟩

theorem openDraw_unsupplied (p : Port) (s : State) : Unsupplied s (openDraw p s) := ⟨rfl, rfl⟩

theorem fallToBase_unsupplied (p : Port) (v : Nat) (s : State) : Unsupplied s (fallToBase p v s) := ⟨rfl, rfl⟩

theorem openAll_unsupplied (l : List Port) (s : State) : Unsupplied s (openAll l s) :=
  .foldl (fun u p => openDraw_unsupplied p u) l s

theorem closeJoining_unsupplied (pl : Plan) (p : Port) (s : State) : Unsupplied s (closeJoining pl p s) :=
  switch_unsupplied (closeJoining_changes pl p s)

theorem baseFall_unsupplied (pl : Plan) (s : State) : Unsupplied s (baseFall pl s) := by
  unfold baseFall
  split
  · exact .ite (fallToBase_unsupplied _ _ s) (.refl s)
  all_goals exact .refl s

theorem makeBeforeBreak_unsupplied (tr : Transition) (l : List Port) (s : State) :
    Unsupplied s (makeBeforeBreak tr l s) := by
  unfold makeBeforeBreak
  refine .trans (.foldl (fun u p => ?_) l s) (openAll_unsupplied _ _)
  exact .trans (.ite (openAll_unsupplied _ u) (.refl u)) (closeJoining_unsupplied tr.plan p _)

theorem releaseAndEnd_unsupplied (tr : Transition) (s : State) : Unsupplied s (releaseAndEnd tr s) := by
  rw [releaseAndEnd_eq]
  refine .trans (.of_changes (released_changes tr s) ?_) (endTransition_unsupplied _ _ _)
  exact fun x hx => by simp only [releaseParts, unsuppliedParts, besideParts, List.mem_append, List.mem_cons] at hx ⊢; tauto

theorem closeAndEnd_unsupplied (tr : Transition) (s : State) : Unsupplied s (closeAndEnd tr s) :=
  .trans (.trans (.foldl (fun u p => closeJoining_unsupplied tr.plan p u) _ s) (baseFall_unsupplied _ _))
    (releaseAndEnd_unsupplied _ _)

theorem holdSwitching_unsupplied (tr : Transition) (s : State) : Unsupplied s (holdSwitching tr s) := by
  unfold holdSwitching
  refine .trans (.foldl (fun u p => ?_) _ s) (endTransition_unsupplied _ _ _)
  exact modContract_unsupplied p _ u

theorem switching_unsupplied (s : State) : Unsupplied s (switching s) := by
  unfold switching
  split
  · exact .refl s
  · dsimp only
    exact .ite (((makeBeforeBreak_unsupplied _ _ s).trans (baseFall_unsupplied _ _)).trans (releaseAndEnd_unsupplied _ _))
      (.ite (closeAndEnd_unsupplied _ s) (.ite (((openAll_unsupplied _ s).trans (baseFall_unsupplied _ _)).trans
        (service_unsupplied _ _)) (holdSwitching_unsupplied _ s)))

theorem stepOut_unsupplied (p : Port) (s : State) : Unsupplied s (stepOut p s) :=
  .ite ⟨rfl, rfl⟩ (.refl s)

theorem startClaim_unsupplied (e : PlanEntry) (g : Stage) (s : State) : Unsupplied s (startClaim e g s) := by
  have h : Unsupplied s (stepOut e.port (setStage g s)) := .trans (service_unsupplied _ s) (stepOut_unsupplied _ _)
  unfold startClaim
  dsimp only
  split
  · exact (h.trans (modContract_unsupplied _ _ _)).trans (placeParts_unsupplied (requestExchange_changes _ _ _))
  · exact (h.trans (modContract_unsupplied _ _ _)).trans (modDrawMonitor_unsupplied _ _ _)

theorem claimSecondary_unsupplied (pl : Plan) (s : State) : Unsupplied s (claimSecondary pl s) := by
  unfold claimSecondary
  split
  · exact .ite (startClaim_unsupplied _ _ s) (switching_unsupplied s)
  all_goals exact switching_unsupplied s

theorem runClaims_unsupplied (pl : Plan) (s : State) : Unsupplied s (runClaims pl s) := by
  unfold runClaims
  split
  · exact .ite (startClaim_unsupplied _ _ s) (claimSecondary_unsupplied _ s)
  all_goals exact claimSecondary_unsupplied _ s

theorem settleContract_unsupplied (p : Port) (s : State) : Unsupplied s (settleContract p s) :=
  .of_changes (settleContract_changes p s) (by simp [unsuppliedParts, besideParts])

theorem continueClaims_unsupplied (s : State) : Unsupplied s (continueClaims s) := by
  unfold continueClaims
  split
  · exact .refl s
  · split
    · exact claimSecondary_unsupplied _ s
    all_goals exact switching_unsupplied s

theorem failClaim_unsupplied (p : Port) (o : ContractOutcome) (s : State) : Unsupplied s (failClaim p o s) := by
  unfold failClaim
  dsimp only
  refine .trans (.trans (.trans ?_ ⟨rfl, rfl⟩) (endTransition_unsupplied _ _ _)) (raiseDemand_unsupplied _ _ _)
  have h1 (b : Bool) : Unsupplied s (raiseFailure p (if b = true then place p .release s else s)) :=
    .trans (.ite (place_unsupplied _ _ s) (.refl s)) (modMonitor_unsupplied _ _ _)
  have h2 (b b' : Bool) : Unsupplied s
      (if b' = true then openDraw p (raiseFailure p (if b = true then place p .release s else s))
        else raiseFailure p (if b = true then place p .release s else s)) :=
    .ite ((h1 b).trans (openDraw_unsupplied _ _)) (h1 b)
  exact .ite ((h2 _ _).trans (raiseDemand_unsupplied _ _ _)) (h2 _ _)

theorem staleClaim_unsupplied (p : Port) (released : Bool) (s : State) : Unsupplied s (staleClaim p released s) := by
  unfold staleClaim
  exact .trans (.trans (.ite (fallToBase_unsupplied _ _ s) (modContract_unsupplied _ _ s)) (modContract_unsupplied _ _ _))
    (endTransition_unsupplied _ _ _)

theorem withdrawClaim_unsupplied (p : Port) (s : State) : Unsupplied s (withdrawClaim p s) :=
  placeParts_unsupplied (withdrawClaim_changes p s)

theorem abortClaim_unsupplied (p : Port) (s : State) : Unsupplied s (abortClaim p s) := by
  unfold abortClaim
  dsimp only
  have h1 (b : Bool) : Unsupplied s (if b = true then withdrawClaim p s else s) := .ite (withdrawClaim_unsupplied p s) (.refl s)
  split
  · exact (h1 _).trans (modContract_unsupplied _ _ _)
  · split
    · exact ((h1 _).trans (place_unsupplied _ _ _)).trans (fallToBase_unsupplied _ _ _)
    · exact (((h1 _).trans (place_unsupplied _ _ _)).trans (modContract_unsupplied _ _ _)).trans (recompute_unsupplied _)

theorem abortIfInvolved_unsupplied (p : Port) (short : List Port) (s : State) :
    Unsupplied s (abortIfInvolved p short s) := by
  unfold abortIfInvolved
  split
  · exact .refl s
  · dsimp only
    refine .ite (.trans (.trans (.foldl (fun u q => .ite (abortClaim_unsupplied q u) (.refl u)) _ s)
      (.foldl (fun u q => modContract_unsupplied q _ u) _ _)) (endTransition_unsupplied _ _ _)) (.refl s)

theorem clearContract_unsupplied (p : Port) (s : State) : Unsupplied s (clearContract p s) :=
  switch_unsupplied (clearContract_changes p s)

theorem takenOut_unsupplied (p : Port) (s : State) : Unsupplied s (takenOut p s) :=
  .trans (.trans (.ite (withdrawClaim_unsupplied p s) (.refl s)) (clearContract_unsupplied p _)) (raiseDemand_unsupplied _ _ _)

theorem protect_unsupplied (p : Port) (s : State) : Unsupplied s (protect p s) := by
  rw [protect_eq]
  exact (takenOut_unsupplied p s).trans (abortIfInvolved_unsupplied p _ _)

/-! ### The transition a command leaves in service -/

/-- A transition that stays in service keeps its joining and stepped-out ports, and no stepped-out port becomes IDLE. -/
def Serviced (s t : State) : Prop := ∀ tr', t.sequencer.transition = some tr' →
  ∃ tr, s.sequencer.transition = some tr ∧ tr'.joining = tr.joining
    ∧ ∀ p ∈ tr'.steppedOut, p ∈ tr.steppedOut ∧ ((t.contract.get p).state = .idle → (s.contract.get p).state = .idle)

/-- The command does not reach the Supply Unit, and the transition it leaves is the one it found. -/
structure Aside (s t : State) : Prop where
  unsupplied : Unsupplied s t
  serviced : Serviced s t

theorem Serviced.of_same (htransition : t.sequencer.transition = s.sequencer.transition)
    (hidle : ∀ p, (t.contract.get p).state = .idle → (s.contract.get p).state = .idle) : Serviced s t :=
  fun tr htr => ⟨tr, by rw [← htransition]; exact htr, rfl, fun p hp => ⟨hp, hidle p⟩⟩

theorem Serviced.of_ended (h : t.sequencer.transition = none) : Serviced s t := fun tr htr => by
  rw [h] at htr
  cases htr

theorem Serviced.trans (h : Serviced s t) (g : Serviced t u) : Serviced s u := fun tr htr => by
  obtain ⟨tr1, htr1, hjoining1, hstepped1⟩ := g tr htr
  obtain ⟨tr2, htr2, hjoining2, hstepped2⟩ := h tr1 htr1
  refine ⟨tr2, htr2, hjoining1.trans hjoining2, fun p hp => ?_⟩
  obtain ⟨hmem1, hidle1⟩ := hstepped1 p hp
  obtain ⟨hmem2, hidle2⟩ := hstepped2 p hmem1
  exact ⟨hmem2, hidle2 ∘ hidle1⟩

theorem Aside.refl (s : State) : Aside s s := ⟨.refl s, .of_same rfl fun _ h => h⟩

theorem Aside.trans (h : Aside s t) (g : Aside t u) : Aside s u :=
  ⟨h.unsupplied.trans g.unsupplied, h.serviced.trans g.serviced⟩

theorem Aside.ite {c : Prop} [Decidable c] (h : Aside s t) (g : Aside s u) : Aside s (if c then t else u) := by
  split <;> assumption

theorem Aside.of_changes {l : List Part} (h : ChangesOnly l s t) (hl : l ⊆ besideParts) : Aside s t := by
  have hmore : besideParts ⊆ unsuppliedParts := fun x hx => by simp [unsuppliedParts, hx]
  have h := h.mono hl
  refine ⟨.of_changes h hmore, .of_same (h .service (by decide)).2.2 fun p => ?_⟩
  rw [show t.contract.get p = s.contract.get p from h (.contract p) (by simp [besideParts, everyNotice])]
  exact id

theorem aside_of_ended (h : Unsupplied s t) (hended : t.sequencer.transition = none) : Aside s t := ⟨h, .of_ended hended⟩

theorem modContract_aside {g : Contract → Contract}
    (h : (g (s.contract.get p)).state = .idle → (s.contract.get p).state = .idle) : Aside s (s.modContract p g) := by
  refine ⟨⟨rfl, rfl⟩, .of_same rfl fun q hq => ?_⟩
  by_cases hqp : q = p
  · subst hqp
    exact h (by simpa using hq)
  · simpa [hqp] using hq

theorem failClaim_aside (p : Port) (o : ContractOutcome) (s : State) : Aside s (failClaim p o s) :=
  aside_of_ended (failClaim_unsupplied p o s) ((raiseDemand_changes _ _ _ .service (by simp)).2.2.trans rfl)

theorem staleClaim_aside (p : Port) (released : Bool) (s : State) : Aside s (staleClaim p released s) :=
  aside_of_ended (staleClaim_unsupplied p released s) rfl

theorem protect_aside (p : Port) (s : State) : Aside s (protect p s) := by
  have hchanges := takenOut_changes p s
  obtain ⟨-, -, htransition⟩ := hchanges .service (by simp [abortParts])
  refine ⟨protect_unsupplied p s, ?_⟩
  rw [protect_eq]
  by_cases hinvolved : ∃ tr, (takenOut p s).sequencer.transition = some tr ∧ tr.involves p = true
  · obtain ⟨tr, htr, hp⟩ := hinvolved
    rw [abortIfInvolved_of_involved htr hp]
    exact .of_ended rfl
  · have hspared : ∀ tr, (takenOut p s).sequencer.transition = some tr → tr.involves p = false :=
      fun tr htr => Bool.eq_false_iff.mpr fun hp => hinvolved ⟨tr, htr, hp⟩
    rw [abortIfInvolved_of_spared hspared]
    intro tr htr
    refine ⟨tr, htransition.symm.trans htr, rfl, fun q hq => ⟨hq, ?_⟩⟩
    have hqp : q ≠ p := by
      rintro rfl
      have := hspared tr htr
      simp [Transition.involves, hq] at this
    rw [show (takenOut p s).contract.get q = s.contract.get q from
      hchanges (.contract q) (by simp [abortParts, hqp])]
    exact id

end

end Sys2Proof.Machine
end

section
/-! PROOFS. Every command that does not reach the Supply Unit leaves it aside. -/

namespace Sys2Proof.Machine

open Sys2Proof

section
variable {s t u : State} {p q : Port} {c : Instr}

/-- The commands that reach the records, the Supply Unit or a switching. -/
def reaching : Instr → Bool
  | .powerOnReset | .resetEnd _ _ _ | .debounceRiseExpiry _ | .detach _ | .announce _ _ | .demand _ _ | .retire _ _
  | .otherKindFrame _ _ _ | .takeDemand | .claimSettled _ | .breakIntervalExpiry | .applyPolicy | .setPlatform
  | .silenceTimerExpiry => true
  | _ => false

theorem running_aside {f : State → State} (h : running f s = .next t) (hf : ∀ s, Aside s (f s)) : Aside s t := by
  cases h
  exact .ite (.refl s) (hf s)

theorem line_aside (h : ChangesOnly (lineParts p) s t) : Aside s t :=
  .of_changes h (by simp [lineParts, besideParts, mem_everyNotice])

theorem placeParts_aside (h : ChangesOnly (placeParts p) s t) : Aside s t := line_aside (h.mono (place_line_sub p))

theorem place_aside (p : Port) (f : EngineFrame) (s : State) : Aside s (place p f s) := placeParts_aside (place_changes p f s)

theorem endExchange_aside (p : Port) (s : State) : Aside s (endExchange p s) := placeParts_aside (endExchange_changes p s)

theorem protocolError_aside (p : Port) (s : State) : Aside s (protocolError p s) :=
  line_aside (p := p) ((protocolError_changes p s).mono (by simp [lineParts]))

theorem modMonitor_aside (p : Port) (g : Monitor → Monitor) (s : State) : Aside s (s.modMonitor p g) :=
  .of_changes (modMonitor_changes s p g) (by simp [besideParts])

theorem modDrawMonitor_aside (p : Port) (g : DrawMonitor → DrawMonitor) (s : State) : Aside s (s.modDrawMonitor p g) :=
  .of_changes (modDrawMonitor_changes s p g) (by simp [besideParts])

theorem modLimit_aside (g : LimitUnit → LimitUnit) (s : State) : Aside s (s.modLimit g) :=
  ⟨⟨rfl, rfl⟩, .of_same rfl fun _ h => h⟩

theorem raiseDemand_aside (d : DemandClass) (p : Port) (s : State) : Aside s (raiseDemand d p s) :=
  .of_changes (raiseDemand_changes d p s) (by simp [besideParts])

theorem post_aside (f : NoticeFlag) (code : Byte) (n : BitVec 32) (s : State) : Aside s (post f code n s) :=
  ⟨⟨rfl, rfl⟩, .of_same rfl fun _ h => h⟩

theorem raiseTrim_aside (n : Nat) (s : State) : Aside s (raiseTrim n s) := by
  unfold raiseTrim recompute State.modLimit
  exact ⟨⟨rfl, rfl⟩, .of_same rfl fun _ h => h⟩

theorem meter_aside (h : ChangesOnly meterParts s t) : Aside s t := .of_changes h (by decide)

/-! ### Frames -/

theorem heard_aside {kind : BitVec 6} {f : RawFrame} {take : State → State} (ht : ∀ s, Aside s (take s)) (s : State) :
    Aside s (receiveFrame p kind f take s) := receiveFrame_relates line_aside .trans ht s

theorem routed_aside {kind : BitVec 6} {f : RawFrame} {take : State → State} (ht : ∀ s, Aside s (take s)) (s : State) :
    Aside s (takeTalking p kind f take s) := takeTalking_relates line_aside ht s

theorem own_aside {kind : BitVec 6} {f : RawFrame} {take : State → State} (ht : ∀ s, Aside s (take s)) (s : State) :
    Aside s (receiveFrame p kind f (takeTalking p kind f fun s =>
      if f.branch = 0 then take s else protocolError p s) s) :=
  heard_aside (routed_aside fun s => .ite (ht s) (protocolError_aside p s)) s

theorem takeOffer_aside (p : Port) (f : RawFrame) (s : State) : Aside s (takeOffer p f s) := by
  unfold takeOffer
  refine .ite (protocolError_aside p s) ?_
  split
  · exact protocolError_aside p s
  · exact .of_changes (replaceBook_changes p _ s) (by simp [bookParts, besideParts])

theorem testGrant_aside (p : Port) (pt : PendingTerms) (g : GrantFields) (s : State) : Aside s (testGrant p pt g s) := by
  have hrelease := place_aside p .release s
  unfold testGrant
  exact .ite (hrelease.trans (staleClaim_aside _ _ _)) (.ite (hrelease.trans (staleClaim_aside _ _ _))
    (.ite (hrelease.trans (failClaim_aside _ _ _)) (.ite (hrelease.trans (failClaim_aside _ _ _))
      ((modContract_aside (by exact nofun)).trans (modDrawMonitor_aside _ _ _)))))

theorem takeGrant_aside (p : Port) (f : RawFrame) (s : State) : Aside s (takeGrant p f s) := by
  have hend := endExchange_aside p s
  unfold takeGrant
  refine .ite ?_ (place_aside _ _ s)
  dsimp only
  split
  · exact hend.trans (testGrant_aside _ _ _ _)
  · exact hend.trans (place_aside _ _ _)

theorem takeDeny_aside (p : Port) (f : RawFrame) (s : State) : Aside s (takeDeny p f s) := by
  have hend := endExchange_aside p s
  unfold takeDeny
  exact .ite (.ite hend (.ite (hend.trans (staleClaim_aside _ _ _)) (hend.trans (failClaim_aside _ _ _)))) (.refl s)

theorem takeReady_aside (p : Port) (f : RawFrame) (s : State) : Aside s (takeReady p f s) := by
  unfold takeReady
  dsimp only
  split
  · exact .ite ((modContract_aside (by exact nofun)).trans (modDrawMonitor_aside _ _ _)) (.refl s)
  · exact .refl s

theorem noAnswer_aside (p : Port) (s : State) : Aside s (noAnswer p s) := by
  have hend := endExchange_aside p s
  unfold noAnswer
  split
  · exact .ite (hend.trans (failClaim_aside _ _ _)) hend
  · exact hend
  · exact .refl s

theorem takeHold_aside (p : Port) (s : State) : Aside s (takeHold p s) := by
  unfold takeHold
  exact .ite (protocolError_aside p s) (.ite (placeParts_aside (holdExchange_changes p s)) (noAnswer_aside p s))

theorem execHold_aside {f : RawFrame} (h : execHold p f s = .next t) : Aside s t :=
  running_aside h (heard_aside fun s => .ite (routed_aside (fun s => .ite (takeHold_aside p s) (.refl s)) s)
    (.ite (takeHold_aside p s) (protocolError_aside p s)))

/-! ### Timers, samples and completed counts -/

theorem probeExpiry_aside (p : Port) (s : State) : Aside s (probeExpiry p s) := by
  unfold probeExpiry
  exact .ite ((modMonitor_aside _ _ s).trans (placeParts_aside (requestExchange_changes _ _ _)))
    ((modMonitor_aside _ _ s).trans (meter_aside (startMeasure_changes _ _ _)))

theorem examine_aside (p : Port) (mv ma : Nat) (s : State) : Aside s (examine p mv ma s) := by
  unfold examine
  exact .ite (.ite ((modDrawMonitor_aside p _ s).trans (modLimit_aside _ _)) (modDrawMonitor_aside p _ s)) (.refl s)

theorem Contract.sampled_state (c : Contract) (mv : Nat) : (c.sampled mv).state = c.state := by
  unfold Contract.sampled
  split <;> rfl

theorem execRailSample_aside {mv ma : Nat} (h : execRailSample p mv ma s = .next t) : Aside s t := by
  refine running_aside h fun s => (examine_aside p mv ma s).trans ?_
  have hcounted : Aside (examine p mv ma s) ((examine p mv ma s).modContract p fun c => c.sampled mv) :=
    modContract_aside (by rw [Contract.sampled_state]; exact id)
  exact hcounted.trans ⟨⟨rfl, rfl⟩, .of_same rfl fun _ h => h⟩

theorem changed_aside (h : exec c s = .next t) (hc : c ≠ .powerOnReset) (hl : commandParts c ⊆ besideParts) : Aside s t :=
  .of_changes (exec_changes h hc) hl

/-- A command that does not reach the Supply Unit leaves it aside. -/
theorem exec_aside (h : exec c s = .next t) (hc : reaching c = false) : Aside s t := by
  cases c with
  | powerOnReset | resetEnd | debounceRiseExpiry | detach | announce | demand | retire | otherKindFrame | takeDemand
  | claimSettled | breakIntervalExpiry | applyPolicy | setPlatform | silenceTimerExpiry => cases hc
  | presenceRise p => exact running_aside (id h : execPresenceRise p s = .next t) fun s => modMonitor_aside p _ s
  | presenceFall p => exact running_aside (id h : execPresenceFall p s = .next t) (modMonitor_aside p _)
  | sensingFallExpiry p =>
    exact running_aside (id h : execSensingFallExpiry p s = .next t) fun s => .ite (modMonitor_aside p _ s) (.refl s)
  | probeTimerExpiry p =>
    exact running_aside (id h : execProbeTimerExpiry p s = .next t) fun s => .ite (probeExpiry_aside p s) (.refl s)
  | coolOffExpiry p =>
    exact running_aside (id h : execCoolOffExpiry p s = .next t) fun s =>
      .ite ((modMonitor_aside p _ s).trans (raiseDemand_aside _ _ _)) (.refl s)
  | badFrame p kind f =>
    exact running_aside (id h : execBadFrame p kind f s = .next t) fun s => .ite (.refl s) (heard_aside .refl s)
  | offer p f => exact running_aside (id h : execOffer p f s = .next t) (own_aside (takeOffer_aside p f))
  | grant p f => exact running_aside (id h : execGrant p f s = .next t) (own_aside (takeGrant_aside p f))
  | deny p f => exact running_aside (id h : execDeny p f s = .next t) (own_aside (takeDeny_aside p f))
  | ready p f => exact running_aside (id h : execReady p f s = .next t) (own_aside (takeReady_aside p f))
  | hold p f => exact execHold_aside h
  | partOnlyKindFrame p kind f =>
    exact running_aside (id h : execPartOnlyKindFrame p kind f s = .next t) (heard_aside (protocolError_aside p))
  | talkFrameSent p =>
    exact running_aside (id h : execTalkFrameSent p s = .next t) fun s => placeParts_aside (frameSent_changes p s)
  | answerTimerExpiry p =>
    exact running_aside (id h : execAnswerTimerExpiry p s = .next t) fun s => .ite (noAnswer_aside p s) (.refl s)
  | resendTimerExpiry p =>
    exact running_aside (id h : execResendTimerExpiry p s = .next t) fun s =>
      .ite (placeParts_aside (resend_changes p s)) (.refl s)
  | referenceConversionEnd period => exact meter_aside (execReferenceConversionEnd_changes h)
  | portConversionEnd period => exact meter_aside (execPortConversionEnd_changes h)
  | conversionOpen => exact meter_aside (execConversionOpen_changes h)
  | settleTimerExpiry p =>
    exact running_aside (id h : execSettleTimerExpiry p s = .next t) fun s => .ite (failClaim_aside p _ s) (.refl s)
  | readyTimerExpiry p =>
    exact running_aside (id h : execReadyTimerExpiry p s = .next t) fun s => .ite (failClaim_aside p _ s) (.refl s)
  | railSample p mv ma => exact execRailSample_aside h
  | railLost p =>
    exact running_aside (id h : execRailLost p s = .next t) fun s =>
      .ite ((protect_aside p s).trans (post_aside _ _ _ _)) (.refl s)
  | overvoltage p =>
    exact running_aside (id h : execOvervoltage p s = .next t) fun s =>
      .ite (((protect_aside p s).trans (modMonitor_aside p _ _)).trans (post_aside _ _ _ _)) (.refl s)
  | sagTrim p =>
    exact running_aside (id h : execSagTrim p s = .next t) fun s =>
      .ite ((modDrawMonitor_aside p _ s).trans (raiseTrim_aside _ _)) (.refl s)
  | overdrawTrim p =>
    exact running_aside (id h : execOverdrawTrim p s = .next t) fun s =>
      .ite ((modDrawMonitor_aside p _ s).trans (raiseTrim_aside _ _)) (.refl s)
  | descentTimerExpiry p =>
    exact running_aside (id h : execDescentTimerExpiry p s = .next t) fun s => .ite (modDrawMonitor_aside p _ s) (.refl s)
  | recoveryTimerExpiry =>
    exact running_aside (id h : execRecoveryTimerExpiry s = .next t) fun s => .ite ⟨⟨rfl, rfl⟩, .of_same rfl fun _ h => h⟩ (.refl s)
  | limitPeriod => exact running_aside (id h : execLimitPeriod s = .next t) (modLimit_aside _)
  | downlinkFrameStored bytes => exact changed_aside h nofun (show byteParts ⊆ besideParts by decide)
  | uholdChange high => exact changed_aside h nofun (show [Part.uplink] ⊆ besideParts by decide)
  | _ => exact changed_aside h nofun (by decide)

end

end Sys2Proof.Machine
end

section
/-! PROOFS. The draw switches and the supply switches stay apart (R119, R163). -/

namespace Sys2Proof.Machine

open Sys2Proof

section
variable {s t u : State} {p q : Port} {b : Nat} {c : Instr} {tr : Transition}

/-! ### The condition, and a step that keeps it -/

/-- No port's draw switch and supply switch are closed together, and the ports of a transition that may close theirs stand
with their supply switch open (R119). -/
def State.apart (s : State) : Prop :=
  (∀ p, (s.contract.get p).drawClosed = true → s.supply.switchClosed.get p = false)
    ∧ ∀ tr, s.sequencer.transition = some tr →
        (∀ p ∈ tr.joining ++ tr.steppedOut, s.supply.switchClosed.get p = false)
          ∧ ∀ p ∈ tr.steppedOut, (s.contract.get p).state ≠ .idle

/-- The records and the switches stand on, and the switches stay apart. -/
structure SwitchStep (s t : State) : Prop where
  sound : s.sound → t.sound
  apart : s.sound → s.apart → t.apart

theorem SwitchStep.refl (s : State) : SwitchStep s s := ⟨id, fun _ => id⟩

theorem SwitchStep.trans (h : SwitchStep s t) (g : SwitchStep t u) : SwitchStep s u :=
  ⟨g.sound ∘ h.sound, fun hs ha => g.apart (h.sound hs) (h.apart hs ha)⟩

theorem SwitchStep.ite {c : Prop} [Decidable c] (h : SwitchStep s t) (g : SwitchStep s u) :
    SwitchStep s (if c then t else u) := by split <;> assumption

/-- A supply switch that may close belongs to no port that draws, joins or has stepped out. -/
theorem Supplied.step (h : Supplied s t) : SwitchStep s t where
  sound := h.sound
  apart := fun hs ⟨hdraws, htransition⟩ => by
    have hopen (p : Port) (hsame : s.supply.switchClosed.get p = false) (hbarred : ¬s.supplyFree p) :
        t.supply.switchClosed.get p = false := by
      rw [← Bool.not_eq_true]
      intro hclosed
      rcases h.opens hs p hclosed with hwas | hfree
      · rw [hsame] at hwas
        cases hwas
      · exact hbarred hfree
    refine ⟨fun p hp => ?_, fun tr htr => ?_⟩
    · rw [h.contract] at hp
      refine hopen p (hdraws p hp) fun hfree => ?_
      obtain ⟨hno, -, -⟩ := hfree
      rw [hp] at hno
      cases hno
    · rw [h.transition] at htr
      obtain ⟨hswitch, hstate⟩ := htransition tr htr
      rw [h.contract]
      refine ⟨fun p hp => hopen p (hswitch p hp) fun hfree => ?_, hstate⟩
      obtain ⟨-, hidle, hjoins⟩ := hfree
      rcases List.mem_append.mp hp with hp | hp
      · simp [State.isJoining, htr, hp] at hjoins
      · exact hstate p hp hidle

/-! ### Commands that leave the Supply Unit aside -/

/-- The ports of the transition in service that its switching may close. -/
def State.mayClose (s : State) (p : Port) : Prop :=
  ∃ tr, s.sequencer.transition = some tr ∧ p ∈ tr.joining ++ tr.steppedOut

/-- A draw switch closes only where the transition in service may close it. -/
def DrawsFrom (s t : State) : Prop := ∀ p, (t.contract.get p).drawClosed = true →
  (s.contract.get p).drawClosed = true ∨ s.mayClose p

theorem DrawsFrom.of_keeps {free : List Freedom} (h : Keeps free s t) (hf : .closing ∉ free) : DrawsFrom s t :=
  fun p hp => .inl (h.draws.2 hf p hp)

theorem State.apart.mayClose (h : s.apart) (hp : s.mayClose p) : s.supply.switchClosed.get p = false := by
  obtain ⟨tr, htr, hmem⟩ := hp
  exact (h.2 tr htr).1 p hmem

theorem State.apart.of_opened (h : s.apart)
    (hopen : ∀ p, s.supply.switchClosed.get p = false → t.supply.switchClosed.get p = false) (hserviced : Serviced s t)
    (hdraws : DrawsFrom s t) : t.apart := by
  refine ⟨fun p hp => hopen p ((hdraws p hp).elim (h.1 p) h.mayClose), fun tr htr => ?_⟩
  obtain ⟨tr', htr', hjoining, hstepped⟩ := hserviced tr htr
  obtain ⟨hswitch, hstate⟩ := h.2 tr' htr'
  refine ⟨fun p hp => hopen p (hswitch p ?_), fun p hp hidle => ?_⟩
  · rw [hjoining] at hp
    exact List.mem_append.mpr ((List.mem_append.mp hp).imp_right fun hp => (hstepped p hp).1)
  · obtain ⟨hmem, hwas⟩ := hstepped p hp
    exact hstate p hmem (hwas hidle)

theorem State.apart.of_serviced (h : s.apart) (hsupply : t.supply = s.supply) (hserviced : Serviced s t)
    (hdraws : DrawsFrom s t) : t.apart := h.of_opened (fun p hp => by rwa [hsupply]) hserviced hdraws

theorem State.sound.of_unsupplied (hs : s.sound) (h : Unsupplied s t) (hattached : ∀ p, t.attached p = s.attached p) :
    t.sound := by
  obtain ⟨htable, hsupply⟩ := h
  refine ⟨recordsStand_of_same hs.1 hattached (records_of_table htable) fun w hw => hs.1.waits (by rwa [hsupply] at hw),
    fun p => ?_⟩
  rw [hsupply, hs.2 p]
  exact (holds_congr fun d => by rw [grantOf_of_table htable]).symm

theorem Aside.step (h : Aside s t) (hattached : ∀ p, t.attached p = s.attached p) (hdraws : DrawsFrom s t) :
    SwitchStep s t :=
  ⟨fun hs => hs.of_unsupplied h.unsupplied hattached, fun _ ha => ha.of_serviced h.unsupplied.2 h.serviced hdraws⟩

theorem Aside.step_of_contract (h : Aside s t) (hattached : ∀ p, t.attached p = s.attached p)
    (hcontract : t.contract = s.contract) : SwitchStep s t :=
  h.step hattached fun p hp => .inl (by rwa [hcontract] at hp)

/-- A change of other parts that leaves the Port Monitors. -/
theorem SwitchStep.of_changes {l : List Part} (h : ChangesOnly l s t) (hl : l ⊆ besideParts)
    (hmonitor : ∀ p, .monitor p ∉ l) : SwitchStep s t := by
  refine (Aside.of_changes h hl).step_of_contract (fun p => ?_) (Four.ext_get fun p => h (.contract p) fun hp => ?_)
  · exact congrArg (fun m : Monitor => m.state.attached) (h (.monitor p) (hmonitor p))
  · simpa [besideParts, everyNotice] using hl hp

/-! ### Switching and claims -/

theorem closeAll_drawsFrom (pl : Plan) (l : List Port) (s : State) :
    ∀ p, ((l.foldl (fun u p => closeJoining pl p u) s).contract.get p).drawClosed = true →
      (s.contract.get p).drawClosed = true ∨ p ∈ l := by
  induction l generalizing s with
  | nil => exact fun _ h => .inl h
  | cons q l ih =>
    intro p hp
    rcases ih _ p hp with hp | hp
    · rw [closeJoining_contract] at hp
      by_cases hpq : p = q
      · exact .inr (hpq ▸ List.mem_cons_self)
      · rw [if_neg hpq] at hp
        exact .inl hp
    · exact .inr (List.mem_cons_of_mem _ hp)

theorem mayClose_of_switchJoining (htr : s.sequencer.transition = some tr) (hp : p ∈ s.switchJoining tr) :
    s.mayClose p := by
  refine ⟨tr, htr, ?_⟩
  have := (List.mem_filter.mp hp).2
  simp only [Bool.and_eq_true, Bool.or_eq_true, List.contains_iff_mem] at this
  exact List.mem_append.mpr this.1

theorem closeAndEnd_drawsFrom (htr : s.sequencer.transition = some tr) : DrawsFrom s (closeAndEnd tr s) := by
  intro p hp
  have hkeeps : Keeps [] ((s.switchJoining tr).foldl (fun u p => closeJoining tr.plan p u) s) (closeAndEnd tr s) :=
    (baseFall_keeps tr.plan _).trans (releaseAndEnd_keeps tr _)
  have hend := hkeeps.draws.2 (by simp) p hp
  exact (closeAll_drawsFrom tr.plan _ s p hend).imp_right (mayClose_of_switchJoining htr)

theorem makeBeforeBreak_drawsFrom (htr : s.sequencer.transition = some tr) :
    DrawsFrom s (makeBeforeBreak tr (s.switchJoining tr) s) := by
  have hfold (l : List Port) (v : State) (p : Port) : ((l.foldl (fun u p =>
      let v := if 2 ≤ u.drawSet.length then openAll ((u.switchLeaving tr).take 1) u else u
      closeJoining tr.plan p v) v).contract.get p).drawClosed = true → (v.contract.get p).drawClosed = true ∨ p ∈ l := by
    induction l generalizing v with
    | nil => exact fun h => .inl h
    | cons q l ih =>
      intro hp
      rcases ih _ hp with hp | hp
      · rw [closeJoining_contract] at hp
        by_cases hpq : p = q
        · exact .inr (hpq ▸ List.mem_cons_self)
        · rw [if_neg hpq] at hp
          exact .inl ((Keeps.ite (free := []) (openAll_keeps _ v) (.refl v)).draws.2 (by simp) p hp)
      · exact .inr (List.mem_cons_of_mem _ hp)
  intro p hp
  have hclosed := (openAll_keeps (free := []) _ _).draws.2 (by simp) p hp
  exact (hfold _ s p hclosed).imp_right (mayClose_of_switchJoining htr)

theorem DrawsFrom.then_keeps {free : List Freedom} (h : DrawsFrom s t) (g : Keeps free t u) (hf : .closing ∉ free) :
    DrawsFrom s u := fun p hp => h p (g.draws.2 hf p hp)

theorem switching_drawsFrom (s : State) : DrawsFrom s (switching s) := by
  unfold switching
  split
  · exact fun p hp => .inl hp
  · next tr htr =>
    dsimp only
    split_ifs
    · exact (makeBeforeBreak_drawsFrom htr).then_keeps (free := []) ((baseFall_keeps _ _).trans (releaseAndEnd_keeps _ _)) (by simp)
    · exact closeAndEnd_drawsFrom htr
    · exact .of_keeps (free := []) (((openAll_keeps _ s).trans (baseFall_keeps _ _)).trans (service_keeps _)) (by simp)
    · exact .of_keeps (free := []) (holdSwitching_keeps _ s) (by simp)

theorem fallenContract_state {pl : Plan} {d : Contract} (h : (fallenContract pl p d).state = .idle) : d.state = .idle := by
  unfold fallenContract at h
  split at h
  · split at h
    · cases h
    · exact h
  all_goals exact h

theorem switching_serviced (s : State) : Serviced s (switching s) := by
  unfold switching
  split
  · exact .of_same rfl fun _ h => h
  · next tr htr =>
    dsimp only
    split_ifs
    · exact .of_ended rfl
    · exact .of_ended rfl
    · intro tr' htr'
      obtain ⟨v, hv⟩ : ∃ v, v = baseFall tr.plan (openAll (s.switchLeaving tr) s) := ⟨_, rfl⟩
      have hmoved : ChangesOnly drawParts s v := by
        rw [hv]
        exact (openAll_changes _ s).trans (baseFall_changes _ _)
      have htransition : v.sequencer.transition = some tr := ((hmoved .service (by decide)).2.2).trans htr
      have hstaged : (setStage (.breaking 0) v).sequencer.transition = some { tr with stage := .breaking 0 } := by
        show v.sequencer.transition.map _ = _
        rw [htransition]
        rfl
      rw [← hv, hstaged] at htr'
      obtain rfl := Option.some.inj htr'
      refine ⟨tr, htr, rfl, fun p hp => ⟨hp, fun hidle => ?_⟩⟩
      have hcontract : (v.contract.get p).state = .idle := by
        rw [hv]
        exact hidle
      rw [hv, baseFall_contract] at hcontract
      have hopened := fallenContract_state hcontract
      rw [openAll_contract] at hopened
      split at hopened <;> exact hopened
    · exact .of_ended rfl

theorem switching_apart (h : s.apart) : (switching s).apart :=
  h.of_serviced (switching_unsupplied s).2 (switching_serviced s) (switching_drawsFrom s)

/-- A claim keeps the switches apart: a port that steps out was drawing, so its supply switch is open. -/
theorem startClaim_apart (h : s.apart) (e : PlanEntry) (g : Stage) : (startClaim e g s).apart := by
  obtain ⟨hdraws, htransition⟩ := h
  have hsupply := (startClaim_unsupplied e g s).2
  have hchanges := startClaim_changes e g s
  have hservice : (startClaim e g s).sequencer.transition = (claimState e g s).sequencer.transition := by
    rw [startClaim_eq]
    split
    · exact (requestExchange_onLine e.port _ _).service.2.2
    · rfl
  have hstate : ((startClaim e g s).contract.get e.port).state ≠ .idle := by
    rw [startClaim_contract]
    rcases (claimingContract_pending e (s.contract.get e.port)).2 with h | h <;> simp [h]
  have hother (p : Port) (hp : p ≠ e.port) : (startClaim e g s).contract.get p = s.contract.get p :=
    hchanges (.contract p) (by simp [abortParts, hp])
  unfold State.apart
  rw [hsupply]
  refine ⟨fun p hp => hdraws p ((startClaim_keeps (free := []) e g s).draws.2 (by simp) p hp), fun tr htr => ?_⟩
  rw [hservice, claimState, stepOut_eq] at htr
  have hnonidle (tr' : Transition) (htr' : s.sequencer.transition = some tr') (p : Port) (hp : p ∈ tr'.steppedOut) :
      ((startClaim e g s).contract.get p).state ≠ .idle := by
    by_cases hpe : p = e.port
    · exact hpe ▸ hstate
    · rw [hother p hpe]
      exact (htransition tr' htr').2 p hp
  split at htr
  · next hsteps =>
    have hmap : (s.sequencer.transition.map fun t => { t with stage := g, steppedOut := t.steppedOut ++ [e.port] }) = some tr := by
      rw [← htr]
      show _ = (s.sequencer.transition.map _).map _
      rw [Option.map_map]
      rfl
    obtain ⟨tr', htr', rfl⟩ := Option.map_eq_some_iff.mp hmap
    have hclosed : (s.contract.get e.port).drawClosed = true := by
      unfold State.stepsOut at hsteps
      rw [Bool.and_eq_true] at hsteps
      exact hsteps.1
    refine ⟨fun p hp => ?_, fun p hp => ?_⟩
    · rw [← List.append_assoc] at hp
      rcases List.mem_append.mp hp with hp | hp
      · exact (htransition tr' htr').1 p hp
      · rw [List.mem_singleton.mp hp]
        exact hdraws _ hclosed
    · rcases List.mem_append.mp hp with hp | hp
      · exact hnonidle tr' htr' p hp
      · rw [List.mem_singleton.mp hp]
        exact hstate
  · obtain ⟨tr', htr', rfl⟩ := Option.map_eq_some_iff.mp (show s.sequencer.transition.map _ = some tr from htr)
    exact ⟨(htransition tr' htr').1, hnonidle tr' htr'⟩

theorem claimSecondary_apart (h : s.apart) (pl : Plan) : (claimSecondary pl s).apart := by
  unfold claimSecondary
  split
  · split
    · exact startClaim_apart h _ _
    · exact switching_apart h
  all_goals exact switching_apart h

theorem runClaims_apart (h : s.apart) (pl : Plan) : (runClaims pl s).apart := by
  unfold runClaims
  split
  · split
    · exact startClaim_apart h _ _
    · exact claimSecondary_apart h _
  all_goals exact claimSecondary_apart h _

theorem continueClaims_apart (h : s.apart) : (continueClaims s).apart := by
  unfold continueClaims
  split
  · exact h
  · split
    · exact claimSecondary_apart h _
    all_goals exact switching_apart h

theorem settleContract_apart (h : s.apart) (p : Port) : (settleContract p s).apart := by
  have hchanges := settleContract_changes p s
  refine h.of_serviced (settleContract_unsupplied p s).2 (.of_same (hchanges .service (by simp)).2.2 fun q hq => ?_)
    (.of_keeps (free := []) (settleContract_keeps p s) (by simp))
  unfold settleContract at hq
  split at hq
  · by_cases hqp : q = p
    · subst hqp
      simp [recompute] at hq
    · simpa [hqp, recompute] using hq
  · exact hq

end

end Sys2Proof.Machine
end

section
/-! PROOFS. The records and the switches at a port that enters PROBING, is announced or is detached (R4, R6, R7, R17). -/

namespace Sys2Proof.Machine

open Sys2Proof

section
variable {s t u : State} {p q : Port} {b d : Nat} {f : RawFrame} {kind : BitVec 6}

/-! ### A port's own record -/

theorem setOwn_grantOf_other (r : Option PartnerRecord) (s : State) (h : q ≠ p ∨ d ≠ 0) :
    (s.setOwn p r).grantOf q d = s.grantOf q d := by
  by_cases hd : d = 0
  · subst hd
    have hq : q ≠ p := h.resolve_right fun h => h rfl
    simp [grantOf_zero, State.setOwn, hq]
  · rw [grantOf_pooled hd, grantOf_pooled hd]
    rfl

theorem setOwn_keys (p : Port) (r : Option PartnerRecord) (s : State) : (s.setOwn p r).keys = s.keys := rfl

/-- The records and the switches after a port's own record was written, its grant unchanged. -/
theorem sound_of_own {r : PartnerRecord} (hs : s.sound) (htable : t.table = (s.setOwn p (some r)).table)
    (hsupply : t.supply = s.supply) (hgrant : r.grant = s.grantOf p 0)
    (hattached : t.attached p = true) (hothers : ∀ q, q ≠ p → t.attached q = s.attached q) : t.sound := by
  obtain ⟨hstand, hswitches⟩ := hs
  have hgrants (q : Port) (d : Nat) : t.grantOf q d = s.grantOf q d := by
    rw [grantOf_of_table htable]
    by_cases h : q ≠ p ∨ d ≠ 0
    · exact setOwn_grantOf_other _ s h
    · simp only [not_or, ne_eq, not_not] at h
      obtain ⟨rfl, rfl⟩ := h
      rw [← hgrant]
      simp [grantOf_zero, State.setOwn]
  have hrecord (q : Port) (d : Nat) (h : s.hasRecord q d = true) : t.hasRecord q d = true := by
    rw [hasRecord_iff] at h ⊢
    rw [(records_of_table htable).2, setOwn_keys, (records_of_table htable).1]
    refine h.imp_left fun ⟨hd, hown⟩ => ⟨hd, ?_⟩
    by_cases hq : q = p
    · simp [State.setOwn, hq]
    · simpa [State.setOwn, hq] using hown
  refine ⟨?_, fun q => ?_⟩
  · have hwait (w : WaitEntry) (hw : w ∈ s.supply.waitList) := hstand.waits hw
    rw [recordsStand_iff] at hstand ⊢
    obtain ⟨hown, hpool, hnodup, -⟩ := hstand
    rw [(records_of_table htable).2, setOwn_keys, hsupply]
    refine ⟨fun q => ?_, fun k hk => ?_, hnodup, fun w hw => hrecord _ _ (hwait w hw)⟩
    · rw [(records_of_table htable).1]
      by_cases hq : q = p
      · simp [State.setOwn, hq, hattached]
      · rw [hothers q hq, ← hown q]
        simp [State.setOwn, hq]
    · obtain ⟨h1, h2, h3⟩ := hpool k hk
      refine ⟨h1, h2, ?_⟩
      by_cases hq : k.1 = p
      · rw [hq]
        exact hattached
      · rw [hothers _ hq]
        exact h3
  · rw [hsupply, hswitches q]
    exact (holds_congr fun d => by rw [hgrants]).symm

/-- A port's own record is written, and the port is attached. -/
theorem SwitchStep.of_own {r : PartnerRecord} (htable : t.table = (s.setOwn p (some r)).table) (hsupply : t.supply = s.supply)
    (hcontract : t.contract = s.contract) (htransition : t.sequencer.transition = s.sequencer.transition)
    (hattached : t.attached p = true) (hothers : ∀ q, q ≠ p → t.attached q = s.attached q)
    (hgrant : s.sound → r.grant = s.grantOf p 0) : SwitchStep s t where
  sound := fun hs => sound_of_own hs htable hsupply (hgrant hs) hattached hothers
  apart := fun _ ha => ha.of_serviced hsupply (.of_same htransition fun q hq => by rwa [hcontract] at hq)
    fun q hq => .inl (by rwa [hcontract] at hq)

theorem Unsupplied.table_eq (h : Unsupplied s t) : t.table = s.table := h.1

theorem Keeps.attached {free : List Freedom} (h : Keeps free s t) (hf : .attaching ∉ free) (q : Port) :
    t.attached q = s.attached q := (h.monitors q).2.2 hf

/-- The port's record as it enters PROBING. -/
def probingRecord (p : Port) (s : State) : State :=
  (s.modMonitor p fun m => { m with state := .probing, debounce := none, probeCount := 1, probeTimer := some 0 }).setOwn p
    (some freshRecord)

theorem enterProbing_rest (p : Port) (s : State) :
    Unsupplied (probingRecord p s) (enterProbing p s) ∧ Keeps [] (probingRecord p s) (enterProbing p s) := by
  obtain ⟨v, hv⟩ : ∃ v, v = probingRecord p s := ⟨_, rfl⟩
  have hbook : Unsupplied v (v.modBook p fun b => { b with firstBook := true }) := ⟨rfl, rfl⟩
  have hasked := hbook.trans (placeParts_unsupplied (requestExchange_changes p .probe _))
  have hkeeps : Keeps [] v (requestExchange p .probe (v.modBook p fun b => { b with firstBook := true })) :=
    (modBook_keeps p _ v).trans (requestExchange_keeps p .probe _)
  rw [hv] at hasked hkeeps
  unfold probingRecord at hasked hkeeps ⊢
  unfold enterProbing
  exact ⟨.ite (hasked.trans (raiseDemand_unsupplied _ _ _)) hasked,
    .ite (hkeeps.trans (raiseDemand_keeps _ _ _)) hkeeps⟩

/-- A port that enters PROBING has its record in use. -/
theorem enterProbing_step (hs : s.attached p = false) : SwitchStep s (enterProbing p s) := by
  have hchanges := enterProbing_changes p s
  obtain ⟨hrest, hkeeps⟩ := enterProbing_rest p s
  refine .of_own (r := freshRecord) hrest.table_eq hrest.2
    (Four.ext_get fun q => hchanges (.contract q) (by simp)) (hchanges .service (by simp)).2.2 ?_ (fun q hq => ?_)
    fun hsound => ?_
  · rw [hkeeps.attached (by simp)]
    simp [probingRecord, State.attached, Attach.attached, State.setOwn]
  · rw [hkeeps.attached (by simp)]
    simp [probingRecord, State.attached, State.setOwn, hq]
  · have hnone : (s.table.own.get p).isSome = false := (hsound.1.1 p).trans hs
    rw [grantOf_zero, Option.isNone_iff_eq_none.mp (Option.isSome_eq_false_iff.mp hnone)]
    rfl

theorem record_grant (a : AnnounceFields) (old : PartnerRecord) : (a.record old).grant = old.grant := by
  unfold AnnounceFields.record
  split <;> rfl

theorem ownRecord_grant (hs : s.sound) (hattached : s.attached p = true) : (s.ownRecord p).grant = s.grantOf p 0 := by
  obtain ⟨r, hr⟩ := Option.isSome_iff_exists.mp ((hs.1.1 p).trans hattached)
  rw [grantOf_zero, State.ownRecord, hr]
  rfl

theorem bookParts_unsupplied (h : ChangesOnly (bookParts p) s t) : Unsupplied s t :=
  .of_changes h (by simp [bookParts, unsuppliedParts, besideParts])

theorem meter_unsupplied (h : ChangesOnly meterParts s t) : Unsupplied s t := .of_changes h (by decide)

theorem outside_contract (h : ChangesOnly outsideParts s t) :
    t.contract = s.contract ∧ t.sequencer.transition = s.sequencer.transition :=
  ⟨Four.ext_get fun q => h (.contract q) (by revert q; decide), (h .service (by decide)).2.2⟩

/-- The port's record as it enters TALKING. -/
def talkingRecord (p : Port) (a : AnnounceFields) (s : State) : State :=
  (s.setOwn p (some (a.record (s.ownRecord p)))).modMonitor p fun m => { m with state := .talking, probeTimer := none }

theorem enterTalking_rest (p : Port) (a : AnnounceFields) (s : State) :
    Unsupplied (talkingRecord p a s) (enterTalking p a s) := by
  have hmeter (c : Prop) [Decidable c] (u : State) : Unsupplied u (if c then u else abandonMeasure p u) :=
    .ite (.refl u) (meter_unsupplied (abandonMeasure_changes p u))
  have hbook (c : Prop) [Decidable c] (u : State) : Unsupplied u (if c then emptyBook p u else u) :=
    .ite (bookParts_unsupplied (emptyBook_changes p u)) (.refl u)
  unfold talkingRecord enterTalking
  exact (((placeParts_unsupplied (endProbe_changes p _)).trans (hmeter _ _)).trans (hbook _ _)).trans ⟨rfl, rfl⟩

theorem enterTalking_step (a : AnnounceFields) (hsending : (s.framer.get p).sending = none) (hattached : s.attached p = true) :
    SwitchStep s (enterTalking p a s) := by
  obtain ⟨hcontract, htransition⟩ := outside_contract (enterTalking_changes p a s)
  have hkeeps := enterTalking_keeps (free := []) a hsending hattached
  have hrest := enterTalking_rest p a s
  refine .of_own (r := a.record (s.ownRecord p)) hrest.table_eq hrest.2 hcontract htransition ?_
    (fun q _ => hkeeps.attached (by simp) q) fun hs => ?_
  · rw [hkeeps.attached (by simp)]
    exact hattached
  · rw [record_grant, ownRecord_grant hs hattached]

theorem postPartner_supplied (code : Byte) (p : Port) (s : State) : Supplied s (postPartner code p s) :=
  .of_same ⟨rfl, rfl, fun _ => rfl⟩ rfl rfl

/-- The port's record as a TALKING port is announced again, with its book. -/
def announcedAgain (p : Port) (a : AnnounceFields) (s : State) : State :=
  if (s.ownRecord p).supplies && !(a.record (s.ownRecord p)).supplies
  then emptyBook p (s.setOwn p (some (a.record (s.ownRecord p)))) else s.setOwn p (some (a.record (s.ownRecord p)))

theorem announcedAgain_rest (p : Port) (a : AnnounceFields) (s : State) :
    Unsupplied (s.setOwn p (some (a.record (s.ownRecord p)))) (announcedAgain p a s)
      ∧ Keeps [] (s.setOwn p (some (a.record (s.ownRecord p)))) (announcedAgain p a s)
      ∧ ChangesOnly outsideParts (s.setOwn p (some (a.record (s.ownRecord p)))) (announcedAgain p a s) :=
  ⟨.ite (bookParts_unsupplied (emptyBook_changes p _)) (.refl _), .ite (emptyBook_keeps p _) (.refl _),
    .ite ((emptyBook_changes p _).mono (book_outside_sub p)) (.refl _ _)⟩

theorem announcedAgain_step (a : AnnounceFields) (hattached : s.attached p = true) : SwitchStep s (announcedAgain p a s) := by
  obtain ⟨hrest, hkeeps, hchanges⟩ := announcedAgain_rest p a s
  obtain ⟨hcontract, htransition⟩ := outside_contract hchanges
  refine .of_own (p := p) (r := a.record (s.ownRecord p)) hrest.table_eq hrest.2 hcontract htransition ?_ (fun q _ => ?_)
    fun hs => ?_
  · rw [hkeeps.attached (by simp)]
    exact hattached
  · rw [hkeeps.attached (by simp)]
    rfl
  · rw [record_grant, ownRecord_grant hs hattached]

/-- What the freeing of records and a notice keep, an ANNOUNCE on a TALKING port keeps after its record is written. -/
theorem reannounce_relates {rel : State → State → Prop} {a : AnnounceFields} (htrans : ∀ {s t u}, rel s t → rel t u → rel s u)
    (hfirst : rel s (announcedAgain p a s)) (hfree : ∀ n u, rel u (freeAbove p n u))
    (hpost : ∀ u, rel u (postPartner noticeAnnounced p u)) : rel s (reannounce p a s) := by
  have hfreed (c : Prop) [Decidable c] (n : Nat) :
      rel s (if c then freeAbove p n (announcedAgain p a s) else announcedAgain p a s) := by
    split
    · exact htrans hfirst (hfree n _)
    · exact hfirst
  unfold announcedAgain at hfreed
  unfold reannounce
  dsimp only
  split
  · exact htrans (hfreed _ _) (hpost _)
  · exact hfreed _ _

theorem reannounce_step (a : AnnounceFields) (hattached : s.attached p = true) : SwitchStep s (reannounce p a s) :=
  reannounce_relates .trans (announcedAgain_step a hattached) (fun n u => (freeAbove_supplied p n u).step)
    fun u => (postPartner_supplied _ _ u).step

/-! ### A received frame -/

theorem SwitchStep.of_line (h : ChangesOnly (lineParts p) s t) (hattached : ∀ q, t.attached q = s.attached q) :
    SwitchStep s t :=
  (line_aside h).step_of_contract hattached (Four.ext_get fun q => h (.contract q) (by simp [lineParts]))

theorem protocolError_step (p : Port) (s : State) : SwitchStep s (protocolError p s) :=
  .of_line (p := p) ((protocolError_changes p s).mono (by simp [lineParts])) fun _ => rfl

section
variable {rel : State → State → Prop}
  (hline : ∀ {s t}, ChangesOnly (lineParts p) s t → (∀ q, t.attached q = s.attached q) → rel s t)

include hline

/-- What a change of the line keeps, a frame keeps that is handed over on a quiet line of an attached port. -/
theorem heard_relates {take : State → State} (htrans : ∀ {s t u}, rel s t → rel t u → rel s u)
    (ht : ∀ u, (u.framer.get p).sending = none → u.attached p = true → rel u (take u)) (s : State) :
    rel s (receiveFrame p kind f take s) := by
  have hclear : rel s (lineCleared p s) := hline ((lineCleared_changes p s).mono (by simp [lineParts])) fun _ => rfl
  have hgood (u : State) : rel u (countGood p u) := hline ((countGood_changes p u).mono (by simp [lineParts])) fun _ => rfl
  have hbad (u : State) : rel u (countBad p u) :=
    hline ((countBad_changes p u).mono (by simp [lineParts])) fun q => by
      unfold countBad
      dsimp only
      split <;> rfl
  have hsend (u : State) : rel u (transmit p u) := hline ((transmit_changes p u).mono (by simp [lineParts, placeParts]))
    fun q => congrArg Attach.attached (transmit_state p q u)
  unfold receiveFrame
  split_ifs with hbegins hattached hloses hsound
  · exact hline ((modFramer_changes s p _).mono (by simp [lineParts])) fun _ => rfl
  · exact hclear
  · exact htrans hclear (hsend _)
  · refine htrans (htrans (htrans hclear (hgood _)) (ht _ ?_ ?_)) (hsend _)
    · have hnone : (s.framer.get p).sending = none := by
        unfold Framer.losesFrame at hloses
        simp only [Bool.or_eq_true, not_or] at hloses
        exact Option.not_isSome_iff_eq_none.mp hloses.1
      simpa [countGood, lineCleared] using hnone
    · show s.attached p = true
      simpa using hattached
  · exact htrans (htrans hclear (hbad _)) (hsend _)

/-- What a change of the line keeps, a frame keeps that is routed on a TALKING port. -/
theorem routed_relates {route : State → State}
    (hr : ∀ u, (u.monitor.get p).state = .talking → f.branch ≠ 7 → rel u (route u)) (s : State) :
    rel s (takeTalking p kind f route s) := by
  have herror : rel s (protocolError p s) := hline ((protocolError_changes p s).mono (by simp [lineParts])) fun _ => rfl
  unfold takeTalking
  split_ifs with htalking hbranch hcount hlength
  · exact herror
  · exact herror
  · exact hline ((place_changes p _ s).mono (by simp [lineParts, placeParts])) (place_still p _ s).attached
  · exact herror
  · exact hr s (not_not.mp htalking) hbranch

end

theorem heard_step {take : State → State}
    (ht : ∀ u, (u.framer.get p).sending = none → u.attached p = true → SwitchStep u (take u)) (s : State) :
    SwitchStep s (receiveFrame p kind f take s) := heard_relates .of_line .trans ht s

theorem routed_step {route : State → State}
    (hr : ∀ u, (u.monitor.get p).state = .talking → f.branch ≠ 7 → SwitchStep u (route u)) (s : State) :
    SwitchStep s (takeTalking p kind f route s) := routed_relates .of_line hr s

theorem branch_le_six {b : BitVec 3} (h : b ≠ 7) : b.toNat ≤ 6 := by
  have hlt := b.isLt
  have hne : b.toNat ≠ 7 := fun he => h (BitVec.eq_of_toNat_eq he)
  omega

theorem attached_of_talking (h : (s.monitor.get p).state = .talking) : s.attached p = true := by
  simp [State.attached, h, Attach.attached]

end

end Sys2Proof.Machine
end

section
/-! PROOFS. The records and the switches at a detach, and through every command (R17, R119, R163). -/

namespace Sys2Proof.Machine

open Sys2Proof

section
variable {s t u : State} {p q : Port} {b d : Nat} {f : RawFrame} {kind : BitVec 6} {c : Instr}

/-! ### Detach (R17) -/

/-- The port's contract and its part in a transition are gone. -/
def detachedContract (p : Port) (s : State) : State :=
  abortIfInvolved p s.cutShort (raiseDemand .loss p
    ((clearContract p ((s.modFramer p fun _ => Framer.reset).modMonitor p Monitor.detached)).modDrawMonitor p
      fun _ => DrawMonitor.reset))

/-- The port's records are freed. -/
def detachedRecords (p : Port) (s : State) : State :=
  ((supplyDetach p s).setOwn p none).setPool ((supplyDetach p s).table.pool.filter fun r => !(r.port == p))

/-- The port's book, measurement and capture are gone. -/
def detachedRest (p : Port) (s : State) : State :=
  clearNotice (.capture p) ((abandonMeasure p (s.modBook p fun _ => Book.detached s.msCount)).modPortMeasure p
    fun _ => PortMeasure.reset)

theorem detachPort_eq (p : Port) (s : State) : detachPort p s
    = postPartner noticeDetached p (serve (detachedRest p (detachedRecords p (detachedContract p s)))) := rfl

theorem detachedRest_changes (p : Port) (s : State) : ChangesOnly (.notice (.capture p) :: meterParts) s (detachedRest p s) := by
  have hbook : ChangesOnly meterParts s (s.modBook p fun _ => Book.detached s.msCount) :=
    (modBook_changes _ _ _).mono (by simp [meterParts])
  exact .then ((hbook.trans (abandonMeasure_changes p _)).trans (measure_meter_changes _ _ _)) (clearNotice_changes _ _)
    (List.subset_cons_self _ _) (by simp)

theorem detachedRest_keeps (p : Port) (s : State) : Keeps [] s (detachedRest p s) :=
  ((modBook_keeps p _ s).trans (resetMeasure_keeps p _)).trans
    (.of_quiet ((clearNotice_changes _ _).mono (by simp [quietParts, mem_everyNotice])))

/-- The contract's part of a detach leaves the records and the Supply Unit. -/
theorem detachedContract_unsupplied (p : Port) (s : State) : Unsupplied s (detachedContract p s) := by
  have hfirst : Unsupplied s ((s.modFramer p fun _ => Framer.reset).modMonitor p Monitor.detached) := ⟨rfl, rfl⟩
  exact (((hfirst.trans (clearContract_unsupplied p _)).trans (modDrawMonitor_unsupplied p _ _)).trans
    (raiseDemand_unsupplied _ _ _)).trans (abortIfInvolved_unsupplied p _ _)

theorem detachedContract_keeps (p : Port) (s : State) :
    Keeps [] ((s.modFramer p fun _ => Framer.reset).modMonitor p Monitor.detached) (detachedContract p s) := by
  have hdraw (u : State) : Keeps [] u (u.modDrawMonitor p fun _ => DrawMonitor.reset) :=
    .of_draws (p := p) ((modDrawMonitor_changes u p _).mono (by simp)) (fun _ _ => by simp [DrawMonitor.reset]) (by simp)
  exact (((clearContract_keeps p _).trans (hdraw _)).trans (raiseDemand_keeps .loss p _)).trans
    (abortIfInvolved_keeps p s.cutShort _)

theorem detachedContract_attached (p q : Port) (s : State) :
    (detachedContract p s).attached q = if q = p then false else s.attached q := by
  rw [(detachedContract_keeps p s).attached (by simp)]
  by_cases h : q = p
  · subst h
    simp [State.attached, Monitor.detached, Attach.attached]
  · simp [State.attached, h]

theorem detachedContract_serviced (p : Port) (s : State) : Serviced s (detachedContract p s) := by
  obtain ⟨v, hv⟩ : ∃ v, v = raiseDemand .loss p
    ((clearContract p ((s.modFramer p fun _ => Framer.reset).modMonitor p Monitor.detached)).modDrawMonitor p
      fun _ => DrawMonitor.reset) := ⟨_, rfl⟩
  have hchanges : ChangesOnly (.demands p :: abortParts p) s v := by
    rw [hv]
    have hfirst : ChangesOnly (abortParts p) s ((s.modFramer p fun _ => Framer.reset).modMonitor p Monitor.detached) :=
      .then (modFramer_changes s p _) (modMonitor_changes _ p _) (by simp [abortParts]) (by simp [abortParts])
    exact .then ((hfirst.trans ((clearContract_changes p _).mono (switch_abort_sub p))).trans
      ((modDrawMonitor_changes _ p _).mono (by simp [abortParts]))) (raiseDemand_changes .loss p _)
      (List.subset_cons_self _ _) (by simp)
  have heq : detachedContract p s = abortIfInvolved p s.cutShort v := by rw [hv]; rfl
  rw [heq]
  obtain ⟨-, -, htransition⟩ := hchanges .service (by simp [abortParts])
  by_cases hinvolved : ∃ tr, v.sequencer.transition = some tr ∧ tr.involves p = true
  · obtain ⟨tr, htr, hp⟩ := hinvolved
    rw [abortIfInvolved_of_involved htr hp]
    exact .of_ended rfl
  · have hspared : ∀ tr, v.sequencer.transition = some tr → tr.involves p = false :=
      fun tr htr => Bool.eq_false_iff.mpr fun hp => hinvolved ⟨tr, htr, hp⟩
    rw [abortIfInvolved_of_spared hspared]
    intro tr htr
    refine ⟨tr, htransition.symm.trans htr, rfl, fun q hq => ⟨hq, ?_⟩⟩
    have hqp : q ≠ p := by
      rintro rfl
      have := hspared tr htr
      simp [Transition.involves, hq] at this
    rw [show v.contract.get q = s.contract.get q from hchanges (.contract q) (by simp [abortParts, hqp])]
    exact id

theorem endAll_supply (l : List GrantView) (s : State) :
    (l.foldl (fun t g => setGrant g.port g.branch none t) s).supply = s.supply := by
  induction l generalizing s with
  | nil => rfl
  | cons g l ih => rw [List.foldl_cons, ih, setGrant_supply]

theorem supplyDetach_spec (p : Port) (s : State) : Still s (supplyDetach p s) ∧ sameRecords s (supplyDetach p s)
    ∧ (∀ q d, q ≠ p → (supplyDetach p s).grantOf q d = s.grantOf q d)
    ∧ (supplyDetach p s).supply = { s.supply with waitList := s.supply.waitList.filter fun w => !(w.port == p)
                                                  switchClosed := s.supply.switchClosed.set p false } := by
  have hF (t : State) (g : GrantView) (hg : g ∈ s.portGrants p) :
      (setGrant g.port g.branch none t).table = (setGrant p g.branch none t).table := by
    have hport : g.port = p := by simpa using (List.mem_filter.mp hg).2
    rw [hport]
  obtain ⟨hrecords, hother, -⟩ := ended_fold (p := p) (s.portGrants p) hF s
  have hstill : Still s (dropGrants p s) := by
    unfold dropGrants
    refine Still.foldl (fun t g => ?_) _ s
    exact setGrant_still _ _ _ t
  have hsupply : (dropGrants p s).supply = s.supply := endAll_supply (s.portGrants p) s
  refine ⟨hstill.trans ⟨rfl, rfl, fun _ => rfl⟩, hrecords.trans (records_of_table rfl), fun q d hq => hother q d hq, ?_⟩
  have hends : (supplyDetach p s).supply
      = { (dropGrants p s).supply with waitList := (dropGrants p s).supply.waitList.filter fun w => !(w.port == p)
                                       switchClosed := (dropGrants p s).supply.switchClosed.set p false } := rfl
  rw [hends, hsupply]

theorem portFreed_grantOf_other (s : State) (hq : q ≠ p) (d : Nat) :
    (s.setPool (s.table.pool.filter fun r => !(r.port == p))).grantOf q d = s.grantOf q d := by
  by_cases hd : d = 0
  · subst hd
    rfl
  · rw [grantOf_pooled hd, grantOf_pooled hd]
    congr 1
    simp only [State.setPool, List.find?_filter]
    refine List.find?_congr fun r _ => ?_
    by_cases hfor : r.isFor q d = true
    · obtain ⟨rfl, -⟩ := (isFor_iff q d r).mp hfor
      simp [hfor, hq]
    · simp [hfor]

theorem portFreed_keys (p : Port) (s : State) :
    (s.setPool (s.table.pool.filter fun r => !(r.port == p))).keys = s.keys.filter fun k => !(k.1 == p) := by
  unfold State.keys State.setPool
  rw [List.filter_map]
  rfl

/-- Everything of the port is gone from the records and the Supply Unit (R17, R167). -/
theorem detachedRecords_spec (p : Port) (s : State) : Still s (detachedRecords p s)
    ∧ (∀ q, ((detachedRecords p s).table.own.get q).isSome = if q = p then false else (s.table.own.get q).isSome)
    ∧ (detachedRecords p s).keys = s.keys.filter (fun k => !(k.1 == p))
    ∧ (∀ q d, q ≠ p → (detachedRecords p s).grantOf q d = s.grantOf q d)
    ∧ (detachedRecords p s).supply
        = { s.supply with waitList := s.supply.waitList.filter fun w => !(w.port == p)
                          switchClosed := s.supply.switchClosed.set p false } := by
  obtain ⟨hstill, hrecords, hother, hsupply⟩ := supplyDetach_spec p s
  obtain ⟨v, hv⟩ : ∃ v, v = (supplyDetach p s).setOwn p none := ⟨_, rfl⟩
  have heq : detachedRecords p s = v.setPool (v.table.pool.filter fun r => !(r.port == p)) := by rw [hv]; rfl
  have hkeys : v.keys = s.keys := by
    rw [hv, setOwn_keys]
    exact hrecords.2
  rw [heq]
  refine ⟨hstill.trans (by rw [hv]; exact ⟨rfl, rfl, fun _ => rfl⟩), fun q => ?_, ?_, fun q d hq => ?_, ?_⟩
  · show (v.table.own.get q).isSome = _
    by_cases hq : q = p
    · simp [hv, State.setOwn, hq]
    · rw [if_neg hq, ← hrecords.1 q, hv]
      simp [State.setOwn, hq]
  · rw [portFreed_keys, hkeys]
  · rw [portFreed_grantOf_other v hq, hv, setOwn_grantOf_other _ _ (.inl hq), hother q d hq]
  · show v.supply = _
    rw [← hsupply, hv]
    rfl

theorem grantOf_of_detached (hown : ∀ q, (t.table.own.get q).isSome = if q = p then false else (s.table.own.get q).isSome)
    (hkeys : t.keys = s.keys.filter fun k => !(k.1 == p)) (d : Nat) : t.grantOf p d = none := by
  refine grantOf_none_of_record (Bool.eq_false_iff.mpr fun h => ?_)
  rcases hasRecord_iff.mp h with ⟨-, h⟩ | ⟨-, h⟩
  · rw [hown, if_pos rfl] at h
    cases h
  · rw [hkeys] at h
    simp at h

theorem sound_of_detached (hs : s.sound) (hattached : ∀ q, t.attached q = if q = p then false else s.attached q)
    (hown : ∀ q, (t.table.own.get q).isSome = if q = p then false else (s.table.own.get q).isSome)
    (hkeys : t.keys = s.keys.filter fun k => !(k.1 == p)) (hgrants : ∀ q d, q ≠ p → t.grantOf q d = s.grantOf q d)
    (hsupply : t.supply = { s.supply with waitList := s.supply.waitList.filter fun w => !(w.port == p)
                                          switchClosed := s.supply.switchClosed.set p false }) : t.sound := by
  obtain ⟨hstand, hswitches⟩ := hs
  have hmem (k : Port × Nat) : k ∈ t.keys ↔ k ∈ s.keys ∧ k.1 ≠ p := by
    rw [hkeys, List.mem_filter]
    simp
  have hrecord (q : Port) (d : Nat) (hq : q ≠ p) : t.hasRecord q d = s.hasRecord q d := by
    rw [Bool.eq_iff_iff, hasRecord_iff, hasRecord_iff, hown, if_neg hq, hmem]
    simp [hq]
  refine ⟨?_, fun q => ?_⟩
  · rw [recordsStand_iff] at hstand ⊢
    obtain ⟨hown', hpool, hnodup, hwait⟩ := hstand
    refine ⟨fun q => ?_, fun k hk => ?_, by rw [hkeys]; exact hnodup.filter _, fun w hw => ?_⟩
    · rw [hown, hattached, hown' q]
    · obtain ⟨hk, hp⟩ := (hmem k).mp hk
      rw [hattached, if_neg hp]
      exact hpool k hk
    · rw [hsupply] at hw
      obtain ⟨hw, hp⟩ := List.mem_filter.mp hw
      rw [hrecord _ _ (by simpa using hp)]
      exact hwait w hw
  · rw [hsupply]
    by_cases hq : q = p
    · subst hq
      simp [State.holds, grantOf_of_detached hown hkeys]
    · show (s.supply.switchClosed.set p false).get q = true ↔ _
      rw [Four.get_set_other _ hq, hswitches q]
      exact (holds_congr fun d => by rw [hgrants q d hq]).symm

/-- The detach of a port before the wait list is served. -/
def detachedAll (p : Port) (s : State) : State := detachedRest p (detachedRecords p (detachedContract p s))

theorem detachedAll_spec (p : Port) (s : State) : SwitchStep s (detachedAll p s)
    ∧ (∀ q d, q ≠ p → (detachedAll p s).grantOf q d = s.grantOf q d) ∧ (∀ d, (detachedAll p s).grantOf p d = none)
    ∧ (detachedAll p s).supply = { s.supply with waitList := s.supply.waitList.filter fun w => !(w.port == p)
                                                 switchClosed := s.supply.switchClosed.set p false } := by
  obtain ⟨u, hu⟩ : ∃ u, u = detachedContract p s := ⟨_, rfl⟩
  obtain ⟨v, hv⟩ : ∃ v, v = detachedRest p (detachedRecords p u) := ⟨_, rfl⟩
  obtain ⟨htable, hsupply⟩ : Unsupplied s u := hu ▸ detachedContract_unsupplied p s
  obtain ⟨hstill, hown, hkeys, hgrants, hsupply'⟩ := detachedRecords_spec p u
  have hrest := detachedRest_changes p (detachedRecords p u)
  rw [← hv] at hrest
  have hlast : Unsupplied (detachedRecords p u) v := .of_changes hrest (by
    intro x hx
    rcases List.mem_cons.mp hx with rfl | hx
    · simp [unsuppliedParts, besideParts, mem_everyNotice]
    · exact (show meterParts ⊆ unsuppliedParts by decide) hx)
  have hcontract : v.contract = u.contract :=
    (Four.ext_get fun q => hrest (.contract q) (by simp [meterParts])).trans hstill.contract
  have htransition : v.sequencer.transition = u.sequencer.transition :=
    (hrest .service (by simp [meterParts])).2.2.trans hstill.transition
  have hattached (q : Port) : v.attached q = if q = p then false else s.attached q := by
    rw [hv, (detachedRest_keeps p _).attached (by simp), hstill.attached, hu, detachedContract_attached]
  have heq : detachedAll p s = v := by rw [hv, hu, detachedAll]
  have hsupplyV : v.supply = { s.supply with waitList := s.supply.waitList.filter fun w => !(w.port == p)
                                             switchClosed := s.supply.switchClosed.set p false } := by
    rw [hlast.2, hsupply', hsupply]
  have hownV (q : Port) : (v.table.own.get q).isSome = if q = p then false else (s.table.own.get q).isSome := by
    rw [hlast.1, hown, htable]
  have hkeysV : v.keys = s.keys.filter fun k => !(k.1 == p) := by
    rw [(records_of_table hlast.1).2, hkeys, (records_of_table htable).2]
  have hgrantsV (q : Port) (d : Nat) (hq : q ≠ p) : v.grantOf q d = s.grantOf q d := by
    rw [grantOf_of_table hlast.1, hgrants q d hq, grantOf_of_table htable]
  rw [heq]
  refine ⟨⟨fun hs => sound_of_detached hs hattached hownV hkeysV hgrantsV hsupplyV, fun _ ha => ?_⟩, hgrantsV,
    grantOf_of_detached hownV hkeysV, hsupplyV⟩
  refine ha.of_opened (fun q hq => ?_) ?_ fun q hq => .inl ?_
  · rw [hsupplyV]
    by_cases h : q = p
    · simp [h]
    · simpa [h] using hq
  · have hserviced := hu ▸ detachedContract_serviced p s
    exact hserviced.trans (.of_same htransition fun q hq => by rwa [hcontract] at hq)
  · rw [hcontract, hu] at hq
    have hkept := (detachedContract_keeps p s).draws.2 (by simp) q hq
    simpa using hkept

theorem detachPort_step (p : Port) (s : State) : SwitchStep s (detachPort p s) := by
  rw [detachPort_eq]
  exact ((detachedAll_spec p s).1.trans (serve_supplied _).step).trans (postPartner_supplied _ _ _).step

end

end Sys2Proof.Machine
end

section
/-! PROOFS. The records, the grants and the switches through every step (R14 to R17, R119, R163). -/

namespace Sys2Proof.Machine

open Sys2Proof

section
variable {s t u : State} {p q : Port} {b : Nat} {f : RawFrame} {kind : BitVec 6} {c : Instr}

theorem running_step {f : State → State} (h : running f s = .next t) (hf : ∀ s, SwitchStep s (f s)) : SwitchStep s t := by
  cases h
  exact .ite (.refl s) (hf s)

/-! ### Frames -/

/-- A frame from a branch of a TALKING port finds its record, or one is allocated. -/
theorem recorded_step {go : State → State} (htalking : (s.monitor.get p).state = .talking) (hb : b ≤ 6)
    (hgo : ∀ u, (u.recordsStand → u.hasRecord p b = true) → Supplied u (go u)) :
    SwitchStep s (if b = 0 then go s else withRecord p b go s) := by
  have hattached := attached_of_talking htalking
  split
  · next h =>
    refine (hgo s fun hs => ?_).step
    rw [h, hasRecord_iff]
    exact .inl ⟨rfl, (hs.1 p).trans hattached⟩
  · next h => exact (withRecord_supplied (Nat.one_le_iff_ne_zero.mpr h) hb hattached hgo).step

theorem execDemand_step (h : execDemand p f s = .next t) : SwitchStep s t :=
  running_step h (heard_step fun _ _ _ => routed_step (fun _ htalking hbranch =>
    recorded_step htalking (branch_le_six hbranch) fun _ hrecord => supplyDemand_supplied hrecord _ _) _)

theorem execRetire_step (h : execRetire p f s = .next t) : SwitchStep s t :=
  running_step h (heard_step fun _ _ _ => routed_step (fun u _ _ =>
    .ite (supplyRetire_supplied p f.branch.toNat u).step (.refl u)) _)

theorem forwardFrame_supplied (p : Port) (kind : BitVec 6) (f : RawFrame) (s : State) : Supplied s (forwardFrame p kind f s) := by
  unfold forwardFrame
  have hup := placeUplink_changes (.relayUp p f.branch kind f.payload) s
  have hbeside := Aside.of_changes hup (by decide)
  refine .ite (.of_same ⟨Four.ext_get fun q => hup (.contract q) (by simp), (hup .service (by simp)).2.2, fun q => ?_⟩
    hbeside.unsupplied.1 hbeside.unsupplied.2) (place_supplied p _ s)
  exact congrArg (fun m : Monitor => m.state.attached) (hup (.monitor q) (by simp))

theorem captureFrame_supplied (p : Port) (kind : BitVec 6) (f : RawFrame) (s : State) : Supplied s (captureFrame p kind f s) := by
  unfold captureFrame
  split
  · exact place_supplied p _ s
  · exact .of_same ⟨rfl, rfl, fun _ => rfl⟩ rfl rfl

theorem execOtherKindFrame_step (h : execOtherKindFrame p kind f s = .next t) : SwitchStep s t := by
  refine running_step h fun s => .ite (.refl s) (heard_step (fun u _ _ => routed_step (fun u htalking hbranch => ?_) u) s)
  have hb := branch_le_six hbranch
  dsimp only
  split
  · exact .refl u
  · exact recorded_step htalking hb fun v _ => forwardFrame_supplied p kind f v
  · exact recorded_step htalking hb fun v _ => captureFrame_supplied p kind f v

theorem takeAnnounce_step (f : RawFrame) (hsending : (s.framer.get p).sending = none) (hattached : s.attached p = true) :
    SwitchStep s (takeAnnounce p f s) := by
  unfold takeAnnounce
  exact .ite (protocolError_step p s) (.ite (reannounce_step _ hattached) (enterTalking_step _ hsending hattached))

theorem execAnnounce_step (h : execAnnounce p f s = .next t) : SwitchStep s t := by
  refine running_step h (heard_step fun u hsending hattached => ?_)
  have hannounce := takeAnnounce_step f hsending hattached
  split
  · exact .ite (protocolError_step p u) (.ite (protocolError_step p u) (.ite (place_supplied p _ u).step
      (.ite (protocolError_step p u)
        (show SwitchStep u (if f.branch = 0 then takeAnnounce p f u else protocolError p u) from
          .ite hannounce (protocolError_step p u)))))
  · exact .ite hannounce (protocolError_step p u)

/-! ### Commands of the link, and the silence timer -/

theorem takeCommand_step {wanted : LinkFrame → Bool} {carry : LinkFrame → State → State × ReplyBody}
    (hc : ∀ f s, SwitchStep s (carry f s).1) (s : State) : SwitchStep s (takeCommand wanted carry s) :=
  takeCommand_relates (fun h => .of_changes h (by decide) (by decide)) .trans hc s

theorem checkLength_step {n : Nat} {carry : LinkFrame → State → State × ReplyBody}
    (hc : ∀ f s, SwitchStep s (carry f s).1) (f : LinkFrame) (s : State) : SwitchStep s (checkLength n carry f s).1 := by
  unfold checkLength
  split
  · exact hc f s
  · exact .refl s

theorem SwitchStep.foldl {α : Type} {f : State → α → State} (hf : ∀ s a, SwitchStep s (f s a)) (l : List α) (s : State) :
    SwitchStep s (l.foldl f s) := by
  induction l generalizing s with
  | nil => exact .refl s
  | cons a l ih => exact (hf s a).trans (ih _)

theorem raiseDemand_step (d : DemandClass) (p : Port) (s : State) : SwitchStep s (raiseDemand d p s) :=
  .of_changes (raiseDemand_changes d p s) (by simp [besideParts]) (by simp)

theorem reviewAttached_step (s : State) : SwitchStep s (reviewAttached s) := by
  unfold reviewAttached
  exact .foldl (fun s p => .ite (raiseDemand_step _ p s) (.refl s)) _ s

theorem recompute_step (s : State) : SwitchStep s (recompute s) :=
  .of_changes (recompute_changes s) (by decide) (by decide)

theorem modPolicy_step (g : PolicyStore → PolicyStore) (s : State) : SwitchStep s (s.modPolicy g) :=
  .of_changes (modPolicy_changes s g) (by decide) (by decide)

theorem modSupervisor_step (g : Supervisor → Supervisor) (s : State) : SwitchStep s (s.modSupervisor g) :=
  .of_changes (modSupervisor_changes s g) (by decide) (by decide)

theorem applySuccess_step (s : State) : SwitchStep s (applySuccess s) := by
  unfold applySuccess
  exact ((((modPolicy_step _ s).trans (reviewAttached_step _)).trans (rebalance_supplied _ _).step).trans
    (serve_supplied _).step).trans (recompute_step _)

theorem execApplyPolicy_step (h : execApplyPolicy s = .next t) : SwitchStep s t := by
  refine running_step h (takeCommand_step (checkLength_step fun f s => ?_))
  unfold writePending applyPending
  split
  · dsimp only
    split
    · exact .refl s
    · exact applySuccess_step s
  · exact .refl s

theorem takePlatform_step (v : PlatformValues) (s : State) : SwitchStep s (takePlatform v s) := by
  have hset := (modSupervisor_step (fun u => u.taken v) s).trans (setBudget_supplied v.budget _).step
  unfold takePlatform
  exact .ite (hset.trans (reviewAttached_step _)) hset

theorem execSetPlatform_step (h : execSetPlatform s = .next t) : SwitchStep s t := by
  refine running_step h (takeCommand_step (checkLength_step fun f s => ?_))
  split
  · exact takePlatform_step _ s
  · exact .refl s

theorem autonomousEntry_step (s : State) : SwitchStep s (autonomousEntry s) := by
  unfold autonomousEntry
  exact ((((((modSupervisor_step _ s).trans (modPolicy_step _ _)).trans (rebalance_supplied _ _).step).trans
    (takeBudget_supplied _ _).step).trans (serve_supplied _).step).trans (recompute_step _)).trans (reviewAttached_step _)

theorem silenceExpiry_step (s : State) : SwitchStep s (silenceExpiry s) := by
  unfold silenceExpiry
  split
  · exact (SwitchStep.of_changes (post_changes _ _ _ _) (by decide) (by decide)).trans (modSupervisor_step _ _)
  · exact autonomousEntry_step s

/-! ### The service of a demand (R115 to R119) -/

theorem ceilingFor_still (pl : Plan) (s : State) : Still s (ceilingFor pl s) ∧ Unsupplied s (ceilingFor pl s) := by
  unfold ceilingFor
  split
  · exact ⟨.refl s, .refl s⟩
  all_goals exact ⟨⟨rfl, rfl, fun _ => rfl⟩, ⟨rfl, rfl⟩⟩

theorem beginTransition_step (pl : Plan) (s : State) : SwitchStep s (beginTransition pl s) := by
  obtain ⟨w, hw⟩ : ∃ w, w = ceilingFor pl (setTransition (some (s.transitionToward pl)) s) := ⟨_, rfl⟩
  obtain ⟨v, hv⟩ : ∃ v, v = cutJoining (s.joiningPorts pl) w := ⟨_, rfl⟩
  have heq : beginTransition pl s = runClaims pl v := by rw [beginTransition_eq, hv, hw]
  obtain ⟨hstill, hunsupplied⟩ := ceilingFor_still pl (setTransition (some (s.transitionToward pl)) s)
  rw [← hw] at hstill hunsupplied
  have hcontract : w.contract = s.contract := hstill.contract
  have htransition : w.sequencer.transition = some (s.transitionToward pl) := hstill.transition
  have hsound (hs : s.sound) : w.sound := hs.of_unsupplied (hunsupplied : Unsupplied s w) hstill.attached
  have hsupply : w.supply = s.supply := hunsupplied.2
  obtain ⟨hcut, hopen⟩ := cutJoining_spec (s.joiningPorts pl) w
  rw [← hv] at hcut hopen
  have hclaims : Unsupplied v (runClaims pl v) := runClaims_unsupplied pl v
  have hattached (q : Port) : (runClaims pl v).attached q = v.attached q :=
    (runClaims_keeps (free := [.closing]) (by simp) pl v).attached (by simp) q
  rw [heq]
  refine ⟨fun hs => (hcut.sound (hsound hs)).of_unsupplied hclaims hattached, fun hs ⟨hdraws, _⟩ => runClaims_apart ⟨fun q hq => ?_, fun tr htr => ?_⟩ pl⟩
  · rw [hcut.contract, hcontract] at hq
    rw [← Bool.not_eq_true]
    intro hclosed
    rcases hcut.opens (hsound hs) q hclosed with hwas | ⟨hno, -⟩
    · rw [hsupply, hdraws q hq] at hwas
      cases hwas
    · rw [hcontract, hq] at hno
      cases hno
  · rw [hcut.transition, htransition] at htr
    obtain rfl := Option.some.inj htr
    refine ⟨fun q hq => ?_, fun q hq => absurd hq (by simp [State.transitionToward])⟩
    have hjoins : q ∈ s.joiningPorts pl := by simpa [State.transitionToward] using hq
    exact hopen (hsound hs) q hjoins (by simp [State.isJoining, htransition, State.transitionToward, hjoins])

theorem serveDemand_step (d : DemandClass) (p : Port) (s : State) : SwitchStep s (serveDemand d p s) := by
  have hrecorded : SwitchStep s (s.planRecorded d p) :=
    Aside.step_of_contract (⟨⟨rfl, rfl⟩, .of_same rfl fun _ h => h⟩ : Aside s (s.planRecorded d p)) (fun _ => rfl) rfl
  rw [serveDemand_eq]
  refine hrecorded.trans (.ite ?_ (beginTransition_step _ _))
  exact Aside.step_of_contract (aside_of_ended ⟨rfl, rfl⟩ rfl) (fun _ => rfl) rfl

theorem execTakeDemand_step (h : execTakeDemand s = .next t) : SwitchStep s t := by
  refine running_step h fun s => ?_
  split
  · exact serveDemand_step _ _ s
  · exact .refl s

theorem execClaimSettled_step (h : execClaimSettled p s = .next t) : SwitchStep s t := by
  refine running_step h fun s => .ite ?_ (.refl s)
  have hkeeps : Keeps [.closing] s (continueClaims (settleContract p s)) :=
    (settleContract_keeps p s).trans (continueClaims_keeps (by simp) _)
  exact ⟨fun hs => hs.of_unsupplied ((settleContract_unsupplied p s).trans (continueClaims_unsupplied _))
      (hkeeps.attached (by simp)), fun _ ha => continueClaims_apart (settleContract_apart ha p)⟩

theorem execBreakIntervalExpiry_step (h : execBreakIntervalExpiry s = .next t) : SwitchStep s t := by
  refine running_step h fun s => ?_
  split
  · next tr htr =>
    refine .ite ?_ (.refl s)
    exact Aside.step (aside_of_ended (closeAndEnd_unsupplied tr s) rfl)
      ((closeAndEnd_keeps (free := [.closing]) (by simp) tr s).attached (by simp)) (closeAndEnd_drawsFrom htr)
  · exact .refl s

/-! ### Every command -/

theorem rise_attached (m : Monitor) (populated : Bool) : (m.rise populated).state.attached = m.state.attached := by
  unfold Monitor.rise
  split_ifs
  · rfl
  · rfl
  · cases h : m.state <;> simp [Attach.attached]

/-- A command other than a reset, a port's entry into PROBING and its detach leaves the attached ports. -/
theorem exec_attached (h : exec c s = .next t) (hc : reaching c = false) (q : Port) : t.attached q = s.attached q := by
  have hmove {g : State → State} (h : running g s = .next t)
      (hg : ((g s).monitor.get q).state.attached = (s.monitor.get q).state.attached) : t.attached q = s.attached q := by
    cases h
    show ((if _ then s else g s).monitor.get q).state.attached = _
    split
    · rfl
    · exact hg
  by_cases hrise : ∃ p, c = .presenceRise p
  · obtain ⟨p, rfl⟩ := hrise
    refine hmove (id h : execPresenceRise p s = .next t) ?_
    by_cases hq : q = p
    · subst hq
      simpa using rise_attached _ _
    · simp [hq]
  · by_cases hbar : c = .barPort
    · subst hbar
      refine running_preserves (P := fun u => u.attached q = s.attached q) (id h : execBarPort s = .next t)
        (takeCommand_preserves (fun h hs => (congrArg (fun m : Monitor => m.state.attached) (h (.monitor q) (by simp))).trans hs)
          (checkLength_preserves fun f u hu => ?_) s) rfl
      unfold checkPort
      split
      · dsimp only
        split
        · exact hu
        · exact (congrArg Attach.attached (bar_state _ _ q u)).trans hu
      · exact hu
    · by_cases hrelay : c = .relayDown
      · subst hrelay
        refine running_preserves (P := fun u => u.attached q = s.attached q) (id h : execRelayDown s = .next t)
          (takeCommand_preserves (fun h hs => (congrArg (fun m : Monitor => m.state.attached) (h (.monitor q) (by simp))).trans hs)
            (fun f u hu => ?_) s) rfl
        unfold checkPort
        split
        · exact hu
        · split
          · exact (congrArg Attach.attached (carryRelay_state _ _ q u)).trans hu
          · exact hu
      · by_cases hbegun : ∃ p kind f, receivedFrame c = some (p, kind, f) ∧ f.begins = true
        · obtain ⟨p, kind, f, hr, hf⟩ := hbegun
          exact hmove ((exec_of_begun hr hf s).symm.trans h) rfl
        · have hkeeping : keeping c := ⟨fun he => by simp [he, reaching] at hc, fun a b d he => by simp [he, reaching] at hc,
            fun p hp => hrise ⟨p, hp⟩, hbar, hrelay, fun p kind f hr => Bool.eq_false_iff.mpr fun hf => hbegun ⟨p, kind, f, hr, hf⟩⟩
          refine (exec_keeps h hkeeping).attached (fun hmem => ?_) q
          cases c <;> simp [freedomOf, reaching] at hmem hc

theorem exec_drawsFrom (h : exec c s = .next t) (hc : reaching c = false) : DrawsFrom s t := fun p hp => by
  left
  by_contra hopen
  rcases onlyASwitchingClosesADrawSwitch c s t p h (Bool.eq_false_iff.mpr hopen) hp with rfl | rfl | ⟨q, rfl⟩ <;> cases hc

/-- Every command but a reset keeps the records, the grants and the switches standing, and the switches apart. -/
theorem exec_step (h : exec c s = .next t) (hc : c ≠ .powerOnReset) (hend : ∀ a b d, c ≠ .resetEnd a b d) : SwitchStep s t := by
  by_cases hreach : reaching c = false
  · exact (exec_aside h hreach).step (exec_attached h hreach) (exec_drawsFrom h hreach)
  · cases c with
    | powerOnReset => exact absurd rfl hc
    | resetEnd a b d => exact absurd rfl (hend a b d)
    | debounceRiseExpiry p =>
      refine running_step (id h : execDebounceRiseExpiry p s = .next t) fun s => ?_
      split
      · next hx =>
        refine enterProbing_step ?_
        simp [State.attached, ((riseExpired_iff _).mp hx).1, Attach.attached]
      · exact .refl s
    | detach p => exact running_step (id h : execDetach p s = .next t) fun s => .ite (detachPort_step p s) (.refl s)
    | announce p f => exact execAnnounce_step h
    | demand p f => exact execDemand_step h
    | retire p f => exact execRetire_step h
    | otherKindFrame p kind f => exact execOtherKindFrame_step h
    | takeDemand => exact execTakeDemand_step h
    | claimSettled p => exact execClaimSettled_step h
    | breakIntervalExpiry => exact execBreakIntervalExpiry_step h
    | applyPolicy => exact execApplyPolicy_step h
    | setPlatform => exact execSetPlatform_step h
    | silenceTimerExpiry =>
      exact running_step (id h : execSilenceTimerExpiry s = .next t) fun s => .ite (silenceExpiry_step s) (.refl s)
    | _ => exact absurd rfl hreach

end

end Sys2Proof.Machine
end

section
/-! PROOFS. The switches apart, from reset through every step (R119, R163). -/

namespace Sys2Proof.Machine

open Sys2Proof

section
variable {s t u : State} {p q : Port}

/-! ### The end of the reset -/

/-- What the end of a reset that was held leaves of what the records and the switches stand in. -/
structure ResetEnded (s t : State) : Prop where
  table : t.table = s.table
  waitList : t.supply.waitList = s.supply.waitList
  switches : t.supply.switchClosed = s.supply.switchClosed
  contract : t.contract = s.contract
  transition : t.sequencer.transition = s.sequencer.transition
  unattached : ∀ q, t.attached q = s.attached q

theorem resetEnd_reset {straps : BitVec 8} {presence : BitVec 4} {uhold : Bool} (hheld : s.heldInReset)
    (hreset : s.inReset = true) : ResetEnded s (resetEnd straps presence uhold s) := by
  have h := resetEnd_changes straps presence uhold s
  obtain ⟨-, -, hmonitor, -⟩ := hheld hreset
  refine ⟨?_, h .waitList (by simp [meterParts]), Four.ext_get fun q => h (.supplySwitch q) (by simp [meterParts]),
    Four.ext_get fun q => h (.contract q) (by simp [meterParts]), (h .service (by simp [meterParts])).2.2, fun q => ?_⟩
  · have hown : (resetEnd straps presence uhold s).table.own = s.table.own :=
      Four.ext_get fun q => h (.own q) (by simp [meterParts])
    have hpool : (resetEnd straps presence uhold s).table.pool = s.table.pool := h .pool (by simp [meterParts])
    calc (resetEnd straps presence uhold s).table
        = ⟨(resetEnd straps presence uhold s).table.own, (resetEnd straps presence uhold s).table.pool⟩ := rfl
      _ = s.table := by rw [hown, hpool]
  · unfold State.attached
    rw [resetEnd_monitor, hmonitor, Four.get_const]
    split <;> rfl

/-! ### Reset and its end, a command, and a tick -/

theorem tick_attached (s : State) (q : Port) : (tick s).attached q = s.attached q := by
  simp [State.attached, tick, Monitor.tick]

theorem tick_contract (s : State) (q : Port) :
    ((tick s).contract.get q).drawClosed = (s.contract.get q).drawClosed
      ∧ ((tick s).contract.get q).state = (s.contract.get q).state := by
  simp [tick, Contract.tick]

theorem tick_sound (hs : s.sound) : (tick s).sound :=
  hs.of_unsupplied ⟨rfl, rfl⟩ (tick_attached s)

theorem ResetEnded.sound (h : ResetEnded s t) (hs : s.sound) : t.sound := by
  refine ⟨recordsStand_of_same hs.1 h.unattached (records_of_table h.table) fun w hw => hs.1.waits (h.waitList ▸ hw),
    fun p => ?_⟩
  rw [h.switches, hs.2 p]
  exact (holds_congr fun d => by rw [grantOf_of_table h.table]).symm

theorem ResetEnded.apart (h : ResetEnded s t) (hs : s.apart) : t.apart := by
  unfold State.apart
  rw [h.contract, h.switches, h.transition]
  exact hs

/-- A command that has effect, one while the part runs or the end of a held reset, keeps the records, the grants and the
switches standing, and the switches apart. -/
theorem exec_effect {c : Instr} (h : exec c s = .next t) (hc : c ≠ .powerOnReset)
    (hactive : s.inReset = false ∨ ∃ a b d, c = .resetEnd a b d ∧ s.inReset = true) (hheld : s.heldInReset) :
    SwitchStep s t := by
  rcases hactive with hrun | ⟨a, b, d, rfl, hreset⟩
  · by_cases hend : ∃ a b d, c = .resetEnd a b d
    · obtain ⟨a, b, d, rfl⟩ := hend
      obtain rfl : (if s.inReset then resetEnd a b d s else s) = t := Host.Outcome.next.inj h
      rw [hrun]
      exact .refl s
    · exact exec_step h hc fun a b d he => hend ⟨a, b, d, he⟩
  · obtain rfl : (if s.inReset then resetEnd a b d s else s) = t := Host.Outcome.next.inj h
    rw [if_pos hreset]
    have hended := resetEnd_reset (straps := a) (presence := b) (uhold := d) hheld hreset
    exact ⟨hended.sound, fun _ => hended.apart⟩

theorem tick_apart (hs : s.apart) : (tick s).apart := by
  obtain ⟨hdraws, htransition⟩ := hs
  refine ⟨fun p hp => hdraws p ((tick_contract s p).1 ▸ hp), fun tr htr => ?_⟩
  obtain ⟨old, hold, rfl⟩ := Option.map_eq_some_iff.mp (htr : s.sequencer.transition.map _ = some tr)
  obtain ⟨hopen, hstepped⟩ := htransition old hold
  exact ⟨hopen, fun q hq => (tick_contract s q).2 ▸ hstepped q hq⟩

/-- Settles O56: by `exec_effect`, every command keeps the records, the grants and the switches standing; with them it
keeps the switches apart, since a supply switch closes only where `State.supplyFree` and a draw switch only for a port
that a transition has cut from supply. -/
theorem stepsKeepTheSwitchesApart : Obligations.StepsKeepTheSwitchesApart := fun _ _ h =>
  ⟨step_keeps (before := State.suppliesGranted) h (fun _ _ _ hs => hs) id reset_suppliesGranted
      (fun _ _ _ hc hactive hexec hs => by
        rw [suppliesGranted_iff] at hs ⊢
        exact ⟨heldInReset_of_runs (exec_runs hexec hc hactive), (exec_effect hexec hc hactive hs.1).sound hs.2⟩)
      (fun hrun hs => (suppliesGranted_iff _).mpr
        ⟨heldInReset_of_runs hrun, tick_sound ((suppliesGranted_iff _).mp hs).2⟩),
    step_keeps (before := fun s => s.suppliesGranted ∧ s.switchesApart) (after := State.switchesApart) h
      (fun _ _ _ hs => hs) And.right ⟨reset_suppliesGranted, reset_switchesApart⟩
      (fun _ _ _ hc hactive hexec hs => ⟨heldInReset_of_runs (exec_runs hexec hc hactive),
        (exec_effect hexec hc hactive hs.2.1).apart ((suppliesGranted_iff _).mp hs.1).2 hs.2.2⟩)
      fun hrun hs => ⟨heldInReset_of_runs hrun, tick_apart hs.2.2⟩⟩

end

end Sys2Proof.Machine
end

section
/-! PROOFS. Grants that only end or shrink, and the bounds of R154 and R157 that they keep. -/

namespace Sys2Proof.Machine

open Sys2Proof

section
variable {s t u : State} {p q : Port} {b d n : Nat}

/-! ### The bounds one by one -/

/-- R154: the reserved power is within the budget. -/
def State.withinBudget (s : State) : Prop := currentOf s.grants * 5 ≤ s.supply.budget

/-- R154: each port's granted currents are within a limit. -/
def State.withinLimit (s : State) (limit : Nat) : Prop := ∀ p, currentOf (s.portGrants p) ≤ limit

/-- R157: no grant is below 500 mA, and the order numbers are distinct and from 1 to a bound. -/
def State.ordered (s : State) (n : Nat) : Prop :=
  (∀ g ∈ s.grants, 500 ≤ g.grant.current ∧ 1 ≤ g.grant.order ∧ g.grant.order ≤ n) ∧ (s.grants.map fun g => g.grant.order).Nodup

theorem budgetKept_iff (s : State) : s.budgetKept ↔ s.withinBudget ∧ s.withinLimit s.policy.active.params[13]
    ∧ s.supply.orderCounter ≤ 65535 ∧ s.ordered s.supply.orderCounter := Iff.rfl

/-! ### Grants that end or shrink -/

/-- One grant is what is left of another. -/
structure Lessened (g h : GrantView) : Prop where
  port : g.port = h.port
  order : g.grant.order = h.grant.order
  current : g.grant.current ≤ h.grant.current
  least : 500 ≤ h.grant.current → 500 ≤ g.grant.current

/-- No grant is made, grows or is numbered again. -/
def Lessens (s t : State) : Prop := ∀ p b g, t.grantOf p b = some g →
  ∃ h, s.grantOf p b = some h ∧ Lessened ⟨p, b, g⟩ ⟨p, b, h⟩

theorem Lessened.refl (g : GrantView) : Lessened g g := ⟨rfl, rfl, Nat.le_refl _, id⟩

theorem Lessened.trans {g h k : GrantView} (hg : Lessened g h) (hh : Lessened h k) : Lessened g k :=
  ⟨hg.port.trans hh.port, hg.order.trans hh.order, hg.current.trans hh.current, hg.least ∘ hh.least⟩

theorem Lessens.of_some (h : ∀ p b g, t.grantOf p b = some g → s.grantOf p b = some g) : Lessens s t :=
  fun p b g hg => ⟨g, h p b g hg, .refl _⟩

theorem Lessens.of_same (h : ∀ p b, t.grantOf p b = s.grantOf p b) : Lessens s t :=
  .of_some fun p b _ hg => (h p b).symm.trans hg

theorem Lessens.of_table (h : t.table = s.table) : Lessens s t := .of_same (grantOf_of_table h)

theorem Lessens.refl (s : State) : Lessens s s := .of_same fun _ _ => rfl

theorem Lessens.trans (h : Lessens s t) (g : Lessens t u) : Lessens s u := fun p b x hx => by
  obtain ⟨y, hy, hxy⟩ := g p b x hx
  obtain ⟨z, hz, hyz⟩ := h p b y hy
  exact ⟨z, hz, hxy.trans hyz⟩

theorem Lessens.foldl {α : Type} {f : State → α → State} (hf : ∀ s a, Lessens s (f s a)) (l : List α) (s : State) :
    Lessens s (l.foldl f s) := by
  induction l generalizing s with
  | nil => exact .refl s
  | cons a l ih => exact (hf s a).trans (ih _)

/-- Each grant left, matched with the grant it is left of. -/
theorem Lessens.matched (h : Lessens s t) (hs : s.keyed) (ht : t.keyed) :
    ∃ l, l.Subperm s.grants ∧ List.Forall₂ Lessened t.grants l := by
  have hmatch (l : List GrantView) (hl : ∀ g ∈ l, t.grantOf g.port g.branch = some g.grant) :
      ∃ l', (∀ g ∈ l', g ∈ s.grants) ∧ l'.map GrantView.key = l.map GrantView.key ∧ List.Forall₂ Lessened l l' := by
    induction l with
    | nil => exact ⟨[], nofun, rfl, .nil⟩
    | cons g l ih =>
      obtain ⟨l', hsub, hkeys, hall⟩ := ih fun g hg => hl g (List.mem_cons_of_mem _ hg)
      obtain ⟨x, hx, hless⟩ := h g.port g.branch g.grant (hl g List.mem_cons_self)
      refine ⟨⟨g.port, g.branch, x⟩ :: l', fun k hk => ?_, by rw [List.map_cons, List.map_cons, hkeys]; rfl, .cons hless hall⟩
      rcases List.mem_cons.mp hk with rfl | hk
      · exact (mem_grants_iff hs _).mpr hx
      · exact hsub k hk
  obtain ⟨l, hsub, hkeys, hall⟩ := hmatch t.grants fun g hg => (mem_grants_iff ht g).mp hg
  exact ⟨l, List.Nodup.subperm (.of_map GrantView.key (hkeys ▸ grants_keys_nodup ht)) hsub, hall⟩

theorem currentOf_subperm {l l' : List GrantView} (h : l.Subperm l') : currentOf l ≤ currentOf l' := by
  obtain ⟨k, hperm, hsub⟩ := h
  rw [← currentOf_perm hperm]
  exact (hsub.map _).sum_le_sum fun _ _ => Nat.zero_le _

theorem currentOf_lessened {l l' : List GrantView} (h : List.Forall₂ Lessened l l') : currentOf l ≤ currentOf l' := by
  induction h with
  | nil => exact Nat.le_refl _
  | cons hless _ ih =>
    rw [currentOf_cons, currentOf_cons]
    exact Nat.add_le_add hless.current ih

theorem filter_lessened {l l' : List GrantView} (h : List.Forall₂ Lessened l l') (p : Port) :
    List.Forall₂ Lessened (l.filter fun g => g.port == p) (l'.filter fun g => g.port == p) := by
  induction h with
  | nil => exact .nil
  | @cons g g' l l' hless _ ih =>
    rw [List.filter_cons, List.filter_cons, hless.port]
    split
    · exact .cons hless ih
    · exact ih

theorem orders_lessened {l l' : List GrantView} (h : List.Forall₂ Lessened l l') :
    (l.map fun g => g.grant.order) = l'.map fun g => g.grant.order := by
  induction h with
  | nil => rfl
  | cons hless _ ih => rw [List.map_cons, List.map_cons, ih, hless.order]

section
variable (h : Lessens s t) (hs : s.keyed) (ht : t.keyed)

include h hs ht

theorem Lessens.current : currentOf t.grants ≤ currentOf s.grants := by
  obtain ⟨l, hsub, hall⟩ := h.matched hs ht
  exact (currentOf_lessened hall).trans (currentOf_subperm hsub)

theorem Lessens.portCurrent (p : Port) : currentOf (t.portGrants p) ≤ currentOf (s.portGrants p) := by
  obtain ⟨l, hsub, hall⟩ := h.matched hs ht
  exact (currentOf_lessened (filter_lessened hall p)).trans (currentOf_subperm (hsub.filter _))

theorem Lessens.withinLimit {limit : Nat} (hlimit : s.withinLimit limit) : t.withinLimit limit :=
  fun p => (h.portCurrent hs ht p).trans (hlimit p)

theorem Lessens.ordered (hn : s.ordered n) : t.ordered n := by
  obtain ⟨l, hsub, hall⟩ := h.matched hs ht
  obtain ⟨hbounds, hnodup⟩ := hn
  refine ⟨fun g hg => ?_, ?_⟩
  · obtain ⟨x, hx, hless⟩ := h _ _ _ ((mem_grants_iff ht g).mp hg)
    obtain ⟨hleast, hone, hmost⟩ := hbounds _ ((mem_grants_iff hs ⟨g.port, g.branch, x⟩).mpr hx)
    exact ⟨hless.least hleast, hless.order ▸ hone, hless.order ▸ hmost⟩
  · rw [orders_lessened hall]
    obtain ⟨k, hperm, hsub⟩ := hsub
    exact (hperm.map _).nodup_iff.mp ((hsub.map _).nodup hnodup)

end

/-! ### Operations that make no grant -/

theorem setGrant_none_lessens (p : Port) (b : Nat) (s : State) : Lessens s (setGrant p b none s) :=
  .of_some fun q d g hg => by
    by_cases hkey : q ≠ p ∨ d ≠ b
    · rwa [setGrant_grantOf_other _ _ hkey] at hg
    · simp only [not_or, ne_eq, not_not] at hkey
      obtain ⟨rfl, rfl⟩ := hkey
      rw [setGrant_none_grantOf] at hg
      cases hg

theorem giveUp_lessens (p : Port) (b : Nat) (s : State) : Lessens s (giveUp p b s) :=
  .of_some fun q d g hg => by
    by_cases hkey : q ≠ p ∨ d ≠ b
    · rwa [giveUp_grantOf_other _ hkey] at hg
    · simp only [not_or, ne_eq, not_not] at hkey
      obtain ⟨rfl, rfl⟩ := hkey
      rw [giveUp_grantOf] at hg
      cases hg

theorem freePooled_lessens (hb : b ≠ 0) (p : Port) (s : State) : Lessens s (freePooled p b s) :=
  .of_some fun q d g hg => by
    by_cases hkey : q ≠ p ∨ d ≠ b
    · rwa [freePooled_grantOf_other _ hkey] at hg
    · simp only [not_or, ne_eq, not_not] at hkey
      obtain ⟨rfl, rfl⟩ := hkey
      rw [freePooled_grantOf hb] at hg
      cases hg

theorem retired_lessens (p : Port) (b : Nat) (s : State) : Lessens s (retired p b s) := by
  unfold retired
  split
  · exact giveUp_lessens p b s
  · next hb => exact (giveUp_lessens p b s).trans (freePooled_lessens hb p _)

theorem recorded_lessens (p : Port) (b : Nat) (s : State) : Lessens s (recorded p b s) := .of_same (recorded_grantOf p b s)

theorem giveWay_lessens (hs : s.keyed) {g : GrantView} (hg : g ∈ s.grants) (step : Nat) : Lessens s (giveWay g step s) :=
  fun q d x hx => by
    by_cases hkey : q ≠ g.port ∨ d ≠ g.branch
    · rw [giveWay_grantOf_other g step s hkey] at hx
      exact ⟨x, hx, .refl _⟩
    · simp only [not_or, ne_eq, not_not] at hkey
      obtain ⟨rfl, rfl⟩ := hkey
      have hgrant := (mem_grants_iff hs g).mp hg
      rcases Nat.lt_or_ge 500 g.grant.current with hmore | hleast
      · rw [giveWay_grantOf_more step hgrant hmore] at hx
        obtain rfl := Option.some.inj hx
        refine ⟨g.grant, hgrant, rfl, rfl, ?_, fun _ => Nat.le_max_left _ _⟩
        exact Nat.max_le.mpr ⟨hmore.le, Nat.sub_le _ _⟩
      · rw [giveWay_grantOf_least step hleast] at hx
        cases hx

theorem decreaseSteps_lessens (hs : s.keyed) (n : Nat) : Lessens s (decreaseSteps n s) := by
  induction n generalizing s with
  | zero => exact .refl s
  | succ n ih =>
    unfold decreaseSteps
    split
    · split
      · next g hg => exact (giveWay_lessens hs (newestGrant_mem hg) _).trans (ih (hs.of_same (giveWay_records _ _ s)))
      · exact .refl s
    · exact .refl s

theorem rebalancePort_lessens (hs : s.keyed) (p : Port) (limit n : Nat) : Lessens s (rebalancePort p limit n s) := by
  induction n generalizing s with
  | zero => exact .refl s
  | succ n ih =>
    unfold rebalancePort
    split
    · split
      · next g hg =>
        exact (giveWay_lessens hs (List.mem_of_mem_filter (newestGrant_mem hg)) _).trans
          (ih (hs.of_same (giveWay_records _ _ s)))
      · exact .refl s
    · exact .refl s

theorem lowerRequests_lessens (limit : Nat) (s : State) : Lessens s (lowerRequests limit s) := fun p b g hg => by
  rw [lowerRequests_grantOf] at hg
  obtain ⟨x, hx, rfl⟩ := Option.map_eq_some_iff.mp hg
  exact ⟨x, hx, rfl, rfl, Nat.le_refl _, id⟩

/-- Grants of one port that end leave the others. -/
theorem Lessens.of_ended (hother : ∀ q d, q ≠ p → t.grantOf q d = s.grantOf q d) (hnone : ∀ d, t.grantOf p d = none) :
    Lessens s t := .of_some fun q d g hg => by
  by_cases hq : q = p
  · subst hq
    rw [hnone] at hg
    cases hg
  · rwa [hother q d hq] at hg

end

end Sys2Proof.Machine
end

section
/-! PROOFS. Grants that are made and renewed within the bounds (R154, R156, R157, R159). -/

namespace Sys2Proof.Machine

open Sys2Proof

section
variable {s t u : State} {p q : Port} {b d n : Nat}

/-! ### The next order number (R157) -/

/-- At most seven branches of four ports hold grants. -/
theorem grants_length_le (hs : s.recordsStand) : s.grants.length ≤ 28 := by
  have hsub : s.grants.map GrantView.key ⊆ (List.finRange 4).product (List.range 7) := fun k hk => by
    obtain ⟨g, hg, rfl⟩ := List.mem_map.mp hk
    have hrecord := hasRecord_of_grantOf ((mem_grants_iff hs.keyed g).mp hg)
    refine List.pair_mem_product.mpr ⟨List.mem_finRange _, List.mem_range.mpr ?_⟩
    rcases hasRecord_iff.mp hrecord with ⟨h, -⟩ | ⟨-, h⟩
    · omega
    · have := (((recordsStand_iff s).mp hs).2.1 _ h).2.1
      omega
  have hlength := ((grants_keys_nodup hs.keyed).subperm hsub).length_le
  rw [List.length_map] at hlength
  exact hlength.trans (by decide)

/-- Renumbering keeps the order of the grants, and so their numbers distinct. -/
theorem renumbered_lt {g h : GrantView} (hg : g ∈ s.grants) (hlt : g.grant.order < h.grant.order) :
    (s.renumbered g.grant).order < (s.renumbered h.grant).order := by
  show 1 + _ < 1 + _
  have hsub : (s.grants.filter fun k => decide (k.grant.order < g.grant.order)).Sublist
      (s.grants.filter fun k => decide (k.grant.order < h.grant.order)) :=
    List.monotone_filter_right _ fun k hk => by
      simp only [decide_eq_true_eq] at hk ⊢
      omega
  refine Nat.add_lt_add_left (lt_of_le_of_ne hsub.length_le fun heq => ?_) 1
  have hmem : g ∈ s.grants.filter fun k => decide (k.grant.order < h.grant.order) := by simp [hg, hlt]
  rw [← hsub.eq_of_length heq] at hmem
  simp at hmem

theorem renumbered_le {g : GrantView} (hg : g ∈ s.grants) : (s.renumbered g.grant).order ≤ s.grants.length := by
  show 1 + _ ≤ _
  have hlt : (s.grants.filter fun k => decide (k.grant.order < g.grant.order)).length < s.grants.length :=
    List.length_filter_lt_length_iff_exists.mpr ⟨g, hg, by simp⟩
  omega

/-- The grants as they stand when an order number has been taken. -/
theorem takeOrder_grants (s : State) : (takeOrder s).grants = if s.supply.orderCounter < 65535 then s.grants
    else s.grants.map fun g => { g with grant := s.renumbered g.grant } := by
  split
  · next h => rw [takeOrder_of_room h]; rfl
  · next h =>
    rw [takeOrder_of_full h, renumber_eq]
    exact mapGrants_grants s.renumbered s

/-- Every grant has a number below the next one. -/
theorem takeOrder_ordered (h : s.ordered s.supply.orderCounter) : (takeOrder s).ordered (s.nextOrder - 1) := by
  obtain ⟨hbounds, hnodup⟩ := h
  unfold State.ordered State.nextOrder
  rw [takeOrder_grants]
  split
  · exact ⟨hbounds, hnodup⟩
  · refine ⟨fun g hg => ?_, ?_⟩
    · obtain ⟨x, hx, rfl⟩ := List.mem_map.mp hg
      exact ⟨(hbounds x hx).1, Nat.le_add_right 1 _, renumbered_le hx⟩
    · rw [List.map_map]
      refine List.Nodup.map_on (fun x hx y hy hxy => ?_) (.of_map _ hnodup)
      rcases Nat.lt_trichotomy x.grant.order y.grant.order with hlt | heq | hlt
      · exact absurd hxy (renumbered_lt hx hlt).ne
      · exact List.inj_on_of_nodup_map hnodup hx hy heq
      · exact absurd hxy (renumbered_lt hy hlt).ne'

theorem takeOrder_current (s : State) : currentOf (takeOrder s).grants = currentOf s.grants := by
  rw [takeOrder_grants]
  split
  · rfl
  · unfold currentOf
    rw [List.map_map]
    rfl

theorem takeOrder_portCurrent (p : Port) (s : State) :
    currentOf ((takeOrder s).portGrants p) = currentOf (s.portGrants p) := by
  unfold State.portGrants
  rw [takeOrder_grants]
  split
  · rfl
  · rw [List.filter_map]
    unfold currentOf
    rw [List.map_map]
    rfl

theorem nextOrder_le (hs : s.recordsStand) : s.nextOrder ≤ 65535 := by
  have := grants_length_le hs
  unfold State.nextOrder
  split <;> omega

theorem nextOrder_pos (s : State) : 1 ≤ s.nextOrder := by
  unfold State.nextOrder
  split <;> omega

/-! ### One grant more -/

/-- What a pair's grant makes of the bounds when it is written over the grants of a state. -/
theorem grant_written {v : State} {g : Grant} (hv : v.keyed) (ht : t.keyed) (hgrant : t.grantOf p b = some g)
    (hother : ∀ q d, q ≠ p ∨ d ≠ b → t.grantOf q d = v.grantOf q d) :
    t.grants.Perm (⟨p, b, g⟩ :: (setGrant p b none v).grants) :=
  grants_perm (hv.of_same (setGrant_records _ _ _ v)) ht (setGrant_none_grantOf p b v) hgrant fun q d hkey => by
    rw [hother q d hkey, setGrant_grantOf_other _ _ hkey]

theorem portCurrent_of_perm {g : GrantView} {l : List GrantView} (h : t.grants.Perm (g :: l)) (p : Port) :
    currentOf (t.portGrants p) = (if g.port = p then g.grant.current else 0) + currentOf (l.filter fun x => x.port == p) := by
  have hperm := h.filter fun x => x.port == p
  rw [State.portGrants, currentOf_perm hperm, List.filter_cons]
  by_cases hp : g.port = p
  · rw [if_pos (by simpa using hp), if_pos hp, currentOf_cons]
  · rw [if_neg (by simpa using hp), if_neg hp, Nat.zero_add]

theorem ordered_of_perm {g : GrantView} (h : t.grants.Perm (g :: u.grants)) (hu : u.ordered n) (hleast : 500 ≤ g.grant.current)
    (hone : 1 ≤ g.grant.order) (hmost : g.grant.order ≤ n) (hnew : ∀ x ∈ u.grants, x.grant.order ≠ g.grant.order) : t.ordered n := by
  obtain ⟨hbounds, hnodup⟩ := hu
  refine ⟨fun x hx => ?_, (h.map _).nodup_iff.mpr (List.nodup_cons.mpr ⟨fun hmem => ?_, hnodup⟩)⟩
  · rcases List.mem_cons.mp (h.mem_iff.mp hx) with rfl | hx
    · exact ⟨hleast, hone, hmost⟩
    · exact hbounds x hx
  · obtain ⟨x, hx, heq⟩ := List.mem_map.mp hmem
    exact hnew x hx heq

theorem State.ordered.mono {m : Nat} (h : s.ordered n) (hm : n ≤ m) : s.ordered m :=
  ⟨fun g hg => ⟨(h.1 g hg).1, (h.1 g hg).2.1, ((h.1 g hg).2.2).trans hm⟩, h.2⟩

/-- A grant within the rooms, under the next order number. -/
theorem makeGrant_kept (hs : s.sound) (hrecord : s.hasRecord p b = true) (hkept : s.budgetKept) {current : Nat}
    (hleast : 500 ≤ current) (hbudget : current ≤ s.budgetRoom) (hport : current ≤ s.portRoom p) (requested : Nat) :
    (makeGrant p b current requested s).budgetKept := by
  obtain ⟨hwithin, hlimit, hcounter, hordered⟩ := (budgetKept_iff s).mp hkept
  have hkeyed := hs.1.keyed
  have hv : (takeOrder s).keyed := hkeyed.of_same (takeOrder_records s)
  have hr : (setGrant p b none (takeOrder s)).keyed := hv.of_same (setGrant_records _ _ _ _)
  have hless := setGrant_none_lessens p b (takeOrder s)
  have hrest := hless.ordered hv hr (takeOrder_ordered hordered)
  have hsum := hless.current hv hr
  have hsums := hless.portCurrent hv hr
  rw [takeOrder_current] at hsum
  simp only [takeOrder_portCurrent] at hsums
  have hperm := grant_written (b := b) hv (hkeyed.of_same (makeGrant_records p b current requested s))
    (makeGrant_grantOf current requested hrecord) fun q d hkey => by
      rw [makeGrant_grantOf_other _ _ _ hkey, takeOrder_grantOf]
  have hsupply := makeGrant_supply p b current requested s
  rw [budgetRoom_eq] at hbudget
  rw [portRoom_eq] at hport
  unfold State.withinBudget at hwithin
  have hpolicy : (makeGrant p b current requested s).policy = s.policy :=
    makeGrant_changes p b current requested s .policy (by simp [supplyParts])
  refine (budgetKept_iff _).mpr ⟨?_, fun q => ?_, ?_, ?_⟩
  · show currentOf _ * 5 ≤ _
    rw [currentOf_perm hperm, currentOf_cons, hsupply]
    show (current + _) * 5 ≤ s.supply.budget
    omega
  · rw [portCurrent_of_perm hperm, hpolicy]
    have hq := hlimit q
    have hsumq := hsums q
    unfold State.portGrants at hsumq
    split
    · next h =>
      obtain rfl : p = q := h
      show current + _ ≤ _
      unfold State.portGrants at hport hq
      omega
    · unfold State.portGrants at hq
      omega
  · rw [hsupply]
    exact nextOrder_le hs.1
  · rw [hsupply]
    have hpos := nextOrder_pos s
    refine ordered_of_perm hperm (hrest.mono (Nat.sub_le _ _)) hleast hpos (Nat.le_refl _) fun x hx => ?_
    have := (hrest.1 x hx).2.2
    show x.grant.order ≠ s.nextOrder
    omega

/-! ### A grant renewed (R159) -/

theorem reordered_current (s : State) (grows : Bool) : currentOf (s.reordered grows).grants = currentOf s.grants
    ∧ ∀ q, currentOf ((s.reordered grows).portGrants q) = currentOf (s.portGrants q) := by
  cases grows with
  | false => exact ⟨rfl, fun _ => rfl⟩
  | true => exact ⟨takeOrder_current s, fun q => takeOrder_portCurrent q s⟩

/-- A renewed grant stays within the rooms that its old one leaves. -/
theorem renewedCurrent_bounds {old : Grant} {requested : Nat} (hkept : s.withinBudget)
    (hlimit : currentOf (s.portGrants p) ≤ s.policy.active.params[13]) (hold : 500 ≤ old.current) (hrequested : 500 ≤ requested)
    (hsum : old.current ≤ currentOf s.grants) (hport : old.current ≤ currentOf (s.portGrants p)) :
    500 ≤ s.renewedCurrent p old requested
      ∧ (s.renewedCurrent p old requested + (currentOf s.grants - old.current)) * 5 ≤ s.supply.budget
      ∧ s.renewedCurrent p old requested + (currentOf (s.portGrants p) - old.current) ≤ s.policy.active.params[13] := by
  unfold State.withinBudget at hkept
  by_cases h : s.supply.waitList = []
  · rw [renewedCurrent_of_empty h]
    omega
  · rw [renewedCurrent_of_waiting h]
    omega

theorem demandRenew_records {old : Grant} (p : Port) (b requested : Nat) (s : State) :
    sameRecords s (demandRenew p b old requested s) :=
  .trans ((reordered_records s _).trans (grantTold_records p b _ _)) (records_of_table (demandRenew_table p b old requested s))

theorem demandRenew_kept (hs : s.sound) (hkept : s.budgetKept) {old : Grant} (hold : s.grantOf p b = some old)
    {requested : Nat} (hrequested : 500 ≤ requested) : (demandRenew p b old requested s).budgetKept := by
  obtain ⟨hwithin, hlimit, hcounter, hordered⟩ := (budgetKept_iff s).mp hkept
  have hkeyed := hs.1.keyed
  have hmem : (⟨p, b, old⟩ : GrantView) ∈ s.grants := (mem_grants_iff hkeyed _).mpr hold
  obtain ⟨hleast, hone, hmost⟩ : 500 ≤ old.current ∧ 1 ≤ old.order ∧ old.order ≤ s.supply.orderCounter := hordered.1 _ hmem
  obtain ⟨grows, hgrows⟩ : ∃ grows, grows = decide (old.current < s.renewedCurrent p old requested) := ⟨_, rfl⟩
  have hv : (s.reordered grows).keyed := hkeyed.of_same (reordered_records s grows)
  have hr := hv.of_same (setGrant_records p b none (s.reordered grows))
  obtain ⟨hcurrent, hports⟩ := reordered_current s grows
  have hless := setGrant_none_lessens p b (s.reordered grows)
  obtain ⟨x, hx, hxcurrent, hxorder⟩ : ∃ x, (s.reordered grows).grantOf p b = some x ∧ x.current = old.current
      ∧ (grows = false → x.order = old.order) := by
    rw [reordered_grantOf, hold]
    split
    · next h => exact ⟨_, rfl, rfl, fun hno => absurd (hno.symm.trans h.1) nofun⟩
    · exact ⟨_, rfl, rfl, fun _ => rfl⟩
  have hpermOld := grants_perm_cons (g := ⟨p, b, x⟩) hv hx
  have hsum := (currentOf_perm hpermOld).trans (currentOf_cons _ _)
  have hsums (q : Port) := portCurrent_of_perm hpermOld q
  simp only [hcurrent, hports, hxcurrent] at hsum hsums
  have hperm := grant_written (b := b) hv (hkeyed.of_same (demandRenew_records p b requested s))
    (demandRenew_grantOf hold requested) fun q d hkey => by
      rw [demandRenew_grantOf_other _ _ _ hkey, reordered_grantOf, hgrows]
      simp only [decide_eq_true_eq]
  have hportOld := hsums p
  rw [if_pos rfl] at hportOld
  obtain ⟨hrenewed, hroom, hportRoom⟩ := renewedCurrent_bounds hwithin (hlimit p) hleast hrequested
    (by omega) (by omega)
  have hsupply := demandRenew_supply p b old requested s
  have hpolicy : (demandRenew p b old requested s).policy = s.policy :=
    demandRenew_changes p b old requested s .policy (by simp [supplyParts])
  have hordering : (setGrant p b none (s.reordered grows)).ordered (if grows then s.nextOrder - 1 else s.supply.orderCounter)
      ∧ (grows = false → ∀ y ∈ (setGrant p b none (s.reordered grows)).grants, y.grant.order ≠ old.order) := by
    cases grows with
    | true => exact ⟨hless.ordered hv hr (takeOrder_ordered hordered), nofun⟩
    | false =>
      refine ⟨hless.ordered hv hr hordered, fun _ y hy heq => ?_⟩
      have hnodup := (hpermOld.map fun g => g.grant.order).nodup_iff.mp hordered.2
      refine (List.nodup_cons.mp hnodup).1 (List.mem_map.mpr ⟨y, hy, ?_⟩)
      exact heq.trans (hxorder rfl).symm
  obtain ⟨hrest, hothers⟩ := hordering
  refine (budgetKept_iff _).mpr ⟨?_, fun q => ?_, ?_, ?_⟩
  · show currentOf _ * 5 ≤ _
    rw [currentOf_perm hperm, currentOf_cons, hsupply]
    show (s.renewedCurrent p old requested + _) * 5 ≤ s.supply.budget
    omega
  · rw [portCurrent_of_perm hperm, hpolicy]
    have hq := hlimit q
    have hsumq := hsums q
    split
    · next h =>
      obtain rfl : p = q := h
      show s.renewedCurrent p old requested + _ ≤ _
      rw [if_pos rfl] at hsumq
      omega
    · next h =>
      rw [if_neg h] at hsumq
      omega
  · rw [hsupply]
    show (if old.current < s.renewedCurrent p old requested then s.nextOrder else s.supply.orderCounter) ≤ 65535
    split
    · exact nextOrder_le hs.1
    · exact hcounter
  · rw [hsupply]
    show State.ordered _ (if old.current < s.renewedCurrent p old requested then s.nextOrder else s.supply.orderCounter)
    by_cases hmore : old.current < s.renewedCurrent p old requested
    · have hgrows : grows = true := by rw [hgrows]; exact decide_eq_true hmore
      rw [hgrows, if_pos rfl] at hrest
      have hpos := nextOrder_pos s
      have horder : (s.renewedGrant p old requested).order = s.nextOrder := if_pos hmore
      rw [if_pos hmore]
      refine ordered_of_perm hperm (by rw [hgrows]; exact hrest.mono (Nat.sub_le _ _)) hrenewed (by rw [horder]; exact hpos)
        horder.le fun y hy => ?_
      rw [hgrows] at hy
      have := (hrest.1 y hy).2.2
      rw [horder]
      omega
    · have hgrows : grows = false := by rw [hgrows]; exact decide_eq_false hmore
      rw [hgrows, if_neg nofun] at hrest
      have horder : (s.renewedGrant p old requested).order = old.order := if_neg hmore
      rw [if_neg hmore]
      refine ordered_of_perm hperm (by rw [hgrows]; exact hrest) hrenewed (by rw [horder]; exact hone)
        (by rw [horder]; exact hmost) fun y hy => ?_
      rw [horder]
      exact hothers hgrows y hy

end

end Sys2Proof.Machine
end

section
/-! PROOFS. The bounds of R154 and R157 through the operations of the Supply Unit. -/

namespace Sys2Proof.Machine

open Sys2Proof

section
variable {s t u : State} {p q : Port} {b d n : Nat}

/-! ### Operations that keep the bounds -/

/-- What the bounds are measured by stands. -/
structure SameBounds (s t : State) : Prop where
  active : t.policy.active = s.policy.active
  budget : t.supply.budget = s.supply.budget
  counter : t.supply.orderCounter = s.supply.orderCounter

/-- The records stand on, and with a source port limit of 500 mA or more the grants stay within their bounds. -/
structure Budgeted (s t : State) : Prop where
  sound : s.sound → t.sound
  active : t.policy.active = s.policy.active
  kept : s.sound → 500 ≤ s.policy.active.params[13] → s.budgetKept → t.budgetKept

theorem SameBounds.trans (h : SameBounds s t) (g : SameBounds t u) : SameBounds s u :=
  ⟨g.active.trans h.active, g.budget.trans h.budget, g.counter.trans h.counter⟩

theorem SameBounds.of_supply (h : t.supply = s.supply) (hactive : t.policy.active = s.policy.active) : SameBounds s t :=
  ⟨hactive, by rw [h], by rw [h]⟩

theorem SameBounds.of_changes {l : List Part} (h : ChangesOnly l s t) (hpolicy : .policy ∉ l) (hbudget : .budget ∉ l)
    (hcounter : .orderCounter ∉ l) : SameBounds s t :=
  ⟨congrArg PolicyStore.active (h .policy hpolicy), h .budget hbudget, h .orderCounter hcounter⟩

theorem Budgeted.refl (s : State) : Budgeted s s := ⟨id, rfl, fun _ _ => id⟩

theorem Budgeted.trans (h : Budgeted s t) (g : Budgeted t u) : Budgeted s u :=
  ⟨g.sound ∘ h.sound, g.active.trans h.active, fun hs hlimit hkept =>
    g.kept (h.sound hs) (by rwa [h.active]) (h.kept hs hlimit hkept)⟩

theorem Budgeted.ite {c : Prop} [Decidable c] (h : Budgeted s t) (g : Budgeted s u) : Budgeted s (if c then t else u) := by
  split <;> assumption

theorem Budgeted.foldl {α : Type} {f : State → α → State} (hf : ∀ s a, Budgeted s (f s a)) (l : List α) (s : State) :
    Budgeted s (l.foldl f s) := by
  induction l generalizing s with
  | nil => exact .refl s
  | cons a l ih => exact (hf s a).trans (ih _)

/-- Grants that only end or shrink stay within their bounds. -/
theorem Budgeted.of_lessens (h : Lessens s t) (hsame : SameBounds s t) (hsound : s.sound → t.sound) : Budgeted s t where
  sound := hsound
  active := hsame.active
  kept := fun hs _ hkept => by
    have hkeyed := hs.1.keyed
    have hkeyed' := (hsound hs).1.keyed
    obtain ⟨hwithin, hlimit, hcounter, hordered⟩ := (budgetKept_iff s).mp hkept
    refine (budgetKept_iff t).mpr ⟨?_, ?_, ?_, ?_⟩
    · have := h.current hkeyed hkeyed'
      unfold State.withinBudget at hwithin ⊢
      rw [hsame.budget]
      omega
    · rw [hsame.active]
      exact h.withinLimit hkeyed hkeyed' hlimit
    · rwa [hsame.counter]
    · rw [hsame.counter]
      exact h.ordered hkeyed hkeyed' hordered

theorem Budgeted.of_same (h : Unsupplied s t) (hattached : ∀ q, t.attached q = s.attached q)
    (hactive : t.policy.active = s.policy.active) : Budgeted s t :=
  .of_lessens (.of_table h.1) (.of_supply h.2 hactive) fun hs => hs.of_unsupplied h hattached

theorem place_budgeted (p : Port) (f : EngineFrame) (s : State) : Budgeted s (place p f s) :=
  .of_same ⟨place_table p f s, place_supply p f s⟩ (place_still p f s).attached
    (congrArg PolicyStore.active (place_changes p f s .policy (by simp [placeParts])))

theorem post_budgeted (f : NoticeFlag) (code : Byte) (sn : BitVec 32) (s : State) : Budgeted s (post f code sn s) :=
  .of_same ⟨rfl, rfl⟩ (fun _ => rfl) rfl

theorem setWaitList_budgeted {l : List WaitEntry} (h : s.recordsStand → ∀ w ∈ l, s.hasRecord w.port w.branch = true) :
    Budgeted s (setWaitList l s) := .of_lessens (.of_table rfl) ⟨rfl, rfl, rfl⟩ (setWaitList_supplied h).sound

/-! ### The service of the wait list (R161) -/

theorem grantHead_budgeted {w : WaitEntry} {rest : List WaitEntry} (h : s.supply.waitList = w :: rest)
    (hcurrent : 500 ≤ s.headCurrent w) (requested : Nat) :
    Budgeted s (makeGrant w.port w.branch (s.headCurrent w) requested (setWaitList rest s)) := by
  have hrest : Budgeted s (setWaitList rest s) :=
    setWaitList_budgeted fun hs v hv => hs.waits (by rw [h]; exact List.mem_cons_of_mem _ hv)
  have hrecord (hs : s.sound) : (setWaitList rest s).hasRecord w.port w.branch = true := by
    rw [(records_of_table (t := setWaitList rest s) (s := s) rfl).hasRecord]
    exact hs.1.waits (by simp [h])
  refine ⟨fun hs => makeGrant_sound (hrest.sound hs) (hrecord hs) _ _, ?_, fun hs hlimit hkept => ?_⟩
  · exact congrArg PolicyStore.active
      (makeGrant_changes w.port w.branch (s.headCurrent w) requested (setWaitList rest s) .policy (by simp [supplyParts]))
  · refine makeGrant_kept (hrest.sound hs) (hrecord hs) (hrest.kept hs hlimit hkept) hcurrent ?_ ?_ _
    · exact (Nat.min_le_right _ _).trans (Nat.min_le_left _ _)
    · exact (Nat.min_le_right _ _).trans (Nat.min_le_right _ _)

theorem serve_budgeted (s : State) : Budgeted s (serve s) := by
  refine serve_relates (rel := Budgeted) .refl .trans (fun {s w rest} h _ => ?_) (fun {s w rest} h _ hcurrent => ?_)
    (fun {s w rest} h => ?_) s
  · exact (setWaitList_budgeted fun hs v hv => hs.waits (by rw [h]; exact List.mem_cons_of_mem _ hv)).trans
      (place_budgeted _ _ _)
  · exact grantHead_budgeted h hcurrent _
  · refine setWaitList_budgeted fun hs v hv => ?_
    rcases List.mem_cons.mp hv with rfl | hv
    · exact hs.waits (w := w) (by simp [h])
    · exact hs.waits (by rw [h]; exact List.mem_cons_of_mem _ hv)

/-! ### A DEMAND (R155 to R160) -/

theorem takenRequest_least (hlimit : 500 ≤ s.policy.active.params[13]) (requested : Nat) : 500 ≤ s.takenRequest requested := by
  show 500 ≤ min (max requested 500) s.policy.active.params[13]
  omega

theorem demandRenew_budgeted {old : Grant} (hold : s.grantOf p b = some old) {requested : Nat}
    (hrequested : 500 ≤ s.policy.active.params[13] → 500 ≤ requested) : Budgeted s (demandRenew p b old requested s) where
  sound := (demandRenew_supplied hold requested).sound
  active := congrArg PolicyStore.active (demandRenew_changes p b old requested s .policy (by simp [supplyParts]))
  kept := fun hs hlimit hkept => demandRenew_kept hs hkept hold (hrequested hlimit)

theorem joinWaitList_budgeted (hrecord : s.recordsStand → s.hasRecord p b = true) (requested : Nat) :
    Budgeted s (joinWaitList p b requested s) := by
  rcases Nat.lt_or_ge s.supply.waitList.length 8 with h | h
  · rw [joinWaitList_of_room h]
    refine .trans (setWaitList_budgeted fun hs w hw => ?_) (place_budgeted _ _ _)
    rcases List.mem_append.mp hw with hw | hw
    · exact hs.waits hw
    · obtain rfl := List.mem_singleton.mp hw
      exact hrecord hs
  · rw [joinWaitList_of_full h]
    exact place_budgeted _ _ _

theorem demandNew_budgeted (hrecord : s.recordsStand → s.hasRecord p b = true) (requested : Nat) :
    Budgeted s (demandNew p b requested s) := by
  unfold demandNew
  dsimp only
  split
  · next h =>
    have hcurrent : 500 ≤ min requested (min s.budgetRoom (s.portRoom p)) := of_decide_eq_true (Bool.and_eq_true_iff.mp h).2
    exact ⟨fun hs => makeGrant_sound hs (hrecord hs.1) _ _,
      congrArg PolicyStore.active (makeGrant_changes p b _ requested s .policy (by simp [supplyParts])),
      fun hs _ hkept => makeGrant_kept hs (hrecord hs.1) hkept hcurrent ((Nat.min_le_right _ _).trans (Nat.min_le_left _ _))
        ((Nat.min_le_right _ _).trans (Nat.min_le_right _ _)) _⟩
  · exact joinWaitList_budgeted hrecord requested

theorem demandWaiting_budgeted (p : Port) (b requested : Nat) (s : State) : Budgeted s (demandWaiting p b requested s) := by
  refine .of_lessens (.of_table ?_) ?_ (demandWaiting_supplied p b requested s).sound <;> unfold demandWaiting
  · exact place_table _ _ _
  · generalize s.supply.waitList.map _ = l
    exact ⟨congrArg PolicyStore.active (place_changes p _ (setWaitList l s) .policy (by simp [placeParts])),
      (congrArg SupplyUnit.budget (answerHold_supply p b (setWaitList l s))).trans rfl,
      (congrArg SupplyUnit.orderCounter (answerHold_supply p b (setWaitList l s))).trans rfl⟩

theorem supplyDemand_budgeted (hrecord : s.recordsStand → s.hasRecord p b = true) (voltage current : Nat) :
    Budgeted s (supplyDemand p b voltage current s) := by
  unfold supplyDemand
  split
  · exact place_budgeted _ _ _
  · dsimp only
    split
    · next old hold =>
      exact (demandRenew_budgeted hold fun hlimit => takenRequest_least hlimit _).trans (serve_budgeted _)
    · exact .ite ((demandWaiting_budgeted p b _ s).trans (serve_budgeted _))
        ((demandNew_budgeted hrecord _).trans (serve_budgeted _))

/-! ### Grants and records that end (R15, R16, R162, R166) -/

theorem setGrant_bounds (p : Port) (b : Nat) (g : Option Grant) (s : State) : SameBounds s (setGrant p b g s) :=
  .of_supply (setGrant_supply p b g s) (by unfold setGrant; split <;> rfl)

theorem openIfUnused_bounds (p : Port) (s : State) : SameBounds s (openIfUnused p s) :=
  .of_changes (openIfUnused_parts p s) (by simp) (by simp) (by simp)

theorem giveUp_bounds (p : Port) (b : Nat) (s : State) : SameBounds s (giveUp p b s) := by
  have hwait : SameBounds s (removeWait p b s) := ⟨rfl, rfl, rfl⟩
  cases h : s.grantOf p b with
  | none => rw [giveUp_of_none h]; exact hwait
  | some g => rw [giveUp_of_grant h]; exact (hwait.trans (setGrant_bounds p b none _)).trans (openIfUnused_bounds p _)

theorem retired_budgeted (p : Port) (b : Nat) (s : State) : Budgeted s (retired p b s) := by
  refine .of_lessens (retired_lessens p b s) ?_ (retired_supplied p b s).sound
  unfold retired
  split
  · exact giveUp_bounds p b s
  · exact (giveUp_bounds p b s).trans ⟨rfl, rfl, rfl⟩

theorem supplyRetire_budgeted (p : Port) (b : Nat) (s : State) : Budgeted s (supplyRetire p b s) :=
  (retired_budgeted p b s).trans (serve_budgeted _)

theorem freeAbove_budgeted (p : Port) (count : Nat) (s : State) : Budgeted s (freeAbove p count s) := by
  have hfold (l : List Nat) (hl : ∀ b ∈ l, b ≠ 0) (s : State) :
      Budgeted s (l.foldl (fun t b => freePooled p b (giveUp p b t)) s) := by
    induction l generalizing s with
    | nil => exact .refl s
    | cons b l ih =>
      have hone : Budgeted s (freePooled p b (giveUp p b s)) := by
        have h := retired_budgeted p b s
        rwa [retired, if_neg (hl b (by simp))] at h
      exact hone.trans (ih (fun b hb => hl b (by simp [hb])) _)
  unfold freeAbove
  refine .ite (.refl s) (.trans (hfold _ (fun b hb => ?_) s) (serve_budgeted _))
  obtain ⟨r, hr, rfl⟩ := List.mem_map.mp hb
  have := (List.mem_filter.mp hr).2
  simp only [Bool.and_eq_true, decide_eq_true_eq] at this
  omega

theorem recorded_budgeted (hb : 1 ≤ b) (hb' : b ≤ 6) (hattached : s.attached p = true) : Budgeted s (recorded p b s) :=
  .of_lessens (recorded_lessens p b s) (.of_changes (recorded_changes p b s) (by simp) (by simp) (by simp))
    (recorded_supplied hb hb' hattached).sound

theorem place_settings (p : Port) (f : EngineFrame) (s : State) : SettingsKept [] s (place p f s) :=
  .of_changes (place_changes p f s) fun x hx => by
    have hx : x = .reset ∨ x = .clock ∨ x = .policy ∨ x = .supervisor ∨ x = .budget ∨ x = .frameClass := by
      simpa [settingParts] using hx
    rcases hx with rfl | rfl | rfl | rfl | rfl | rfl <;> simp [placeParts]

theorem setGrant_settings (p : Port) (b : Nat) (g : Option Grant) (s : State) : SettingsKept [] s (setGrant p b g s) :=
  .of_changes (setGrant_parts p b g s) (by simp [settingParts])

theorem cutOff_settings (p : Port) (s : State) : SettingsKept [] s (cutOff p s) := by
  obtain ⟨l, hl⟩ : ∃ l, l = arrange (takeFree s).1 ((takeFree s).2.portGrants p) := ⟨_, rfl⟩
  have hcut : SettingsKept [] s (cutAll p l (takeFree s).2) := by
    refine .trans (.of_changes (takeFree_changes s) (by decide)) ?_
    unfold cutAll
    refine SettingsKept.foldl (fun t g => ?_) l _
    exact (setGrant_settings p g.branch none t).trans (place_settings p _ _)
  obtain ⟨v, hv⟩ : ∃ v, v = setSupplySwitch p false (cutAll p l (takeFree s).2) := ⟨_, rfl⟩
  have hdrop : SettingsKept [] s (dropWaits p v) := by
    rw [hv]
    exact (hcut.trans (.of_changes (setSupplySwitch_parts p false _) (by simp [settingParts]))).trans
      (.of_changes (setWaitList_parts_waitList _ _) (by decide))
  have hdeny (m : List WaitEntry) : SettingsKept [] s (m.foldl (fun t w => answerDeny p w.branch .unavailable t) (dropWaits p v)) := by
    refine hdrop.trans (SettingsKept.foldl (fun t w => ?_) m _)
    exact place_settings p _ t
  have heq : cutOff p s = match l.getLast? with
      | some g => postSupply noticeCut p g.branch
        ((v.supply.waitList.filter fun w => w.port == p).foldl (fun t w => answerDeny p w.branch .unavailable t) (dropWaits p v))
      | none => (v.supply.waitList.filter fun w => w.port == p).foldl (fun t w => answerDeny p w.branch .unavailable t)
        (dropWaits p v) := by
    rw [hv, hl]
    rfl
  rw [heq]
  split
  · exact (hdeny _).trans (.of_changes (postSupply_changes _ _ _ _) (by decide))
  · exact hdeny _

theorem cutOff_budgeted (p : Port) (s : State) : Budgeted s (cutOff p s) := by
  obtain ⟨l, v, hl, hv, -, htable, hsupply⟩ := cutOff_core p s
  have hF (t : State) (g : GrantView) (_ : g ∈ l) :
      (place p (.cut g.branch) (setGrant p g.branch none t)).table = (setGrant p g.branch none t).table := place_table _ _ _
  obtain ⟨-, hother, hnone⟩ := ended_fold (p := p) l hF (takeFree s).2
  have hv' : v = l.foldl (fun t g => place p (.cut g.branch) (setGrant p g.branch none t)) (takeFree s).2 := hv
  rw [← hv'] at hother hnone
  refine .of_lessens (.of_some fun q d g hg => ?_) ⟨(cutOff_settings p s .image (by simp)).1,
    by rw [hsupply], by rw [hsupply]⟩ (cutOff_supplied p s).sound
  · rw [grantOf_of_table htable] at hg
    by_cases hq : q = p
    · subst hq
      rw [hnone] at hg
      split at hg
      · cases hg
      · exact hg
    · rwa [hother q d hq] at hg

theorem cutPort_budgeted (p : Port) (s : State) : Budgeted s (cutPort p s) := (cutOff_budgeted p s).trans (serve_budgeted _)

end

end Sys2Proof.Machine
end

section
/-! PROOFS. The bounds of R154 and R157 where the budget or the source port limit changes (R164, R165). -/

namespace Sys2Proof.Machine

open Sys2Proof

section
variable {s t u : State} {p q : Port} {b d n : Nat}

/-! ### A new budget (R164) -/

theorem giveWay_bounds (g : GrantView) (step : Nat) (s : State) : SameBounds s (giveWay g step s) :=
  .of_changes (giveWay_parts g step s) (by simp) (by simp) (by simp)

theorem decreaseSteps_bounds (n : Nat) (s : State) : SameBounds s (decreaseSteps n s) := by
  induction n generalizing s with
  | zero => exact ⟨rfl, rfl, rfl⟩
  | succ n ih =>
    unfold decreaseSteps
    split
    · split
      · exact (giveWay_bounds _ _ s).trans (ih _)
      · exact ⟨rfl, rfl, rfl⟩
    · exact ⟨rfl, rfl, rfl⟩

theorem takeBudget_kept (hs : s.sound) (hkept : s.budgetKept) (budget : Nat) : (takeBudget budget s).budgetKept := by
  obtain ⟨hwithin, hlimit, hcounter, hordered⟩ := (budgetKept_iff s).mp hkept
  rcases Nat.lt_or_ge budget s.supply.budget with hless | hroom
  · rw [takeBudget_of_less hless]
    obtain ⟨v, hv⟩ : ∃ v : State, v = { s with supply := { s.supply with budget := budget } } := ⟨_, rfl⟩
    have hkeyed : v.keyed := hv ▸ hs.1.keyed
    have hgrants : v.grants = s.grants := by rw [hv]; rfl
    have hactive : v.policy.active = s.policy.active := by rw [hv]
    have hcount : v.supply.orderCounter = s.supply.orderCounter := by rw [hv]
    rw [← hv]
    obtain ⟨-, hfits, hrecords⟩ := decreaseSteps_decreases (n := 2 * s.grants.length + 1) hkeyed (by rw [hgrants]; omega)
    have hlessens := decreaseSteps_lessens hkeyed (2 * s.grants.length + 1)
    have hbounds := decreaseSteps_bounds (2 * s.grants.length + 1) v
    have hkeyed' := hkeyed.of_same hrecords
    have hlimit' : v.withinLimit s.policy.active.params[13] := fun q => by
      unfold State.portGrants
      rw [hgrants]
      exact hlimit q
    have hordered' : v.ordered v.supply.orderCounter := by
      unfold State.ordered
      rw [hgrants, hcount]
      exact hordered
    refine (budgetKept_iff _).mpr ⟨hfits, ?_, ?_, ?_⟩
    · rw [hbounds.active, hactive]
      exact hlessens.withinLimit hkeyed hkeyed' hlimit'
    · rwa [hbounds.counter, hcount]
    · rw [hbounds.counter]
      exact hlessens.ordered hkeyed hkeyed' hordered'
  · rw [takeBudget_of_room hroom]
    exact ⟨hwithin.trans hroom, hlimit, hcounter, hordered⟩

theorem takeBudget_budgeted (budget : Nat) (s : State) : Budgeted s (takeBudget budget s) where
  sound := (takeBudget_supplied budget s).sound
  active := congrArg PolicyStore.active (takeBudget_changes budget s .policy (by simp [supplyParts]))
  kept := fun hs _ hkept => takeBudget_kept hs hkept budget

theorem setBudget_budgeted (budget : Nat) (s : State) : Budgeted s (setBudget budget s) :=
  (takeBudget_budgeted budget s).trans (serve_budgeted _)

/-! ### A new source port limit (R165) -/

theorem rebalancePort_bounds (p : Port) (limit n : Nat) (s : State) : SameBounds s (rebalancePort p limit n s) := by
  induction n generalizing s with
  | zero => exact ⟨rfl, rfl, rfl⟩
  | succ n ih =>
    unfold rebalancePort
    split
    · split
      · exact (giveWay_bounds _ _ s).trans (ih _)
      · exact ⟨rfl, rfl, rfl⟩
    · exact ⟨rfl, rfl, rfl⟩

/-- The rebalance of some ports one after another. -/
def rebalanceAll (limit : Nat) (l : List Port) (s : State) : State :=
  l.foldl (fun t p => rebalancePort p limit (2 * (t.portGrants p).length + 1) t) s

/-- Every port named fits the limit, since the rebalance of another makes none of its grants larger. -/
theorem rebalanceAll_spec (limit : Nat) (l : List Port) (hs : s.keyed) :
    (rebalanceAll limit l s).keyed ∧ Lessens s (rebalanceAll limit l s) ∧ SameBounds s (rebalanceAll limit l s)
      ∧ ∀ p ∈ l, currentOf ((rebalanceAll limit l s).portGrants p) ≤ limit := by
  induction l generalizing s with
  | nil => exact ⟨hs, .refl s, ⟨rfl, rfl, rfl⟩, nofun⟩
  | cons p l ih =>
    obtain ⟨-, hwithin, hrecords⟩ := rebalancePort_rebalances hs p limit (Nat.le_succ (2 * (s.portGrants p).length))
    have hless := rebalancePort_lessens hs p limit (2 * (s.portGrants p).length + 1)
    have hbounds := rebalancePort_bounds p limit (2 * (s.portGrants p).length + 1) s
    have hfirst := hs.of_same hrecords
    obtain ⟨hkeyed, hless', hbounds', hall⟩ := ih hfirst
    refine ⟨hkeyed, hless.trans hless', hbounds.trans hbounds', fun q hq => ?_⟩
    rcases List.mem_cons.mp hq with rfl | hq
    · exact (hless'.portCurrent hfirst hkeyed q).trans hwithin
    · exact hall q hq

theorem lowerRequests_bounds (limit : Nat) (s : State) : SameBounds s (lowerRequests limit s) := ⟨rfl, rfl, rfl⟩

/-- After a rebalance the grants fit, whatever the source port limit was before it. -/
theorem rebalance_kept {old : Nat} (hs : s.sound) (hwithin : s.withinBudget) (hlimit : s.withinLimit old)
    (hcounter : s.supply.orderCounter ≤ 65535) (hordered : s.ordered s.supply.orderCounter) :
    (rebalance old s).budgetKept := by
  have hkeyed := hs.1.keyed
  obtain ⟨limit, hdef⟩ : ∃ limit, limit = s.policy.active.params[13] := ⟨_, rfl⟩
  obtain ⟨v, hv, hkeyed', hless, hbounds, hfits⟩ : ∃ v, rebalance old s = lowerRequests limit v ∧ v.keyed ∧ Lessens s v
      ∧ SameBounds s v ∧ v.withinLimit limit := by
    rcases Nat.lt_or_ge s.policy.active.params[13] old with h | h
    · obtain ⟨hkeyed', hless, hbounds, hall⟩ := rebalanceAll_spec limit [0, 1, 2, 3] hkeyed
      refine ⟨rebalanceAll limit [0, 1, 2, 3] s, ?_, hkeyed', hless, hbounds, fun q => hall q (by revert q; decide)⟩
      rw [rebalance_of_less h, hdef]
      rfl
    · refine ⟨s, ?_, hkeyed, .refl s, ⟨rfl, rfl, rfl⟩, fun q => (hlimit q).trans (hdef ▸ h)⟩
      rw [rebalance_of_room h, hdef]
  have hkeyed'' : (lowerRequests limit v).keyed := hkeyed'.of_same (lowerRequests_records limit v)
  have hall := hless.trans (lowerRequests_lessens limit v)
  have hsame := hbounds.trans (lowerRequests_bounds limit v)
  rw [hv]
  refine (budgetKept_iff _).mpr ⟨?_, ?_, ?_, ?_⟩
  · have := hall.current hkeyed hkeyed''
    unfold State.withinBudget at hwithin ⊢
    rw [hsame.budget]
    omega
  · rw [hsame.active, ← hdef]
    exact (lowerRequests_lessens limit v).withinLimit hkeyed' hkeyed'' hfits
  · rwa [hsame.counter]
  · rw [hsame.counter]
    exact hall.ordered hkeyed hkeyed'' hordered

/-- A new image is taken, and the unit rebalances to its source port limit. -/
theorem rebalance_of_image (hkept : s.budgetKept) (hbeside : Unsupplied s t) (ht : t.sound) :
    (rebalance s.policy.active.params[13] t).budgetKept := by
  obtain ⟨hwithin, hlimit, hcounter, hordered⟩ := (budgetKept_iff s).mp hkept
  obtain ⟨htable, hsupply⟩ := hbeside
  have hgrants := grants_of_table htable
  refine rebalance_kept ht ?_ (fun q => ?_) ?_ ?_
  · unfold State.withinBudget
    rwa [hgrants, hsupply]
  · unfold State.portGrants
    rw [hgrants]
    exact hlimit q
  · rwa [hsupply]
  · unfold State.ordered
    rwa [hgrants, hsupply]

end

end Sys2Proof.Machine
end

section
/-! PROOFS. The bounds of R154 and R157 through every step. -/

namespace Sys2Proof.Machine

open Sys2Proof

section
variable {s t u : State} {p q : Port} {b d n : Nat} {f : RawFrame} {kind : BitVec 6} {c : Instr}

/-! ### A port's own record (R4, R6, R7, R17) -/

/-- A port's own record that is written with no grant, or with the grant it had. -/
theorem ownWritten_lessens {r : PartnerRecord} (htable : t.table = (s.setOwn p (some r)).table)
    (hgrant : ∀ g, r.grant = some g → s.grantOf p 0 = some g) : Lessens s t := by
  refine .of_some fun q d g hg => ?_
  rw [grantOf_of_table htable] at hg
  by_cases hkey : q ≠ p ∨ d ≠ 0
  · rwa [setOwn_grantOf_other _ _ hkey] at hg
  · simp only [not_or, ne_eq, not_not] at hkey
    obtain ⟨rfl, rfl⟩ := hkey
    exact hgrant g (by simpa [grantOf_zero, State.setOwn] using hg)

theorem ownRecord_some {g : Grant} (hg : (s.ownRecord p).grant = some g) : s.grantOf p 0 = some g := by
  unfold State.ownRecord at hg
  rw [grantOf_zero]
  cases h : s.table.own.get p with
  | none =>
    rw [h] at hg
    cases hg
  | some r =>
    rw [h] at hg
    exact hg

theorem enterProbing_budgeted (hs : s.attached p = false) : Budgeted s (enterProbing p s) := by
  obtain ⟨hrest, -⟩ := enterProbing_rest p s
  exact .of_lessens (ownWritten_lessens (r := freshRecord) hrest.table_eq nofun)
    (.of_supply hrest.2 (congrArg PolicyStore.active (enterProbing_changes p s .policy (by simp)))) (enterProbing_step hs).sound

theorem outside_active (h : ChangesOnly outsideParts s t) : t.policy.active = s.policy.active :=
  congrArg PolicyStore.active (h .policy (by decide))

theorem enterTalking_budgeted (a : AnnounceFields) (hsending : (s.framer.get p).sending = none) (hattached : s.attached p = true) :
    Budgeted s (enterTalking p a s) := by
  have hrest := enterTalking_rest p a s
  exact .of_lessens (ownWritten_lessens (r := a.record (s.ownRecord p)) hrest.table_eq
      fun g hg => ownRecord_some (record_grant a _ ▸ hg))
    (.of_supply hrest.2 (outside_active (enterTalking_changes p a s))) (enterTalking_step a hsending hattached).sound

theorem announcedAgain_budgeted (a : AnnounceFields) (hattached : s.attached p = true) :
    Budgeted s (announcedAgain p a s) := by
  obtain ⟨hrest, -, hchanges⟩ := announcedAgain_rest p a s
  exact .of_lessens (ownWritten_lessens (r := a.record (s.ownRecord p)) hrest.table_eq
      fun g hg => ownRecord_some (record_grant a _ ▸ hg))
    (.of_supply hrest.2 ((outside_active hchanges).trans rfl)) (announcedAgain_step a hattached).sound

theorem reannounce_budgeted (a : AnnounceFields) (hattached : s.attached p = true) : Budgeted s (reannounce p a s) :=
  reannounce_relates .trans (announcedAgain_budgeted a hattached) (fun n u => freeAbove_budgeted p n u)
    fun u => post_budgeted _ _ _ u

theorem detachPort_budgeted (p : Port) (s : State) : Budgeted s (detachPort p s) := by
  obtain ⟨hstep, hother, hnone, hsupply⟩ := detachedAll_spec p s
  have hactive : (detachPort p s).policy.active = s.policy.active :=
    congrArg PolicyStore.active (detachPort_changes p s .policy (by simp [sequencerParts, meterParts, supplyParts]))
  have hserved := serve_budgeted (detachedAll p s)
  have hall : (detachedAll p s).policy.active = s.policy.active := by
    rw [detachPort_eq] at hactive
    exact hserved.active.symm.trans hactive
  rw [detachPort_eq]
  exact ((Budgeted.of_lessens (.of_ended hother hnone) ⟨hall, by rw [hsupply], by rw [hsupply]⟩ hstep.sound).trans
    hserved).trans (post_budgeted _ _ _ _)

/-! ### Frames (R15, R16, R155 to R162) -/

theorem Budgeted.of_line (h : ChangesOnly (lineParts p) s t) (hattached : ∀ q, t.attached q = s.attached q) : Budgeted s t :=
  .of_same (line_aside h).unsupplied hattached (congrArg PolicyStore.active (h .policy (by simp [lineParts])))

theorem protocolError_budgeted (p : Port) (s : State) : Budgeted s (protocolError p s) :=
  .of_line (p := p) ((protocolError_changes p s).mono (by simp [lineParts])) fun _ => rfl

theorem withRecord_budgeted {go : State → State} (hb : 1 ≤ b) (hb' : b ≤ 6) (hattached : s.attached p = true)
    (hgo : ∀ u, (u.recordsStand → u.hasRecord p b = true) → Budgeted u (go u)) : Budgeted s (withRecord p b go s) := by
  by_cases hfinds : s.findsRecord p b
  · rw [withRecord_of_finds hfinds]
    exact (recorded_budgeted hb hb' hattached).trans (hgo _ fun _ => recorded_hasRecord_of_finds hfinds)
  · unfold State.findsRecord at hfinds
    simp only [not_or, not_and, Nat.not_lt, Bool.not_eq_true] at hfinds
    rw [withRecord_of_full hfinds.1 (hfinds.2 (by omega))]
    exact (place_budgeted p _ s).trans (post_budgeted _ _ _ _)

theorem onRecord_budgeted {go : State → State} (htalking : (s.monitor.get p).state = .talking) (hb : b ≤ 6)
    (hgo : ∀ u, (u.recordsStand → u.hasRecord p b = true) → Budgeted u (go u)) :
    Budgeted s (if b = 0 then go s else withRecord p b go s) := by
  have hattached := attached_of_talking htalking
  split
  · next h =>
    refine hgo s fun hs => ?_
    rw [h, hasRecord_iff]
    exact .inl ⟨rfl, (hs.1 p).trans hattached⟩
  · next h => exact withRecord_budgeted (Nat.one_le_iff_ne_zero.mpr h) hb hattached hgo

theorem heard_budgeted {take : State → State}
    (ht : ∀ u, (u.framer.get p).sending = none → u.attached p = true → Budgeted u (take u)) (s : State) :
    Budgeted s (receiveFrame p kind f take s) := heard_relates .of_line .trans ht s

theorem routed_budgeted {route : State → State}
    (hr : ∀ u, (u.monitor.get p).state = .talking → f.branch ≠ 7 → Budgeted u (route u)) (s : State) :
    Budgeted s (takeTalking p kind f route s) := routed_relates .of_line hr s

theorem running_budgeted {f : State → State} (h : running f s = .next t) (hf : ∀ s, Budgeted s (f s)) : Budgeted s t := by
  cases h
  exact .ite (.refl s) (hf s)

theorem forwardFrame_budgeted (p : Port) (kind : BitVec 6) (f : RawFrame) (s : State) : Budgeted s (forwardFrame p kind f s) := by
  unfold forwardFrame
  have hup := placeUplink_changes (.relayUp p f.branch kind f.payload) s
  exact .ite (.of_same (Aside.of_changes hup (by decide)).unsupplied
    (fun q => congrArg (fun m : Monitor => m.state.attached) (hup (.monitor q) (by simp)))
    (congrArg PolicyStore.active (hup .policy (by simp)))) (place_budgeted p _ s)

theorem captureFrame_budgeted (p : Port) (kind : BitVec 6) (f : RawFrame) (s : State) : Budgeted s (captureFrame p kind f s) := by
  unfold captureFrame
  split
  · exact place_budgeted p _ s
  · exact .of_same ⟨rfl, rfl⟩ (fun _ => rfl) rfl

theorem execDemand_budgeted (h : execDemand p f s = .next t) : Budgeted s t :=
  running_budgeted h (heard_budgeted fun _ _ _ => routed_budgeted (fun _ htalking hbranch =>
    onRecord_budgeted htalking (branch_le_six hbranch) fun _ hrecord => supplyDemand_budgeted hrecord _ _) _)

theorem execRetire_budgeted (h : execRetire p f s = .next t) : Budgeted s t :=
  running_budgeted h (heard_budgeted fun _ _ _ => routed_budgeted (fun u _ _ =>
    .ite (supplyRetire_budgeted p f.branch.toNat u) (.refl u)) _)

theorem execOtherKindFrame_budgeted (h : execOtherKindFrame p kind f s = .next t) : Budgeted s t := by
  refine running_budgeted h fun s => .ite (.refl s)
    (heard_budgeted (fun u _ _ => routed_budgeted (fun u htalking hbranch => ?_) u) s)
  have hb := branch_le_six hbranch
  dsimp only
  split
  · exact .refl u
  · exact onRecord_budgeted htalking hb fun v _ => forwardFrame_budgeted p kind f v
  · exact onRecord_budgeted htalking hb fun v _ => captureFrame_budgeted p kind f v

theorem takeAnnounce_budgeted (f : RawFrame) (hsending : (s.framer.get p).sending = none) (hattached : s.attached p = true) :
    Budgeted s (takeAnnounce p f s) := by
  unfold takeAnnounce
  exact .ite (protocolError_budgeted p s)
    (.ite (reannounce_budgeted _ hattached) (enterTalking_budgeted _ hsending hattached))

theorem execAnnounce_budgeted (h : execAnnounce p f s = .next t) : Budgeted s t := by
  refine running_budgeted h (heard_budgeted fun u hsending hattached => ?_)
  have hannounce := takeAnnounce_budgeted f hsending hattached
  have herror := protocolError_budgeted p u
  split
  · exact .ite herror (.ite herror (.ite (place_budgeted p _ u) (.ite herror
      (show Budgeted u (if f.branch = 0 then takeAnnounce p f u else protocolError p u) from .ite hannounce herror))))
  · exact .ite hannounce herror

/-! ### Transitions (R119) -/

theorem cutJoining_budgeted (l : List Port) (s : State) : Budgeted s (cutJoining l s) := by
  have hcuts (l : List Port) (u : State) : Budgeted u (l.foldl (fun u p => cutPort p u) u) :=
    .foldl (fun u p => cutPort_budgeted p u) l u
  have hfree : Budgeted s (takeFree s).2 := .of_same ⟨rfl, rfl⟩ (fun _ => rfl) rfl
  unfold cutJoining
  dsimp only
  split
  · exact hfree.trans (hcuts _ _)
  · exact hcuts _ s

theorem Keeps.budgeted {free : List Freedom} (h : Keeps free s t) (hf : .attaching ∉ free) (hu : Unsupplied s t)
    {l : List Part} (hl : ChangesOnly l s t) (hpolicy : .policy ∉ l) : Budgeted s t :=
  .of_same hu (h.attached hf) (congrArg PolicyStore.active (hl .policy hpolicy))

theorem beginTransition_budgeted (pl : Plan) (s : State) : Budgeted s (beginTransition pl s) := by
  have hceiling (v : State) : Budgeted v (ceilingFor pl v) := by
    obtain ⟨hstill, hunsupplied⟩ := ceilingFor_still pl v
    refine .of_same hunsupplied hstill.attached ?_
    unfold ceilingFor
    split <;> rfl
  have hclaims (v : State) : Budgeted v (runClaims pl v) :=
    (runClaims_keeps (free := [.closing]) (by simp) pl v).budgeted (by simp) (runClaims_unsupplied pl v)
      (runClaims_seq pl v) (by simp [sequencerParts, supplyParts])
  obtain ⟨u, hu⟩ : ∃ u, u = setTransition (some (s.transitionToward pl)) s := ⟨_, rfl⟩
  obtain ⟨w, hw⟩ : ∃ w, w = ceilingFor pl u := ⟨_, rfl⟩
  obtain ⟨v, hv⟩ : ∃ v, v = cutJoining (s.joiningPorts pl) w := ⟨_, rfl⟩
  have heq : beginTransition pl s = runClaims pl v := by rw [beginTransition_eq, hv, hw, hu]
  have hfirst : Budgeted s u := by
    rw [hu]
    exact .of_same ⟨rfl, rfl⟩ (fun _ => rfl) rfl
  rw [heq]
  exact ((hfirst.trans (hw ▸ hceiling u)).trans (hv ▸ cutJoining_budgeted _ w)).trans (hclaims v)

theorem serveDemand_budgeted (d : DemandClass) (p : Port) (s : State) : Budgeted s (serveDemand d p s) := by
  have hrecorded : Budgeted s (s.planRecorded d p) := .of_same ⟨rfl, rfl⟩ (fun _ => rfl) rfl
  rw [serveDemand_eq]
  exact hrecorded.trans (.ite (.of_same ⟨rfl, rfl⟩ (fun _ => rfl) rfl) (beginTransition_budgeted _ _))

theorem execTakeDemand_budgeted (h : execTakeDemand s = .next t) : Budgeted s t := by
  refine running_budgeted h fun s => ?_
  split
  · exact serveDemand_budgeted _ _ s
  · exact .refl s

/-! ### A new image and new values of the platform (R88, R164, R177, R191) -/

theorem paramFault_none {i : PolicyImage} (h : validate i = none) (k : Fin 15) : paramFault i k = none := by
  unfold validate at h
  simp only [Option.orElse_eq_none] at h
  exact List.findSome?_eq_none_iff.mp h.1 k (List.mem_finRange k)

/-- A valid image has a source port limit of 500 mA or more (R85). -/
theorem limit_least {i : PolicyImage} (h : validate i = none) : 500 ≤ i.params[13] := by
  have hfault := paramFault_none h 13
  by_contra hless
  simp [paramFault, paramRange] at hfault
  exact hless hfault.1

theorem modSupervisor_budgeted (g : Supervisor → Supervisor) (s : State) : Budgeted s (s.modSupervisor g) :=
  .of_same ⟨rfl, rfl⟩ (fun _ => rfl) rfl

theorem raiseDemand_budgeted (d : DemandClass) (p : Port) (s : State) : Budgeted s (raiseDemand d p s) :=
  .of_same ⟨rfl, rfl⟩ (fun _ => rfl) rfl

theorem reviewAttached_budgeted (s : State) : Budgeted s (reviewAttached s) := by
  unfold reviewAttached
  refine .foldl (fun u p => ?_) _ s
  exact .ite (raiseDemand_budgeted _ p u) (.refl u)

theorem recompute_budgeted (s : State) : Budgeted s (recompute s) := .of_same ⟨rfl, rfl⟩ (fun _ => rfl) rfl

/-- The bounds after the unit has rebalanced to the source port limit of a new image. -/
theorem newImage_kept (hs : s.sound) (hkept : s.budgetKept) (hbeside : Unsupplied s t) (hattached : ∀ q, t.attached q = s.attached q)
    (hvalid : validate t.policy.active = none) (hrest : Budgeted (rebalance s.policy.active.params[13] t) u) : u.budgetKept := by
  have ht : t.sound := hs.of_unsupplied hbeside hattached
  have hactive : (rebalance s.policy.active.params[13] t).policy.active = t.policy.active :=
    congrArg PolicyStore.active (rebalance_changes _ t .policy (by simp [supplyParts]))
  refine hrest.kept ((rebalance_supplied _ t).sound ht) ?_ (rebalance_of_image hkept hbeside ht)
  rw [hactive]
  exact limit_least hvalid

theorem reviewAttached_unsupplied (s : State) : Unsupplied s (reviewAttached s) :=
  .of_changes (reviewAttached_changes s) (by decide)

theorem applySuccess_kept (hs : s.sound) (hkept : s.budgetKept) (hvalid : validate s.policy.pendingBank = none) :
    (applySuccess s).budgetKept := by
  obtain ⟨v, hv⟩ : ∃ v, v = s.modPolicy fun q => { q with active := q.pendingBank, origin := .loaded, pendingOpen := false } := ⟨_, rfl⟩
  have hfirst : Unsupplied s v := hv ▸ ⟨rfl, rfl⟩
  have hreview := reviewAttached_budgeted v
  have heq : applySuccess s = recompute (serve (rebalance s.policy.active.params[13] (reviewAttached v))) := by rw [hv]; rfl
  rw [heq]
  refine newImage_kept hs hkept (hfirst.trans (reviewAttached_unsupplied v)) (fun q => ?_) ?_
    ((serve_budgeted _).trans (recompute_budgeted _))
  · rw [(reviewAttached_keeps (free := []) v).attached (by simp), hv]
    rfl
  · rw [hreview.active, hv]
    exact hvalid

theorem autonomousEntry_kept (hs : s.sound) (hkept : s.budgetKept) : (autonomousEntry s).budgetKept := by
  obtain ⟨v, hv⟩ : ∃ v, v = (s.modSupervisor fun v =>
      { v with autonomous := true, silenceTimer := none, demand := strapPowerClass s.supervisor.straps }).modPolicy
    fun q => { q with active := fallbackImage (strapSixAmp s.supervisor.straps), origin := .fallback, pendingOpen := false } :=
    ⟨_, rfl⟩
  obtain ⟨u, hu⟩ : ∃ u, u = rebalance s.policy.active.params[13] v := ⟨_, rfl⟩
  have heq : autonomousEntry s = reviewAttached (recompute (serve
      (takeBudget (min u.supply.budget (strapBudget s.supervisor.straps)) u))) := by rw [hu, hv]; rfl
  have hrest := (((takeBudget_budgeted (min u.supply.budget (strapBudget s.supervisor.straps)) u).trans
    (serve_budgeted _)).trans (recompute_budgeted _)).trans (reviewAttached_budgeted _)
  rw [heq]
  have hbeside : Unsupplied s v := hv ▸ ⟨rfl, rfl⟩
  have hattached (q : Port) : v.attached q = s.attached q := by rw [hv]; rfl
  have hvalid : validate v.policy.active = none := by
    rw [hv]
    exact fallbackImage_valid _
  exact newImage_kept hs hkept hbeside hattached hvalid (hu ▸ hrest)

theorem takePlatform_budgeted (v : PlatformValues) (s : State) : Budgeted s (takePlatform v s) := by
  have htaken : Budgeted s (s.modSupervisor fun u => u.taken v) := .of_same ⟨rfl, rfl⟩ (fun _ => rfl) rfl
  have hset : Budgeted s (setBudget v.budget (s.modSupervisor fun u => u.taken v)) := htaken.trans (setBudget_budgeted _ _)
  unfold takePlatform
  exact .ite (hset.trans (reviewAttached_budgeted _)) hset

/-! ### Every step -/

/-- The premises of O58 under which the bounds are kept, the bounds with them. -/
def State.bounded (s : State) : Prop := s.sound ∧ s.imageValid ∧ s.budgetKept

theorem Budgeted.kept_of (h : Budgeted s t) (hs : s.bounded) : t.budgetKept :=
  h.kept hs.1 (limit_least hs.2.1) hs.2.2

theorem receive_budgeted (h : ChangesOnly [.receive, .uplink] s t) : Budgeted s t :=
  .of_same (Aside.of_changes h (by decide)).unsupplied
    (fun q => congrArg (fun m : Monitor => m.state.attached) (h (.monitor q) (by simp)))
    (congrArg PolicyStore.active (h .policy (by decide)))

theorem Budgeted.bounded (h : Budgeted s t) (hvalid : s.imageValid → t.imageValid) (hs : s.bounded) : t.bounded :=
  ⟨h.sound hs.1, hvalid hs.2.1, h.kept_of hs⟩

theorem execApplyPolicy_bounded (h : execApplyPolicy s = .next t) : s.bounded → t.bounded := by
  refine running_preserves h (takeCommand_preserves (fun hl => (receive_budgeted hl).bounded
    (imageValid_of_policy (hl .policy (by decide)))) (checkLength_preserves (writePending_preserves fun f s hs => ?_)) s)
  refine ⟨?_, applyPending_imageValid f s hs.2.1, ?_⟩ <;> unfold applyPending <;> split
  · exact hs.1
  · exact (applySuccess_step s).sound hs.1
  · exact hs.2.2
  · next hvalid => exact applySuccess_kept hs.1 hs.2.2 hvalid

theorem execSilence_kept (h : execSilenceTimerExpiry s = .next t) (hs : s.bounded) : t.budgetKept := by
  have hexpiry : (silenceExpiry s).budgetKept := by
    unfold silenceExpiry
    split
    · exact ((post_budgeted _ _ _ s).trans (modSupervisor_budgeted _ _)).kept_of hs
    · exact autonomousEntry_kept hs.1 hs.2.2
  cases h
  show (if _ then s else if _ then silenceExpiry s else s).budgetKept
  split_ifs
  · exact hs.2.2
  · exact hexpiry
  · exact hs.2.2

theorem execSetPlatform_budgeted (h : execSetPlatform s = .next t) : Budgeted s t := by
  refine running_budgeted h fun s => takeCommand_relates (rel := Budgeted) receive_budgeted .trans (fun f s => ?_) s
  unfold checkLength
  split
  · dsimp only
    split
    · exact takePlatform_budgeted _ s
    · exact .refl s
  · exact .refl s

theorem exec_budgeted (h : exec c s = .next t) (hc : c ≠ .powerOnReset) (hend : ∀ a b d, c ≠ .resetEnd a b d)
    (happly : c ≠ .applyPolicy) (hsilence : c ≠ .silenceTimerExpiry) : Budgeted s t := by
  by_cases hreach : reaching c = false
  · refine .of_same (exec_aside h hreach).unsupplied (exec_attached h hreach) ?_
    refine (exec_settings h hc hend .image ?_).1
    cases c <;> simp_all [ownSettings]
  · cases c with
    | powerOnReset => exact absurd rfl hc
    | resetEnd a b d => exact absurd rfl (hend a b d)
    | debounceRiseExpiry p =>
      refine running_budgeted (id h : execDebounceRiseExpiry p s = .next t) fun s => ?_
      split
      · next hx =>
        refine enterProbing_budgeted ?_
        simp [State.attached, ((riseExpired_iff _).mp hx).1, Attach.attached]
      · exact .refl s
    | detach p =>
      exact running_budgeted (id h : execDetach p s = .next t) fun s => .ite (detachPort_budgeted p s) (.refl s)
    | announce p f => exact execAnnounce_budgeted h
    | demand p f => exact execDemand_budgeted h
    | retire p f => exact execRetire_budgeted h
    | otherKindFrame p kind f => exact execOtherKindFrame_budgeted h
    | takeDemand => exact execTakeDemand_budgeted h
    | claimSettled p =>
      refine running_budgeted (id h : execClaimSettled p s = .next t) fun s => .ite ?_ (.refl s)
      exact ((settleContract_keeps p s).trans (continueClaims_keeps (free := [.closing]) (by simp) _)).budgeted (by simp)
        ((settleContract_unsupplied p s).trans (continueClaims_unsupplied _))
        ((settleContract_seq p s).trans (continueClaims_seq _)) (by simp [sequencerParts, supplyParts])
    | breakIntervalExpiry =>
      refine running_budgeted (id h : execBreakIntervalExpiry s = .next t) fun s => ?_
      split
      · next tr _ =>
        refine .ite ?_ (.refl s)
        exact (closeAndEnd_keeps (free := [.closing]) (by simp) tr s).budgeted (by simp) (closeAndEnd_unsupplied tr s)
          (closeAndEnd_seq tr s) (by simp [sequencerParts, supplyParts])
      · exact .refl s
    | applyPolicy => exact absurd rfl happly
    | setPlatform => exact execSetPlatform_budgeted h
    | silenceTimerExpiry => exact absurd rfl hsilence
    | _ => exact absurd rfl hreach

theorem exec_budgetKept (h : exec c s = .next t) (hc : c ≠ .powerOnReset) (hend : ∀ a b d, c ≠ .resetEnd a b d)
    (hs : s.bounded) : t.budgetKept := by
  by_cases happly : c = .applyPolicy
  · subst happly
    exact (execApplyPolicy_bounded h hs).2.2
  · by_cases hsilence : c = .silenceTimerExpiry
    · subst hsilence
      exact execSilence_kept h hs
    · exact (exec_budgeted h hc hend happly hsilence).kept_of hs

theorem tick_budgeted (s : State) : Budgeted s (tick s) := .of_same ⟨rfl, rfl⟩ (tick_attached s) rfl

/-- With no grant in force every bound is met. -/
theorem budgetKept_of_empty (htable : t.table = { own := Four.const none, pool := [] }) (hcounter : t.supply.orderCounter ≤ 65535) :
    t.budgetKept := by
  have hgrants : t.grants = [] := by
    unfold State.grants
    rw [htable]
    simp
  refine ⟨?_, fun p => ?_, hcounter, ?_, ?_⟩
  · rw [hgrants]; exact Nat.zero_le _
  · rw [State.portGrants, hgrants]; exact Nat.zero_le _
  · rw [hgrants]; exact nofun
  · rw [hgrants]; exact List.nodup_nil

theorem exec_effect_budgetKept (h : exec c s = .next t) (hc : c ≠ .powerOnReset)
    (hactive : s.inReset = false ∨ ∃ a b d, c = .resetEnd a b d ∧ s.inReset = true) (hheld : s.heldInReset)
    (hs : s.bounded) : t.budgetKept := by
  rcases hactive with hrun | ⟨a, b, d, rfl, hreset⟩
  · by_cases hend : ∃ a b d, c = .resetEnd a b d
    · obtain ⟨a, b, d, rfl⟩ := hend
      obtain rfl : (if s.inReset then resetEnd a b d s else s) = t := Host.Outcome.next.inj h
      rw [hrun]
      exact hs.2.2
    · exact exec_budgetKept h hc (fun a b d he => hend ⟨a, b, d, he⟩) hs
  · obtain rfl : (if s.inReset then resetEnd a b d s else s) = t := Host.Outcome.next.inj h
    rw [if_pos hreset]
    have hended := resetEnd_reset (straps := a) (presence := b) (uhold := d) hheld hreset
    refine budgetKept_of_empty (hended.table.trans (hheld hreset).2.2.2.1) ?_
    rw [show (resetEnd a b d s).supply.orderCounter = s.supply.orderCounter from
      resetEnd_changes a b d s .orderCounter (by simp [meterParts])]
    exact hs.2.2.2.2.1

/-- Settles O58: grants end, shrink, are renewed within the rooms their old ones leave, or are made within the rooms as
they stand; a smaller budget and a smaller source port limit make grants give way until the rest fit. -/
theorem stepsKeepTheBudget : Obligations.StepsKeepTheBudget := fun _ _ hs _ hvalid hkept h =>
  step_keeps (before := fun s => s.suppliesGranted ∧ s.imageValid ∧ s.budgetKept) (after := State.budgetKept) h
    (fun _ _ _ hs => hs) (fun hs => hs.2.2) ⟨reset_suppliesGranted, fallbackImage_valid _, reset_budgetKept⟩
    (fun _ _ _ hc hactive hexec hs => by
      obtain ⟨hheld, hsound⟩ := (suppliesGranted_iff _).mp hs.1
      exact exec_effect_budgetKept hexec hc hactive hheld ⟨hsound, hs.2⟩)
    (fun _ hs => (tick_budgeted _).kept_of ⟨((suppliesGranted_iff _).mp hs.1).2, hs.2⟩) ⟨hs, hvalid, hkept⟩

end

end Sys2Proof.Machine
end

section
/-! PROOFS. The presence input, the debounce, the probe timer and the cool-off (R1 to R5, R12). -/

namespace Sys2Proof.Machine

open Sys2Proof

section
variable {s t u : State} {p q : Port}

/-! ### The start of a PROBE (R4, R5, R28) -/

theorem transmit_monitor_of_probing (h : (s.monitor.get p).state = .probing) : (transmit p s).monitor.get p
    = if (s.framer.get p).startsProbe then { s.monitor.get p with probeTimer := some 0 } else s.monitor.get p := by
  unfold transmit
  split
  · simp [h]
  · rfl

/-- A PROBE asked for on a quiet line is sent at once, and its timer runs from there. -/
theorem requestExchange_sends {k : ExchangeKind} (hnone : (s.framer.get p).exchange = none) (hquiet : s.lineQuiet p) :
    (requestExchange p k s).framer.get p = { s.framer.get p with
      exchange := some { kind := k, condition := .queued, holds := 0, withdrawn := false }
      sending := some (.engine (.exchange k)) } := by
  obtain ⟨⟨hsending, hengine, -⟩, hincoming⟩ := id hquiet
  simp only [requestExchange, hnone, startExchange_framer, hengine]
  exact look_of_engine ((quiet_iff _).mpr ⟨hsending, hincoming⟩) rfl

theorem requestExchange_waits {k : ExchangeKind} {e : Exchange} (hsome : (s.framer.get p).exchange = some e) :
    requestExchange p k s = s.modFramer p fun f => { f with waiting := f.waiting ++ [k] } := by
  simp only [requestExchange, hsome]

theorem requestProbe_monitor_of_quiet (hprobing : (s.monitor.get p).state = .probing) (hnone : (s.framer.get p).exchange = none)
    (hquiet : s.lineQuiet p) : (requestExchange p .probe s).monitor.get p = { s.monitor.get p with probeTimer := some 0 } := by
  obtain ⟨⟨hsending, hengine, -⟩, hincoming⟩ := id hquiet
  simp only [requestExchange, hnone, startExchange, place]
  rw [transmit_monitor_of_probing (by simpa using hprobing), if_pos]
  · simp
  · simp [Framer.startsProbe, quiet_iff, hsending, hincoming, hengine, placeIn]

/-- A PROBE asked for by a port whose probe timer has just started leaves its monitor. -/
theorem requestProbe_monitor (hprobing : (s.monitor.get p).state = .probing) (htimer : (s.monitor.get p).probeTimer = some 0) :
    (requestExchange p .probe s).monitor.get p = s.monitor.get p := by
  have hsame : { s.monitor.get p with probeTimer := some 0 } = s.monitor.get p := by rw [← htimer]
  unfold requestExchange
  split
  · simp only [startExchange, place]
    rw [transmit_monitor_of_probing (by simpa using hprobing)]
    simp only [State.modFramer_monitor, hsame, ite_self]
  · rfl

/-! ### Entering PROBING (R4) -/

theorem wantsBaseDraw_iff (s : State) (p : Port) : s.wantsBaseDraw p = true ↔ s.supervisor.batteryPresent = false
    ∧ (∀ q, (s.contract.get q).drawClosed = false) ∧ 4500 ≤ (s.rail.get p).mv ∧ (s.rail.get p).mv ≤ 20500 := by
  have hall (P : Port → Prop) : (∀ q ∈ allPorts, P q) ↔ ∀ q, P q :=
    ⟨fun h q => h q (by revert q; decide), fun h q _ => h q⟩
  simp only [State.wantsBaseDraw, State.drawSet, railLive, Bool.and_eq_true, Bool.not_eq_true', List.isEmpty_iff,
    List.filter_eq_nil_iff, Bool.not_eq_true, decide_eq_true_eq, hall, and_assoc]
  rfl

/-- The port with its record, its book and its PROBE, before any demand. -/
def probingAsked (p : Port) (s : State) : State :=
  requestExchange p .probe ((probingRecord p s).modBook p fun b => { b with firstBook := true })

theorem enterProbing_eq (p : Port) (s : State) : enterProbing p s
    = if s.supervisor.batteryPresent = false ∧ (∀ q, (s.contract.get q).drawClosed = false)
          ∧ 4500 ≤ (s.rail.get p).mv ∧ (s.rail.get p).mv ≤ 20500
        then raiseDemand .attach p (probingAsked p s) else probingAsked p s := by
  have hline := requestExchange_onLine p .probe ((probingRecord p s).modBook p fun b => { b with firstBook := true })
  have hwants : (probingAsked p s).wantsBaseDraw p = s.wantsBaseDraw p := by
    have hrail : (probingAsked p s).rail.get p = s.rail.get p := hline.same (part := .rail p) (by simp [placeParts])
    have hsupervisor : (probingAsked p s).supervisor = s.supervisor := hline.same (part := .supervisor) (by simp [placeParts])
    have hcontract : (probingAsked p s).contract = s.contract := Four.ext_get hline.contract
    unfold State.wantsBaseDraw State.drawSet
    rw [hrail, hsupervisor, hcontract]
  have hiff := wantsBaseDraw_iff s p
  rw [← hwants] at hiff
  exact if_congr hiff rfl rfl

theorem probingAsked_monitor (p : Port) (s : State) : (probingAsked p s).monitor.get p
    = { s.monitor.get p with state := .probing, debounce := none, probeCount := 1, probeTimer := some 0 } := by
  unfold probingAsked
  rw [requestProbe_monitor] <;> simp [probingRecord, State.setOwn]

theorem probingAsked_onLine (p : Port) (s : State) :
    onLine p ((probingRecord p s).modBook p fun b => { b with firstBook := true }) (probingAsked p s) :=
  requestExchange_onLine p .probe _

theorem enterProbing_demands (p : Port) (s : State) : (enterProbing p s).sequencer.demands.get p
    = if s.supervisor.batteryPresent = false ∧ (∀ q, (s.contract.get q).drawClosed = false)
          ∧ 4500 ≤ (s.rail.get p).mv ∧ (s.rail.get p).mv ≤ 20500
        then { s.sequencer.demands.get p with attach := true } else s.sequencer.demands.get p := by
  have hdemands : (probingAsked p s).sequencer.demands = s.sequencer.demands := (probingAsked_onLine p s).demands
  rw [enterProbing_eq]
  split
  · simp [raiseDemand, hdemands, DemandSet.add]
  · rw [hdemands]

/-- What raising a demand leaves of a port that has entered PROBING. -/
theorem enterProbing_rest_of {α : Type} (g : State → α) (hg : ∀ u, g (raiseDemand .attach p u) = g u) :
    g (enterProbing p s) = g (probingAsked p s) := by
  rw [enterProbing_eq]
  split
  · exact hg _
  · rfl

/-! ### The presence input (R1 to R3) -/

theorem exec_presenceRise (hrun : s.inReset = false) :
    exec (.presenceRise p) s = .next (s.modMonitor p fun m => m.rise (s.populated p)) :=
  exec_of_running (f := fun s => s.modMonitor p fun m => m.rise (s.populated p)) rfl hrun

theorem exec_presenceFall (hrun : s.inReset = false) : exec (.presenceFall p) s = .next (s.modMonitor p Monitor.fall) :=
  exec_of_running (f := fun s => s.modMonitor p Monitor.fall) rfl hrun

/-- Settles O7. -/
theorem presenceIsDebounced : Obligations.PresenceIsDebounced := by
  intro s p hrun
  dsimp only
  refine ⟨fun hlow => ?_, fun hhigh => ?_, fun hsensing hlow hrun2 => ?_, fun hno => ?_, fun hsensing hhigh hrun20 => ?_,
    fun hno => ?_⟩
  · refine ⟨_, exec_presenceRise hrun, modMonitor_changes _ _ _, fun hpop => ?_, fun hpop hempty => ?_,
      fun hpop hsensing => ?_, fun hpop hattached => ?_⟩ <;> rw [State.modMonitor_monitor, Four.get_set_same, Monitor.rise]
    · simp [hlow, hpop]
    · simp [hlow, hpop, hempty]
    · simp [hlow, hpop, hsensing]
    · unfold State.attached at hattached
      cases hstate : (s.monitor.get p).state <;> simp_all [Attach.attached]
  · refine ⟨_, exec_presenceFall hrun, modMonitor_changes _ _ _, fun hempty => ?_, fun hother => ?_⟩ <;>
      rw [State.modMonitor_monitor, Four.get_set_same, Monitor.fall]
    · simp [hhigh, hempty]
    · cases hstate : (s.monitor.get p).state <;> simp_all
  · have hexpired := (fallExpired_iff _).mpr ⟨hsensing, hlow, hrun2⟩
    refine ⟨_, ?_, modMonitor_changes s p fun m => { m with state := .empty, debounce := none }, by simp⟩
    show execSensingFallExpiry p s = _
    unfold execSensingFallExpiry
    rw [running_free _ hrun, if_pos hexpired]
  · show execSensingFallExpiry p s = _
    unfold execSensingFallExpiry
    rw [running_free _ hrun, if_neg (mt (fallExpired_iff _).mp hno)]
  · have hexpired := (riseExpired_iff _).mpr ⟨hsensing, hhigh, hrun20⟩
    have hline := probingAsked_onLine p s
    refine ⟨enterProbing p s, ?_, ?_, ?_, ?_, fun hnone hquiet => ?_, enterProbing_demands p s, enterProbing_changes p s⟩
    · show execDebounceRiseExpiry p s = _
      unfold execDebounceRiseExpiry
      rw [running_free _ hrun, if_pos hexpired]
    · rw [enterProbing_rest_of (fun u => u.monitor.get p) fun _ => rfl, probingAsked_monitor]
    · rw [enterProbing_rest_of (fun u => u.table.own.get p) fun _ => rfl,
        show (probingAsked p s).table.own.get p = _ from hline.same (part := .own p) (by simp [placeParts])]
      simp [probingRecord, State.setOwn, freshRecord]
    · rw [enterProbing_rest_of (fun u => u.book.get p) fun _ => rfl, hline.book]
      simp [probingRecord, State.setOwn]
    · rw [enterProbing_rest_of (fun u => u.framer.get p) fun _ => rfl]
      exact requestExchange_sends hnone hquiet
  · show execDebounceRiseExpiry p s = _
    unfold execDebounceRiseExpiry
    rw [running_free _ hrun, if_neg (mt (riseExpired_iff _).mp hno)]

/-! ### The probe timer and the cool-off (R5, R12) -/

theorem meter_port_changes {m : Meter} (hlo : m.refLo = s.meter.refLo) (hhi : m.refHi = s.meter.refHi)
    (hcount : m.refreshCount = s.meter.refreshCount) : ChangesOnly (.converter :: everyPort .measure) s { s with meter := m } := by
  intro part hpart
  cases part <;> simp_all [Part.same]

/-- The record of a port whose measurement starts (R61). -/
def PortMeasure.started (r : PortMeasure) (byCommand : Bool) : PortMeasure :=
  { r with phase := .queued, attempts := 0, previous := none, heldPeriod := none, measureFlag := byCommand }

/-- The meter with a port's measurement queued, before the converter looks. -/
def Meter.started (m : Meter) (p : Port) (byCommand : Bool) : Meter :=
  { m with port := m.port.set p ((m.port.get p).started byCommand) }.add (.id p)

theorem startMeasure_of_idle (h : (s.meter.port.get p).phase = .idle) (byCommand : Bool) :
    startMeasure p byCommand s = { s with meter := (s.meter.started p byCommand).take } := by
  simp only [startMeasure, h]
  rfl

theorem startMeasure_of_busy (h : (s.meter.port.get p).phase ≠ .idle) : startMeasure p false s = s := by
  unfold startMeasure
  split
  · next hidle => exact absurd hidle h
  all_goals rfl

theorem Meter.take_references (m : Meter) :
    m.take.refLo = m.refLo ∧ m.take.refHi = m.refHi ∧ m.take.refreshCount = m.refreshCount := by
  unfold Meter.take
  split
  · next c _ _ _ => cases c <;> exact ⟨rfl, rfl, rfl⟩
  · exact ⟨rfl, rfl, rfl⟩

theorem Meter.add_refreshCount (m : Meter) (c : Channel) : (m.add c).refreshCount = m.refreshCount := by
  unfold Meter.add
  split <;> rfl

theorem startMeasure_parts (p : Port) (s : State) :
    ChangesOnly (.converter :: everyPort .measure) s (startMeasure p false s) := by
  by_cases h : (s.meter.port.get p).phase = .idle
  · rw [startMeasure_of_idle h]
    obtain ⟨hlo, hhi, hcount⟩ := (s.meter.started p false).take_references
    refine meter_port_changes (hlo.trans ?_) (hhi.trans ?_) (hcount.trans ?_)
    · exact Meter.add_refLo _ _
    · exact Meter.add_refHi _ _
    · exact Meter.add_refreshCount _ _
  · rw [startMeasure_of_busy h]
    exact .refl _ s

/-- A channel that is neither queued nor in flight joins the tail of the queue (R57). -/
theorem Meter.started_eq {m : Meter} (hqueue : .id p ∉ m.queue) (hflight : m.inFlightChannel ≠ some (.id p))
    (byCommand : Bool) : m.started p byCommand
      = { m with port := m.port.set p ((m.port.get p).started byCommand), queue := m.queue ++ [.id p] } := by
  unfold Meter.started Meter.add
  rw [if_neg]
  · rfl
  · simp only [Bool.or_eq_true, List.contains_iff_mem, beq_iff_eq, not_or]
    exact ⟨hqueue, hflight⟩

theorem exec_probeTimerExpiry (hrun : s.inReset = false) : exec (.probeTimerExpiry p) s
    = .next (if (s.monitor.get p).probeExpired then probeExpiry p s else s) := exec_of_running rfl hrun

theorem exec_coolOffExpiry (hrun : s.inReset = false) : exec (.coolOffExpiry p) s
    = .next (if (s.monitor.get p).coolOffExpired then
        raiseDemand .review p (s.modMonitor p fun m => { m with coolOff := none }) else s) := exec_of_running rfl hrun

theorem probeExpiry_of_fewer (h : (s.monitor.get p).probeCount < 3) : probeExpiry p s = requestExchange p .probe
    (s.modMonitor p fun m => { m with probeCount := m.probeCount + 1, probeTimer := none }) := if_pos h

theorem probeExpiry_of_three (h : 3 ≤ (s.monitor.get p).probeCount) : probeExpiry p s
    = startMeasure p false (s.modMonitor p fun m => { m with state := .measuring, probeTimer := none }) :=
  if_neg (Nat.not_lt.mpr h)

/-- Settles O9. -/
theorem probeAndCoolOffTimersExpire : Obligations.ProbeAndCoolOffTimersExpire := by
  intro s p hrun
  dsimp only
  refine ⟨fun hprobing htimer hfewer => ?_, fun hprobing htimer hthree => ?_, fun hno => ?_, fun hcool => ?_, fun hno => ?_⟩
  · obtain ⟨u, hu⟩ : ∃ u, u = s.modMonitor p fun m => { m with probeCount := m.probeCount + 1, probeTimer := none } := ⟨_, rfl⟩
    have hmonitor : u.monitor.get p
        = { s.monitor.get p with probeCount := (s.monitor.get p).probeCount + 1, probeTimer := none } := by simp [hu]
    have hframer : u.framer = s.framer := by rw [hu]; rfl
    have hstate : (u.monitor.get p).state = .probing := by rw [hmonitor]; exact hprobing
    refine ⟨requestExchange p .probe u, ?_, ?_, fun hnone hquiet => ⟨?_, ?_⟩, fun e he => ⟨?_, ?_⟩⟩
    · rw [exec_probeTimerExpiry hrun, if_pos ((probeExpired_iff _).mpr ⟨hprobing, htimer⟩), probeExpiry_of_fewer hfewer, hu]
    · exact .then (hu ▸ modMonitor_changes s p _) (requestExchange_changes p .probe u) (by simp) (by simp [placeParts])
    · rw [requestProbe_monitor_of_quiet hstate (by rwa [hframer]) (hquiet.of_framer (by rw [hframer])), hmonitor]
    · rw [requestExchange_sends (by rwa [hframer]) (hquiet.of_framer (by rw [hframer])), hframer]
    · rw [requestExchange_waits (e := e) (by rwa [hframer])]
      exact hmonitor
    · rw [requestExchange_waits (e := e) (by rwa [hframer]), State.modFramer_framer, Four.get_set_same, hframer]
  · obtain ⟨u, hu⟩ : ∃ u, u = s.modMonitor p fun m => { m with state := .measuring, probeTimer := none } := ⟨_, rfl⟩
    have hmeter : u.meter = s.meter := by rw [hu]; rfl
    have hparts := startMeasure_parts p u
    refine ⟨startMeasure p false u, ?_, ?_, ?_, fun hidle hqueue => ⟨fun hfree hempty => ?_, fun c hc hchannel => ?_⟩,
      fun hbusy => ?_⟩
    · rw [exec_probeTimerExpiry hrun, if_pos ((probeExpired_iff _).mpr ⟨hprobing, htimer⟩), probeExpiry_of_three hthree, hu]
    · exact .then (hu ▸ modMonitor_changes s p _) hparts (by simp) (by
        intro x hx
        simp only [List.mem_append, List.mem_cons] at hx ⊢
        tauto)
    · rw [show (startMeasure p false u).monitor.get p = u.monitor.get p from hparts (.monitor p) (by simp), hu]
      simp
    · have hstarted := Meter.started_eq (p := p) hqueue (by simp [Meter.inFlightChannel, hfree]) false
      rw [startMeasure_of_idle (by rwa [hmeter]), hmeter, hstarted]
      simp [Meter.take, hfree, hempty, PortMeasure.started]
    · have hstarted := Meter.started_eq (p := p) hqueue (by simp [Meter.inFlightChannel, hc, hchannel]) false
      rw [startMeasure_of_idle (by rwa [hmeter]), hmeter, hstarted]
      simp [Meter.take, hc, PortMeasure.started]
    · rw [startMeasure_of_busy (by rwa [hmeter]), hmeter]
  · rw [exec_probeTimerExpiry hrun, if_neg (mt (probeExpired_iff _).mp hno)]
  · refine ⟨_, by rw [exec_coolOffExpiry hrun, if_pos ((coolOffExpired_iff _).mpr hcool)], ?_, ?_, ?_⟩
    · exact .then (modMonitor_changes s p _) (raiseDemand_changes .review p _) (by simp) (by simp)
    · simp [raiseDemand]
    · simp [raiseDemand, DemandSet.add]
  · rw [exec_coolOffExpiry hrun, if_neg (mt (coolOffExpired_iff _).mp hno)]

end

end Sys2Proof.Machine
end

section
/-! PROOFS. The detach of a port, block by block (R17). -/

namespace Sys2Proof.Machine

open Sys2Proof

section
variable {s t u : State} {p q : Port}

/-! ### The contract and the transition -/

/-- A part that belongs to no other port's claim stands as the claims in flight of the other ports are aborted. -/
theorem claimsAborted_same {part : Part} (hpart : ∀ q, q ≠ p → part ∉ abortParts q) (houtcome : ∀ q, part ≠ .contract q)
    (h : (s.contract.get p).inFlight = false) (short : List Port) : part.same s (claimsAborted short s) := by
  have habort (l : List Port) (s : State) (h : (s.contract.get p).inFlight = false) :
      part.same s (l.foldl (fun u q => if (u.contract.get q).inFlight then abortClaim q u else u) s) := by
    induction l generalizing s with
    | nil => exact part.same_refl s
    | cons q l ih =>
      rw [List.foldl_cons]
      split
      · next hflight =>
        have hq : q ≠ p := fun hq => by
          rw [hq, h] at hflight
          exact absurd hflight nofun
        obtain ⟨o, ho⟩ := (abortClaim_spares hq s).contract
        exact Part.same_trans (abortClaim_changes q s part (hpart q hq)) (ih _ (by rw [ho]; exact h))
      · exact ih s h
  have houtcomes (l : List Port) (s : State) : part.same s (l.foldl (fun u q => setOutcome q .aborted u) s) := by
    induction l generalizing s with
    | nil => exact part.same_refl s
    | cons q l ih => exact Part.same_trans (setOutcome_changes q .aborted s part (by simpa using houtcome q)) (ih _)
  exact Part.same_trans (habort allPorts s h) (houtcomes short _)

/-- Involved or not, the line and the monitor of the port that has left stand. -/
theorem abortIfInvolved_line (h : (s.contract.get p).inFlight = false) (short : List Port) :
    (abortIfInvolved p short s).framer.get p = s.framer.get p
      ∧ (abortIfInvolved p short s).monitor.get p = s.monitor.get p := by
  by_cases hinvolved : ∃ tr, s.sequencer.transition = some tr ∧ tr.involves p = true
  · obtain ⟨tr, htr, hp⟩ := hinvolved
    rw [abortIfInvolved_of_involved htr hp]
    have hended := endTransition_changes .aborted s.servicePort (claimsAborted short s)
    exact ⟨(hended (.framer p) (by simp)).trans (claimsAborted_same (p := p) (part := .framer p)
        (fun q hq => by simp [abortParts, hq.symm]) (fun _ => nofun) h short),
      (hended (.monitor p) (by simp)).trans (claimsAborted_same (p := p) (part := .monitor p)
        (fun q hq => by simp [abortParts, hq.symm]) (fun _ => nofun) h short)⟩
  · rw [abortIfInvolved_of_spared fun tr htr => Bool.eq_false_iff.mpr fun hp => hinvolved ⟨tr, htr, hp⟩]
    exact ⟨rfl, rfl⟩

/-- The port at a detach before its transition is looked at. -/
def detachedPort (p : Port) (s : State) : State :=
  raiseDemand .loss p ((clearContract p ((s.modFramer p fun _ => Framer.reset).modMonitor p Monitor.detached)).modDrawMonitor p
    fun _ => DrawMonitor.reset)

theorem detachedContract_eq (p : Port) (s : State) :
    detachedContract p s = abortIfInvolved p s.cutShort (detachedPort p s) := rfl

theorem clearContract_line (p : Port) (s : State) :
    (clearContract p s).framer = s.framer ∧ (clearContract p s).monitor = s.monitor :=
  ⟨Four.ext_get fun q => clearContract_changes p s (.framer q) (by simp [switchParts]),
    Four.ext_get fun q => clearContract_changes p s (.monitor q) (by simp [switchParts])⟩

theorem detachedPort_spec (p : Port) (s : State) :
    (detachedPort p s).framer.get p = Framer.reset ∧ (detachedPort p s).monitor.get p = (s.monitor.get p).detached
      ∧ (detachedPort p s).contract.get p = { (s.contract.get p).idled with drawClosed := false }
      ∧ (∀ q, q ≠ p → (detachedPort p s).contract.get q = s.contract.get q)
      ∧ (detachedPort p s).drawMonitor.get p = DrawMonitor.reset
      ∧ ((detachedPort p s).sequencer.demands.get p).loss = true := by
  obtain ⟨u, hu⟩ : ∃ u, u = (s.modFramer p fun _ => Framer.reset).modMonitor p Monitor.detached := ⟨_, rfl⟩
  obtain ⟨hframer, hmonitor⟩ := clearContract_line p u
  have hcontract := clearContract_contract p u
  have hothers := clearContract_changes p u
  have heq : detachedPort p s = raiseDemand .loss p ((clearContract p u).modDrawMonitor p fun _ => DrawMonitor.reset) := by
    rw [hu]
    rfl
  have hsame : u.contract = s.contract := by rw [hu]; rfl
  rw [heq]
  refine ⟨?_, ?_, ?_, fun q hq => ?_, ?_, ?_⟩
  · show (clearContract p u).framer.get p = _
    rw [hframer, hu]
    simp
  · show (clearContract p u).monitor.get p = _
    rw [hmonitor, hu]
    simp
  · show (clearContract p u).contract.get p = _
    rw [hcontract, hsame]
  · show (clearContract p u).contract.get q = _
    rw [show (clearContract p u).contract.get q = u.contract.get q from hothers (.contract q) (by simp [switchParts, hq]), hsame]
  · simp [raiseDemand]
  · rw [raiseDemand_demands_same]
    rfl

/-- The monitor, the line, the contract, the draw monitor and the demands of the port once its transition is aborted. -/
theorem detachedContract_spec (p : Port) (s : State) :
    (detachedContract p s).framer.get p = Framer.reset ∧ (detachedContract p s).monitor.get p = (s.monitor.get p).detached
      ∧ (∃ o, (detachedContract p s).contract.get p
          = { (s.contract.get p).idled with drawClosed := false, lastOutcome := o })
      ∧ (∀ q, q ≠ p → ((detachedContract p s).contract.get q).drawClosed = (s.contract.get q).drawClosed)
      ∧ (detachedContract p s).drawMonitor.get p = DrawMonitor.reset
      ∧ ((detachedContract p s).sequencer.demands.get p).loss = true := by
  obtain ⟨hframer, hmonitor, hcontract, hothers, hdraw, hloss⟩ := detachedPort_spec p s
  have hflight : ((detachedPort p s).contract.get p).inFlight = false := by rw [hcontract]; rfl
  obtain ⟨hframer', hmonitor'⟩ := abortIfInvolved_line hflight s.cutShort
  obtain ⟨⟨o, ho⟩, hdraw', -, hdraws, hdemands⟩ := abortIfInvolved_keeps_port hflight s.cutShort
  rw [detachedContract_eq, hframer', hmonitor', ho, hdraw', hdemands, hframer, hmonitor, hcontract, hdraw]
  exact ⟨rfl, rfl, ⟨o, rfl⟩, fun q hq => by rw [hdraws, hothers q hq], rfl, hloss⟩

theorem detachedContract_changes (p : Port) (s : State) : ChangesOnly sequencerParts s (detachedContract p s) := by
  have hfirst : ChangesOnly sequencerParts s ((s.modFramer p fun _ => Framer.reset).modMonitor p Monitor.detached) :=
    .then (modFramer_changes _ _ _) (monitor_seq _ _ _) (fun x h => supply_seq_sub (by simp_all [supplyParts])) fun _ h => h
  exact ((((hfirst.trans (clearContract_seq p _)).trans (drawMonitor_seq _ p _)).trans (demand_seq _ p _)).trans
    (abortIfInvolved_seq p _ _))

/-! ### The records and the Supply Unit -/

theorem setGrants_changes (l : List GrantView) (s : State) :
    ChangesOnly (everyPort .own ++ [.pool]) s (l.foldl (fun t g => setGrant g.port g.branch none t) s) :=
  .foldl (fun t g => (setGrant_parts g.port g.branch none t).mono (by simp)) l s

theorem detachedRecords_changes (p : Port) (s : State) :
    ChangesOnly (everyPort .own ++ [.pool, .waitList, .supplySwitch p]) s (detachedRecords p s) := by
  have hgrants : ChangesOnly (everyPort .own ++ [.pool, .waitList, .supplySwitch p]) s (dropGrants p s) :=
    (setGrants_changes (s.portGrants p) s).mono fun x hx => by
      simp only [List.mem_append, List.mem_cons] at hx ⊢
      tauto
  have hwaits := (setWaitList_parts_waitList ((dropGrants p s).supply.waitList.filter fun w => !(w.port == p))
    (dropGrants p s)).mono (l' := everyPort .own ++ [.pool, .waitList, .supplySwitch p]) (by simp)
  have hswitch := (setSupplySwitch_parts p false (dropWaits p (dropGrants p s))).mono
    (l' := everyPort .own ++ [.pool, .waitList, .supplySwitch p]) (by simp)
  exact ((((hgrants.trans hwaits).trans hswitch).trans ((setOwn_changes _ p none).mono (by simp))).trans
    ((setPool_changes _ _).mono (by simp)))

/-! ### The measurement -/

theorem abandonMeasure_parts (p : Port) (s : State) : ChangesOnly (.converter :: everyPort .measure) s (abandonMeasure p s) := by
  unfold abandonMeasure
  split
  · exact meter_port_changes rfl rfl rfl
  · exact meter_port_changes rfl rfl rfl
  · exact meter_port_changes rfl rfl rfl
  · obtain ⟨m, hm⟩ : ∃ m : Meter, m = ((s.modMeter fun m =>
        if m.inFlightChannel = some (.id p) then { m with inFlight := none } else m).modPortMeasure p fun r =>
        { r with phase := .idle, previous := none, heldPeriod := none, measureFlag := false }).meter := ⟨_, rfl⟩
    obtain ⟨hlo, hhi, hcount⟩ := m.take_references
    have hsame : m.refLo = s.meter.refLo ∧ m.refHi = s.meter.refHi ∧ m.refreshCount = s.meter.refreshCount := by
      rw [hm]
      simp only [State.modPortMeasure, State.modMeter]
      split <;> exact ⟨rfl, rfl, rfl⟩
    refine meter_port_changes (m := m.take) (hlo.trans hsame.1) (hhi.trans hsame.2.1) (hcount.trans hsame.2.2) |> fun h => ?_
    rw [hm] at h
    exact h

theorem abandonMeasure_unqueues (h : (s.meter.port.get p).phase = .queued) : .id p ∉ (abandonMeasure p s).meter.queue := by
  simp [abandonMeasure, h, State.modPortMeasure]

theorem Meter.take_channel {m : Meter} {c : Channel} (hqueue : c ∉ m.queue) (hflight : m.inFlightChannel ≠ some c) :
    m.take.inFlightChannel ≠ some c := by
  unfold Meter.take
  split
  · next d rest _ hlist =>
    have hd : d ≠ c := fun he => hqueue (by simp [hlist, he])
    cases d <;> simpa [Meter.inFlightChannel] using hd
  · exact hflight

theorem abandonMeasure_stops (h : (s.meter.port.get p).phase = .converting) (hqueue : .id p ∉ s.meter.queue) :
    (abandonMeasure p s).meter.inFlightChannel ≠ some (.id p) := by
  simp only [abandonMeasure, h]
  refine Meter.take_channel ?_ ?_
  · simp only [State.modPortMeasure, State.modMeter]
    split <;> exact hqueue
  · simp only [State.modPortMeasure, State.modMeter]
    split
    · exact nofun
    · next hno => exact hno

/-! ### The service that ends it -/

/-- A service leaves a port that waits nowhere: its line, its monitor and its supply switch. -/
def unserved (p : Port) (s t : State) : Prop :=
  (∀ w ∈ s.supply.waitList, w.port ≠ p) → (∀ w ∈ t.supply.waitList, w.port ≠ p) ∧ t.framer.get p = s.framer.get p
    ∧ t.monitor.get p = s.monitor.get p ∧ t.supply.switchClosed.get p = s.supply.switchClosed.get p

theorem unserved.refl (p : Port) (s : State) : unserved p s s := fun h => ⟨h, rfl, rfl, rfl⟩

theorem unserved.trans (h : unserved p s t) (g : unserved p t u) : unserved p s u := fun hs => by
  obtain ⟨ht, h1, h2, h3⟩ := h hs
  obtain ⟨hu, g1, g2, g3⟩ := g ht
  exact ⟨hu, g1.trans h1, g2.trans h2, g3.trans h3⟩

theorem place_other (hq : q ≠ p) (f : EngineFrame) (s : State) :
    (place q f s).framer.get p = s.framer.get p ∧ (place q f s).monitor.get p = s.monitor.get p :=
  ⟨place_changes q f s (.framer p) (by simp [placeParts, hq.symm]), place_changes q f s (.monitor p) (by simp [placeParts, hq.symm])⟩

theorem makeGrant_other (hq : q ≠ p) (b current requested : Nat) (s : State) :
    (makeGrant q b current requested s).framer.get p = s.framer.get p
      ∧ (makeGrant q b current requested s).monitor.get p = s.monitor.get p := by
  have horder := takeOrder_all_parts s
  have htold := grantTold_changes q b { current := current, requested := requested, order := s.nextOrder } (takeOrder s)
  rw [makeGrant_eq]
  exact ⟨(htold (.framer p) (by simp [hq.symm])).trans (horder (.framer p) (by simp)),
    (htold (.monitor p) (by simp [hq.symm])).trans (horder (.monitor p) (by simp))⟩

theorem serve_unserved (p : Port) (s : State) : unserved p s (serve s) := by
  refine serve_relates (rel := unserved p) (unserved.refl p) unserved.trans (fun {s w rest} h _ hs => ?_)
    (fun {s w rest} h _ _ hs => ?_) (fun {s w rest} h hs => ?_) s
  all_goals
    rw [h] at hs
    have hw : w.port ≠ p := hs w (by simp)
    have hrest : ∀ v ∈ rest, v.port ≠ p := fun v hv => hs v (by simp [hv])
  · obtain ⟨hframer, hmonitor⟩ := place_other hw (.deny w.branch .unavailable) (setWaitList rest s)
    have hsupply := answerDeny_supply w.port w.branch .unavailable (setWaitList rest s)
    exact ⟨by rw [hsupply]; exact hrest, hframer, hmonitor, by rw [hsupply]; rfl⟩
  · obtain ⟨hframer, hmonitor⟩ := makeGrant_other hw w.branch (s.headCurrent w)
      (min w.requested s.policy.active.params[13]) (setWaitList rest s)
    refine ⟨by rw [makeGrant_supply]; exact hrest, hframer, hmonitor, ?_⟩
    rw [makeGrant_supply]
    show (s.supply.switchClosed.set w.port true).get p = _
    rw [Four.get_set_other _ hw.symm]
  · refine ⟨fun v hv => ?_, rfl, rfl, rfl⟩
    rcases List.mem_cons.mp hv with rfl | hv
    · exact hw
    · exact hrest v hv

/-- A record in use stays in use through a service, and no other comes into use. -/
theorem serve_own_none (h : s.table.own.get p = none) : (serve s).table.own.get p = none := by
  have hsame := (serve_records s).1 p
  rw [h] at hsame
  exact Option.not_isSome_iff_eq_none.mp (by rw [hsame]; nofun)

end

end Sys2Proof.Machine
end

section
/-! PROOFS. The detach of a port (R3, R17). -/

namespace Sys2Proof.Machine

open Sys2Proof

section
variable {s t u : State} {p q : Port}

/-! ### What each block holds of the port afterwards -/

/-- What the records, the book, the measurement and the capture leave of the rest. -/
theorem detachedRest_parts (p : Port) (s : State) :
    ChangesOnly (.book p :: .notice (.capture p) :: .converter :: everyPort .measure) s (detachedRest p s) := by
  have hmeasure (u : State) : ChangesOnly (.converter :: everyPort .measure) u (u.modPortMeasure p fun _ => PortMeasure.reset) :=
    meter_port_changes rfl rfl rfl
  refine .trans (.trans (.trans ((modBook_changes s p _).mono (by simp)) ((abandonMeasure_parts p _).mono (by simp)))
    ((hmeasure _).mono (by simp))) ((clearNotice_changes _ _).mono (by simp))

theorem detachedRest_book (p : Port) (s : State) : (detachedRest p s).book.get p = Book.detached s.msCount := by
  have h := abandonMeasure_parts p (s.modBook p fun _ => Book.detached s.msCount) (.book p) (by simp)
  exact h.trans (by simp)

theorem detachedRest_measure (p : Port) (s : State) : (detachedRest p s).meter.port.get p = PortMeasure.reset := by
  simp [detachedRest, clearNotice]

theorem detachedRest_capture (p : Port) (s : State) : (detachedRest p s).link.notices.get (.capture p) = none := by
  simp [detachedRest, clearNotice, NoticeSet.get_put]

theorem detachedRest_queue (h : (s.meter.port.get p).phase = .queued) : .id p ∉ (detachedRest p s).meter.queue :=
  abandonMeasure_unqueues (s := s.modBook p fun _ => Book.detached s.msCount) h

theorem detachedRest_converter (h : (s.meter.port.get p).phase = .converting) (hqueue : .id p ∉ s.meter.queue) :
    (detachedRest p s).meter.inFlightChannel ≠ some (.id p) :=
  abandonMeasure_stops (s := s.modBook p fun _ => Book.detached s.msCount) h hqueue

theorem detachedRecords_own (p : Port) (s : State) : (detachedRecords p s).table.own.get p = none := by
  simp [detachedRecords, State.setOwn]

theorem detachedRecords_pool (p : Port) (s : State) : ∀ k ∈ (detachedRecords p s).keys, k.1 ≠ p := by
  rw [(detachedRecords_spec p s).2.2.1]
  simp

/-- The detach of a port before its notice is posted. -/
def detachServed (p : Port) (s : State) : State := serve (detachedAll p s)

theorem detachPort_served (p : Port) (s : State) : detachPort p s = postPartner noticeDetached p (detachServed p s) := rfl

/-- What of the parts stands from the detached contract on, up to the service. -/
theorem detachServed_from (p : Port) (s : State) : ChangesOnly
    (.book p :: .notice (.capture p) :: .converter :: (everyPort .measure ++ supplyParts)) (detachedContract p s)
    (detachServed p s) := by
  refine .trans (.trans ((detachedRecords_changes p _).mono ?_) ((detachedRest_parts p _).mono ?_))
    ((serve_changes _).mono ?_)
  · intro x hx
    simp only [supplyParts, List.mem_append, List.mem_cons, mem_everyPort] at hx ⊢
    grind
  · intro x hx
    simp only [List.mem_append, List.mem_cons] at hx ⊢
    tauto
  · intro x hx
    simp only [List.mem_append, List.mem_cons]
    tauto

/-- The line, the monitor and the supply switch stand as the contract's part of the detach has left them. -/
theorem detachServed_line (p : Port) (s : State) :
    (detachServed p s).framer.get p = Framer.reset ∧ (detachServed p s).monitor.get p = (s.monitor.get p).detached
      ∧ (detachServed p s).supply.switchClosed.get p = false ∧ ∀ w ∈ (detachServed p s).supply.waitList, w.port ≠ p := by
  obtain ⟨hframer, hmonitor, -⟩ := detachedContract_spec p s
  obtain ⟨-, -, -, hsupply⟩ := detachedAll_spec p s
  have hrecords := detachedRecords_changes p (detachedContract p s)
  have hrest := detachedRest_parts p (detachedRecords p (detachedContract p s))
  have hwaits : ∀ w ∈ (detachedAll p s).supply.waitList, w.port ≠ p := by
    rw [hsupply]
    simp
  obtain ⟨hwaits', hframer', hmonitor', hswitch⟩ := serve_unserved p (detachedAll p s) hwaits
  refine ⟨?_, ?_, ?_, hwaits'⟩
  · refine hframer'.trans (Eq.trans ?_ hframer)
    exact (hrest (.framer p) (by simp)).trans (hrecords (.framer p) (by simp))
  · refine hmonitor'.trans (Eq.trans ?_ hmonitor)
    exact (hrest (.monitor p) (by simp)).trans (hrecords (.monitor p) (by simp))
  · refine hswitch.trans ?_
    rw [hsupply]
    simp

theorem detachServed_records (p : Port) (s : State) :
    (detachServed p s).table.own.get p = none ∧ ∀ r ∈ (detachServed p s).table.pool, r.port ≠ p := by
  have hrest := detachedRest_parts p (detachedRecords p (detachedContract p s))
  have hown : (detachedAll p s).table.own.get p = none :=
    (hrest (.own p) (by simp)).trans (detachedRecords_own p _)
  refine ⟨serve_own_none hown, fun r hr => ?_⟩
  have hkeys : (detachedAll p s).keys = (detachedRecords p (detachedContract p s)).keys :=
    congrArg (List.map fun r : PooledRecord => (r.port, r.branch)) (hrest .pool (by simp))
  have hmem : (r.port, r.branch) ∈ (detachServed p s).keys := List.mem_map_of_mem hr
  rw [detachServed, (serve_records _).2, hkeys] at hmem
  exact detachedRecords_pool p _ _ hmem

theorem exec_detach (hrun : s.inReset = false) :
    exec (.detach p) s = .next (if (s.monitor.get p).detachExpired then detachPort p s else s) := exec_of_running rfl hrun

theorem detachPort_parts (p : Port) (s : State) : ChangesOnly (sequencerParts ++ everyPort .measure
    ++ [.book p, .converter, .notice (.partner p), .notice (.capture p)]) s (detachPort p s) := by
  rw [detachPort_served]
  refine .trans (.trans ((detachedContract_changes p s).mono ?_) ((detachServed_from p s).mono ?_))
    ((postPartner_changes _ _ _).mono (by simp))
  · intro x hx
    simp only [List.mem_append]
    tauto
  · intro x hx
    have := @supply_seq_sub x
    simp only [List.mem_append, List.mem_cons] at hx ⊢
    tauto

/-- Settles O8. -/
theorem detachClearsThePort : Obligations.DetachClearsThePort := by
  intro s p hrun
  refine ⟨fun hattached hlow htimer => ?_, fun hno => ?_⟩
  · obtain ⟨-, -, ⟨o, hcontract⟩, hdraws, hdraw, hloss⟩ := detachedContract_spec p s
    obtain ⟨hframer, hmonitor, hswitch, hwaits⟩ := detachServed_line p s
    obtain ⟨hown, hpool⟩ := detachServed_records p s
    have hfrom := detachServed_from p s
    have hserve := serve_changes (detachedAll p s)
    have hbefore := (detachedContract_changes p s).trans ((detachedRecords_changes p (detachedContract p s)).mono
      (l' := sequencerParts) (by
        intro x hx
        refine supply_seq_sub ?_
        simp only [supplyParts, List.mem_append, List.mem_cons, mem_everyPort] at hx ⊢
        grind))
    have hmeter : (detachedRecords p (detachedContract p s)).meter.port.get p = s.meter.port.get p :=
      hbefore (.measure p) (by simp [sequencerParts, supplyParts])
    obtain ⟨hqueue, -⟩ : (detachedRecords p (detachedContract p s)).meter.queue = s.meter.queue ∧ _ :=
      hbefore .converter (by simp [sequencerParts, supplyParts])
    obtain ⟨hqueue', hflight'⟩ : (detachServed p s).meter.queue = (detachedAll p s).meter.queue
        ∧ (detachServed p s).meter.inFlight = (detachedAll p s).meter.inFlight := hserve .converter (by simp [supplyParts])
    have hcontract' : (detachServed p s).contract.get p = (detachedContract p s).contract.get p :=
      hfrom (.contract p) (by simp [supplyParts])
    refine ⟨detachPort p s, ?_, hmonitor, ?_, ?_, ?_, ?_, ?_, ?_, ?_, fun q hq => ?_, ?_, ?_, hown, hpool, hwaits, hswitch,
      ?_, hframer, ?_, fun hphase => ?_, fun hphase hnot => ?_, ?_, ?_, detachPort_parts p s⟩
    · rw [exec_detach hrun, if_pos ((detachExpired_iff _).mpr ⟨hattached, hlow, htimer⟩)]
    all_goals rw [detachPort_served]
    iterate 7 exact (congrArg _ (hcontract'.trans hcontract)).trans rfl
    · show ((detachServed p s).contract.get q).drawClosed = _
      rw [show (detachServed p s).contract.get q = (detachedContract p s).contract.get q from
        hfrom (.contract q) (by simp [supplyParts]), hdraws q hq]
    · exact (show (detachServed p s).drawMonitor.get p = _ from hfrom (.drawMonitor p) (by simp [supplyParts])).trans hdraw
    · show ((detachServed p s).sequencer.demands.get p).loss = true
      rw [show (detachServed p s).sequencer.demands.get p = (detachedContract p s).sequencer.demands.get p from
        hfrom (.demands p) (by simp [supplyParts]), hloss]
    · refine (show (detachServed p s).book.get p = _ from hserve (.book p) (by simp [supplyParts])).trans ?_
      refine (detachedRest_book p _).trans ?_
      rw [show (detachedRecords p (detachedContract p s)).msCount = s.msCount from
        hbefore .clock (by simp [sequencerParts, supplyParts])]
      rfl
    · exact (show (detachServed p s).meter.port.get p = _ from hserve (.measure p) (by simp [supplyParts])).trans
        (detachedRest_measure p _)
    · show .id p ∉ (detachServed p s).meter.queue
      rw [hqueue']
      exact detachedRest_queue (by rw [hmeter]; exact hphase)
    · show (detachServed p s).meter.inFlight.map _ ≠ _
      rw [hflight']
      exact detachedRest_converter (by rw [hmeter]; exact hphase) (by rw [hqueue]; exact hnot)
    · refine (show _ = (detachServed p s).link.notices.get (.capture p) from
        postPartner_changes noticeDetached p (detachServed p s) (.notice (.capture p)) (by simp)).trans ?_
      exact (show (detachServed p s).link.notices.get (.capture p) = _ from
        hserve (.notice (.capture p)) (by simp [supplyParts])).trans (detachedRest_capture p _)
    · refine (post_notice (.partner p) noticeDetached _ (detachServed p s)).trans ?_
      have hsnapshot : snapshotOf ((detachServed p s).monitor.get p).state.code ((detachServed p s).classView p).code 0 0 = 0 := by
        have hstate : ((detachServed p s).monitor.get p).state = .empty := by rw [hmonitor]; rfl
        simp [State.classView, hstate, Attach.code, ClassView.code, snapshotOf]
      rw [hsnapshot, show (detachServed p s).link.notices.get (.partner p) = s.link.notices.get (.partner p) from
          (hfrom (.notice (.partner p)) (by simp [supplyParts])).trans
            (detachedContract_changes p s (.notice (.partner p)) (by simp [sequencerParts, supplyParts])),
        show (detachServed p s).msCount = s.msCount from
          (hfrom .clock (by simp [supplyParts])).trans (detachedContract_changes p s .clock (by simp [sequencerParts, supplyParts]))]
  · rw [exec_detach hrun, if_neg (mt (detachExpired_iff _).mp hno)]

end

end Sys2Proof.Machine
end

section
/-! PROOFS. Frames of the partner on the talk line (R8, R19 to R21, R34). -/

namespace Sys2Proof.Machine

open Sys2Proof

section
variable {s t u : State} {p q : Port} {f : RawFrame} {kind : BitVec 6} {c : Instr}

/-! ### What taking a frame leaves of the lines -/

/-- The frame of a command is what `receiveFrame` makes of it, and taking it leaves the soundness of every line. -/
theorem exec_of_received_keeps (h : receivedFrame c = some (p, kind, f)) : ∃ take : State → State,
    (∀ s, exec c s = running (receiveFrame p kind f take) s)
      ∧ ∀ u, (u.framer.get p).sending = none → u.attached p = true → Keeps [] u (take u) := by
  cases c with
  | badFrame q k g =>
    have hg : (frameGood k g && !g.begins) ≠ true := fun hg => by simp [receivedFrame, hg] at h
    obtain ⟨rfl, rfl, rfl⟩ : q = p ∧ k = kind ∧ g = f := by simpa [receivedFrame, hg] using h
    exact ⟨id, fun s => congrArg (fun step => running step s) (funext fun s => if_neg hg), fun u _ _ => .refl u⟩
  | otherKindFrame q k g =>
    have hk : isPowerKind k ≠ true := fun hk => by simp [receivedFrame, hk] at h
    obtain ⟨rfl, rfl, rfl⟩ : q = p ∧ k = kind ∧ g = f := by simpa [receivedFrame, hk] using h
    refine ⟨_, fun s => congrArg (fun step => running step s) (funext fun s => if_neg hk),
      fun u _ _ => takeTalking_keeps fun hb => ?_⟩
    dsimp only
    split
    · exact .refl u
    · exact .ite (forwardFrame_keeps q k g u) (withRecord_keeps (Or.inl hb) (forwardFrame_keeps q k g) u)
    · exact .ite (captureFrame_keeps q k g u) (withRecord_keeps (Or.inl hb) (captureFrame_keeps q k g) u)
  | announce q g =>
    cases h
    refine ⟨_, fun s => rfl, fun u hs ha => ?_⟩
    split
    · exact takeTalking_keeps fun _ => .ite (takeAnnounce_keeps hs ha) (protocolError_keeps p u)
    · exact .ite (takeAnnounce_keeps hs ha) (protocolError_keeps p u)
  | hold q g =>
    cases h
    refine ⟨_, fun s => rfl, fun u _ _ => ?_⟩
    split
    · exact takeTalking_keeps fun _ => .ite (takeHold_keeps p u) (.refl u)
    · exact .ite (takeHold_keeps p u) (protocolError_keeps p u)
  | offer q g =>
    cases h
    exact ⟨_, fun s => rfl, fun u _ _ => takeTalking_keeps fun _ => .ite (takeOffer_keeps p f u) (protocolError_keeps p u)⟩
  | grant q g =>
    cases h
    exact ⟨_, fun s => rfl, fun u _ _ => takeTalking_keeps fun _ => .ite (takeGrant_keeps p f u) (protocolError_keeps p u)⟩
  | deny q g =>
    cases h
    exact ⟨_, fun s => rfl, fun u _ _ => takeTalking_keeps fun _ => .ite (takeDeny_keeps p f u) (protocolError_keeps p u)⟩
  | ready q g =>
    cases h
    exact ⟨_, fun s => rfl, fun u _ _ => takeTalking_keeps fun _ => .ite (takeReady_keeps p f u) (protocolError_keeps p u)⟩
  | demand q g =>
    cases h
    exact ⟨_, fun s => rfl, fun u _ _ => takeTalking_keeps fun hb =>
      .ite (supplyDemand_keeps (Or.inl hb) _ _ u) (withRecord_keeps (Or.inl hb) (supplyDemand_keeps (Or.inl hb) _ _) u)⟩
  | retire q g =>
    cases h
    exact ⟨_, fun s => rfl, fun u _ _ => takeTalking_keeps fun _ => .ite (supplyRetire_keeps p _ u) (.refl u)⟩
  | partOnlyKindFrame q k g =>
    cases h
    exact ⟨_, fun s => rfl, fun u _ _ => protocolError_keeps p u⟩
  | _ => cases h

/-! ### The transmitter's look -/

theorem look_eq (f : Framer) : f.look
    = { f with sending := f.look.sending, engine := f.look.engine, relay := f.look.relay } := by
  obtain ⟨hunsound, hbad, hlatched, hexchange, hwaiting, hcapture, hincoming⟩ := look_keeps f
  cases hl : f.look
  simp_all

theorem look_of_busy {x : Framer} (h : x.quiet = false) : x.look = x := by simp [Framer.look, h]

theorem transmit_monitor_of_busy (h : (s.framer.get p).quiet = false) : (transmit p s).monitor = s.monitor := by
  simp [transmit, Framer.startsProbe, h]

theorem transmit_link (p : Port) (s : State) : (transmit p s).link = s.link := by
  unfold transmit
  split <;> rfl

theorem lineCleared_framer (p : Port) (s : State) :
    (lineCleared p s).framer.get p = { s.framer.get p with incoming := .quiet } := by simp [lineCleared]

theorem postPartner_framer (code : Byte) (p : Port) (s : State) : (postPartner code p s).framer = s.framer := rfl

theorem set_set {α : Type} (x : Four α) (p : Port) (a b : α) : (x.set p a).set p b = x.set p b := Four.ext_get fun q => by
  by_cases hq : q = p
  · simp [hq]
  · simp [hq]

/-! ### A bad frame (R20) -/

/-- The third bad frame in a row on a line that is not UNSOUND. -/
def Framer.thirdBad (x : Framer) : Prop := 3 ≤ x.badCount + 1 ∧ x.unsound = false

theorem countBad_of_third (h : (s.framer.get p).thirdBad) : countBad p s = postPartner noticeUnsound p
    (s.modFramer p fun f => { f with badCount := min (f.badCount + 1) 3, unsound := true, latchedUnsound := true }) := by
  obtain ⟨hcount, hsound⟩ := h
  have hn : min ((s.framer.get p).badCount + 1) 3 = 3 := Nat.min_eq_right hcount
  simp only [countBad, hn, hsound, decide_true, Bool.not_false, Bool.and_self, if_true]
  congr 1
  simp [State.modFramer, hn, set_set]

theorem countBad_of_other (h : ¬(s.framer.get p).thirdBad) : countBad p s
    = s.modFramer p fun f => { f with badCount := min (f.badCount + 1) 3 } := by
  unfold Framer.thirdBad at h
  unfold countBad
  dsimp only
  rw [if_neg]
  · simp [State.modFramer]
  · simp only [Bool.and_eq_true, decide_eq_true_eq, Bool.not_eq_true']
    exact fun hno => h ⟨by omega, hno.2⟩

/-- The framer once a bad frame has been counted, before the transmitter looks. -/
theorem countBad_framer (p : Port) (s : State) [Decidable (s.framer.get p).thirdBad] : (countBad p s).framer.get p
    = { s.framer.get p with
        badCount := min ((s.framer.get p).badCount + 1) 3
        unsound := if (s.framer.get p).thirdBad then true else (s.framer.get p).unsound
        latchedUnsound := if (s.framer.get p).thirdBad then true else (s.framer.get p).latchedUnsound } := by
  split
  · next h =>
    rw [countBad_of_third h, postPartner_framer]
    simp
  · next h =>
    rw [countBad_of_other h]
    simp

/-! ### No frame begins while one is on the line (R34) -/

/-- A frame of the partner stays on the line, and the part sends what it sent. -/
def busyLine (p : Port) (i : Incoming) (x : Option TalkTx) (s : State) : Prop :=
  (s.framer.get p).incoming = i ∧ (s.framer.get p).sending = x

theorem carryRelay_busyLine {i : Incoming} {x : Option TalkTx} (hi : i ≠ .quiet) (q : Port) (f : LinkFrame)
    (hs : busyLine p i x s) : busyLine p i x (carryRelay q f s).1 := by
  unfold carryRelay
  split_ifs
  · exact hs
  · exact hs
  · exact hs
  · exact hs
  · obtain ⟨hincoming, hsending⟩ := hs
    by_cases hq : p = q
    · subst hq
      have hbusy : ((s.modFramer p fun x => { x with relay := x.relay ++ [f.relayed] }).framer.get p).quiet = false := by
        simp [Framer.quiet, hincoming, hi]
      unfold busyLine
      rw [transmit_framer_same, look_of_busy hbusy]
      simpa using ⟨hincoming, hsending⟩
    · have h := transmit_changes q (s.modFramer q fun x => { x with relay := x.relay ++ [f.relayed] }) (.framer p)
        (by simp [placeParts, hq])
      unfold busyLine
      rw [show (transmit q _).framer.get p = _ from h]
      simpa [hq] using ⟨hincoming, hsending⟩

/-- The part begins no frame on a line where one of the partner stays. -/
def beginsNone (p : Port) (s t : State) : Prop :=
  (s.framer.get p).incoming ≠ .quiet → (t.framer.get p).incoming ≠ .quiet →
    (t.framer.get p).sending = (s.framer.get p).sending ∨ (t.framer.get p).sending = none

theorem beginsNone.of_framer (h : t.framer.get p = s.framer.get p) : beginsNone p s t := fun _ _ => .inl (by rw [h])

theorem reset_beginsNone (h : t.framer.get p = Framer.reset) : beginsNone p s t := fun _ hafter =>
  absurd (by rw [h]; rfl) hafter

theorem execRelayDown_beginsNone (p : Port) (h : execRelayDown s = .next t) : beginsNone p s t := fun hbefore _ => by
  have hkept := running_preserves (P := busyLine p (s.framer.get p).incoming (s.framer.get p).sending) h
    (takeCommand_preserves (fun {u v} hl hs => by
      have hframer : v.framer.get p = u.framer.get p := hl (.framer p) (by simp)
      unfold busyLine
      rwa [hframer]) (fun f u hu => ?_) s) ⟨rfl, rfl⟩
  · exact .inl hkept.2
  · unfold checkPort
    split
    · exact hu
    · split
      · exact carryRelay_busyLine hbefore _ f hu
      · exact hu

theorem begun_sending (q : Port) (s : State) : ((s.modFramer q Framer.begun).framer.get p).sending = (s.framer.get p).sending := by
  by_cases hq : p = q
  · simp [hq, Framer.begun]
  · simp [hq]

theorem execBarPort_framer (p : Port) (h : execBarPort s = .next t) : t.framer.get p = s.framer.get p :=
  running_preserves (P := fun u => u.framer.get p = s.framer.get p) h
    (takeCommand_preserves (fun hl hs => (show _ = _ from hl (.framer p) (by simp)).trans hs)
      (checkLength_preserves fun f u hu => by
        unfold checkPort
        split
        · dsimp only
          split
          · exact hu
          · exact (show _ = _ from bar_changes _ _ u (.framer p) (by simp)).trans hu
        · exact hu) s) rfl

theorem exec_beginsNone (p : Port) (h : exec c s = .next t) : beginsNone p s t := by
  by_cases hc : c = .powerOnReset
  · subst hc
    refine reset_beginsNone ((powerOnReset_changes h (.framer p) (by simp)).trans ?_)
    exact Four.get_const _ p
  · by_cases hend : ∃ a b d, c = .resetEnd a b d
    · obtain ⟨a, b, d, rfl⟩ := hend
      have ht : (if s.inReset then resetEnd a b d s else s) = t := Host.Outcome.next.inj h
      refine .of_framer ?_
      rw [← ht]
      split
      · exact resetEnd_changes a b d s (.framer p) (by simp [meterParts])
      · rfl
    · by_cases hrise : ∃ q, c = .presenceRise q
      · obtain ⟨q, rfl⟩ := hrise
        exact .of_framer (running_preserves (P := fun u => u.framer.get p = s.framer.get p)
          (id h : execPresenceRise q s = .next t) (fun hs => hs) rfl)
      · by_cases hbar : c = .barPort
        · subst hbar
          exact .of_framer (execBarPort_framer p h)
        · by_cases hrelay : c = .relayDown
          · subst hrelay
            exact execRelayDown_beginsNone p h
          · by_cases hbegun : ∃ q kind f, receivedFrame c = some (q, kind, f) ∧ f.begins = true
            · obtain ⟨q, kind, f, hr, hf⟩ := hbegun
              exact fun _ _ => .inl (running_preserves (P := fun u => (u.framer.get p).sending = (s.framer.get p).sending)
                ((exec_of_begun hr hf s).symm.trans h) (fun hs => (begun_sending q s).trans hs) rfl)
            · refine fun _ hafter => ((exec_keeps h ⟨hc, fun a b d he => hend ⟨a, b, d, he⟩, fun q hq => hrise ⟨q, hq⟩, hbar,
                hrelay, fun q kind f hr => ?_⟩).framers p).sending hafter
              exact Bool.eq_false_iff.mpr fun hf => hbegun ⟨q, kind, f, hr, hf⟩

/-! ### A frame at its end -/

theorem receiveFrame_of_lost (hends : f.begins = false) (hattached : s.attached p = true)
    (hloses : (s.framer.get p).losesFrame = true) (take : State → State) :
    receiveFrame p kind f take s = transmit p (lineCleared p s) := by
  simp [receiveFrame, hends, hattached, hloses]

theorem receiveFrame_of_bad (hattached : s.attached p = true) (h : s.hears p f) (hbad : frameGood kind f = false)
    (take : State → State) : receiveFrame p kind f take s = transmit p (countBad p (lineCleared p s)) := by
  obtain ⟨hends, hidle, hheard⟩ := h
  simp [receiveFrame, hends, hattached, Framer.losesFrame, hidle, hheard, hbad]

/-- The line looks for a frame once it is cleared. -/
theorem cleared_looks (hidle : (s.framer.get p).sending = none) : (s.framer.get p).lookedFrom ((lineCleared p s).framer.get p).look := by
  rw [lineCleared_framer]
  exact look_sends { s.framer.get p with incoming := .quiet } ((quiet_iff _).mpr ⟨hidle, rfl⟩)

/-- What a bad frame leaves of the port's line (R20). -/
theorem badFrame_spec (hidle : (s.framer.get p).sending = none) :
    let x := s.framer.get p
    let t := transmit p (countBad p (lineCleared p s))
    (t.framer.get p).badCount = min (x.badCount + 1) 3
      ∧ ((t.framer.get p).unsound = true ↔ x.unsound = true ∨ x.thirdBad)
      ∧ ((t.framer.get p).latchedUnsound = true ↔ x.latchedUnsound = true ∨ x.thirdBad)
      ∧ (t.framer.get p).exchange = x.exchange ∧ (t.framer.get p).waiting = x.waiting
      ∧ (t.framer.get p).capture = x.capture ∧ (t.framer.get p).incoming = .quiet ∧ x.lookedFrom (t.framer.get p) := by
  classical
  dsimp only
  obtain ⟨y, hy⟩ : ∃ y, y = (countBad p (lineCleared p s)).framer.get p := ⟨_, rfl⟩
  have hcounted := hy
  rw [countBad_framer] at hcounted
  simp only [lineCleared_framer] at hcounted
  have hthird : Framer.thirdBad { s.framer.get p with incoming := .quiet } ↔ (s.framer.get p).thirdBad := Iff.rfl
  obtain ⟨hunsound, hbad, hlatched, hexchange, hwaiting, hcapture, hincoming⟩ := look_keeps y
  have hlooks : y.lookedFrom y.look := look_sends y (by rw [quiet_iff, hcounted]; exact ⟨hidle, rfl⟩)
  rw [transmit_framer_same, ← hy, hunsound, hbad, hlatched, hexchange, hwaiting, hcapture, hincoming]
  have hlooked : (s.framer.get p).lookedFrom y.look := by
    unfold Framer.lookedFrom at hlooks ⊢
    rwa [show y.engine = (s.framer.get p).engine by rw [hcounted], show y.relay = (s.framer.get p).relay by rw [hcounted]] at hlooks
  refine ⟨by rw [hcounted], ?_, ?_, by rw [hcounted], by rw [hcounted], by rw [hcounted], by rw [hcounted], hlooked⟩
  · rw [hcounted]
    by_cases h : (s.framer.get p).thirdBad <;> simp [hthird, h]
  · rw [hcounted]
    by_cases h : (s.framer.get p).thirdBad <;> simp [hthird, h]

theorem badFrame_notice (p : Port) (s : State) :
    let t := transmit p (countBad p (lineCleared p s))
    ((s.framer.get p).thirdBad → t.link.notices.get (.partner p)
      = some (postTo (s.link.notices.get (.partner p)) noticeUnsound
          (snapshotOf (s.monitor.get p).state.code (s.classView p).code 0 0) s.msCount))
      ∧ (¬(s.framer.get p).thirdBad → t.link.notices = s.link.notices) := by
  have hthird : ((lineCleared p s).framer.get p).thirdBad ↔ (s.framer.get p).thirdBad := by
    rw [lineCleared_framer]
    exact Iff.rfl
  dsimp only
  rw [transmit_link]
  refine ⟨fun h => ?_, fun h => ?_⟩
  · rw [countBad_of_third (hthird.mpr h), postPartner_notice_same]
    rfl
  · rw [countBad_of_other (mt hthird.mp h)]
    rfl

/-- What a good frame leaves of every line's soundness (R20, R21). -/
theorem goodFrame_spec {take : State → State}
    (htake : Keeps [] (countGood p (lineCleared p s)) (take (countGood p (lineCleared p s)))) :
    let t := transmit p (take (countGood p (lineCleared p s)))
    (t.framer.get p).badCount = 0 ∧ (t.framer.get p).unsound = false
      ∧ (t.framer.get p).latchedUnsound = (s.framer.get p).latchedUnsound ∧ (t.framer.get p).incoming = .quiet
      ∧ ∀ q, q ≠ p → (t.framer.get q).badCount = (s.framer.get q).badCount
          ∧ (t.framer.get q).unsound = (s.framer.get q).unsound
          ∧ (t.framer.get q).latchedUnsound = (s.framer.get q).latchedUnsound := by
  have hkeeps := htake.trans (transmit_keeps (free := []) p (take (countGood p (lineCleared p s))))
  have hown := hkeeps.framers p
  obtain ⟨hbad, hunsound, hlatched⟩ := hown.sound (by simp)
  have hcounted := counted_framer s p
  unfold State.counted at hcounted
  rw [hcounted] at hbad hunsound hlatched
  refine ⟨hbad, hunsound, hlatched, hown.quiet (by rw [hcounted]), fun q hq => ?_⟩
  obtain ⟨hbad, hunsound, hlatched⟩ := (hkeeps.framers q).sound (by simp)
  have hsame : (countGood p (lineCleared p s)).framer.get q = s.framer.get q := counted_changes p s (.framer q) (by simp [hq])
  rw [hsame] at hbad hunsound hlatched
  exact ⟨hbad, hunsound, hlatched⟩

/-- Settles O10. -/
theorem receivedFramesMoveTheLine : Obligations.ReceivedFramesMoveTheLine := by
  refine ⟨fun c s p kind f hr hrun => ?_, fun c s t p h => exec_beginsNone p h⟩
  obtain ⟨take, hexec, htake⟩ := exec_of_received_keeps hr
  have hnext : exec c s = .next (receiveFrame p kind f take s) := (hexec s).trans (running_free _ hrun)
  dsimp only
  refine ⟨fun hbegins => ?_, fun hends hno => ?_, fun hends hattached hlost => ?_, fun hattached hhears hbad => ?_,
    fun harrives => ?_⟩
  · refine ⟨s.modFramer p Framer.begun, ?_, modFramer_changes s p _, ?_⟩
    · rw [exec_of_begun hr hbegins, running_free _ hrun]
    · rw [State.modFramer_framer, Four.get_set_same, Framer.begun]
      cases (s.framer.get p).sending <;> rfl
  · refine ⟨lineCleared p s, ?_, lineCleared_changes p s, lineCleared_framer p s⟩
    rw [hnext]
    simp [receiveFrame, hends, hno]
  · have hloses : (s.framer.get p).losesFrame = true := by
      simpa [Framer.losesFrame, Option.isSome_iff_ne_none] using hlost
    refine ⟨transmit p (lineCleared p s), ?_, ?_, fun hsending => ⟨?_, ?_⟩, fun hidle => ⟨?_, ?_⟩⟩
    · rw [hnext, receiveFrame_of_lost hends hattached hloses]
    · exact .then (lineCleared_changes p s) (transmit_changes p _) (by simp) (by simp [placeParts])
    · have hbusy : Framer.quiet { s.framer.get p with incoming := .quiet } = false := by
        rw [← Bool.not_eq_true, quiet_iff]
        exact fun h => hsending h.1
      rw [transmit_framer_same, lineCleared_framer, look_of_busy hbusy]
    · rw [transmit_monitor_of_busy]
      · rfl
      · rw [lineCleared_framer, ← Bool.not_eq_true, quiet_iff]
        exact fun h => hsending h.1
    · rw [transmit_framer_same]
      exact cleared_looks hidle
    · rw [transmit_framer_same, lineCleared_framer]
      exact look_eq _
  · obtain ⟨hcount, hunsound, hlatched, hexchange, hwaiting, hcapture, hincoming, hlooked⟩ := badFrame_spec hhears.2.1
    obtain ⟨hthird, hother⟩ := badFrame_notice p s
    refine ⟨transmit p (countBad p (lineCleared p s)), ?_, hcount, hunsound, hlatched, hexchange, hwaiting, hcapture, hincoming,
      hlooked, hthird, hother, ?_⟩
    · rw [hnext, receiveFrame_of_bad hattached hhears hbad]
    · exact (((lineCleared_changes p s).mono (by simp)).trans ((countBad_changes p _).mono (by simp))).trans
        ((transmit_changes p _).mono (by simp [placeParts]))
  · obtain ⟨-, hattached, ⟨-, hidle, -⟩, -⟩ := id harrives
    have hcounted := counted_framer s p
    unfold State.counted at hcounted
    refine ⟨transmit p (take (countGood p (lineCleared p s))), ?_, goodFrame_spec (htake _ (by rw [hcounted]; exact hidle) hattached)⟩
    rw [hnext, receiveFrame_of_arrives harrives]

end

end Sys2Proof.Machine
end

section
/-! PROOFS. Frames that a rule turns away (R8, R15, R22 to R24, R42, R43). -/

namespace Sys2Proof.Machine

open Sys2Proof

section
variable {s t u : State} {p q : Port} {f : RawFrame} {kind : BitVec 6} {c : Instr}

/-- A kind that only the part sends. -/
def partOnlyKind (kind : BitVec 6) : Prop := 0x09 ≤ kind.toNat ∧ kind.toNat ≤ 0x0D

/-- A frame of one of the branches that the port's partner has. -/
def State.inRange (s : State) (p : Port) (f : RawFrame) : Prop := f.branch.toNat ≤ s.branchCount p ∧ f.branch ≠ 7

/-- A frame that is a protocol error. -/
def State.faultFrame (s : State) (p : Port) (kind : BitVec 6) (f : RawFrame) : Prop :=
  partOnlyKind kind
    ∨ (s.monitor.get p).state = .talking ∧ f.branch = 7
    ∨ (s.monitor.get p).state = .talking ∧ s.inRange p f ∧ lengthWrong kind f = true
    ∨ (s.monitor.get p).state = .talking ∧ s.inRange p f ∧ f.branch ≠ 0 ∧ 0x01 ≤ kind.toNat ∧ kind.toNat ≤ 0x05
    ∨ (s.monitor.get p).state ≠ .talking ∧ kind ≠ kindAnnounce ∧ kind ≠ kindHold
    ∨ (s.monitor.get p).state ≠ .talking ∧ (f.branch ≠ 0 ∨ lengthWrong kind f = true)
    ∨ kind = kindAnnounce ∧ f.branch = 0 ∧ (announceFields f.payload).passes = false
    ∨ kind = kindOffer ∧ f.branch = 0 ∧ (s.supplies p = false ∨ readPoints f.payload = none)
    ∨ kind = kindHold ∧ f.branch = 0 ∧ (s.framer.get p).exchangeDue = false

/-- A fault that the kind's own routing finds, on a port of either sort. -/
def State.routedFault (s : State) (p : Port) (kind : BitVec 6) (f : RawFrame) : Prop :=
  f.branch ≠ 0 ∧ (0x01 ≤ kind.toNat ∧ kind.toNat ≤ 0x05 ∨ (s.monitor.get p).state ≠ .talking)
    ∨ kind = kindAnnounce ∧ f.branch = 0 ∧ (announceFields f.payload).passes = false
    ∨ kind = kindOffer ∧ f.branch = 0 ∧ (s.supplies p = false ∨ readPoints f.payload = none)
    ∨ kind = kindHold ∧ f.branch = 0 ∧ (s.framer.get p).exchangeDue = false

theorem branchCount_of_zero (h : f.branch = 0) : f.branch.toNat ≤ s.branchCount p := by simp [h]

/-- No frame at fault is from a branch above the count, which is answered. -/
theorem State.faultFrame.branch_le (h : s.faultFrame p kind f) (hkind : ¬partOnlyKind kind)
    (htalking : (s.monitor.get p).state = .talking) (hseven : f.branch ≠ 7) : f.branch.toNat ≤ s.branchCount p := by
  rcases h with h | ⟨-, h⟩ | ⟨-, h, -⟩ | ⟨-, h, -⟩ | ⟨h, -⟩ | ⟨h, -⟩ | ⟨-, h, -⟩ | ⟨-, h, -⟩ | ⟨-, h, -⟩
  · exact absurd h hkind
  · exact absurd h hseven
  · exact h.1
  · exact h.1
  · exact absurd htalking h
  · exact absurd htalking h
  · exact branchCount_of_zero h
  · exact branchCount_of_zero h
  · exact branchCount_of_zero h

/-- What passes the tests of R22 is turned away by its own routing. -/
theorem State.faultFrame.routed (h : s.faultFrame p kind f) (hkind : ¬partOnlyKind kind)
    (hstate : (s.monitor.get p).state = .talking ∨ kind = kindAnnounce ∨ kind = kindHold) (hseven : f.branch ≠ 7)
    (hlength : lengthWrong kind f = false) : s.routedFault p kind f := by
  rcases h with h | ⟨-, h⟩ | ⟨-, -, h⟩ | ⟨-, -, h⟩ | ⟨hno, ha, hh⟩ | ⟨hno, h | h⟩ | h | h | h
  · exact absurd h hkind
  · exact absurd h hseven
  · exact absurd (hlength.symm.trans h) (by simp)
  · exact .inl ⟨h.1, .inl h.2⟩
  · rcases hstate with h | h | h
    · exact absurd h hno
    · exact absurd h ha
    · exact absurd h hh
  · exact .inl ⟨h, .inr hno⟩
  · exact absurd (hlength.symm.trans h) (by simp)
  · exact .inr (.inl h)
  · exact .inr (.inr (.inl h))
  · exact .inr (.inr (.inr h))

/-- A frame at fault on a port where its routing turns it away. -/
theorem takeTalking_of_fault {route : State → State} (h : s.faultFrame p kind f) (hkind : ¬partOnlyKind kind)
    (hroute : (s.monitor.get p).state = .talking → s.routedFault p kind f → route s = protocolError p s) :
    takeTalking p kind f route s = protocolError p s := by
  unfold takeTalking
  split
  · rfl
  · next htalking =>
    rw [not_not] at htalking
    split
    · rfl
    · next hseven =>
      rw [if_neg (Nat.not_lt.mpr (h.branch_le hkind htalking hseven))]
      split
      · rfl
      · next hlength => exact hroute htalking (h.routed hkind (.inl htalking) hseven (by simpa using hlength))

/-- A fault of the other kinds is that of a branch 1 to 6. -/
theorem State.routedFault.upper (h : s.routedFault p kind f) (hannounce : kind ≠ kindAnnounce) (hoffer : kind ≠ kindOffer)
    (hhold : kind ≠ kindHold) :
    f.branch ≠ 0 ∧ (0x01 ≤ kind.toNat ∧ kind.toNat ≤ 0x05 ∨ (s.monitor.get p).state ≠ .talking) := by
  rcases h with h | h | h | h
  · exact h
  · exact absurd h.1 hannounce
  · exact absurd h.1 hoffer
  · exact absurd h.1 hhold

/-- No fault is found in a kind of which every branch's frames are taken. -/
theorem State.routedFault.absurd_of (h : s.routedFault p kind f) (htalking : (s.monitor.get p).state = .talking)
    (hannounce : kind ≠ kindAnnounce) (hoffer : kind ≠ kindOffer) (hhold : kind ≠ kindHold)
    (hlow : ¬(0x01 ≤ kind.toNat ∧ kind.toNat ≤ 0x05)) : False := by
  obtain ⟨-, h | h⟩ := h.upper hannounce hoffer hhold
  · exact hlow h
  · exact h htalking

theorem notPartOnly {kind : BitVec 6} (h : kind.toNat ≤ 0x08 := by decide) : ¬partOnlyKind kind := fun hk =>
  absurd hk.1 (by omega)

theorem takeAnnounce_of_fault (hroute : s.routedFault p kindAnnounce f) :
    (if f.branch = 0 then takeAnnounce p f s else protocolError p s) = protocolError p s := by
  split
  · next hzero =>
    rcases hroute with h | ⟨-, -, h⟩ | h | h
    · exact absurd hzero h.1
    · simp [takeAnnounce, h]
    · exact absurd h.1 (by decide)
    · exact absurd h.1 (by decide)
  · rfl

theorem takeOffer_of_fault (hroute : s.routedFault p kindOffer f) :
    (if f.branch = 0 then takeOffer p f s else protocolError p s) = protocolError p s := by
  split
  · next hzero =>
    rcases hroute with h | h | ⟨-, -, h | h⟩ | h
    · exact absurd hzero h.1
    · exact absurd h.1 (by decide)
    · simp [takeOffer, h]
    · simp [takeOffer, h]
    · exact absurd h.1 (by decide)
  · rfl

theorem takeHold_of_fault (hroute : s.routedFault p kindHold f) (hzero : f.branch = 0) : takeHold p s = protocolError p s := by
  rcases hroute with h | h | h | ⟨-, -, h⟩
  · exact absurd hzero h.1
  · exact absurd h.1 (by decide)
  · exact absurd h.1 (by decide)
  · simp [takeHold, h]

/-- A fault of a kind that a port takes that is not TALKING, too. -/
theorem State.faultFrame.routed_of_length (h : s.faultFrame p kind f) (hkind : kind = kindAnnounce ∨ kind = kindHold)
    (hzero : f.branch = 0) (hlength : lengthWrong kind f = false) : s.routedFault p kind f := by
  refine h.routed ?_ (.inr hkind) (by simp [hzero]) hlength
  rcases hkind with rfl | rfl <;> exact notPartOnly

theorem counted_faultFrame (h : s.faultFrame p kind f) : (s.counted p).faultFrame p kind f := by
  have hdue : ((s.counted p).framer.get p).exchangeDue = (s.framer.get p).exchangeDue := by
    rw [counted_framer]
    rfl
  unfold State.faultFrame at h ⊢
  rwa [hdue]

/-- A frame at fault of a kind that is taken from branch 0 alone, or from every branch. -/
theorem takeTalking_of_upper_fault {route : State → State} (h : s.faultFrame p kind f) (hkind : ¬partOnlyKind kind)
    (hannounce : kind ≠ kindAnnounce) (hoffer : kind ≠ kindOffer) (hhold : kind ≠ kindHold)
    (hroute : ¬(0x01 ≤ kind.toNat ∧ kind.toNat ≤ 0x05) ∨ (f.branch ≠ 0 → route s = protocolError p s)) :
    takeTalking p kind f route s = protocolError p s :=
  takeTalking_of_fault h hkind fun htalking hrouted => by
    rcases hroute with h | h
    · exact (hrouted.absurd_of htalking hannounce hoffer hhold h).elim
    · exact h (hrouted.upper hannounce hoffer hhold).1

theorem badFrame_not_arrives {k : BitVec 6} {g : RawFrame} (hr : receivedFrame (.badFrame q k g) = some (p, kind, f))
    (harrives : s.arrives p kind f) : False := by
  obtain ⟨-, -, ⟨hends, -⟩, hgood⟩ := harrives
  simp only [receivedFrame] at hr
  split at hr
  · cases hr
  · next hno =>
    cases hr
    exact absurd (by simp [hgood, hends]) hno

/-- The frame of a command that arrives is taken, and then the transmitter looks. -/
theorem exec_fault (hr : receivedFrame c = some (p, kind, f)) (harrives : s.arrives p kind f) (hfault : s.faultFrame p kind f) :
    exec c s = .next (transmit p (protocolError p (s.counted p))) := by
  have hrun := harrives.1
  have hf := counted_faultFrame hfault
  have hreaches {take : State → State} (hexec : exec c s = running (receiveFrame p kind f take) s)
      (htake : take (s.counted p) = protocolError p (s.counted p)) :
      exec c s = .next (transmit p (protocolError p (s.counted p))) := by
    rw [hexec, running_free _ hrun, receiveFrame_of_arrives harrives, htake]
  cases c with
  | badFrame q k g => exact (badFrame_not_arrives hr harrives).elim
  | otherKindFrame q k g =>
    have hk : isPowerKind k ≠ true := fun hk => by simp [receivedFrame, hk] at hr
    obtain ⟨rfl, rfl, rfl⟩ : q = p ∧ k = kind ∧ g = f := by simpa [receivedFrame, hk] using hr
    have hrange : ¬(1 ≤ k.toNat ∧ k.toNat ≤ 0x0D) := by simpa [isPowerKind] using hk
    refine hreaches (congrArg (fun step => running step s) (funext fun s => if_neg hk))
      (takeTalking_of_upper_fault hf (fun h => hrange ⟨le_trans (by decide) h.1, h.2⟩) ?_ ?_ ?_ (.inl fun h => hrange ⟨h.1, by omega⟩)) <;>
    · rintro rfl
      exact hrange (by decide)
  | partOnlyKindFrame q k g =>
    cases hr
    exact hreaches rfl rfl
  | announce q g =>
    cases hr
    refine hreaches rfl ?_
    split
    · exact takeTalking_of_fault hf notPartOnly fun _ h => takeAnnounce_of_fault h
    · split
      · next h => exact (if_pos h.1).symm.trans (takeAnnounce_of_fault (hf.routed_of_length (.inl rfl) h.1 h.2))
      · rfl
  | hold q g =>
    cases hr
    refine hreaches rfl ?_
    split
    · refine takeTalking_of_fault hf notPartOnly fun htalking h => ?_
      split
      · next hzero => exact takeHold_of_fault h hzero
      · next hzero =>
        rcases h with ⟨-, h | h⟩ | h | h | h
        · exact absurd h (by decide)
        · exact absurd htalking h
        · exact absurd h.1 (by decide)
        · exact absurd h.1 (by decide)
        · exact absurd h.2.1 hzero
    · split
      · next h => exact takeHold_of_fault (hf.routed_of_length (.inr rfl) h.1 h.2) h.1
      · rfl
  | offer q g =>
    cases hr
    exact hreaches rfl (takeTalking_of_fault hf notPartOnly fun _ h => takeOffer_of_fault h)
  | grant q g =>
    cases hr
    exact hreaches rfl
      (takeTalking_of_upper_fault hf notPartOnly (by decide) (by decide) (by decide) (.inr fun h => if_neg h))
  | deny q g =>
    cases hr
    exact hreaches rfl
      (takeTalking_of_upper_fault hf notPartOnly (by decide) (by decide) (by decide) (.inr fun h => if_neg h))
  | ready q g =>
    cases hr
    exact hreaches rfl
      (takeTalking_of_upper_fault hf notPartOnly (by decide) (by decide) (by decide) (.inr fun h => if_neg h))
  | demand q g =>
    cases hr
    exact hreaches rfl
      (takeTalking_of_upper_fault hf notPartOnly (by decide) (by decide) (by decide) (.inl (by decide)))
  | retire q g =>
    cases hr
    exact hreaches rfl
      (takeTalking_of_upper_fault hf notPartOnly (by decide) (by decide) (by decide) (.inl (by decide)))
  | _ => cases hr

theorem place_exchange (p : Port) (f : EngineFrame) (s : State) :
    ((place p f s).framer.get p).exchange = (s.framer.get p).exchange := by simp [place]

/-! ### A branch above the recorded count (R22) -/

theorem takeTalking_of_above (htalking : (s.monitor.get p).state = .talking) (hseven : f.branch ≠ 7)
    (habove : s.branchCount p < f.branch.toNat) (route : State → State) :
    takeTalking p kind f route s = answerDeny p f.branch.toNat .badBranch s := by
  rw [takeTalking, if_neg (not_not_intro htalking), if_neg hseven, if_pos habove]

/-- Every frame of a kind that the partner may send goes through the tests of R22 on a TALKING port. -/
theorem exec_of_received_talking (hr : receivedFrame c = some (p, kind, f)) (harrives : s.arrives p kind f)
    (htalking : (s.monitor.get p).state = .talking) (hkind : ¬partOnlyKind kind) :
    ∃ route, exec c s = .next (transmit p (takeTalking p kind f route (s.counted p))) := by
  have hrun := harrives.1
  have hreaches {take route : State → State} (hexec : exec c s = running (receiveFrame p kind f take) s)
      (htake : take (s.counted p) = takeTalking p kind f route (s.counted p)) :
      ∃ route, exec c s = .next (transmit p (takeTalking p kind f route (s.counted p))) :=
    ⟨route, by rw [hexec, running_free _ hrun, receiveFrame_of_arrives harrives, htake]⟩
  have hstate : ((s.counted p).monitor.get p).state = .talking := htalking
  cases c with
  | badFrame q k g => exact (badFrame_not_arrives hr harrives).elim
  | otherKindFrame q k g =>
    have hk : isPowerKind k ≠ true := fun hk => by simp [receivedFrame, hk] at hr
    obtain ⟨rfl, rfl, rfl⟩ : q = p ∧ k = kind ∧ g = f := by simpa [receivedFrame, hk] using hr
    exact hreaches (congrArg (fun step => running step s) (funext fun s => if_neg hk)) rfl
  | partOnlyKindFrame q k g =>
    cases hr
    exact absurd (by cases k <;> (unfold partOnlyKind; decide)) hkind
  | announce q g =>
    cases hr
    exact hreaches rfl (if_pos hstate)
  | hold q g =>
    cases hr
    exact hreaches rfl (if_pos hstate)
  | offer q g => cases hr; exact hreaches rfl rfl
  | grant q g => cases hr; exact hreaches rfl rfl
  | deny q g => cases hr; exact hreaches rfl rfl
  | ready q g => cases hr; exact hreaches rfl rfl
  | demand q g => cases hr; exact hreaches rfl rfl
  | retire q g => cases hr; exact hreaches rfl rfl
  | _ => cases hr

/-- Settles O11. -/
theorem framesAtFaultAreDiscarded : Obligations.FramesAtFaultAreDiscarded := by
  intro c s p kind f hr harrives
  refine ⟨fun hfault => ?fault, fun htalking hseven habove hkind => ?above⟩
  case fault =>
    refine ⟨_, exec_fault hr harrives hfault, ?_, ?_, ?_, fun hidle => ?_, ?_⟩
    · rw [transmit_link, protocolError, postPartner_notice_same]
      rfl
    · rw [transmit_framer_same, look_exchange, protocolError, postPartner_framer, counted_framer]
    · rw [transmit_framer_same, protocolError, postPartner_framer, counted_framer]
      exact (look_keeps _).2.2.2.2.2.1
    · obtain ⟨⟨hsending, hengine, hrelay⟩, -⟩ := hidle.counted
      rw [transmit_framer_same, protocolError, postPartner_framer, look_of_empty hengine hrelay]
      exact ⟨transmit_monitor_of_empty (by rwa [postPartner_framer]), hsending⟩
    · exact (((counted_changes p s).mono (by simp)).trans ((postPartner_changes _ p _).mono (by simp))).trans
        ((transmit_changes p _).mono (by simp [placeParts]))
  case above =>
    obtain ⟨route, hexec⟩ := exec_of_received_talking hr harrives htalking hkind
    rw [takeTalking_of_above (s := s.counted p) htalking hseven habove] at hexec
    have hprobing : ((s.counted p).monitor.get p).state ≠ .probing := by
      simp [show ((s.counted p).monitor.get p).state = .talking from htalking]
    refine ⟨_, hexec, ?_, ?_, fun hidle => ?_⟩
    · exact transmit_changes_after ((counted_changes p s).trans (place_changes_of_not_probing hprobing _)) (by simp [htalking])
        (by simp) (by simp)
    · rw [transmit_framer_same, look_exchange, answerDeny, place_exchange, counted_framer]
    · have hquiet := hidle.counted
      have hplaced := place_sends hquiet (f := .deny f.branch.toNat .badBranch) rfl
      refine ⟨place_transmit_sends hquiet rfl, ?_⟩
      rw [transmit_framer_same, answerDeny, look_of_not_quiet ((quiet_eq_false_iff _).mpr (.inl (by simp [hplaced]))), hplaced]
      exact ⟨rfl, hquiet.1.2.2⟩

end

end Sys2Proof.Machine
end

section
/-! PROOFS. An ANNOUNCE that makes a port TALKING (R6, R29, R51, R69). -/

namespace Sys2Proof.Machine

open Sys2Proof

section
variable {s t u : State} {p q : Port} {f : RawFrame} {a : AnnounceFields}

/-! ### The end of the PROBE exchange (R29) -/

theorem transmit_meter (p : Port) (s : State) : (transmit p s).meter = s.meter := by
  unfold transmit
  split <;> rfl

theorem endExchange_meter (p : Port) (s : State) : (endExchange p s).meter = s.meter := by
  unfold endExchange
  split
  · rfl
  · exact transmit_meter p _

theorem endProbe_meter (p : Port) (s : State) : (endProbe p s).meter = s.meter := by
  unfold endProbe
  dsimp only
  split
  · exact endExchange_meter p _
  · rfl

theorem endProbe_changes_of_not_probing (h : (s.monitor.get p).state ≠ .probing) :
    ChangesOnly [.framer p] s (endProbe p s) := by
  unfold endProbe
  dsimp only
  split
  · exact ((modFramer_changes s p _).trans (modFramer_changes _ p _)).trans
      (endExchange_changes_of_not_probing (s := (s.modFramer p _).modFramer p _) h)
  · exact modFramer_changes s p _

theorem startExchange_exchange (p : Port) (k : ExchangeKind) (s : State) : ((startExchange p k s).framer.get p).exchange
    = some { kind := k, condition := .queued, holds := 0, withdrawn := false } := by
  rw [startExchange, place_exchange]
  simp

/-- Once an exchange has ended, the port's exchange is one that waited. -/
theorem endExchange_exchange {e : Exchange} (h : ((endExchange p s).framer.get p).exchange = some e) :
    e.kind ∈ (s.framer.get p).waiting := by
  unfold endExchange at h
  split at h
  · simp at h
  · next k rest hwaiting =>
    rw [startExchange_exchange] at h
    cases h
    simp [hwaiting]

theorem endProbe_exchange {e : Exchange} (h : ((endProbe p s).framer.get p).exchange = some e) : e.kind ≠ .probe := by
  unfold endProbe at h
  dsimp only at h
  split at h
  · intro hprobe
    have hwaits := endExchange_exchange h
    simp [hprobe] at hwaits
  · next hno =>
    intro hprobe
    obtain ⟨kind, condition, holds, withdrawn⟩ := e
    exact hno condition holds withdrawn (by simpa [← hprobe] using h)

/-! ### The abandoned measurement (R69) -/

/-- The measurement of a port once abandoned in a phase that is not IDLE. -/
def PortMeasure.abandoned (r : PortMeasure) : PortMeasure :=
  { r with phase := .idle, previous := none, heldPeriod := none, measureFlag := false }

def Meter.withMeasure (m : Meter) (p : Port) (r : PortMeasure) : Meter := { m with port := m.port.set p r }

/-- The meter as it abandons the measurement of a port. -/
def Meter.abandon (p : Port) (m : Meter) : Meter :=
  let r := m.port.get p
  match r.phase with
  | .idle => m.withMeasure p { r with measureFlag := false }
  | .unresolved => m.withMeasure p r.abandoned
  | .queued => ({ m with queue := m.queue.filter (· ≠ .id p) } : Meter).withMeasure p r.abandoned
  | .converting =>
    (({ m with inFlight := if m.inFlightChannel = some (.id p) then none else m.inFlight } : Meter).withMeasure p r.abandoned).take

theorem abandonMeasure_meter (p : Port) (s : State) : (abandonMeasure p s).meter = s.meter.abandon p := by
  unfold abandonMeasure Meter.abandon
  dsimp only
  cases hphase : (s.meter.port.get p).phase
  case queued =>
    have hfilter : s.meter.queue.filter (· != .id p) = s.meter.queue.filter (· ≠ .id p) :=
      List.filter_congr fun c _ => by by_cases hc : c = .id p <;> simp [hc]
    simp only [State.modPortMeasure, State.modMeter, Meter.withMeasure, PortMeasure.abandoned, hfilter]
  case converting =>
    simp only [takeChannel, State.modMeter, State.modPortMeasure, Meter.withMeasure, PortMeasure.abandoned]
    split <;> rfl
  all_goals simp [State.modPortMeasure, Meter.withMeasure, PortMeasure.abandoned, hphase]

theorem Meter.take_of_empty {m : Meter} (h : m.queue = []) : m.take = m := by
  unfold Meter.take
  split
  · next hq => exact absurd (h.symm.trans hq) (by simp)
  · rfl

theorem Meter.take_of_head {m : Meter} {c : Channel} {rest : List Channel} (hfree : m.inFlight = none) (hqueue : m.queue = c :: rest) :
    m.take.queue = rest ∧ m.take.inFlight = some { channel := c, elapsed := 0, timebase := 0, edges := 0 }
      ∧ (∀ q, c = .id q → m.take.port.get q = { m.port.get q with phase := .converting })
      ∧ ∀ q, c ≠ .id q → m.take.port.get q = m.port.get q := by
  unfold Meter.take
  rw [hfree, hqueue]
  cases c with
  | id p =>
    refine ⟨rfl, rfl, fun q hq => ?_, fun q hq => ?_⟩
    · cases hq
      simp
    · have hne : q ≠ p := fun he => hq (by rw [he])
      simp [hne]
  | refLo => exact ⟨rfl, rfl, nofun, fun q _ => rfl⟩
  | refHi => exact ⟨rfl, rfl, nofun, fun q _ => rfl⟩

theorem Meter.take_port_other {m : Meter} (h : m.queue.head? ≠ some (.id q)) : m.take.port.get q = m.port.get q := by
  unfold Meter.take
  split
  · next c rest _ hqueue =>
    split
    · next r =>
      have hne : q ≠ r := fun he => h (by simp [hqueue, he])
      simp [hne]
    · rfl
    · rfl
  · rfl

theorem Meter.withMeasure_same (m : Meter) (p : Port) (r : PortMeasure) : (m.withMeasure p r).port.get p = r := by simp [Meter.withMeasure]

theorem Meter.withMeasure_other (m : Meter) (h : q ≠ p) (r : PortMeasure) : (m.withMeasure p r).port.get q = m.port.get q := by
  simp [Meter.withMeasure, h]

theorem Meter.abandon_other {m : Meter} (hq : q ≠ p) (h : (m.port.get p).phase ≠ .converting ∨ m.queue.head? ≠ some (.id q)) :
    (m.abandon p).port.get q = m.port.get q := by
  unfold Meter.abandon
  dsimp only
  split
  · exact Meter.withMeasure_other m hq _
  · exact Meter.withMeasure_other m hq _
  · exact Meter.withMeasure_other _ hq _
  · next hphase =>
    rw [Meter.take_port_other]
    · exact Meter.withMeasure_other _ hq _
    · exact h.resolve_left fun h => h hphase

theorem Meter.abandon_idle {m : Meter} (h : (m.port.get p).phase = .idle) :
    m.abandon p = m.withMeasure p { m.port.get p with measureFlag := false } := by simp only [Meter.abandon, h]

theorem Meter.abandon_unresolved {m : Meter} (h : (m.port.get p).phase = .unresolved) :
    m.abandon p = m.withMeasure p (m.port.get p).abandoned := by simp only [Meter.abandon, h]

theorem Meter.abandon_queued {m : Meter} (h : (m.port.get p).phase = .queued) :
    m.abandon p = ({ m with queue := m.queue.filter (· ≠ .id p) } : Meter).withMeasure p (m.port.get p).abandoned := by
  simp only [Meter.abandon, h]

/-- A port in conversion leaves the converter, which takes the head of the queue. -/
theorem Meter.abandon_converting {m : Meter} (h : (m.port.get p).phase = .converting)
    (hflight : m.inFlightChannel = some (.id p)) (hqueue : .id p ∉ m.queue) :
    (m.abandon p).port.get p = (m.port.get p).abandoned
      ∧ (m.queue = [] → (m.abandon p).queue = [] ∧ (m.abandon p).inFlight = none)
      ∧ ∀ c rest, m.queue = c :: rest → (m.abandon p).queue = rest
          ∧ (m.abandon p).inFlight = some { channel := c, elapsed := 0, timebase := 0, edges := 0 }
          ∧ ∀ q, c = .id q → (m.abandon p).port.get q = { m.port.get q with phase := .converting } := by
  have hmeter : m.abandon p = (({ m with inFlight := none } : Meter).withMeasure p (m.port.get p).abandoned).take := by
    simp only [Meter.abandon, h, hflight, if_true]
  obtain ⟨v, hv⟩ : ∃ v, v = ({ m with inFlight := none } : Meter).withMeasure p (m.port.get p).abandoned := ⟨_, rfl⟩
  have hlist : v.queue = m.queue := by rw [hv]; rfl
  have hfree : v.inFlight = none := by rw [hv]; rfl
  have hown : v.port.get p = (m.port.get p).abandoned := by rw [hv, Meter.withMeasure_same]
  rw [hmeter, ← hv]
  refine ⟨?_, fun hnone => ?_, fun c rest hcons => ?_⟩
  · rw [Meter.take_port_other, hown]
    rw [hlist]
    exact fun hhead => hqueue (List.mem_of_mem_head? (by simpa using hhead))
  · rw [Meter.take_of_empty (hlist.trans hnone)]
    exact ⟨hlist.trans hnone, hfree⟩
  · obtain ⟨h1, h2, h3, -⟩ := Meter.take_of_head hfree (hlist.trans hcons)
    refine ⟨h1, h2, fun q hq => ?_⟩
    have hne : q ≠ p := fun he => hqueue (by simp [hcons, hq, he])
    rw [h3 q hq, hv, Meter.withMeasure_other _ hne]

end

end Sys2Proof.Machine
end

section
/-! PROOFS. A port that enters TALKING, and one that is announced again (R6, R7, R16). -/

namespace Sys2Proof.Machine

open Sys2Proof

section
variable {s t u : State} {p q : Port} {f : RawFrame} {a : AnnounceFields}

/-! ### Entering TALKING (R6) -/

/-- The port with its record, its PROBE exchange ended and its measurement left. -/
def talkingMeasured (p : Port) (a : AnnounceFields) (s : State) : State :=
  if (s.monitor.get p).state = .probing then endProbe p (talkingRecord p a s)
  else abandonMeasure p (endProbe p (talkingRecord p a s))

/-- The port with its legacy book emptied, before the notice. -/
def talkingBook (p : Port) (a : AnnounceFields) (s : State) : State :=
  if (s.monitor.get p).state = .legacy then emptyBook p (talkingMeasured p a s) else talkingMeasured p a s

theorem enterTalking_eq (p : Port) (a : AnnounceFields) (s : State) :
    enterTalking p a s = postPartner noticeAnnounced p (talkingBook p a s) := rfl

theorem talkingRecord_state (p : Port) (a : AnnounceFields) (s : State) :
    ((talkingRecord p a s).monitor.get p).state = .talking := by simp [talkingRecord, State.setOwn]

theorem talkingRecord_changes (p : Port) (a : AnnounceFields) (s : State) :
    ChangesOnly [.own p, .monitor p] s (talkingRecord p a s) :=
  .then (setOwn_changes s p _) (modMonitor_changes _ p _) (by simp) (by simp)

theorem talkingMeasured_changes (p : Port) (a : AnnounceFields) (s : State) :
    ChangesOnly ([.framer p, .converter] ++ everyPort .measure) (talkingRecord p a s) (talkingMeasured p a s) := by
  have hprobe := (endProbe_changes_of_not_probing (s := talkingRecord p a s) (p := p)
    (by simp [talkingRecord_state])).mono (l' := [.framer p, .converter] ++ everyPort .measure) (by simp)
  exact .ite hprobe (hprobe.trans ((abandonMeasure_parts p _).mono fun x hx => by
    simp only [List.mem_append, List.mem_cons] at hx ⊢
    tauto))

theorem emptyBook_parts (p : Port) (s : State) : ChangesOnly [.book p, .demands p] s (emptyBook p s) :=
  .then (modBook_changes s p _) (raiseDemand_changes .revise p _) (by simp) (by simp)

/-- What an ANNOUNCE reaches once the port's record is written, before its notice. -/
def announcedParts (p : Port) : List Part :=
  [.framer p, .converter, .book p, .demands p] ++ everyPort .measure

theorem talkingBook_changes (p : Port) (a : AnnounceFields) (s : State) :
    ChangesOnly (announcedParts p) (talkingRecord p a s) (talkingBook p a s) := by
  have hmeasured := (talkingMeasured_changes p a s).mono (l' := announcedParts p) fun x hx => by
    simp only [announcedParts, List.mem_append, List.mem_cons] at hx ⊢
    tauto
  exact .ite (hmeasured.trans ((emptyBook_parts p _).mono (by simp [announcedParts]))) hmeasured

theorem enterTalking_after (p : Port) (a : AnnounceFields) (s : State) :
    ChangesOnly (.notice (.partner p) :: announcedParts p) (talkingRecord p a s) (enterTalking p a s) :=
  ((talkingBook_changes p a s).mono (List.subset_cons_self _ _)).trans
    ((postPartner_changes noticeAnnounced p _).mono (by simp [announcedParts]))

theorem enterTalking_own (p : Port) (a : AnnounceFields) (s : State) :
    (enterTalking p a s).table.own.get p = some (a.record (s.ownRecord p)) := by
  rw [show (enterTalking p a s).table.own.get p = (talkingRecord p a s).table.own.get p from
    enterTalking_after p a s (.own p) (by simp [announcedParts])]
  simp [talkingRecord, State.setOwn]

theorem enterTalking_monitor (p : Port) (a : AnnounceFields) (s : State) :
    (enterTalking p a s).monitor.get p = { s.monitor.get p with state := .talking, probeTimer := none } := by
  rw [show (enterTalking p a s).monitor.get p = (talkingRecord p a s).monitor.get p from
    enterTalking_after p a s (.monitor p) (by simp [announcedParts])]
  simp [talkingRecord, State.setOwn]

theorem emptyBook_meter (p : Port) (s : State) : (emptyBook p s).meter = s.meter := rfl

theorem emptyBook_framer (p : Port) (s : State) : (emptyBook p s).framer = s.framer := rfl

theorem abandonMeasure_framer (p : Port) (s : State) : (abandonMeasure p s).framer = s.framer := by
  unfold abandonMeasure
  split <;> rfl

theorem enterTalking_meter (p : Port) (a : AnnounceFields) (s : State) :
    (enterTalking p a s).meter = if (s.monitor.get p).state = .probing then s.meter else s.meter.abandon p := by
  have hbook : (enterTalking p a s).meter = (talkingMeasured p a s).meter := by
    show (talkingBook p a s).meter = _
    unfold talkingBook
    split
    · exact emptyBook_meter p _
    · rfl
  rw [hbook]
  unfold talkingMeasured
  split
  · exact endProbe_meter p _
  · rw [abandonMeasure_meter, endProbe_meter]
    rfl

theorem enterTalking_framer (p : Port) (a : AnnounceFields) (s : State) :
    (enterTalking p a s).framer = (endProbe p (talkingRecord p a s)).framer := by
  show (talkingBook p a s).framer = _
  have hmeasured : (talkingMeasured p a s).framer = (endProbe p (talkingRecord p a s)).framer := by
    unfold talkingMeasured
    split
    · rfl
    · exact abandonMeasure_framer p _
  unfold talkingBook
  split
  · exact (emptyBook_framer p _).trans hmeasured
  · exact hmeasured

/-- A book emptied, with the demand it raises (R51). -/
theorem emptyBook_spec (p : Port) (s : State) :
    (emptyBook p s).book.get p = { s.book.get p with points := [], ratingEntry := none, stamp := s.msCount }
      ∧ (emptyBook p s).sequencer.demands.get p = { s.sequencer.demands.get p with revise := true } := by
  simp [emptyBook, raiseDemand, DemandSet.add]

theorem enterTalking_book (p : Port) (a : AnnounceFields) (s : State) :
    ((s.monitor.get p).state = .legacy →
        (enterTalking p a s).book.get p = { s.book.get p with points := [], ratingEntry := none, stamp := s.msCount }
          ∧ (enterTalking p a s).sequencer.demands.get p = { s.sequencer.demands.get p with revise := true })
      ∧ ((s.monitor.get p).state ≠ .legacy →
          (enterTalking p a s).book.get p = s.book.get p
            ∧ (enterTalking p a s).sequencer.demands.get p = s.sequencer.demands.get p) := by
  have hchanges := (talkingRecord_changes p a s).mono (l' := [.own p, .monitor p] ++ ([.framer p, .converter] ++ everyPort .measure))
    (by simp)
    |>.trans
      ((talkingMeasured_changes p a s).mono (List.subset_append_right _ _))
  have hbook : (talkingMeasured p a s).book.get p = s.book.get p := hchanges (.book p) (by simp)
  have hdemands : (talkingMeasured p a s).sequencer.demands.get p = s.sequencer.demands.get p := hchanges (.demands p) (by simp)
  have hcount : (talkingMeasured p a s).msCount = s.msCount := hchanges .clock (by simp)
  rw [enterTalking_eq, postPartner_book, postPartner_sequencer]
  unfold talkingBook
  refine ⟨fun h => ?_, fun h => ?_⟩
  · obtain ⟨hb, hd⟩ := emptyBook_spec p (talkingMeasured p a s)
    rw [if_pos h, hb, hd, hbook, hdemands, hcount]
    exact ⟨rfl, rfl⟩
  · rw [if_neg h]
    exact ⟨hbook, hdemands⟩

/-! ### The record of an ANNOUNCE (R6) -/

theorem classOfCode_ne_none (n : Nat) : classOfCode n ≠ some .none := by
  unfold classOfCode
  split <;> simp

theorem record_of_passes {old : PartnerRecord} (hnone : a.cls ≠ some .none) (h : a.passes = true) :
    a.cls = some (a.record old).cls ∧ (a.record old).vendor = some a.vendor ∧ (a.record old).model = some a.model
      ∧ (a.record old).branchCount = (if a.cls = some .dock then a.branchCount else 0)
      ∧ (a.record old).supplyPresent = (decide (a.cls = some .supplier) || (decide (a.cls = some .dock) && a.supplyPresent)) := by
  obtain ⟨c, hc⟩ : ∃ c, a.cls = some c := by
    simp only [AnnounceFields.passes, Bool.and_eq_true] at h
    exact Option.isSome_iff_exists.mp h.1
  cases c with
  | none => exact absurd hc hnone
  | supplier => simp [AnnounceFields.record, hc]
  | dock => simp [AnnounceFields.record, hc]
  | accessory => simp [AnnounceFields.record, hc]

/-- The class code that an ANNOUNCE carries is that of the port's class, once recorded (R194). -/
theorem classView_code {r : PartnerRecord} {n : Nat} (htalking : (s.monitor.get p).state = .talking)
    (hown : s.table.own.get p = some r) (hcode : classOfCode n = some r.cls) : (s.classView p).code = n := by
  have hcases : n = 1 ∧ r.cls = .supplier ∨ n = 2 ∧ r.cls = .dock ∨ n = 3 ∧ r.cls = .accessory := by
    unfold classOfCode at hcode
    split at hcode <;> simp_all
  rcases hcases with ⟨rfl, hc⟩ | ⟨rfl, hc⟩ | ⟨rfl, hc⟩ <;> simp [State.classView, htalking, hown, hc, ClassView.code]

theorem enterTalking_notice {n : Nat} (p : Port) (hcode : a.cls = classOfCode n) (h : a.passes = true) (s : State) :
    (enterTalking p a s).link.notices.get (.partner p)
      = some (postTo (s.link.notices.get (.partner p)) noticeAnnounced (snapshotOf 4 n 0 0) s.msCount) := by
  obtain ⟨hcls, -⟩ := record_of_passes (old := s.ownRecord p) (by rw [hcode]; exact classOfCode_ne_none n) h
  have hchanges := talkingBook_changes p a s
  have hmonitor : (talkingBook p a s).monitor.get p = (talkingRecord p a s).monitor.get p :=
    hchanges (.monitor p) (by simp [announcedParts])
  have hown : (talkingBook p a s).table.own.get p = (talkingRecord p a s).table.own.get p :=
    hchanges (.own p) (by simp [announcedParts])
  have hnotice : (talkingBook p a s).link.notices.get (.partner p) = s.link.notices.get (.partner p) :=
    (hchanges (.notice (.partner p)) (by simp [announcedParts])).trans rfl
  have hclock : (talkingBook p a s).msCount = s.msCount := (hchanges .clock (by simp [announcedParts])).trans rfl
  have hstate : ((talkingBook p a s).monitor.get p).state = .talking := by rw [hmonitor, talkingRecord_state]
  have hview : ((talkingBook p a s).classView p).code = n :=
    classView_code hstate (by rw [hown]; simp [talkingRecord, State.setOwn]) (hcode.symm.trans hcls)
  rw [enterTalking_eq, postPartner_notice_same, hnotice, hstate, hview, hclock]
  rfl

theorem enterTalking_parts (p : Port) (a : AnnounceFields) (s : State) : ChangesOnly
    ([.monitor p, .framer p, .own p, .book p, .demands p, .notice (.partner p), .converter] ++ everyPort .measure)
    s (enterTalking p a s) :=
  ((talkingRecord_changes p a s).mono (by simp)).trans ((enterTalking_after p a s).mono fun x hx => by
    simp only [announcedParts, List.mem_append, List.mem_cons] at hx ⊢
    tauto)

/-! ### ANNOUNCE (R6, R7) -/

theorem exec_announce_enters (h : s.arrives p kindAnnounce f) (hstate : (s.monitor.get p).state ≠ .talking)
    (hbranch : f.branch = 0) (hlength : f.payload.length = 6) (hpasses : (announceFields f.payload).passes = true) :
    exec (.announce p f) s = .next (transmit p (enterTalking p (announceFields f.payload) (s.counted p))) := by
  obtain ⟨hrun, -⟩ := id h
  have hlong : lengthWrong kindAnnounce f = false := by
    rw [show lengthWrong kindAnnounce f = (f.payload.length != 6) from rfl, hlength]
    rfl
  have hstate' : ((s.counted p).monitor.get p).state ≠ .talking := hstate
  have hexec : exec (.announce p f) s = _ := exec_of_running rfl hrun
  rw [hexec, receiveFrame_of_arrives h, if_neg hstate', if_pos ⟨hbranch, hlong⟩]
  simp only [takeAnnounce, hpasses, Bool.not_true, Bool.false_eq_true, if_false, if_neg hstate']

/-- Settles O12. -/
theorem announceEntersTalking : Obligations.AnnounceEntersTalking := by
  intro s p f harrives hstate hbranch hlength hpasses
  have hcode : (announceFields f.payload).cls = classOfCode (byteAt f.payload 0) := rfl
  have hexec := exec_announce_enters harrives hstate hbranch hlength hpasses
  revert hexec hcode hpasses
  generalize announceFields f.payload = a
  intro hpasses hcode hexec
  obtain ⟨hcls, hvendor, hmodel, hcount, hsupply⟩ :=
    record_of_passes (old := s.ownRecord p) (by rw [hcode]; exact classOfCode_ne_none _) hpasses
  obtain ⟨u, hu⟩ : ∃ u, u = enterTalking p a (s.counted p) := ⟨_, rfl⟩
  rw [← hu] at hexec
  have hmonitor : u.monitor.get p = { s.monitor.get p with state := .talking, probeTimer := none } := by
    rw [hu, enterTalking_monitor]
    rfl
  have hlooks : ChangesOnly [.framer p] u (transmit p u) := transmit_changes_of_not_probing (by simp [hmonitor])
  have hmeter : (transmit p u).meter = if (s.monitor.get p).state = .probing then s.meter else s.meter.abandon p := by
    rw [transmit_meter, hu, enterTalking_meter]
    rfl
  obtain ⟨hlegacy, hother⟩ := enterTalking_book p a (s.counted p)
  rw [← hu] at hlegacy hother
  have hbook : (transmit p u).book.get p = u.book.get p := hlooks (.book p) (by simp)
  have hdemands : (transmit p u).sequencer.demands.get p = u.sequencer.demands.get p := hlooks (.demands p) (by simp)
  refine ⟨transmit p u, hexec, (hlooks (.monitor p) (by simp)).trans hmonitor,
    ⟨a.record (s.ownRecord p), ?own, hcls, hvendor, hmodel, ?grant, fun hc => ?_, fun hc => ?_, fun hc => ?_⟩,
    fun e he => ?exchange, fun h => hmeter.trans (if_pos h), fun h => ?meter,
    fun h => ?_, fun h => ?_, ?notice, ?parts⟩
  case own =>
    rw [show (transmit p u).table.own.get p = u.table.own.get p from hlooks (.own p) (by simp), hu, enterTalking_own]
    rfl
  case grant =>
    rw [record_grant, State.ownRecord]
    cases s.table.own.get p <;> rfl
  case exchange =>
    rw [transmit_framer_same, look_exchange, hu, enterTalking_framer] at he
    exact endProbe_exchange he
  case meter =>
    rw [if_neg h] at hmeter
    rw [hmeter]
    refine ⟨fun q hq hphase => Meter.abandon_other hq hphase, fun hphase => ?_, fun hphase => ?_, fun hphase => ?_,
      fun hphase hflight hqueue => Meter.abandon_converting hphase hflight hqueue⟩
    · rw [Meter.abandon_idle hphase]
      exact ⟨Meter.withMeasure_same _ p _, rfl, rfl⟩
    · rw [Meter.abandon_unresolved hphase]
      exact ⟨Meter.withMeasure_same _ p _, rfl, rfl⟩
    · rw [Meter.abandon_queued hphase]
      exact ⟨Meter.withMeasure_same _ p _, rfl, rfl⟩
  case notice =>
    rw [transmit_link, hu]
    exact enterTalking_notice p hcode hpasses (s.counted p)
  case parts =>
    have hcounted := (counted_changes p s).mono
      (l' := [.monitor p, .framer p, .own p, .book p, .demands p, .notice (.partner p), .converter] ++ everyPort .measure) (by simp)
    exact (hcounted.trans (hu ▸ enterTalking_parts p a (s.counted p))).trans (hlooks.mono (by simp))
  · have hsupplier := hcls.trans (congrArg some hc)
    simpa [hsupplier] using And.intro hcount hsupply
  · have hdock := hcls.trans (congrArg some hc)
    simpa [hdock] using And.intro hcount hsupply
  · have hdock := hcls.trans (congrArg some hc)
    simpa [hdock] using And.intro hcount hsupply
  · rw [hbook, hdemands]
    exact hlegacy h
  · rw [hbook, hdemands]
    exact hother h

end

end Sys2Proof.Machine
end

section
/-! PROOFS. An ANNOUNCE on a TALKING port (R7, R16). -/

namespace Sys2Proof.Machine

open Sys2Proof

section
variable {s t u : State} {p q : Port} {b : Nat} {f : RawFrame} {a : AnnounceFields}

/-! ### What the Supply Unit leaves of a port's record and monitor -/

/-- Of the port's own record the grant alone has changed, and of its monitor nothing, where it is not PROBING. -/
def recordKept (p : Port) (s t : State) : Prop :=
  (∀ r, s.table.own.get p = some r → ∃ g, t.table.own.get p = some { r with grant := g })
    ∧ ((s.monitor.get p).state ≠ .probing → t.monitor.get p = s.monitor.get p)

theorem recordKept.of_same (hown : t.table.own.get p = s.table.own.get p) (hmonitor : t.monitor.get p = s.monitor.get p) :
    recordKept p s t :=
  ⟨fun r hr => ⟨r.grant, by rw [hown, hr]⟩, fun _ => hmonitor⟩

theorem recordKept.refl (p : Port) (s : State) : recordKept p s s := .of_same rfl rfl

theorem recordKept.of_changes {l : List Part} (h : ChangesOnly l s t) (hown : .own p ∉ l) (hmonitor : .monitor p ∉ l) :
    recordKept p s t := .of_same (h (.own p) hown) (h (.monitor p) hmonitor)

theorem recordKept.trans (h : recordKept p s t) (g : recordKept p t u) : recordKept p s u := by
  refine ⟨fun r hr => ?_, fun hs => ?_⟩
  · obtain ⟨x, hx⟩ := h.1 r hr
    obtain ⟨y, hy⟩ := g.1 _ hx
    exact ⟨y, hy⟩
  · have ht := h.2 hs
    exact (g.2 (by rwa [ht])).trans ht

theorem setGrant_recordKept (q : Port) (b : Nat) (g : Option Grant) (s : State) : recordKept p s (setGrant q b g s) := by
  unfold setGrant
  split
  · by_cases hq : p = q
    · subst hq
      exact ⟨fun r hr => ⟨g, by simp [State.setOwn, hr]⟩, fun _ => rfl⟩
    · exact .of_same (by simp [State.setOwn, hq]) rfl
  · exact .of_same rfl rfl

theorem place_recordKept (q : Port) (f : EngineFrame) (s : State) : recordKept p s (place q f s) := by
  refine ⟨fun r hr => ⟨r.grant, by rw [place_table, hr]⟩, fun h => ?_⟩
  by_cases hq : q = p
  · subst hq
    exact place_changes_of_not_probing h f (.monitor q) (by simp)
  · exact (place_other hq f s).2

theorem mapGrants_recordKept (f : Grant → Grant) (s : State) : recordKept p s (mapGrants f s) :=
  ⟨fun r hr => ⟨r.grant.map f, by simp [mapGrants, hr]⟩, fun _ => rfl⟩

theorem takeOrder_recordKept (s : State) : recordKept p s (takeOrder s) := by
  by_cases h : s.supply.orderCounter < 65535
  · exact .of_changes (takeOrder_parts h) (by simp) (by simp)
  · rw [takeOrder_of_full h, renumber_eq]
    exact (mapGrants_recordKept s.renumbered s).trans (.of_same rfl rfl)

theorem makeGrant_recordKept (q : Port) (b current requested : Nat) (s : State) :
    recordKept p s (makeGrant q b current requested s) := by
  rw [makeGrant_eq]
  exact (((takeOrder_recordKept s).trans (setGrant_recordKept q b _ _)).trans (place_recordKept q _ _)).trans (.of_same rfl rfl)

theorem serve_recordKept (s : State) : recordKept p s (serve s) :=
  serve_relates (rel := recordKept p) (recordKept.refl p) recordKept.trans
    (fun {s _ rest} _ _ => recordKept.trans (t := setWaitList rest s) (.of_same rfl rfl) (place_recordKept _ _ _))
    (fun {s _ rest} _ _ _ => recordKept.trans (t := setWaitList rest s) (.of_same rfl rfl) (makeGrant_recordKept _ _ _ _ _))
    (fun _ => .of_same rfl rfl) s

theorem giveUp_recordKept (q : Port) (b : Nat) (s : State) : recordKept p s (giveUp q b s) := by
  cases h : s.grantOf q b with
  | none =>
    rw [giveUp_of_none h]
    exact .of_same rfl rfl
  | some g =>
    rw [giveUp_of_grant h]
    exact (recordKept.trans (t := removeWait q b s) (.of_same rfl rfl) (setGrant_recordKept q b none _)).trans
      (.of_changes (openIfUnused_parts q _) (by simp) (by simp))

/-! ### Freed records (R16) -/

/-- The branches whose records are freed. -/
def goneBranches (p : Port) (count : Nat) (s : State) : List Nat :=
  (s.table.pool.filter fun r => r.port == p && decide (count < r.branch)).map PooledRecord.branch

/-- The state as the branches have given up their grants and records, before the service. -/
def freedBranches (p : Port) (l : List Nat) (s : State) : State := l.foldl (fun t b => freePooled p b (giveUp p b t)) s

theorem freeAbove_eq (p : Port) (count : Nat) (s : State) : freeAbove p count s
    = if (goneBranches p count s).isEmpty then s else serve (freedBranches p (goneBranches p count s) s) := rfl

theorem freedBranches_recordKept (l : List Nat) (s : State) : recordKept p s (freedBranches p l s) := by
  induction l generalizing s with
  | nil => exact .refl p s
  | cons b l ih => exact ((giveUp_recordKept p b s).trans (.of_same rfl rfl)).trans (ih (freePooled p b (giveUp p b s)))

theorem freeAbove_recordKept (count : Nat) (s : State) : recordKept p s (freeAbove p count s) := by
  rw [freeAbove_eq]
  split
  · exact .refl p s
  · exact (freedBranches_recordKept _ s).trans (serve_recordKept _)

theorem freed_keys (p : Port) (b : Nat) (s : State) :
    (freePooled p b (giveUp p b s)).keys = s.keys.filter fun k => !(k == (p, b)) := by
  rw [freePooled_keys_eq, (giveUp_records p b s).2]

theorem freedBranches_keys {l : List Nat} {s : State} {k : Port × Nat} (h : k ∈ (freedBranches p l s).keys) :
    k ∈ s.keys ∧ ∀ b ∈ l, k ≠ (p, b) := by
  induction l generalizing s with
  | nil => exact ⟨h, nofun⟩
  | cons b l ih =>
    obtain ⟨hk, hl⟩ := ih (s := freePooled p b (giveUp p b s)) h
    rw [freed_keys, List.mem_filter] at hk
    refine ⟨hk.1, fun c hc => ?_⟩
    rcases List.mem_cons.mp hc with rfl | hc
    · simpa using hk.2
    · exact hl c hc

theorem mem_goneBranches {count : Nat} (hkey : (p, b) ∈ s.keys) (hb : count < b) : b ∈ goneBranches p count s := by
  obtain ⟨r, hr, rfl, rfl⟩ := mem_keys_iff.mp hkey
  exact List.mem_map.mpr ⟨r, List.mem_filter.mpr ⟨hr, by simp [hb]⟩, rfl⟩

/-- No record above the count is left. -/
theorem freeAbove_keys {count : Nat} (h : (p, b) ∈ (freeAbove p count s).keys) : b ≤ count := by
  by_contra hb
  rw [Nat.not_le] at hb
  rw [freeAbove_eq] at h
  split at h
  · next hnone =>
    have hmem := mem_goneBranches h hb
    rw [List.isEmpty_iff.mp hnone] at hmem
    simp at hmem
  · rw [(serve_records _).2] at h
    obtain ⟨hkey, hgone⟩ := freedBranches_keys h
    exact hgone b (mem_goneBranches hkey hb) rfl

/-! ### ANNOUNCE on a TALKING port (R7) -/

/-- The port announced again, with the records above its count freed. -/
def announcedFreed (p : Port) (a : AnnounceFields) (s : State) : State :=
  if (a.record (s.ownRecord p)).branchCount < (s.ownRecord p).branchCount
  then freeAbove p (a.record (s.ownRecord p)).branchCount (announcedAgain p a s) else announcedAgain p a s

theorem reannounce_eq (p : Port) (a : AnnounceFields) (s : State) : reannounce p a s
    = if a.record (s.ownRecord p) ≠ s.ownRecord p then postPartner noticeAnnounced p (announcedFreed p a s)
      else announcedFreed p a s := rfl

theorem announcedAgain_changes (p : Port) (a : AnnounceFields) (s : State) :
    ChangesOnly [.own p, .book p, .demands p] s (announcedAgain p a s) := by
  have hown := (setOwn_changes s p (some (a.record (s.ownRecord p)))).mono (l' := [.own p, .book p, .demands p]) (by simp)
  exact .ite (hown.trans ((emptyBook_parts p _).mono (by simp))) hown

theorem announcedAgain_own (p : Port) (a : AnnounceFields) (s : State) :
    (announcedAgain p a s).table.own.get p = some (a.record (s.ownRecord p)) := by
  rw [(announcedAgain_rest p a s).1.1]
  simp [State.setOwn]

theorem announcedAgain_book (p : Port) (a : AnnounceFields) (s : State) :
    ((s.ownRecord p).supplies = true → (a.record (s.ownRecord p)).supplies = false →
        (announcedAgain p a s).book.get p = { s.book.get p with points := [], ratingEntry := none, stamp := s.msCount }
          ∧ (announcedAgain p a s).sequencer.demands.get p = { s.sequencer.demands.get p with revise := true })
      ∧ ((s.ownRecord p).supplies = false ∨ (a.record (s.ownRecord p)).supplies = true →
          (announcedAgain p a s).book.get p = s.book.get p
            ∧ (announcedAgain p a s).sequencer.demands.get p = s.sequencer.demands.get p) := by
  unfold announcedAgain
  refine ⟨fun hold hnew => ?_, fun h => ?_⟩
  · rw [if_pos (by simp [hold, hnew])]
    exact emptyBook_spec p (s.setOwn p (some (a.record (s.ownRecord p))))
  · rw [if_neg (by rcases h with h | h <;> simp [h])]
    exact ⟨rfl, rfl⟩

theorem announcedFreed_changes (p : Port) (a : AnnounceFields) (s : State) :
    ChangesOnly (supplyParts ++ [.book p, .demands p]) s (announcedFreed p a s) := by
  have hagain := (announcedAgain_changes p a s).mono (l' := supplyParts ++ [.book p, .demands p]) (by simp [supplyParts])
  exact .ite (hagain.trans ((freeAbove_changes p _ _).mono (List.subset_append_left _ _))) hagain

theorem announcedFreed_own (p : Port) (a : AnnounceFields) (s : State) :
    ∃ g, (announcedFreed p a s).table.own.get p = some { a.record (s.ownRecord p) with grant := g } := by
  have hown := announcedAgain_own p a s
  unfold announcedFreed
  split
  · exact (freeAbove_recordKept _ _).1 _ hown
  · exact ⟨_, hown⟩

theorem announcedFreed_monitor (h : (s.monitor.get p).state ≠ .probing) (a : AnnounceFields) :
    (announcedFreed p a s).monitor.get p = s.monitor.get p := by
  have hagain : (announcedAgain p a s).monitor.get p = s.monitor.get p := announcedAgain_changes p a s (.monitor p) (by simp)
  unfold announcedFreed
  split
  · rw [(freeAbove_recordKept _ _).2 (by rwa [hagain]), hagain]
  · exact hagain

theorem announcedFreed_pool {x : PooledRecord} (hx : x ∈ (announcedFreed p a s).table.pool) (hport : x.port = p)
    (hcount : (a.record (s.ownRecord p)).branchCount < (s.ownRecord p).branchCount) :
    x.branch ≤ (a.record (s.ownRecord p)).branchCount := by
  unfold announcedFreed at hx
  rw [if_pos hcount] at hx
  exact freeAbove_keys (mem_keys_iff.mpr ⟨x, hx, hport, rfl⟩)

theorem announcedFreed_of_kept (hcount : (s.ownRecord p).branchCount ≤ (a.record (s.ownRecord p)).branchCount) :
    (announcedFreed p a s).table.pool = s.table.pool ∧ (announcedFreed p a s).supply = s.supply
      ∧ (announcedFreed p a s).table.own.get p = some (a.record (s.ownRecord p)) := by
  obtain ⟨⟨htable, hsupply⟩, -⟩ := announcedAgain_rest p a s
  unfold announcedFreed
  rw [if_neg (Nat.not_lt.mpr hcount)]
  exact ⟨by rw [htable]; rfl, hsupply, announcedAgain_own p a s⟩

theorem exec_announce_again (h : s.takes p kindAnnounce f) (hbranch : f.branch = 0)
    (hpasses : (announceFields f.payload).passes = true) :
    exec (.announce p f) s = .next (transmit p (reannounce p (announceFields f.payload) (s.counted p))) := by
  obtain ⟨hrun, hstate, -, -, hseven, hrange, hlength⟩ := id h
  have hstate' : ((s.counted p).monitor.get p).state = .talking := hstate
  have hexec : exec (.announce p f) s = _ := exec_of_running rfl hrun
  rw [hexec, receiveFrame_of_arrives h.arrives, if_pos hstate',
    takeTalking_of_passes (s := s.counted p) hstate hseven hrange hlength, if_pos hbranch]
  simp only [takeAnnounce, hpasses, Bool.not_true, Bool.false_eq_true, if_false, if_pos hstate']

theorem record_supplies (hnone : a.cls ≠ some .none) (h : a.passes = true) (old : PartnerRecord) :
    (a.record old).supplies = (decide (a.cls = some .supplier) || (decide (a.cls = some .dock) && a.supplyPresent)) := by
  obtain ⟨hcls, -, -, -, hsupply⟩ := record_of_passes (old := old) hnone h
  rw [← hsupply]
  unfold PartnerRecord.supplies
  split
  · next hc => rw [hsupply]; simp [hcls, hc]
  · rfl
  · next hc => exact absurd (hcls.trans (congrArg some hc)) hnone
  · next hc => rw [hsupply]; simp [hcls, hc]

/-- The record is as it was exactly where each of its fields that an ANNOUNCE stores is. -/
theorem record_eq_iff (hnone : a.cls ≠ some .none) (h : a.passes = true) (old : PartnerRecord) : a.record old = old ↔
    a.cls = some old.cls ∧ (if a.cls = some .dock then a.branchCount else 0) = old.branchCount
      ∧ (decide (a.cls = some .supplier) || (decide (a.cls = some .dock) && a.supplyPresent)) = old.supplyPresent
      ∧ old.vendor = some a.vendor ∧ old.model = some a.model := by
  obtain ⟨hcls, hvendor, hmodel, hcount, hsupply⟩ := record_of_passes (old := old) hnone h
  have hgrant := record_grant a old
  rw [← hcount, ← hsupply, ← hvendor, ← hmodel, hcls]
  constructor
  · intro heq
    rw [heq]
    simp
  · rintro ⟨hc, hb, hs, hv, hm⟩
    revert hc hb hs hv hm hgrant
    cases a.record old
    cases old
    simp
    grind

theorem reannounce_parts (p : Port) (a : AnnounceFields) (s : State) :
    ChangesOnly [.notice (.partner p)] (announcedFreed p a s) (reannounce p a s) := by
  rw [reannounce_eq]
  exact .ite (postPartner_changes _ p _) ((ChangesOnly.refl [] _).mono (by simp))

theorem reannounce_supply (p : Port) (a : AnnounceFields) (s : State) :
    (reannounce p a s).table = (announcedFreed p a s).table ∧ (reannounce p a s).supply = (announcedFreed p a s).supply := by
  rw [reannounce_eq]
  split <;> exact ⟨rfl, rfl⟩

/-- After the book is emptied, or left, only records, grants and notices move. -/
theorem reannounce_after (p : Port) (a : AnnounceFields) (s : State) :
    ChangesOnly (.notice (.partner p) :: supplyParts) (announcedAgain p a s) (reannounce p a s) := by
  have hfreed : ChangesOnly (.notice (.partner p) :: supplyParts) (announcedAgain p a s) (announcedFreed p a s) :=
    .ite ((freeAbove_changes p _ _).mono (List.subset_cons_self _ _)) (.refl _ _)
  exact hfreed.trans ((reannounce_parts p a s).mono (by simp))

theorem reannounce_notice (p : Port) (a : AnnounceFields) (s : State) :
    (a.record (s.ownRecord p) = s.ownRecord p →
        (reannounce p a s).link.notices.get (.partner p) = s.link.notices.get (.partner p))
      ∧ (a.record (s.ownRecord p) ≠ s.ownRecord p → ∃ n, (reannounce p a s).link.notices.get (.partner p)
          = some (postTo (s.link.notices.get (.partner p)) noticeAnnounced n s.msCount)) := by
  have hchanges := announcedFreed_changes p a s
  have hnotice : (announcedFreed p a s).link.notices.get (.partner p) = s.link.notices.get (.partner p) :=
    hchanges (.notice (.partner p)) (by simp [supplyParts])
  have hclock : (announcedFreed p a s).msCount = s.msCount := hchanges .clock (by simp [supplyParts])
  rw [reannounce_eq]
  refine ⟨fun h => ?_, fun h => ?_⟩
  · rw [if_neg (not_not_intro h), hnotice]
  · rw [if_pos h, postPartner_notice_same, hnotice, hclock]
    exact ⟨_, rfl⟩

/-- Settles O13. -/
theorem announceOnATalkingPortUpdatesTheRecord : Obligations.AnnounceOnATalkingPortUpdatesTheRecord := by
  intro s p f old htakes hbranch hpasses hold
  have hcode : (announceFields f.payload).cls = classOfCode (byteAt f.payload 0) := rfl
  have hexec := exec_announce_again htakes hbranch hpasses
  have hprobing := htakes.counted_not_probing
  revert hexec hcode hpasses
  generalize announceFields f.payload = a
  intro hpasses hcode hexec
  have hnone : a.cls ≠ some .none := by rw [hcode]; exact classOfCode_ne_none _
  have hown : (s.counted p).ownRecord p = old := by
    show (s.table.own.get p).getD _ = old
    rw [hold]
    rfl
  obtain ⟨hcls, hvendor, hmodel, hcount, hsupply⟩ := record_of_passes (old := old) hnone hpasses
  have hsupplies := record_supplies hnone hpasses old
  have hsame := record_eq_iff hnone hpasses old
  have hafter := reannounce_after p a (s.counted p)
  have hparts := reannounce_parts p a (s.counted p)
  have hpool {x : PooledRecord} := announcedFreed_pool (p := p) (a := a) (s := s.counted p) (x := x)
  have hkept := announcedFreed_of_kept (p := p) (a := a) (s := s.counted p)
  obtain ⟨htable, hunit⟩ := reannounce_supply p a (s.counted p)
  obtain ⟨g, hg⟩ := announcedFreed_own p a (s.counted p)
  obtain ⟨hquiet, htold⟩ := reannounce_notice p a (s.counted p)
  obtain ⟨hemptied, hbook⟩ := announcedAgain_book p a (s.counted p)
  have hmonitor := (hparts (.monitor p) (by simp)).trans (announcedFreed_monitor hprobing a)
  rw [hown] at hkept hg hquiet htold hemptied hbook
  simp only [hown, hcount] at hpool
  rw [hcount] at hkept
  rw [hsupplies] at hemptied hbook
  have hlooks : ChangesOnly [.framer p] (reannounce p a (s.counted p)) (transmit p (reannounce p a (s.counted p))) :=
    transmit_changes_of_not_probing (by rwa [show (reannounce p a (s.counted p)).monitor.get p = _ from hmonitor])
  have hbooks := (hlooks (.book p) (by simp)).trans (hafter (.book p) (by simp [supplyParts]))
  have hdemands := (hlooks (.demands p) (by simp)).trans (hafter (.demands p) (by simp [supplyParts]))
  have hlast := transmit_table p (reannounce p a (s.counted p))
  refine ⟨_, { a.record old with grant := g }, hexec, ?own, hcls, hcount, hsupply, hvendor, hmodel,
    (hlooks (.monitor p) (by simp)).trans hmonitor, fun h1 h2 => ?emptied, fun h => ?kept, fun x hx hport hless => ?pool,
    fun hle => ?counted, fun h => ?quiet, fun h => ?told, ?parts⟩
  case own => rw [hlast, htable, hg]
  case emptied =>
    obtain ⟨h1, h2⟩ := hemptied h1 h2
    exact ⟨hbooks.trans h1, hdemands.trans h2⟩
  case kept =>
    obtain ⟨h1, h2⟩ := hbook h
    exact ⟨hbooks.trans h1, hdemands.trans h2⟩
  case pool =>
    rw [hlast, htable] at hx
    exact hpool hx hport hless
  case counted =>
    obtain ⟨hpool, hsupply, hrecord⟩ := hkept hle
    rw [hlast, htable, transmit_supply, hunit]
    refine ⟨hpool, hsupply, ?_⟩
    rw [hrecord] at hg
    have hgrant := congrArg PartnerRecord.grant (Option.some.inj hg)
    exact hgrant.symm.trans (record_grant a old)
  case quiet =>
    rw [transmit_link]
    exact hquiet (hsame.mpr h)
  case told =>
    rw [transmit_link]
    exact htold (mt hsame.mp h)
  case parts =>
    have hcounted := (counted_changes p s).mono (l' := supplyParts ++ [.book p, .demands p, .notice (.partner p)])
      (by simp [supplyParts])
    exact ((hcounted.trans ((announcedFreed_changes p a _).mono (by simp))).trans (hparts.mono (by simp))).trans
      (hlooks.mono (by simp [supplyParts]))

end

end Sys2Proof.Machine
end

section
/-! PROOFS. The cut of the joining ports (R119, R166). -/

namespace Sys2Proof.Machine

open Sys2Proof

section
variable {s t u : State} {p q : Port} {b : Nat}

/-! ### A port without grants -/

/-- No record of the port holds a grant. -/
def grantless (p : Port) (s : State) : Prop :=
  (∀ r, s.table.own.get p = some r → r.grant = none) ∧ ∀ r ∈ s.table.pool, r.port = p → r.grant = none

theorem portGrants_nil_iff (p : Port) (s : State) : s.portGrants p = [] ↔ grantless p s := by
  simp only [State.portGrants, State.grants, List.filter_append, List.append_eq_nil_iff, List.filter_eq_nil_iff,
    List.mem_filterMap, Option.map_eq_some_iff, Option.bind_eq_some_iff, forall_exists_index, and_imp, grantless, beq_iff_eq]
  refine and_congr ⟨fun h r hr => ?_, fun h g q _ a r hr ha hg hport => ?_⟩ ⟨fun h r hr hport => ?_, fun h g r hr a ha hg hport => ?_⟩
  · by_contra hno
    obtain ⟨a, ha⟩ := Option.ne_none_iff_exists'.mp hno
    exact h { port := p, branch := 0, grant := a } p (mem_allPorts p) a r hr ha rfl rfl
  · obtain rfl : q = p := by rw [← hport, ← hg]
    simp [h r hr] at ha
  · by_contra hno
    obtain ⟨a, ha⟩ := Option.ne_none_iff_exists'.mp hno
    exact h { port := r.port, branch := r.branch, grant := a } r hr a ha rfl hport
  · have hr' : r.port = p := by rw [← hport, ← hg]
    simp [h r hr hr'] at ha

theorem grantless.of_table (htable : t.table = s.table) (h : grantless p s) : grantless p t := by
  unfold grantless
  rwa [htable]

theorem grantless.setGrant_other (h : grantless p s) (hq : q ≠ p) (b : Nat) (g : Option Grant) :
    grantless p (setGrant q b g s) := by
  obtain ⟨hown, hpool⟩ := h
  unfold setGrant
  split
  · exact ⟨fun r hr => hown r (by simpa [State.setOwn, hq.symm] using hr), hpool⟩
  · refine ⟨hown, fun r hr hport => ?_⟩
    obtain ⟨x, hx, rfl⟩ := List.mem_map.mp hr
    split
    · next hfor =>
      have hxq : x.port = q := ((isFor_iff q b x).mp hfor).1
      exact absurd (hxq.symm.trans (by simpa [hfor] using hport)) hq
    · next hno => exact hpool x hx (by simpa [hno] using hport)

theorem grantless.mapGrants (h : grantless p s) (f : Grant → Grant) : grantless p (mapGrants f s) := by
  obtain ⟨hown, hpool⟩ := h
  refine ⟨fun r hr => ?_, fun r hr hport => ?_⟩
  · simp only [Machine.mapGrants, Four.get_map, Option.map_eq_some_iff] at hr
    obtain ⟨x, hx, rfl⟩ := hr
    simp [hown x hx]
  · obtain ⟨x, hx, rfl⟩ := List.mem_map.mp hr
    simp [hpool x hx hport]

theorem grantless.takeOrder (h : grantless p s) : grantless p (takeOrder s) := by
  by_cases hroom : s.supply.orderCounter < 65535
  · rw [takeOrder_of_room hroom]
    exact h
  · rw [takeOrder_of_full hroom, renumber_eq]
    exact h.mapGrants _

theorem grantless.makeGrant_other (h : grantless p s) (hq : q ≠ p) (b current requested : Nat) :
    grantless p (makeGrant q b current requested s) := by
  refine .of_table (makeGrant_table q b current requested s) (.of_table (place_table q _ _) ?_)
  exact h.takeOrder.setGrant_other hq b _

/-! ### A joining port stays cut (R119, R161) -/

/-- The port has no grant and an open supply switch. -/
def State.bare (s : State) (p : Port) : Prop := grantless p s ∧ s.supply.switchClosed.get p = false

/-- A joining port that is bare stays so. -/
def bareKept (p : Port) (s t : State) : Prop :=
  t.sequencer.transition = s.sequencer.transition ∧ (s.isJoining p = true → s.bare p → t.bare p)

theorem bareKept.refl (p : Port) (s : State) : bareKept p s s := ⟨rfl, fun _ h => h⟩

theorem isJoining_of_transition (h : t.sequencer.transition = s.sequencer.transition) (p : Port) :
    t.isJoining p = s.isJoining p := by
  unfold State.isJoining
  rw [h]

theorem bareKept.trans (h : bareKept p s t) (g : bareKept p t u) : bareKept p s u :=
  ⟨g.1.trans h.1, fun hjoins hs => g.2 ((isJoining_of_transition h.1 p).trans hjoins) (h.2 hjoins hs)⟩

theorem bareKept.of_same (htransition : t.sequencer.transition = s.sequencer.transition) (htable : t.table = s.table)
    (hswitch : t.supply.switchClosed = s.supply.switchClosed) : bareKept p s t :=
  ⟨htransition, fun _ h => ⟨h.1.of_table htable, by rw [hswitch]; exact h.2⟩⟩

theorem place_bareKept (q : Port) (f : EngineFrame) (s : State) : bareKept p s (place q f s) :=
  .of_same (place_still q f s).transition (place_table q f s) (by rw [place_supply])

theorem supplyBarred_of_joining (h : s.isJoining p = true) : s.supplyBarred p = true := by
  simp [State.supplyBarred, h]

theorem serve_bareKept (s : State) : bareKept p s (serve s) :=
  serve_relates (rel := bareKept p) (bareKept.refl p) bareKept.trans
    (fun {s _ rest} _ _ => bareKept.trans (t := setWaitList rest s) (.of_same rfl rfl rfl) (place_bareKept _ _ _))
    (fun {s w rest} _ hbarred _ => by
      refine bareKept.trans (t := setWaitList rest s) (.of_same rfl rfl rfl)
        ⟨(makeGrant_still _ _ _ _ _).transition, fun hjoins hbare => ?_⟩
      have hne : w.port ≠ p := fun he => hbarred (he ▸ supplyBarred_of_joining hjoins)
      refine ⟨hbare.1.makeGrant_other hne _ _ _, ?_⟩
      rw [makeGrant_supply]
      show ((setWaitList rest s).supply.switchClosed.set w.port true).get p = false
      rw [Four.get_set_other _ hne.symm]
      exact hbare.2)
    (fun _ => .of_same rfl rfl rfl) s

/-! ### The cut of one port (R166) -/

/-- No pooled record is numbered as the port's own. -/
def State.poolNumbered (s : State) : Prop := ∀ r ∈ s.table.pool, r.branch ≠ 0

theorem poolNumbered_of_records (h : sameRecords s t) (hs : s.poolNumbered) : t.poolNumbered := fun r hr => by
  have hkey : (r.port, r.branch) ∈ t.keys := mem_keys_iff.mpr ⟨r, hr, rfl, rfl⟩
  rw [h.2] at hkey
  obtain ⟨x, hx, -, hbranch⟩ := mem_keys_iff.mp hkey
  exact hbranch ▸ hs x hx

/-- Every grant of the port is one of a list's branches. -/
def grantsAmong (p : Port) (l : List GrantView) (s : State) : Prop :=
  (∀ r, s.table.own.get p = some r → r.grant ≠ none → ∃ g ∈ l, g.branch = 0)
    ∧ ∀ r ∈ s.table.pool, r.port = p → r.grant ≠ none → ∃ g ∈ l, g.branch = r.branch

theorem setGrant_grantsAmong {g : GrantView} {l : List GrantView} (hpool : s.poolNumbered)
    (h : grantsAmong p (g :: l) s) : grantsAmong p l (setGrant p g.branch none s) := by
  obtain ⟨hown, hgrants⟩ := h
  have htail {b : Nat} (hb : b ≠ g.branch) (h : ∃ x ∈ g :: l, x.branch = b) : ∃ x ∈ l, x.branch = b := by
    obtain ⟨x, hx, rfl⟩ := h
    rcases List.mem_cons.mp hx with rfl | hx
    · exact absurd rfl hb
    · exact ⟨x, hx, rfl⟩
  unfold setGrant
  split
  · next hzero =>
    refine ⟨fun r hr hgrant => ?_, fun r hr hport hgrant => htail (hzero ▸ hpool r hr) (hgrants r hr hport hgrant)⟩
    simp only [State.setOwn, Four.get_set_same, Option.map_eq_some_iff] at hr
    obtain ⟨x, -, rfl⟩ := hr
    exact absurd rfl hgrant
  · next hzero =>
    refine ⟨fun r hr hgrant => htail (Ne.symm hzero) (hown r hr hgrant), fun r hr hport hgrant => ?_⟩
    obtain ⟨x, hx, rfl⟩ := List.mem_map.mp hr
    by_cases hno : x.isFor p g.branch = true
    · rw [if_pos hno] at hgrant
      exact absurd rfl hgrant
    · rw [if_neg hno] at hport hgrant ⊢
      have hne : x.branch ≠ g.branch := fun he => hno ((isFor_iff p g.branch x).mpr ⟨hport, he⟩)
      exact htail hne (hgrants x hx hport hgrant)

theorem cutAll_grantless {l : List GrantView} (hpool : s.poolNumbered) (h : grantsAmong p l s) : grantless p (cutAll p l s) := by
  unfold cutAll
  induction l generalizing s with
  | nil =>
    obtain ⟨hown, hgrants⟩ := h
    refine ⟨fun r hr => ?_, fun r hr hport => ?_⟩
    · by_contra hno
      obtain ⟨g, hg, -⟩ := hown r hr hno
      simp at hg
    · by_contra hno
      obtain ⟨g, hg, -⟩ := hgrants r hr hport hno
      simp at hg
  | cons g l ih =>
    have htable := place_table p (.cut g.branch) (setGrant p g.branch none s)
    refine ih (s := place p (.cut g.branch) (setGrant p g.branch none s)) ?_ ?_
    · exact poolNumbered_of_records ((setGrant_records p g.branch none s).trans (records_of_table htable)) hpool
    · have hset := setGrant_grantsAmong hpool h
      unfold grantsAmong at hset ⊢
      rwa [htable]

theorem portGrants_among {l : List GrantView} (h : l.Perm (s.portGrants p)) : grantsAmong p l s := by
  have hmem (g : GrantView) (hg : g ∈ s.grants) (hport : g.port = p) : g ∈ l :=
    h.mem_iff.mpr (List.mem_filter.mpr ⟨hg, by simp [hport]⟩)
  refine ⟨fun r hr hgrant => ?_, fun r hr hport hgrant => ?_⟩
  · obtain ⟨a, ha⟩ := Option.ne_none_iff_exists'.mp hgrant
    refine ⟨{ port := p, branch := 0, grant := a }, hmem _ (List.mem_append_left _ (List.mem_filterMap.mpr ⟨p, mem_allPorts p, ?_⟩)) rfl, rfl⟩
    simp [hr, ha]
  · obtain ⟨a, ha⟩ := Option.ne_none_iff_exists'.mp hgrant
    refine ⟨{ port := r.port, branch := r.branch, grant := a },
      hmem _ (List.mem_append_right _ (List.mem_filterMap.mpr ⟨r, hr, ?_⟩)) hport, rfl⟩
    simp [ha]

theorem cutOff_bare (hpool : s.poolNumbered) : (cutOff p s).bare p := by
  obtain ⟨l, v, hl, hv, -, htable, hsupply⟩ := cutOff_core p s
  refine ⟨.of_table htable ?_, ?_⟩
  · rw [hv]
    exact cutAll_grantless hpool (portGrants_among (s := (takeFree s).2) hl)
  · rw [hsupply]
    exact Four.get_set_same _ p false

theorem cutOff_bareKept (hq : q ≠ p) (s : State) : bareKept p s (cutOff q s) := by
  obtain ⟨l, v, hl, hv, hstill, htable, hsupply⟩ := cutOff_core q s
  refine ⟨hstill.transition, fun _ hbare => ⟨.of_table htable ?_, ?_⟩⟩
  · rw [hv]
    have hfold (l : List GrantView) (u : State) (hu : grantless p u) : grantless p (cutAll q l u) := by
      unfold cutAll
      induction l generalizing u with
      | nil => exact hu
      | cons g l ih => exact ih _ (.of_table (place_table q _ _) (hu.setGrant_other hq g.branch none))
    exact hfold l _ hbare.1
  · rw [hsupply]
    show (s.supply.switchClosed.set q false).get p = false
    rw [Four.get_set_other _ hq.symm]
    exact hbare.2

/-- A cut port that joins stays bare through the service of the wait list. -/
theorem cutPort_bare (hpool : s.poolNumbered) (hjoins : s.isJoining p = true) : (cutPort p s).bare p := by
  obtain ⟨-, -, -, -, hstill, -, -⟩ := cutOff_core p s
  rw [cutPort_eq]
  exact (serve_bareKept (cutOff p s)).2 ((isJoining_of_transition hstill.transition p).trans hjoins) (cutOff_bare hpool)

theorem cutPort_bareKept (q : Port) (hpool : s.poolNumbered) : bareKept p s (cutPort q s) := by
  by_cases hq : q = p
  · subst hq
    exact ⟨(cutPort_supplied q s).transition, fun hjoins _ => cutPort_bare hpool hjoins⟩
  · rw [cutPort_eq]
    exact (cutOff_bareKept hq s).trans (serve_bareKept _)

theorem cutPort_records (p : Port) (s : State) : sameRecords s (cutPort p s) := by
  obtain ⟨l, v, -, hv, -, htable, -⟩ := cutOff_core p s
  have hF (t : State) (g : GrantView) (_ : g ∈ l) :
      (place p (.cut g.branch) (setGrant p g.branch none t)).table = (setGrant p g.branch none t).table := place_table _ _ _
  obtain ⟨hrecords, -⟩ := ended_fold (p := p) l hF (takeFree s).2
  have hcut : sameRecords s (cutOff p s) := by
    refine .trans (t := v) ?_ (records_of_table htable)
    rw [hv]
    exact hrecords
  rw [cutPort_eq]
  exact hcut.trans (serve_records _)

theorem cutPorts_bare (l : List Port) (s : State) (hpool : s.poolNumbered) (hjoins : s.isJoining p = true)
    (h : p ∈ l ∨ s.bare p) : (l.foldl (fun u p => cutPort p u) s).bare p := by
  induction l generalizing s with
  | nil => exact h.resolve_left (by simp)
  | cons q l ih =>
    have hkept := cutPort_bareKept (p := p) q hpool
    refine ih (cutPort q s) (poolNumbered_of_records (cutPort_records q s) hpool) ((isJoining_of_transition hkept.1 p).trans hjoins) ?_
    rcases h with h | h
    · rcases List.mem_cons.mp h with rfl | h
      · exact .inr (cutPort_bare hpool hjoins)
      · exact .inl h
    · exact .inr (hkept.2 hjoins h)

/-- Every joining port that was to be cut is bare. -/
theorem cutJoining_bare {l : List Port} (hpool : s.poolNumbered) (hp : p ∈ l) (hjoins : s.isJoining p = true) :
    (cutJoining l s).bare p := by
  obtain ⟨cut, hcut⟩ : ∃ cut, cut = l.filter fun p => s.supply.switchClosed.get p || !(s.portGrants p).isEmpty := ⟨_, rfl⟩
  have hstart : p ∈ cut ∨ s.bare p := by
    rw [hcut, List.mem_filter]
    by_cases hclosed : s.supply.switchClosed.get p = true
    · exact .inl ⟨hp, by simp [hclosed]⟩
    · by_cases hgrants : s.portGrants p = []
      · exact .inr ⟨(portGrants_nil_iff p s).mp hgrants, by simpa using hclosed⟩
      · exact .inl ⟨hp, by simp [hgrants]⟩
  have harranged (k : Nat) : p ∈ arrange k cut ∨ s.bare p := by rwa [(arrange_perm k cut).mem_iff]
  unfold cutJoining
  rw [← hcut]
  dsimp only
  split
  · exact cutPorts_bare _ (takeFree s).2 hpool hjoins (harranged _)
  · exact cutPorts_bare _ s hpool hjoins (harranged _)

end

end Sys2Proof.Machine
end

section
/-! PROOFS. The taking of a demand (R93, R115 to R119). -/

namespace Sys2Proof.Machine

open Sys2Proof

section
variable {s t u : State} {p q : Port} {cls : DemandClass} {pl : Plan}

/-! ### The demand that is taken (R115) -/

theorem rotationOrder_turn : ∀ r q : Port, (rotationOrder r)[(q - r - 1).val]? = some q := by decide

theorem turn_of_rotationOrder : ∀ (r : Port) (i : Fin 4) (q : Port), (rotationOrder r)[i.val]? = some q → (q - r - 1).val = i.val := by
  decide

/-- The first port in rotation for which a test holds is the one with the least turn. -/
theorem find_rotationOrder {f : Port → Bool} {r : Port} (hp : f p = true)
    (hleast : ∀ q, f q = true → (p - r - 1).val ≤ (q - r - 1).val) : (rotationOrder r).find? f = some p := by
  obtain ⟨hlt, hget⟩ := List.getElem?_eq_some_iff.mp (rotationOrder_turn r p)
  refine List.find?_eq_some_iff_getElem.mpr ⟨hp, _, hlt, hget, fun j hj => ?_⟩
  have hj4 : j < 4 := hj.trans (p - r - 1).isLt
  rw [Bool.not_eq_true']
  by_contra hno
  rw [Bool.not_eq_false] at hno
  have hturn := turn_of_rotationOrder r ⟨j, hj4⟩ _ (List.getElem?_eq_getElem (hj.trans hlt))
  have hle := hleast _ hno
  rw [hturn] at hle
  exact absurd hle (by simpa using hj)

/-- How the classes stand in priority. -/
def demandRank (c : DemandClass) : Nat :=
  match c with
  | .loss => 0
  | .revise => 1
  | .attach => 2
  | .review => 3

theorem next_of_first {x : Sequencer} (hp : (x.demands.get p).has cls = true)
    (hrank : ∀ c q, demandRank c < demandRank cls → (x.demands.get q).has c = false)
    (hturn : ∀ q, (x.demands.get q).has cls = true → (p - x.rotation - 1).val ≤ (q - x.rotation - 1).val) :
    x.next = some (cls, p) := by
  have hfind := find_rotationOrder (f := fun q => (x.demands.get q).has cls) hp hturn
  have hnone (c : DemandClass) (hc : demandRank c < demandRank cls) :
      (rotationOrder x.rotation).find? (fun q => (x.demands.get q).has c) = none :=
    List.find?_eq_none.mpr fun q _ => by simp [hrank c q hc]
  unfold Sequencer.next
  cases cls with
  | loss => simp [List.findSome?, hfind]
  | revise => simp [List.findSome?, hfind, hnone .loss (by decide)]
  | attach => simp [List.findSome?, hfind, hnone .loss (by decide), hnone .revise (by decide)]
  | review =>
    simp [List.findSome?, hfind, hnone .loss (by decide), hnone .revise (by decide), hnone .attach (by decide)]

theorem exec_takeDemand (hrun : s.inReset = false) (hservice : s.sequencer.inService = none)
    (hnext : s.sequencer.next = some (cls, p)) : exec .takeDemand s = .next (serveDemand cls p s) := by
  have hexec : exec .takeDemand s = _ := exec_of_running (f := fun s => match s.sequencer.takable with
    | some (c, p) => serveDemand c p s
    | none => s) rfl hrun
  rw [hexec]
  simp only [Sequencer.takable, hservice, hnext]

theorem planRecorded_changes (cls : DemandClass) (p : Port) (s : State) :
    ChangesOnly [.lastPlan, .demands p, .service] s (s.planRecorded cls p) := by
  intro part h
  cases part <;> simp_all [Part.same, State.planRecorded, State.demandTaken]

theorem selectPlan_demandTaken (p : Port) (s : State) : selectPlan (s.demandTaken p) = selectPlan s := rfl

/-! ### The plan in force (R116) -/

/-- A plan's entry is in force. -/
def drawing (s : State) (e : PlanEntry) : Prop :=
  e.action.isClaim = false ∧ (s.contract.get e.port).state = .active
    ∧ (s.contract.get e.port).drawClosed = true ∧ (s.contract.get e.port).role = e.role

theorem entryInForce_iff (s : State) (e : PlanEntry) : s.entryInForce e = true ↔ drawing s e := by
  simp [State.entryInForce, drawing, and_assoc]

theorem planInForce_iff (s : State) (pl : Plan) : s.planInForce pl = true ↔
    (∀ q, q ∉ pl.ports → (s.contract.get q).drawClosed = false ∧ (s.contract.get q).state = .idle)
      ∧ match pl with
        | .draw e none => drawing s e
        | .draw e (some e') => drawing s e ∧ drawing s e'
        | .base b => (s.contract.get b.port).state = .base ∧ (s.contract.get b.port).drawClosed = true
        | .empty => True := by
  have hrest : (allPorts.all fun p => pl.ports.contains p || (s.contract.get p).atRest) = true
      ↔ ∀ q, q ∉ pl.ports → (s.contract.get q).drawClosed = false ∧ (s.contract.get q).state = .idle := by
    simp only [List.all_eq_true, mem_allPorts, true_implies, Bool.or_eq_true, List.contains_iff_mem, Contract.atRest,
      Bool.and_eq_true, Bool.not_eq_true', beq_iff_eq]
    exact forall_congr' fun q => or_iff_not_imp_left
  unfold State.planInForce
  rw [Bool.and_eq_true, hrest, and_comm]
  refine and_congr_right fun _ => ?_
  split
  · exact entryInForce_iff s _
  · rw [Bool.and_eq_true, entryInForce_iff, entryInForce_iff]
  · simp
  · simp

/-! ### A transition that has begun (R117, R118) -/

/-- The transition runs on under its ceiling, or it has ended with its service. -/
def runsOrEnded (p : Port) (ceiling : Option Nat) (t : State) : Prop :=
  (t.sequencer.inService = some p ∧ t.sequencer.transition.isSome = true ∧ t.limit.ceiling = ceiling)
    ∨ (serviceEnded t ∧ t.sequencer.rotation = p)

theorem switching_ends {tr : Transition} (htr : s.sequencer.transition = some tr) (hservice : s.sequencer.inService = some p)
    (hleaving : ∀ q ∈ tr.leaving, q ∉ tr.plan.ports) :
    runsOrEnded p s.limit.ceiling (switching s) ∧ ∀ q, (switching s).sequencer.demands.get q = s.sequencer.demands.get q := by
  classical
  obtain ⟨hways, -⟩ := switchingTakesOneOfThreeWays s tr htr
  obtain ⟨hdone, hbreaks, hheld⟩ := hways hleaving
  have hport : s.servicePort = p := by simp [State.servicePort, hservice]
  rw [hport] at hheld
  by_cases hone : ∃ v, ∀ p, s.joins tr p ∨ s.leavesClosed tr p → s.drawsAt p v
  · obtain ⟨⟨hended, hrotation, -, -, -, -, -, -, hchanges⟩, -⟩ := hdone (.inl hone)
    exact ⟨.inr ⟨hended, hrotation.trans hport⟩, fun q => hchanges (.demands q) (by simp)⟩
  · by_cases hnone : ∀ p, ¬s.leavesClosed tr p
    · obtain ⟨⟨hended, hrotation, -, -, -, -, -, -, hchanges⟩, -⟩ := hdone (.inr hnone)
      exact ⟨.inr ⟨hended, hrotation.trans hport⟩, fun q => hchanges (.demands q) (by simp)⟩
    · cases hbattery : s.supervisor.batteryPresent with
      | true =>
        obtain ⟨hsequencer, -, -, -, hceiling, -⟩ := hbreaks hone hnone hbattery
        rw [hsequencer]
        exact ⟨.inl ⟨by rw [hsequencer]; exact hservice, by rw [hsequencer]; rfl, hceiling⟩, fun _ => rfl⟩
      | false =>
        obtain ⟨hended, hrotation, -, -, -, hchanges⟩ := hheld hone hnone hbattery
        exact ⟨.inr ⟨hended, hrotation⟩, fun q => hchanges (.demands q) (by simp)⟩

theorem claimState_runs (e : PlanEntry) (g : Stage) (h : s.sequencer.transition.isSome = true) :
    (claimState e g s).sequencer.transition.isSome = true ∧ (claimState e g s).limit.ceiling = s.limit.ceiling := by
  obtain ⟨tr, htr⟩ := Option.isSome_iff_exists.mp h
  unfold claimState
  rw [stepOut_eq]
  split
  · refine ⟨?_, rfl⟩
    show (Option.map _ (Option.map _ s.sequencer.transition)).isSome = true
    rw [htr]
    rfl
  · refine ⟨?_, rfl⟩
    show (Option.map _ s.sequencer.transition).isSome = true
    rw [htr]
    rfl

theorem startClaim_runs (e : PlanEntry) (g : Stage) (h : s.sequencer.transition.isSome = true) :
    (startClaim e g s).sequencer.transition.isSome = true ∧ (startClaim e g s).limit.ceiling = s.limit.ceiling := by
  rw [startClaim_eq]
  split
  · have hline := requestExchange_onLine e.port
      (.claim { generation := e.generation, point := e.point, voltage := e.voltage, current := e.requested })
      ((claimState e g s).modContract e.port (claimingContract e))
    rw [hline.service.2.2, hline.limit]
    exact claimState_runs e g h
  · exact claimState_runs e g h

theorem startClaim_ends (e : PlanEntry) (g : Stage) (htr : s.sequencer.transition.isSome = true)
    (hservice : s.sequencer.inService = some p) : runsOrEnded p s.limit.ceiling (startClaim e g s)
      ∧ ∀ q, (startClaim e g s).sequencer.demands.get q = s.sequencer.demands.get q := by
  obtain ⟨htransition, hceiling⟩ := startClaim_runs e g htr
  exact ⟨.inl ⟨(startClaim_inService e g s).trans hservice, htransition, hceiling⟩,
    fun q => startClaim_changes e g s (.demands q) (by simp [abortParts])⟩

theorem claimSecondary_ends {tr : Transition} (htr : s.sequencer.transition = some tr)
    (hservice : s.sequencer.inService = some p) (hleaving : ∀ q ∈ tr.leaving, q ∉ tr.plan.ports) (pl : Plan) :
    runsOrEnded p s.limit.ceiling (claimSecondary pl s)
      ∧ ∀ q, (claimSecondary pl s).sequencer.demands.get q = s.sequencer.demands.get q := by
  unfold claimSecondary
  split
  · split
    · exact startClaim_ends _ _ (by rw [htr]; rfl) hservice
    · exact switching_ends htr hservice hleaving
  all_goals exact switching_ends htr hservice hleaving

theorem runClaims_ends {tr : Transition} (htr : s.sequencer.transition = some tr)
    (hservice : s.sequencer.inService = some p) (hleaving : ∀ q ∈ tr.leaving, q ∉ tr.plan.ports) (pl : Plan) :
    runsOrEnded p s.limit.ceiling (runClaims pl s)
      ∧ ∀ q, (runClaims pl s).sequencer.demands.get q = s.sequencer.demands.get q := by
  unfold runClaims
  split
  · split
    · exact startClaim_ends _ _ (by rw [htr]; rfl) hservice
    · exact claimSecondary_ends htr hservice hleaving _
  all_goals exact claimSecondary_ends htr hservice hleaving _

/-! ### The beginning of a transition (R117 to R119) -/

/-- The state as the claims of a transition are run. -/
def transitionCut (pl : Plan) (s : State) : State :=
  cutJoining (s.joiningPorts pl) (ceilingFor pl (setTransition (some (s.transitionToward pl)) s))

theorem beginTransition_cut (pl : Plan) (s : State) : beginTransition pl s = runClaims pl (transitionCut pl s) := rfl

theorem ceilingFor_ceiling (h : pl ≠ .empty) (s : State) :
    (ceilingFor pl s).limit.ceiling = some (min s.limit.published (planLimit s.policy.active pl)) := by
  cases pl with
  | empty => exact absurd rfl h
  | draw e sec => rfl
  | base b => rfl

theorem ceilingFor_sequencer (pl : Plan) (s : State) : (ceilingFor pl s).sequencer = s.sequencer := by
  cases pl <;> rfl

theorem transitionCut_sequencer (pl : Plan) (s : State) : ∀ part, part ∉ .freeCount :: supplyParts →
    part.same (ceilingFor pl (setTransition (some (s.transitionToward pl)) s)) (transitionCut pl s) :=
  cutJoining_changes _ _

theorem leavingPorts_disjoint (s : State) (pl : Plan) (h : q ∈ s.leavingPorts pl) : q ∉ pl.ports := by
  simp only [State.leavingPorts, List.mem_filter, Bool.and_eq_true, Bool.not_eq_true', List.contains_eq_mem,
    decide_eq_false_iff_not] at h
  exact h.2.1

theorem beginTransition_ends (hservice : s.sequencer.inService = some p) (pl : Plan) :
    ∃ ceiling, runsOrEnded p ceiling (beginTransition pl s)
      ∧ (pl ≠ .empty → ceiling = some (min s.limit.published (planLimit s.policy.active pl)))
      ∧ ∀ q, (beginTransition pl s).sequencer.demands.get q = s.sequencer.demands.get q := by
  have hcut := transitionCut_sequencer pl s
  have hsequencer := ceilingFor_sequencer pl (setTransition (some (s.transitionToward pl)) s)
  obtain ⟨hin, -, htr⟩ : Part.service.same _ _ := hcut .service (by simp [supplyParts])
  have hlimit : (transitionCut pl s).limit = (ceilingFor pl (setTransition (some (s.transitionToward pl)) s)).limit :=
    hcut .limit (by simp [supplyParts])
  rw [hsequencer] at hin htr
  obtain ⟨hends, hdemands⟩ := runClaims_ends (s := transitionCut pl s) (tr := s.transitionToward pl) htr (hin.trans hservice)
    (fun q hq => leavingPorts_disjoint s pl hq) pl
  refine ⟨_, hends, fun hpl => ?_, fun q => (hdemands q).trans ?_⟩
  · rw [hlimit, ceilingFor_ceiling hpl]
    rfl
  · have hq : Part.same (.demands q) _ _ := hcut (.demands q) (by simp [supplyParts])
    exact hq.trans (by rw [hsequencer]; rfl)

theorem beginTransition_bare (hpool : s.poolNumbered) (hq : q ∈ pl.ports) (hopen : (s.contract.get q).drawClosed = false) :
    (beginTransition pl s).bare q := by
  obtain ⟨w, hw⟩ : ∃ w, w = ceilingFor pl (setTransition (some (s.transitionToward pl)) s) := ⟨_, rfl⟩
  have hjoining : q ∈ s.joiningPorts pl := List.mem_filter.mpr ⟨hq, by simp [hopen]⟩
  obtain ⟨htable, -⟩ : Unsupplied (setTransition (some (s.transitionToward pl)) s) w :=
    hw ▸ (ceilingFor_still pl (setTransition (some (s.transitionToward pl)) s)).2
  have hpool' : w.poolNumbered := by
    unfold State.poolNumbered
    rw [htable]
    exact hpool
  have hjoins : w.isJoining q = true := by
    refine (isJoining_iff w q).mpr ⟨s.transitionToward pl, ?_, hjoining⟩
    rw [hw, ceilingFor_sequencer]
    rfl
  obtain ⟨hgrantless, hswitch⟩ := cutJoining_bare (l := s.joiningPorts pl) hpool' hjoining hjoins
  rw [hw] at hgrantless hswitch
  obtain ⟨hsame, hsupply⟩ := runClaims_unsupplied pl (transitionCut pl s)
  rw [beginTransition_cut]
  exact ⟨hgrantless.of_table hsame, by rw [hsupply]; exact hswitch⟩

end

/-- Settles O30. -/
theorem takeDemandRunsSelection : Obligations.TakeDemandRunsSelection := by
  intro s cls p hrun hservice
  dsimp only
  intro hp hrank hturn
  have hnext : s.sequencer.next = some (cls, p) := next_of_first hp hrank hturn
  have hexec := exec_takeDemand hrun hservice hnext
  have hchanges := serveDemand_changes cls p s
  have hplan := selectPlan_demandTaken p s
  have hforce := planInForce_iff (s.planRecorded cls p) (selectPlan s)
  rw [serveDemand_eq, hplan] at hexec hchanges
  by_cases hin : (s.planRecorded cls p).planInForce (selectPlan s) = true
  · rw [if_pos hin] at hexec hchanges
    refine ⟨_, hexec, rfl, rfl, fun _ => ⟨rfl, rfl, ?_⟩, fun hno => absurd (hforce.mp hin) hno,
      fun hno => absurd (hforce.mp hin) hno, hchanges⟩
    exact (planRecorded_changes cls p s).trans ((endService_changes (s.planRecorded cls p)).mono (by simp))
  · rw [if_neg hin] at hexec hchanges
    obtain ⟨ceiling, hends, hceiling, hdemands⟩ := beginTransition_ends (s := s.planRecorded cls p) (p := p) rfl (selectPlan s)
    refine ⟨_, hexec, ?_, Four.ext_get hdemands, fun h => absurd (hforce.mpr h) hin, fun _ => ?_,
      fun _ hpool q hq hopen => ?_, hchanges⟩
    · exact beginTransition_seq _ _ .lastPlan (by decide)
    · refine hends.imp_left fun h => ⟨h.1, h.2.1, fun hpl => h.2.2.trans (hceiling hpl)⟩
    · obtain ⟨hgrantless, hswitch⟩ := beginTransition_bare (s := s.planRecorded cls p) hpool hq hopen
      exact ⟨(portGrants_nil_iff q _).mpr hgrantless, hswitch⟩

end Sys2Proof.Machine
end

section
/-! PROOFS. Frames of other kinds (R25 to R27). -/

namespace Sys2Proof.Machine

open Sys2Proof

section
variable {s t u : State} {p : Port} {b : Nat} {f : RawFrame} {kind : BitVec 6}

/-! ### The class of a kind (R25) -/

theorem classOfKind_eq (s : State) (kind : BitVec 6) : s.classOfKind kind
    = if h : 0x10 ≤ kind.toNat ∧ kind.toNat ≤ 0x2F then s.link.frameClass[kind.toNat - 0x10] else .capture := by
  unfold State.classOfKind
  by_cases hlow : 0x10 ≤ kind.toNat
  · by_cases hhigh : kind.toNat ≤ 0x2F
    · rw [if_pos hlow, dif_pos ⟨hlow, hhigh⟩, Vector.getElem?_eq_getElem]
      rfl
    · rw [if_pos hlow, dif_neg (fun h => hhigh h.2), Vector.getElem?_eq_none (by omega)]
      rfl
  · rw [if_neg hlow, dif_neg (fun h => hlow h.1)]

/-! ### The record that a frame finds (R15) -/

/-- The state in which a routed frame finds its record: branch 0 needs none of the pool. -/
def State.found (s : State) (p : Port) (b : Nat) : State := if b = 0 then s.counted p else s.atSupply p b

theorem found_changes (s : State) (p : Port) (b : Nat) : ChangesOnly [.framer p, .pool] s (s.found p b) :=
  .ite ((counted_changes p s).mono (by simp)) (atSupply_changes s p b)

theorem found_link (s : State) (p : Port) (b : Nat) : (s.found p b).link = s.link := by
  unfold State.found State.atSupply recorded
  split
  · rfl
  · split <;> rfl

theorem found_framer (s : State) (p : Port) (b : Nat) : (s.found p b).framer = (s.counted p).framer := by
  unfold State.found
  split
  · rfl
  · exact atSupply_framer s p b

theorem found_table (s : State) (p : Port) : (s.found p 0).table = s.table := rfl

theorem found_hasRecord (hb : b ≠ 0) (s : State) : (s.found p b).hasRecord p b = true := by
  rw [State.found, if_neg hb]
  exact recorded_hasRecord hb

theorem found_capture (s : State) (p : Port) (b : Nat) : ((s.found p b).framer.get p).capture = (s.framer.get p).capture := by
  rw [found_framer, counted_framer]

theorem State.lineIdle.found (h : s.lineIdle p) (b : Nat) : (s.found p b).lineQuiet p :=
  h.counted.of_framer (by rw [found_framer])

theorem State.takes.found_not_probing (h : s.takes p kind f) (b : Nat) : ((s.found p b).monitor.get p).state ≠ .probing := by
  rw [show (s.found p b).monitor.get p = s.monitor.get p from found_changes s p b (.monitor p) (by simp), h.talking]
  exact nofun

/-- What a frame that needs a record does once it has found it. -/
theorem withFound (hfinds : b = 0 ∨ s.findsRecord p b) (go : State → State) :
    (if b = 0 then go (s.counted p) else withRecord p b go (s.counted p)) = go (s.found p b) := by
  by_cases hb : b = 0
  · rw [if_pos hb, State.found, if_pos hb]
  · have hfinds' : (s.counted p).findsRecord p b := hfinds.resolve_left hb
    rw [if_neg hb, State.found, if_neg hb]
    exact withRecord_of_finds hfinds' go

/-! ### OTHER_KIND_FRAME -/

/-- What a kind's class makes of its frame. -/
def routedByClass (cls : FrameClass) (p : Port) (kind : BitVec 6) (f : RawFrame) : State → State :=
  match cls with
  | .discard => id
  | .forward => forwardFrame p kind f
  | .capture => captureFrame p kind f

theorem exec_otherKindFrame (h : s.takes p kind f) (hkind : ¬(0x01 ≤ kind.toNat ∧ kind.toNat ≤ 0x0D)) :
    exec (.otherKindFrame p kind f) s = .next (transmit p (
      if s.classOfKind kind = .discard then s.counted p
      else if f.branch.toNat = 0 then routedByClass (s.classOfKind kind) p kind f (s.counted p)
      else withRecord p f.branch.toNat (routedByClass (s.classOfKind kind) p kind f) (s.counted p))) := by
  obtain ⟨hrun, -⟩ := id h
  have hpower : ¬isPowerKind kind = true := by simpa [isPowerKind] using hkind
  have hexec : exec (.otherKindFrame p kind f) s = running (receiveFrame p kind f (takeTalking p kind f fun s =>
      match s.classOfKind kind with
      | .discard => s
      | .forward =>
        if f.branch.toNat = 0 then forwardFrame p kind f s else withRecord p f.branch.toNat (forwardFrame p kind f) s
      | .capture =>
        if f.branch.toNat = 0 then captureFrame p kind f s else withRecord p f.branch.toNat (captureFrame p kind f) s)) s :=
    congrArg (fun step => running step s) (funext fun s => if_neg hpower)
  rw [hexec, running_free _ hrun, receiveFrame_of_takes h]
  congr 2
  have hclass : (s.counted p).classOfKind kind = s.classOfKind kind := rfl
  rw [hclass]
  cases s.classOfKind kind with
  | discard => rfl
  | forward => rfl
  | capture => rfl

theorem hasRecord_of_table (h : t.table = s.table) (q : Port) (b : Nat) : t.hasRecord q b = s.hasRecord q b := by
  unfold State.hasRecord
  rw [h]

theorem routedByClass_table (cls : FrameClass) (p : Port) (kind : BitVec 6) (f : RawFrame) (s : State) :
    (routedByClass cls p kind f s).table = s.table := by
  cases cls with
  | discard => rfl
  | forward =>
    show (forwardFrame p kind f s).table = s.table
    unfold forwardFrame
    split
    · rfl
    · exact place_table p _ s
  | capture =>
    show (captureFrame p kind f s).table = s.table
    unfold captureFrame
    split
    · exact place_table p _ s
    · rfl

theorem exec_otherKindFrame_of_finds (h : s.takes p kind f) (hkind : ¬(0x01 ≤ kind.toNat ∧ kind.toNat ≤ 0x0D))
    (hclass : s.classOfKind kind ≠ .discard) (hfinds : f.branch.toNat = 0 ∨ s.findsRecord p f.branch.toNat) :
    exec (.otherKindFrame p kind f) s
      = .next (transmit p (routedByClass (s.classOfKind kind) p kind f (s.found p f.branch.toNat))) := by
  rw [exec_otherKindFrame h hkind, if_neg hclass, withFound hfinds]

/-- A HOLD that answers a frame, and the look that follows. -/
theorem transmit_answerHold (hquiet : s.lineQuiet p) (b : Nat) :
    ((transmit p (answerHold p b s)).framer.get p).sending = some (.engine (.hold b)) := place_transmit_sends hquiet rfl

theorem answered_changes (h : (s.monitor.get p).state ≠ .probing) (f : EngineFrame) :
    ChangesOnly [.framer p] s (transmit p (place p f s)) :=
  transmit_changes_after (place_changes_of_not_probing h f) h (by simp) (by simp)

theorem transmit_capture (p : Port) (s : State) : ((transmit p s).framer.get p).capture = (s.framer.get p).capture := by
  rw [transmit_framer_same]
  exact (look_keeps _).2.2.2.2.2.1

theorem place_capture (p : Port) (f : EngineFrame) (s : State) :
    ((place p f s).framer.get p).capture = (s.framer.get p).capture := by
  rw [place, transmit_capture]
  simp

theorem captureFrame_of_empty (h : (s.framer.get p).capture = none) : captureFrame p kind f s
    = post (.capture p) (BitVec.ofNat 8 kind.toNat) (snapshotOf f.branch.toNat 0 0 0)
        (s.modFramer p fun x => { x with capture := some { branch := f.branch, kind := kind, payload := f.payload } }) := by
  simp only [captureFrame, h]

theorem captureFrame_of_full (h : (s.framer.get p).capture ≠ none) : captureFrame p kind f s = answerHold p f.branch.toNat s := by
  obtain ⟨c, hc⟩ := Option.ne_none_iff_exists'.mp h
  simp only [captureFrame, hc]

end

/-- Settles O25. -/
theorem otherKindsGoByTheirClass : Obligations.OtherKindsGoByTheirClass := by
  intro s p kind f htakes hkind
  have hclassOf := classOfKind_eq s kind
  have hexec := exec_otherKindFrame htakes hkind
  have hfound := exec_otherKindFrame_of_finds htakes hkind
  rw [hclassOf] at hexec hfound
  dsimp only
  generalize (if h : 0x10 ≤ kind.toNat ∧ kind.toNat ≤ 0x2F then s.link.frameClass[kind.toNat - 0x10] else .capture) = cls
    at hexec hfound ⊢
  have hprobing : ((s.counted p).monitor.get p).state ≠ .probing := htakes.counted_not_probing
  refine ⟨fun hdiscard => ?discard, fun hclass hfinds => ?found, fun hclass hb hno hfull => ?full⟩
  case discard =>
    rw [if_pos hdiscard] at hexec
    refine ⟨_, hexec, (counted_changes p s).trans (transmit_changes_of_not_probing hprobing), ?_, fun hidle => ?_⟩
    · rw [transmit_capture, counted_framer]
    · obtain ⟨⟨hsending, hengine, hrelay⟩, -⟩ := hidle.counted
      rw [transmit_framer_same, look_of_empty hengine hrelay, hsending]
  case found =>
    obtain ⟨u, hu⟩ : ∃ u, u = s.found p f.branch.toNat := ⟨_, rfl⟩
    have hchanges : ChangesOnly [.framer p, .pool] s u := hu ▸ found_changes s p _
    have hlink : u.link = s.link := hu ▸ found_link s p _
    have hcapture : (u.framer.get p).capture = (s.framer.get p).capture := hu ▸ found_capture s p _
    have hquiet (h : s.lineIdle p) : u.lineQuiet p := hu ▸ h.found _
    have hstill : (u.monitor.get p).state ≠ .probing := hu ▸ htakes.found_not_probing _
    have hclock : u.msCount = s.msCount := hchanges .clock (by simp)
    have hanswered := hchanges.trans ((answered_changes hstill (.hold f.branch.toNat)).mono (by simp))
    have hrouted := hfound hclass hfinds
    rw [← hu] at hrouted
    have htable : (transmit p (routedByClass cls p kind f u)).table = u.table := by
      rw [transmit_table, routedByClass_table]
    refine ⟨_, hrouted, fun hb => ?_, fun hb => ?_, fun hforward hroom => ?_, fun hforward hfull => ?_,
      fun hcls hempty => ?_, fun hcls hfull => ?_⟩
    · rw [htable, hu, hb, found_table]
    · rw [hasRecord_of_table htable, hu]
      exact found_hasRecord hb s
    · rw [hforward]
      have hplaced : routedByClass .forward p kind f u = placeUplink (.relayUp p f.branch kind f.payload) u :=
        if_pos (by rw [hlink]; exact hroom)
      rw [hplaced]
      refine ⟨?_, fun hidle => ?_, ?_⟩
      · rw [transmit_link, placeUplink_outgoing, hlink]
      · obtain ⟨⟨hsending, hengine, hrelay⟩, -⟩ := hquiet hidle
        rw [transmit_framer_same, placeUplink_framer, look_of_empty hengine hrelay, hsending]
      · exact ((hchanges.mono (by simp)).trans ((placeUplink_changes _ u).mono (by simp))).trans
          ((transmit_changes_of_not_probing (s := placeUplink _ u) hstill).mono (by simp))
    · rw [hforward]
      have hheld : routedByClass .forward p kind f u = answerHold p f.branch.toNat u :=
        if_neg (by rw [hlink]; exact Nat.not_lt.mpr hfull)
      rw [hheld]
      exact ⟨fun hidle => transmit_answerHold (hquiet hidle) _, hanswered⟩
    · rw [hcls]
      have hstored : routedByClass .capture p kind f u = _ := captureFrame_of_empty (hcapture.trans hempty)
      rw [hstored]
      refine ⟨?_, ?_, ?_⟩
      · rw [transmit_capture]
        exact congrArg Framer.capture (Four.get_set_same u.framer p _)
      · rw [transmit_link, post_notice]
        simp [hlink, hclock]
      · exact ((hchanges.mono (by simp)).trans (((modFramer_changes u p _).mono (by simp)).trans
          ((post_changes _ _ _ _).mono (by simp)))).trans
          ((transmit_changes_of_not_probing (s := post _ _ _ (u.modFramer p _)) hstill).mono (by simp))
    · rw [hcls]
      have hheld : routedByClass .capture p kind f u = answerHold p f.branch.toNat u :=
        captureFrame_of_full (by rw [hcapture]; exact hfull)
      rw [hheld]
      refine ⟨?_, fun hidle => transmit_answerHold (hquiet hidle) _, hanswered⟩
      rw [transmit_capture, answerHold, place_capture, hcapture]
  case full =>
    rw [if_neg hclass, if_neg hb, withRecord_of_full (s := s.counted p) hno hfull] at hexec
    have hdenied := (counted_changes p s).trans (place_changes_of_not_probing hprobing (.deny f.branch.toNat .full))
    have hposted : ChangesOnly [.framer p, .notice (.partner p)] s
        (postPartner noticeTableFull p (answerDeny p f.branch.toNat .full (s.counted p))) :=
      .then hdenied (postPartner_changes _ p _) (by simp) (by simp)
    refine ⟨_, hexec, transmit_changes_after hposted (by simp [htakes.talking]) (by simp) (by simp), fun hidle => ?_, ?_⟩
    · rw [transmit_framer_same, postPartner_framer]
      have hsends := place_transmit_sends hidle.counted (f := .deny f.branch.toNat .full) rfl
      rw [transmit_framer_same] at hsends
      exact hsends
    · rw [transmit_link, postPartner_notice_same]
      have hnotice : (answerDeny p f.branch.toNat .full (s.counted p)).link.notices.get (.partner p)
          = s.link.notices.get (.partner p) := hdenied (.notice (.partner p)) (by simp)
      have hclock : (answerDeny p f.branch.toNat .full (s.counted p)).msCount = s.msCount := hdenied .clock (by simp)
      rw [hnotice, hclock]
      exact ⟨_, rfl⟩

end Sys2Proof.Machine
end

section
/-! PROOFS. The arguments of a command, and the commands that set the image, the platform and the barred flag (R13, R84,
R88, R89, R164, R177, R188). -/

namespace Sys2Proof.Machine

open Sys2Proof

section
variable {s t u : State} {p q : Port} {f : LinkFrame} {rest : List LinkFrame} {tag code : Byte} {args : List Byte}

/-! ### The arguments of a command (R196) -/

theorem numberOf_twoBytes (n : Nat) : numberOf (twoBytes n) = n % 65536 := by
  simp only [numberOf, twoBytes, List.foldl_cons, List.foldl_nil, BitVec.toNat_ofNat]
  omega

theorem numberOf_fourBytes (n : Nat) : numberOf (fourBytes n) = n % 4294967296 := by
  simp only [numberOf, fourBytes, twoBytes, List.cons_append, List.nil_append, List.foldl_cons, List.foldl_nil,
    BitVec.toNat_ofNat]
  omega

theorem LinkFrame.isCommand.arg (h : f.isCommand tag code args) (i : Nat) : f.arg i = byteAt args i := by
  obtain ⟨-, hpayload⟩ := h
  simp [LinkFrame.arg, byteAt, hpayload, Nat.add_comm 2 i]

theorem LinkFrame.isCommand.argNumber (h : f.isCommand tag code args) (i n : Nat) : f.argNumber i n = numberAt args i n := by
  obtain ⟨-, hpayload⟩ := h
  simp [LinkFrame.argNumber, numberAt, hpayload, Nat.add_comm 2 i]

theorem State.asked.arg (h : s.asked f rest code args) (i : Nat) : f.arg i = byteAt args i := by
  obtain ⟨-, tag, hcommand⟩ := h
  exact hcommand.arg i

theorem State.asked.argNumber (h : s.asked f rest code args) (i n : Nat) : f.argNumber i n = numberAt args i n := by
  obtain ⟨-, tag, hcommand⟩ := h
  exact hcommand.argNumber i n

theorem placeUplink_notices (f : UplinkFrame) (s : State) : (placeUplink f s).link.notices = s.link.notices := by
  simp only [placeUplink, State.modLink, LinkUnit.look]
  split
  · split <;> rfl
  · rfl

/-! ### REVIEW on the attached ports -/

/-- The REVIEW demands are all that it changes. -/
theorem reviewAttached_eq (s : State) : ∃ d : Four DemandSet, reviewAttached s = s.modSequencer (fun q => { q with demands := d })
    ∧ ∀ p, d.get p = if s.attached p then { s.sequencer.demands.get p with review := true } else s.sequencer.demands.get p := by
  have hfold (l : List Port) : ∃ d : Four DemandSet,
      l.foldl (fun t p => if s.attached p then raiseDemand .review p t else t) s
          = s.modSequencer (fun q => { q with demands := d })
        ∧ ∀ p, d.get p = if p ∈ l ∧ s.attached p = true then { s.sequencer.demands.get p with review := true }
            else s.sequencer.demands.get p := by
    induction l using List.reverseRecOn with
    | nil => exact ⟨s.sequencer.demands, rfl, fun p => by simp⟩
    | append_singleton l q ih =>
      obtain ⟨d, hd, hget⟩ := ih
      rw [List.foldl_append, hd, List.foldl_cons, List.foldl_nil]
      by_cases hq : s.attached q = true
      · refine ⟨d.set q ((d.get q).add .review), ?_, fun p => ?_⟩
        · rw [if_pos hq]
          rfl
        · by_cases hp : p = q
          · subst hp
            rw [Four.get_set_same, hget]
            split <;> simp [hq, DemandSet.add]
          · rw [Four.get_set_other _ hp, hget]
            simp [hp]
      · refine ⟨d, if_neg hq, fun p => ?_⟩
        rw [hget]
        refine if_congr ?_ rfl rfl
        constructor
        · exact fun h => ⟨by simp [h.1], h.2⟩
        · rintro ⟨hp, ha⟩
          refine ⟨?_, ha⟩
          rcases List.mem_append.mp hp with hp | hp
          · exact hp
          · rw [List.mem_singleton.mp hp] at ha
            exact absurd ha hq
  obtain ⟨d, hd, hget⟩ := hfold allPorts
  exact ⟨d, hd, fun p => by simp only [hget, mem_allPorts, true_and]⟩

theorem reviewAttached_demands (s : State) (p : Port) : (reviewAttached s).sequencer.demands.get p
    = if s.attached p then { s.sequencer.demands.get p with review := true } else s.sequencer.demands.get p := by
  obtain ⟨d, hd, hget⟩ := reviewAttached_eq s
  rw [hd]
  exact hget p

/-- What REVIEW leaves of the records, the Supply Unit, the lines and the notices. -/
theorem reviewAttached_same (s : State) : (reviewAttached s).table = s.table ∧ (reviewAttached s).supply = s.supply
    ∧ (reviewAttached s).framer = s.framer ∧ (reviewAttached s).link = s.link ∧ (reviewAttached s).supervisor = s.supervisor
    ∧ (reviewAttached s).policy = s.policy ∧ (reviewAttached s).limit = s.limit ∧ (reviewAttached s).contract = s.contract := by
  obtain ⟨d, hd, -⟩ := reviewAttached_eq s
  rw [hd]
  exact ⟨rfl, rfl, rfl, rfl, rfl, rfl, rfl, rfl⟩

/-! ### APPLY (R84, R88, R89) -/

theorem recompute_same (s : State) : (recompute s).table = s.table ∧ (recompute s).supply = s.supply
    ∧ (recompute s).framer = s.framer ∧ (recompute s).link = s.link
    ∧ (recompute s).sequencer = s.sequencer ∧ (recompute s).limit.ceiling = s.limit.ceiling
    ∧ (recompute s).limit.duty = s.limit.duty ∧ (recompute s).limit.allowanceSum = allowanceSumOf s.contract
    ∧ (recompute s).limit.raw = min ((recompute s).limit.allowanceSum - s.policy.active.params[8] - (recompute s).limit.trim)
        s.policy.active.params[9] := ⟨rfl, rfl, rfl, rfl, rfl, rfl, rfl, rfl, rfl⟩

/-- The Supply Unit's part of an installed image. -/
def rebalanced (old : Nat) (s : State) : State := serve (rebalance old s)

theorem rebalanced_changes (old : Nat) (s : State) : ChangesOnly supplyParts s (rebalanced old s) :=
  (rebalance_changes old s).trans (serve_changes _)

theorem applySuccess_eq (s : State) : applySuccess s
    = recompute (rebalanced s.policy.active.params[13] (reviewAttached (s.modPolicy PolicyStore.applied))) := rfl

theorem supplyParts_contract (h : ChangesOnly supplyParts s t) : t.contract = s.contract :=
  Four.ext_get fun q => h (.contract q) (by simp [supplyParts])

theorem exec_applyPolicy_of_closed (h : s.asked f rest 0x16 []) (hclosed : s.policy.pendingOpen = false) :
    s.answersWith .applyPolicy f rest (.refused .notOpen) := by
  have hcarry : writePending (fun _ t => applyPending t) f (s.taken rest) = (s.taken rest, .refused .notOpen) := by
    simp [writePending, refuse, hclosed]
  exact answersWith_of_taken ((running_takeCommand_of_asked h _).trans (by rw [hcarry]))

theorem exec_applyPolicy_of_invalid {d : ImageFault} (h : s.asked f rest 0x16 []) (hopen : s.policy.pendingOpen = true)
    (hfault : validate s.policy.pendingBank = some d) : s.answersWith .applyPolicy f rest (.invalid d) := by
  have hcarry : writePending (fun _ t => applyPending t) f (s.taken rest) = (s.taken rest, .invalid d) := by
    simp [writePending, applyPending, hopen, hfault]
  exact answersWith_of_taken ((running_takeCommand_of_asked h _).trans (by rw [hcarry]))

end

/-- Settles O48. -/
theorem applyInstallsAValidImage : Obligations.ApplyInstallsAValidImage := by
  intro s f rest hasked
  refine ⟨fun hclosed => exec_applyPolicy_of_closed hasked hclosed,
    fun d hopen hfault => exec_applyPolicy_of_invalid hasked hopen hfault, fun hopen hvalid => ?_⟩
  obtain ⟨w, hw⟩ : ∃ w, w = reviewAttached ((s.taken rest).modPolicy PolicyStore.applied) := ⟨_, rfl⟩
  obtain ⟨v, hv⟩ : ∃ v, v = rebalanced s.policy.active.params[13] w := ⟨_, rfl⟩
  have hexec : exec .applyPolicy s = .next (placeUplink (replyTo f .applied) (recompute v)) := by
    rw [exec_applyPolicy_of_valid hasked hopen hvalid, applySuccess_eq, hv, hw]
    rfl
  have hserved : ChangesOnly supplyParts w v := hv ▸ rebalanced_changes _ w
  obtain ⟨-, -, -, hlink, -, hpolicy, hlimit, hcontract⟩ := reviewAttached_same ((s.taken rest).modPolicy PolicyStore.applied)
  rw [← hw] at hlink hpolicy hlimit hcontract
  have hcontract' : v.contract = s.contract := (supplyParts_contract hserved).trans hcontract
  have hlimit' : v.limit = s.limit := (show v.limit = w.limit from hserved .limit (by simp [supplyParts])).trans hlimit
  have hpolicy' : v.policy = s.policy.applied := (show v.policy = w.policy from hserved .policy (by simp [supplyParts])).trans hpolicy
  have hchanges : ChangesOnly ([.policy, .limit] ++ everyPort .demands ++ supplyParts) (s.taken rest) (recompute v) := by
    have hreviewed : ChangesOnly ([.policy, .limit] ++ everyPort .demands ++ supplyParts) (s.taken rest) w := by
      rw [hw]
      exact ((modPolicy_changes (s.taken rest) PolicyStore.applied).mono (by simp)).trans
        ((reviewAttached_changes _).mono fun x hx => List.mem_append_left _ (List.mem_append_right _ hx))
    exact (hreviewed.trans (hserved.mono (List.subset_append_right _ _))).trans ((recompute_changes v).mono (by simp))
  obtain ⟨htable, hsupply, hframer, hlinks, hsequencer, hceiling, hduty, hsum, hraw⟩ := recompute_same v
  refine ⟨_, hexec, replies_placeUplink hchanges (by simp [supplyParts]) (by simp [supplyParts]) f .applied, ?_, fun p => ?_,
    ?_, ?_, ?_, ?_, ?_, (placeUplink_taken_changes hchanges _).mono (by simp)⟩
  · exact hpolicy'
  · have hdemands : v.sequencer.demands.get p = w.sequencer.demands.get p := hserved (.demands p) (by simp [supplyParts])
    show v.sequencer.demands.get p = _
    rw [hdemands, hw, reviewAttached_demands]
    rfl
  · have hsame : (placeUplink (replyTo f .applied) (recompute v)).policy = s.policy.applied := hpolicy'
    rw [hsame]
    have hv' : serve (rebalance s.policy.active.params[13]
        (reviewAttached { s.taken rest with policy := s.policy.applied })) = v := by
      rw [hv, hw]
      rfl
    rw [hv']
    exact ⟨rfl, rfl, rfl, placeUplink_notices _ _⟩
  · exact hceiling.trans (by rw [hlimit'])
  · exact hduty.trans (by rw [hlimit'])
  · exact hsum.trans (by rw [hcontract'])
  · rw [hpolicy'] at hraw
    exact hraw

section
variable {s t u : State} {p q : Port} {f : LinkFrame} {rest : List LinkFrame}

/-! ### SET PLATFORM (R177, R188) -/

theorem platform_of_asked {demand : BitVec 32} {budget : BitVec 16} {battery silence : Byte}
    (h : s.asked f rest 0x20 (fourBytes demand.toNat ++ twoBytes budget.toNat ++ [battery, silence])) :
    f.platform = { demand := demand.toNat, budget := budget.toNat, battery := battery.toNat, silence := silence.toNat * 100 } := by
  have hdemand := numberOf_fourBytes demand.toNat
  have hbudget := numberOf_twoBytes budget.toNat
  rw [Nat.mod_eq_of_lt demand.isLt] at hdemand
  rw [Nat.mod_eq_of_lt budget.isLt] at hbudget
  have hfirst : numberAt (fourBytes demand.toNat ++ twoBytes budget.toNat ++ [battery, silence]) 0 4
      = numberOf (fourBytes demand.toNat) := by simp [numberAt, fourBytes, twoBytes]
  have hsecond : numberAt (fourBytes demand.toNat ++ twoBytes budget.toNat ++ [battery, silence]) 4 2
      = numberOf (twoBytes budget.toNat) := by simp [numberAt, fourBytes, twoBytes]
  have hlast (i : Nat) : byteAt (fourBytes demand.toNat ++ twoBytes budget.toNat ++ [battery, silence]) (6 + i)
      = byteAt [battery, silence] i := by simp [byteAt, fourBytes, twoBytes, Nat.add_comm 6 i]
  rw [LinkFrame.platform, h.argNumber, h.argNumber, h.arg, h.arg, hfirst, hsecond, hdemand, hbudget, hlast 0, hlast 1]
  rfl

theorem accepted_iff (demand budget battery silence : Nat) (hsilence : silence < 256) :
    PlatformValues.accepted { demand := demand, budget := budget, battery := battery, silence := silence * 100 } = true
      ↔ demand ≤ 100000 ∧ budget ≤ 60000 ∧ battery ≤ 1 ∧ silence ≠ 0 := by
  simp only [PlatformValues.accepted, Bool.and_eq_true, decide_eq_true_eq]
  omega

/-- The new values, with the Supply Unit's part of the new budget. -/
def budgetSet (v : PlatformValues) (s : State) : State := setBudget v.budget (s.modSupervisor fun u => u.taken v)

/-- A value that Selection reads has changed. -/
def platformMoved (v : PlatformValues) (s : State) : Prop :=
  v.demand ≠ s.supervisor.demand ∨ (v.battery == 1) ≠ s.supervisor.batteryPresent

theorem takePlatform_of_moved {v : PlatformValues} (h : platformMoved v s) : takePlatform v s = reviewAttached (budgetSet v s) :=
  if_pos h

theorem takePlatform_of_kept {v : PlatformValues} (h : ¬platformMoved v s) : takePlatform v s = budgetSet v s := if_neg h

theorem budgetSet_changes (v : PlatformValues) (s : State) :
    ChangesOnly (.supervisor :: .budget :: supplyParts) s (budgetSet v s) :=
  ((modSupervisor_changes s _).mono (by simp)).trans ((setBudget_changes v.budget _).mono (by simp))

theorem budgetSet_attached (v : PlatformValues) (s : State) (p : Port) : (budgetSet v s).attached p = s.attached p :=
  (setBudget_keeps (free := []) v.budget (s.modSupervisor fun u => u.taken v)).attached (by simp) p

theorem budgetSet_demands (v : PlatformValues) (s : State) : (budgetSet v s).sequencer.demands = s.sequencer.demands :=
  Four.ext_get fun p => budgetSet_changes v s (.demands p) (by simp [supplyParts])

theorem takePlatform_demands (v : PlatformValues) (s : State) :
    (platformMoved v s → ∀ p, (takePlatform v s).sequencer.demands.get p
        = if s.attached p then { s.sequencer.demands.get p with review := true } else s.sequencer.demands.get p)
      ∧ (¬platformMoved v s → (takePlatform v s).sequencer.demands = s.sequencer.demands) := by
  refine ⟨fun h p => ?_, fun h => ?_⟩
  · rw [takePlatform_of_moved h, reviewAttached_demands, budgetSet_attached, budgetSet_demands]
  · rw [takePlatform_of_kept h, budgetSet_demands]

/-- REVIEW reaches nothing of what the new budget has done. -/
theorem takePlatform_same (v : PlatformValues) (s : State) : (takePlatform v s).table = (budgetSet v s).table
    ∧ (takePlatform v s).supply = (budgetSet v s).supply ∧ (takePlatform v s).framer = (budgetSet v s).framer
    ∧ (takePlatform v s).link = (budgetSet v s).link := by
  classical
  by_cases h : platformMoved v s
  · rw [takePlatform_of_moved h]
    obtain ⟨htable, hsupply, hframer, hlink, -⟩ := reviewAttached_same (budgetSet v s)
    exact ⟨htable, hsupply, hframer, hlink⟩
  · rw [takePlatform_of_kept h]
    exact ⟨rfl, rfl, rfl, rfl⟩

theorem takePlatform_parts (v : PlatformValues) (s : State) :
    ChangesOnly ([.supervisor, .budget] ++ everyPort .demands ++ supplyParts) s (takePlatform v s) := by
  have hset := (budgetSet_changes v s).mono (l' := [.supervisor, .budget] ++ everyPort .demands ++ supplyParts) fun x hx => by
    simp only [List.mem_append, List.mem_cons] at hx ⊢
    tauto
  exact .ite (hset.trans ((reviewAttached_changes _).mono fun x hx =>
    List.mem_append_left _ (List.mem_append_right _ hx))) hset

theorem takeBudget_budget (budget : Nat) (s : State) : (takeBudget budget s).supply.budget = budget := by
  rcases Nat.lt_or_ge budget s.supply.budget with h | h
  · rw [takeBudget_of_less h]
    exact decreaseSteps_changes _ _ .budget (by simp [supplyParts])
  · rw [takeBudget_of_room h]

theorem setBudget_budget (budget : Nat) (s : State) : (setBudget budget s).supply.budget = budget :=
  (show (setBudget budget s).supply.budget = (takeBudget budget s).supply.budget from
    serve_changes (takeBudget budget s) .budget (by simp [supplyParts])).trans (takeBudget_budget budget s)

theorem setBudget_of_room {budget : Nat} (h : s.supply.budget ≤ budget) (hempty : s.supply.waitList = []) :
    (setBudget budget s).table = s.table ∧ (setBudget budget s).framer = s.framer := by
  have hroom := takeBudget_of_room (s := s) h
  have hnone : (takeBudget budget s).supply.waitList = [] := by rw [hroom]; exact hempty
  rw [setBudget, serve_of_empty hnone, hroom]
  exact ⟨rfl, rfl⟩

theorem exec_setPlatform {args : List Byte} (h : s.asked f rest 0x20 args) (hlength : args.length = 8) :
    exec .setPlatform s = .next (placeUplink
      (replyTo f (if f.platform.accepted then .ok else .refused .range))
      (if f.platform.accepted then takePlatform f.platform (s.taken rest) else s.taken rest)) := by
  have hcarried := running_takeCommand_of_asked h fun f s =>
    if f.platform.accepted then (takePlatform f.platform s, .ok) else refuse .range s
  rw [hlength] at hcarried
  have hexec : exec .setPlatform s = _ := hcarried
  rw [hexec]
  split <;> rfl

/-! ### BAR PORT (R13) -/

theorem exec_barPort {args : List Byte} (h : s.asked f rest 0x21 args) (hlength : args.length = 1) (hport : f.names p) :
    exec .barPort s = .next (placeUplink
      (replyTo f (if 1 < f.arg 0 then .refused .range else .ok))
      (if 1 < f.arg 0 then s.taken rest else bar p (f.arg 0 == 1) (s.taken rest))) := by
  have hcarried := running_takeCommand_of_asked h (checkPort fun p f s =>
    if 1 < f.arg 0 then refuse .range s else (bar p (f.arg 0 == 1) s, .ok))
  rw [hlength, checkPort_of_names hport] at hcarried
  have hexec : exec .barPort s = _ := hcarried
  rw [hexec]
  split <;> rfl

theorem bar_parts (p : Port) (flag : Bool) (s : State) : ChangesOnly [.monitor p, .demands p] s (bar p flag s) := by
  have hflag := (modMonitor_changes s p fun m => { m with barred := flag }).mono (l' := [.monitor p, .demands p]) (by simp)
  exact .ite (hflag.trans ((raiseDemand_changes _ _ _).mono (by simp))) hflag

theorem bar_monitor (p : Port) (flag : Bool) (s : State) :
    (bar p flag s).monitor.get p = { s.monitor.get p with barred := flag } := by
  unfold bar
  dsimp only
  split
  · simp [raiseDemand]
  · simp

theorem bar_demands (p : Port) (flag : Bool) (s : State) : (bar p flag s).sequencer.demands.get p
    = if (s.monitor.get p).barred ≠ flag ∧ s.attached p = true then { s.sequencer.demands.get p with review := true }
      else s.sequencer.demands.get p := by
  unfold bar
  dsimp only
  split
  · simp [raiseDemand, DemandSet.add]
  · rfl

end

/-- Settles O49. -/
theorem platformAndBarCommandsTakeTheirValues : Obligations.PlatformAndBarCommandsTakeTheirValues := by
  intro s f rest
  refine ⟨fun demand budget battery silence hasked => ?platform, fun p action hport hasked => ?bar⟩
  case platform =>
    obtain ⟨v, hv⟩ : ∃ v : PlatformValues,
      v = { demand := demand.toNat, budget := budget.toNat, battery := battery.toNat, silence := silence.toNat * 100 } := ⟨_, rfl⟩
    have hplatform : f.platform = v := (platform_of_asked hasked).trans hv.symm
    have haccepted := accepted_iff demand.toNat budget.toNat battery.toNat silence.toNat silence.isLt
    rw [← hv] at haccepted
    have hexec := exec_setPlatform hasked (by simp [fourBytes, twoBytes])
    rw [hplatform] at hexec
    dsimp only
    refine ⟨fun hno => answersWith_of_taken ?_, fun hok => ?_⟩
    · rwa [if_neg (mt haccepted.mp hno), if_neg (mt haccepted.mp hno)] at hexec
    · rw [if_pos (haccepted.mpr hok), if_pos (haccepted.mpr hok)] at hexec
      have hmoved : platformMoved v (s.taken rest) ↔ (demand.toNat ≠ s.supervisor.demand
          ∨ (battery = 1) ≠ (s.supervisor.batteryPresent = true)) := by
        rw [hv]
        refine or_congr Iff.rfl (not_congr ?_)
        rw [Bool.eq_iff_iff, beq_iff_eq, eq_iff_iff, ← BitVec.toNat_inj]
        rfl
      obtain ⟨hreview, hquiet⟩ := takePlatform_demands v (s.taken rest)
      obtain ⟨htable, hsupply, hframer, hlink⟩ := takePlatform_same v (s.taken rest)
      have hchanges := takePlatform_parts v (s.taken rest)
      have hsupervisor : (placeUplink (replyTo f .ok) (takePlatform v (s.taken rest))).supervisor = s.supervisor.taken v :=
        takePlatform_supervisor v (s.taken rest)
      refine ⟨_, hexec, replies_placeUplink hchanges (by simp [supplyParts]) (by simp [supplyParts]) f .ok, ?_, ?_, ?_, ?_, ?_, ?_,
        fun hauto hperiod => ?_, fun hperiod => ?_, fun hauto => ?_, fun h => hreview (hmoved.mpr h),
        fun h => hquiet (mt hmoved.mp h), ?_, fun hroom hempty => ?_, placeUplink_taken_changes hchanges _⟩
      · rw [hsupervisor, hv]
        rfl
      · rw [hsupervisor, hv, ← BitVec.toNat_inj]
        exact beq_iff_eq
      · rw [hsupervisor, hv]
        rfl
      · rw [hsupervisor]
        rfl
      · rw [hsupervisor]
        rfl
      · show (takePlatform v (s.taken rest)).supply.budget = _
        rw [hsupply, budgetSet, setBudget_budget, hv]
      · rw [hsupervisor, hv]
        exact if_pos ⟨hperiod, hauto⟩
      · rw [hsupervisor, hv]
        exact if_neg fun h => h.1 hperiod
      · rw [hsupervisor]
        exact if_neg fun h => Bool.false_ne_true (h.2.symm.trans hauto)
      · have hset : serve (takeBudget budget.toNat { s.taken rest with
            supervisor := (placeUplink (replyTo f .ok) (takePlatform v (s.taken rest))).supervisor }) = budgetSet v (s.taken rest) := by
          rw [hsupervisor, budgetSet, hv]
          rfl
        rw [hset]
        exact ⟨htable, hsupply, hframer, (placeUplink_notices _ _).trans (congrArg LinkUnit.notices hlink)⟩
      · have hbudget : v.budget = budget.toNat := by rw [hv]
        obtain ⟨h1, h2⟩ := setBudget_of_room (s := (s.taken rest).modSupervisor fun u => u.taken v) (budget := v.budget)
          (by rw [hbudget]; exact hroom) hempty
        exact ⟨htable.trans h1, hframer.trans h2⟩
  case bar =>
    have harg : f.arg 0 = action.toNat := hasked.arg 0
    have hflag : (f.arg 0 == 1) = (action == 1) := by
      rw [harg]
      exact Bool.eq_iff_iff.mpr (by simp [← BitVec.toNat_inj])
    have hexec := exec_barPort hasked rfl hport
    refine ⟨fun hrange => answersWith_of_taken ?_, fun hrange => ?_⟩
    · rwa [if_pos (harg ▸ hrange), if_pos (harg ▸ hrange)] at hexec
    · have hno : ¬1 < f.arg 0 := by omega
      rw [if_neg hno, if_neg hno, hflag] at hexec
      have hchanges := bar_parts p (action == 1) (s.taken rest)
      exact ⟨_, hexec, replies_placeUplink hchanges (by simp) (by simp) f .ok, bar_monitor p _ (s.taken rest),
        bar_demands p _ (s.taken rest), placeUplink_taken_changes hchanges _⟩

end Sys2Proof.Machine
end

section
/-! PROOFS. RESTART and the silence of the controller (R183, R190, R191, R193). -/

namespace Sys2Proof.Machine

open Sys2Proof

section
variable {s t u : State} {p : Port} {f : LinkFrame} {rest : List LinkFrame} {tag : Byte}

/-! ### RESTART (R183) -/

/-- A RESTART is taken even where the upstream queue is full (R172). -/
theorem takable_of_restart (hreceive : s.link.receive = f :: rest) (hcommand : f.isCommand tag 0x3F []) :
    s.link.takable = some f := by
  obtain ⟨hkind, hpayload⟩ := hcommand
  simp [LinkUnit.takable, hreceive, LinkFrame.isRestart, LinkFrame.code, hkind, hpayload]

theorem exec_restart (hrun : s.inReset = false) (hreceive : s.link.receive = f :: rest) (hcommand : f.isCommand tag 0x3F []) :
    exec .restart s = .next (placeUplink (replyTo f .ok) (linkRestart (s.taken rest))) := by
  have hwants : wantsCode 0x3F f = true := hcommand.wantsCode_toNat
  have hlength : f.payload.length = 2 := by rw [hcommand.2]; rfl
  have htaken : (s.modLink fun l => { l with receive := l.receive.tail }) = s.taken rest := by
    simp [State.taken, State.modLink, hreceive]
  have hexec : exec .restart s = _ := exec_of_running rfl hrun
  rw [hexec, takeCommand, takable_of_restart hreceive hcommand]
  simp only [hwants, if_true, checkLength, hlength, htaken]

theorem placeUplink_receive (f : UplinkFrame) (s : State) : (placeUplink f s).link.receive = s.link.receive
    ∧ (placeUplink f s).link.reception = s.link.reception ∧ (placeUplink f s).link.frameClass = s.link.frameClass := by
  obtain ⟨hreceive, hreception⟩ := placeUplink_changes f s .receive (by simp)
  exact ⟨hreceive, hreception, placeUplink_changes f s .frameClass (by simp)⟩

theorem defaultFrameClass_get (i : Fin 32) : defaultFrameClass[i] = if i.val < 16 then .forward else .capture := by
  simp [defaultFrameClass]

theorem clear_get (g : NoticeFlag) : NoticeSet.clear.get g = none := by
  cases g <;> simp [NoticeSet.clear, NoticeSet.get]

/-! ### The first expiry of the silence timer (R190) -/

theorem silenceExpiry_of_quiet (h : s.link.notices.silence = none) : silenceExpiry s
    = (post .silence noticeSilent (snapshotLow s.supervisor.silencePeriod) s).modSupervisor
        fun v => { v with silenceTimer := some 0 } := by simp only [silenceExpiry, h]

theorem silenceExpiry_of_told (h : s.link.notices.silence ≠ none) : silenceExpiry s = autonomousEntry s := by
  obtain ⟨n, hn⟩ := Option.ne_none_iff_exists'.mp h
  simp only [silenceExpiry, hn]

/-! ### Autonomous entry (R191) -/

/-- The state with the platform and the image of autonomous mode. -/
def autonomousSet (s : State) : State :=
  (s.modSupervisor fun v =>
      { v with autonomous := true, silenceTimer := none, demand := strapPowerClass s.supervisor.straps }).modPolicy
    fun q => { q with active := fallbackImage (strapSixAmp s.supervisor.straps), origin := .fallback, pendingOpen := false }

/-- The Supply Unit's part of autonomous entry. -/
def autonomousServed (s : State) : State :=
  serve (takeBudget (min s.supply.budget (strapBudget s.supervisor.straps))
    (rebalance s.policy.active.params[13] (autonomousSet s)))

theorem autonomousEntry_eq (s : State) : autonomousEntry s = reviewAttached (recompute (autonomousServed s)) := by
  have hbudget : (rebalance s.policy.active.params[13] (autonomousSet s)).supply.budget = s.supply.budget :=
    rebalance_changes _ (autonomousSet s) .budget (by simp [supplyParts])
  unfold autonomousServed
  rw [← hbudget]
  rfl

theorem autonomousServed_changes (s : State) : ChangesOnly (.budget :: supplyParts) (autonomousSet s) (autonomousServed s) :=
  (((rebalance_changes _ _).mono (List.subset_cons_self _ _)).trans (takeBudget_changes _ _)).trans
    ((serve_changes _).mono (List.subset_cons_self _ _))

theorem autonomousServed_attached (s : State) (p : Port) : (autonomousServed s).attached p = s.attached p :=
  (((rebalance_keeps (free := []) s.policy.active.params[13] (autonomousSet s)).trans (takeBudget_keeps _ _)).trans
    (serve_keeps _)).attached (by simp) p

theorem autonomousServed_budget (s : State) : (autonomousServed s).supply.budget
    = min s.supply.budget (strapBudget s.supervisor.straps) :=
  (show (autonomousServed s).supply.budget = _ from serve_changes _ .budget (by simp [supplyParts])).trans
    (takeBudget_budget _ _)

theorem autonomousEntry_parts (s : State) :
    ChangesOnly ([.supervisor, .policy, .budget, .limit] ++ everyPort .demands ++ supplyParts) s (autonomousEntry s) := by
  have hset : ChangesOnly ([.supervisor, .policy, .budget, .limit] ++ everyPort .demands ++ supplyParts) s (autonomousSet s) :=
    .then (modSupervisor_changes s _) (modPolicy_changes _ _) (by simp) (by simp)
  have hserved := (autonomousServed_changes s).mono
    (l' := [.supervisor, .policy, .budget, .limit] ++ everyPort .demands ++ supplyParts) fun x hx => by
      simp only [List.mem_append, List.mem_cons] at hx ⊢
      tauto
  rw [autonomousEntry_eq]
  exact ((hset.trans hserved).trans ((recompute_changes _).mono (by simp))).trans
    ((reviewAttached_changes _).mono fun x hx => List.mem_append_left _ (List.mem_append_right _ hx))

theorem autonomousEntry_supervisor (s : State) : (autonomousEntry s).supervisor
    = { s.supervisor with autonomous := true, silenceTimer := none, demand := strapPowerClass s.supervisor.straps } := by
  obtain ⟨u, hu, hsupervisor, -⟩ := autonomousEntry_effects s
  exact (hu .supervisor (by simp [effectParts, supplyParts])).trans hsupervisor

theorem strapPowerClass_eq (straps : BitVec 8) : strapPowerClass straps
    = if straps.getLsbD 4 then (if straps.getLsbD 3 then 65000 else 45000)
      else (if straps.getLsbD 3 then 27000 else 15000) := by
  unfold strapPowerClass
  cases straps.getLsbD 4 <;> cases straps.getLsbD 3 <;> rfl

theorem exec_silenceTimerExpiry (hrun : s.inReset = false) : exec .silenceTimerExpiry s
    = .next (if s.supervisor.silenceExpired then silenceExpiry s else s) :=
  exec_of_running (f := fun s => if s.supervisor.silenceExpired then silenceExpiry s else s) rfl hrun

end

/-- Settles O52. -/
theorem restartAndSilenceReachTheirBlocks : Obligations.RestartAndSilenceReachTheirBlocks := by
  refine ⟨fun s f rest tag hrun hreceive hcommand => ?restart, fun s hrun => ⟨fun hno => ?early, fun hexpired hquiet => ?quiet,
    fun hexpired htold => ?told⟩⟩
  case restart =>
    obtain ⟨h1, h2, h3⟩ := placeUplink_receive (replyTo f .ok) (linkRestart (s.taken rest))
    have hchanges := (taken_changes s rest).mono (l' := [.receive, .uplink, .frameClass, .policy, .supervisor]
      ++ everyNotice ++ everyPort .framer) (by simp)
    refine ⟨_, exec_restart hrun hreceive hcommand, h1, h2, ?_, fun g => ?_, fun i => ?_, fun p => ?_, rfl, rfl, ?_⟩
    · rw [placeUplink_outgoing]
      simp [LinkUnit.outgoing, linkRestart, State.taken]
    · rw [placeUplink_notices]
      exact clear_get g
    · rw [show (placeUplink (replyTo f .ok) (linkRestart (s.taken rest))).link.frameClass = defaultFrameClass from h3]
      exact defaultFrameClass_get i
    · exact Four.get_map _ _ p
    · exact (hchanges.trans ((linkRestart_changes _).mono (by simp))).trans ((placeUplink_changes _ _).mono (by simp))
  case early => rw [exec_silenceTimerExpiry hrun, if_neg (mt (silenceExpired_iff _).mp hno)]
  case quiet =>
    have hexec := exec_silenceTimerExpiry hrun
    rw [if_pos ((silenceExpired_iff _).mpr hexpired), silenceExpiry_of_quiet hquiet] at hexec
    refine ⟨_, hexec, ?_, rfl, .then (post_changes _ _ _ s) (modSupervisor_changes _ _) (by simp) (by simp)⟩
    rw [← snapshotLow_eq]
    refine (post_notice .silence noticeSilent _ s).trans ?_
    rw [show s.link.notices.get .silence = none from hquiet]
    rfl
  case told =>
    have hexec := exec_silenceTimerExpiry hrun
    rw [if_pos ((silenceExpired_iff _).mpr hexpired), silenceExpiry_of_told htold] at hexec
    have hchanges := autonomousEntry_parts s
    have hserved := autonomousServed_changes s
    have hsupervisor := autonomousEntry_supervisor s
    have hpolicy := autonomousEntry_policy s
    obtain ⟨htable, hsupply, hframer, hlink, -, -, hlimit, -⟩ := reviewAttached_same (recompute (autonomousServed s))
    rw [← autonomousEntry_eq] at htable hsupply hframer hlink hlimit
    have hcontract : (autonomousServed s).contract = s.contract :=
      Four.ext_get fun q => hserved (.contract q) (by simp [supplyParts])
    have hbefore : (autonomousServed s).limit = s.limit := hserved .limit (by simp [supplyParts])
    obtain ⟨h1, h2, h3, h4, -, hceiling, -, hsum, -⟩ := recompute_same (autonomousServed s)
    refine ⟨_, hexec, ?_, ?_, ?_, ?_, ?_, fun p => ?_, ?_, ?_, ?_, ?_, hchanges⟩
    · rw [hsupervisor, strapPowerClass_eq]
    · rw [hpolicy]
      rfl
    · rw [hpolicy]
    · rw [hpolicy]
    · rw [hsupply, h2, autonomousServed_budget]
      rfl
    · rw [autonomousEntry_eq, reviewAttached_demands]
      have hdemands : (autonomousServed s).sequencer.demands.get p = s.sequencer.demands.get p :=
        hserved (.demands p) (by simp [supplyParts])
      have hattached : (recompute (autonomousServed s)).attached p = s.attached p := autonomousServed_attached s p
      rw [hattached, ← hdemands]
      rfl
    · rw [hsupervisor, hpolicy]
      exact ⟨htable.trans h1, hsupply.trans h2, hframer.trans h3, hlink.trans h4⟩
    · rw [hlimit, hceiling, hbefore]
    · rw [hlimit, hsum, hcontract]
    · exact hchanges (.notice .silence) (by simp [supplyParts])

end Sys2Proof.Machine
end

section
/-! PROOFS. The records and the replies of the system link (R195 to R197, section 12.2). -/

namespace Sys2Proof.Machine

open Sys2Proof

/-! ### Numbers and bytes -/

theorem numberOf_append (l : List Byte) (b : Byte) : numberOf (l ++ [b]) = numberOf l * 256 + b.toNat := by
  simp [numberOf]

/-- A number comes back from its bytes, to their width. -/
theorem numberOf_bytesOfNumber (w n : Nat) : numberOf (bytesOfNumber w n) = n % 256 ^ w := by
  induction w generalizing n with
  | zero => simp [bytesOfNumber, numberOf, Nat.mod_one]
  | succ w ih =>
    have hbyte : (BitVec.ofNat 8 n).toNat = n % 256 := BitVec.toNat_ofNat n 8
    rw [bytesOfNumber, numberOf_append, ih, hbyte, Nat.pow_succ, Nat.mul_comm (256 ^ w), Nat.mod_mul]
    omega

theorem bitsOf_zero {v n : Nat} (h : v < 2 ^ n) : bitsOf v 0 n = v := by
  simp [bitsOf, Nat.mod_eq_of_lt h]

theorem twoBytes_eq (x : BitVec 16) : twoBytes x.toNat = [x.extractLsb' 8 8, x.extractLsb' 0 8] := by
  simp only [twoBytes, List.cons.injEq, and_true]
  constructor <;> apply BitVec.eq_of_toNat_eq <;> simp [Nat.shiftRight_eq_div_pow]

theorem fourBytes_eq (x : BitVec 32) : fourBytes x.toNat
    = [x.extractLsb' 24 8, x.extractLsb' 16 8, x.extractLsb' 8 8, x.extractLsb' 0 8] := by
  simp only [fourBytes, twoBytes, List.cons_append, List.nil_append, List.cons.injEq, and_true]
  refine ⟨?_, ?_, ?_, ?_⟩ <;> apply BitVec.eq_of_toNat_eq <;> simp [Nat.shiftRight_eq_div_pow, Nat.div_div_eq_div_mul]

/-! ### Fields of a record -/

section
variable {l before after : List Byte} {i n v : Nat}

theorem numberAt_of_append (h : before.length = i) (m : List Byte) (hm : m.length = n) :
    numberAt (before ++ m ++ after) i n = numberOf m := by
  subst h hm
  simp [numberAt]

/-- A voltage of whole steps comes back from its two bytes. -/
theorem voltageAt_twoBytes (h : before.length = i) (hgrid : v % 50 = 0) (hsmall : v / 50 < 512) :
    voltageAt (before ++ twoBytes (v / 50) ++ after) i = v := by
  rw [voltageAt, numberAt_of_append (n := 2) h _ rfl, numberOf_twoBytes, Nat.mod_eq_of_lt (by omega), bitsOf_zero (by simpa using hsmall)]
  omega

theorem currentAt_twoBytes (h : before.length = i) (hgrid : v % 10 = 0) (hsmall : v / 10 < 1024) :
    currentAt (before ++ twoBytes (v / 10) ++ after) i = v := by
  rw [currentAt, numberAt_of_append (n := 2) h _ rfl, numberOf_twoBytes, Nat.mod_eq_of_lt (by omega), bitsOf_zero (by simpa using hsmall)]
  omega

end

theorem sharedOfCode_code (x : SharedCondition) : sharedOfCode x.code = x := by cases x <;> rfl

theorem actionOfCode_code (x : RuleAction) : actionOfCode x.code = x := by cases x <;> rfl

theorem shared_code_lt (x : SharedCondition) : x.code < 4 := by cases x <;> decide

theorem action_code_lt (x : RuleAction) : x.code < 4 := by cases x <;> decide

/-- The shared condition, the action and the weight of a rule stand apart in their byte. -/
theorem ruleByte_bits {a b w : Nat} (ha : a < 4) (hb : b < 4) (hw : w < 16) :
    let n := (BitVec.ofNat 8 (a * 64 + b * 16 + w)).toNat
    bitsOf n 6 2 = a ∧ bitsOf n 4 2 = b ∧ bitsOf n 0 4 = w := by
  simp only [bitsOf, BitVec.toNat_ofNat]
  omega

theorem byte_bits {v n : Nat} (h : v < 2 ^ n) (hn : 2 ^ n ≤ 256) : bitsOf (BitVec.ofNat 8 v).toNat 0 n = v := by
  rw [BitVec.toNat_ofNat, Nat.mod_eq_of_lt (by omega), bitsOf_zero h]

theorem bytesOfRule_length (r : Rule) : (bytesOfRule r).length = 12 := rfl

theorem bytesOfRating_length (r : Rating) : (bytesOfRating r).length = 11 := rfl

theorem ruleOfBytes_bytesOfRule {r : Rule} (h : r.storable = true) : ruleOfBytes (bytesOfRule r) = r := by
  simp only [Rule.storable, Bool.and_eq_true, beq_iff_eq, decide_eq_true_eq, and_assoc] at h
  obtain ⟨h1, h2, h3, h4, h5, h6, h7, h8, h9, h10, h11, h12, h13⟩ := h
  obtain ⟨hshared, haction, hweight⟩ := ruleByte_bits (shared_code_lt r.shared) (action_code_lt r.action) h7
  have hmin : voltageAt (bytesOfRule r) 0 = r.minVoltage := voltageAt_twoBytes (before := []) rfl h1 h2
  have hmax : voltageAt (bytesOfRule r) 2 = r.maxVoltage :=
    voltageAt_twoBytes (before := (bytesOfRule r).take 2) rfl h3 h4
  have hcurrent : currentAt (bytesOfRule r) 4 = r.minCurrent :=
    currentAt_twoBytes (before := (bytesOfRule r).take 4) rfl h5 h6
  have hcap : currentAt (bytesOfRule r) 7 = r.cap := currentAt_twoBytes (before := (bytesOfRule r).take 7) rfl h8 h9
  have hbyte : byteAt (bytesOfRule r) 6 = (BitVec.ofNat 8 (r.shared.code * 64 + r.action.code * 16 + r.weight)).toNat := rfl
  have hderate : bitsOf (byteAt (bytesOfRule r) 9) 0 7 = r.derate := byte_bits h10 (by decide)
  have hsettle : bitsOf (byteAt (bytesOfRule r) 10) 0 7 = r.settle / 10 := byte_bits h12 (by decide)
  have hnext : bitsOf (byteAt (bytesOfRule r) 11) 0 6 = r.next := byte_bits h13 (by decide)
  have hsteps : r.settle / 10 * 10 = r.settle := by omega
  rw [ruleOfBytes, hmin, hmax, hcurrent, hcap, hbyte, hshared, haction, hweight, hderate, hsettle, hnext, hsteps,
    sharedOfCode_code, actionOfCode_code]

/-- A resistance of 18 bits comes back from its three bytes. -/
theorem resistance_bits {n : Nat} (h : n < 262144) : bitsOf (numberOf (BitVec.ofNat 8 (n / 65536) :: twoBytes n)) 0 18 = n := by
  simp only [bitsOf, numberOf, twoBytes, List.foldl_cons, List.foldl_nil, BitVec.toNat_ofNat]
  omega

theorem ratingOfBytes_bytesOfRating {r : Rating} (h : r.storable = true) : ratingOfBytes (bytesOfRating r) = r := by
  simp only [Rating.storable, Bool.and_eq_true, beq_iff_eq, decide_eq_true_eq, and_assoc] at h
  obtain ⟨h1, h2, h3, h4, h5, h6⟩ := h
  have hused : (bitsOf (byteAt (bytesOfRating r) 0) 0 1 == 1) = r.used := by
    show (bitsOf (BitVec.ofNat 8 r.used.toNat).toNat 0 1 == 1) = r.used
    cases r.used <;> decide
  have hmin : numberAt (bytesOfRating r) 1 3 = numberOf (BitVec.ofNat 8 (r.minResistance / 65536) :: twoBytes r.minResistance) :=
    numberAt_of_append (before := (bytesOfRating r).take 1) rfl (BitVec.ofNat 8 (r.minResistance / 65536) :: twoBytes r.minResistance) rfl
  have hmax : numberAt (bytesOfRating r) 4 3 = numberOf (BitVec.ofNat 8 (r.maxResistance / 65536) :: twoBytes r.maxResistance) :=
    numberAt_of_append (before := (bytesOfRating r).take 4) rfl (BitVec.ofNat 8 (r.maxResistance / 65536) :: twoBytes r.maxResistance) rfl
  have hvoltage : voltageAt (bytesOfRating r) 7 = r.voltage :=
    voltageAt_twoBytes (before := (bytesOfRating r).take 7) rfl h3 h4
  have hcurrent : currentAt (bytesOfRating r) 9 = r.current :=
    currentAt_twoBytes (before := (bytesOfRating r).take 9) rfl h5 h6
  rw [ratingOfBytes, hused, hmin, hmax, resistance_bits h1, resistance_bits h2, hvoltage, hcurrent]

/-! ### Replies (R195 to R197) -/

theorem noticeBytes_some (x : TakenNotice) : noticeBytes (some x)
    = BitVec.ofNat 8 x.flag.kindPort.1 :: BitVec.ofNat 8 x.flag.kindPort.2 :: x.notice.code
      :: (x.notice.snapshot.extractLsb' 24 8 :: x.notice.snapshot.extractLsb' 16 8 :: x.notice.snapshot.extractLsb' 8 8
      :: x.notice.snapshot.extractLsb' 0 8 :: (x.notice.ms.extractLsb' 24 8 :: x.notice.ms.extractLsb' 16 8
      :: x.notice.ms.extractLsb' 8 8 :: x.notice.ms.extractLsb' 0 8 :: [BitVec.ofNat 8 x.notice.posts])) := by
  simp only [noticeBytes, fourBytes_eq, List.cons_append, List.nil_append]

theorem noticeBytes_length (n : Option TakenNotice) : (noticeBytes n).length = 12 := by
  cases n <;> rfl

theorem replyData_bytes_of_free (d : ReplyData) (hnotice : ∀ n, d ≠ .notice n) (hrule : ∀ r, d ≠ .policy (.rule r))
    (hrating : ∀ r, d ≠ .policy (.rating r)) : d.bytes = laidOut d.command d.items := by
  cases d with
  | notice n => exact absurd rfl (hnotice n)
  | policy x =>
    cases x with
    | rule r => exact absurd rfl (hrule r)
    | rating r => exact absurd rfl (hrating r)
    | _ => rfl
  | _ => rfl

theorem replyData_bytes_length (d : ReplyData) : d.bytes.length ≤ 29 := by
  by_cases hnotice : ∃ n, d = .notice n
  · obtain ⟨n, rfl⟩ := hnotice
    exact (noticeBytes_length n).trans_le (by decide)
  · by_cases hrule : ∃ r, d = .policy (.rule r)
    · obtain ⟨r, rfl⟩ := hrule
      exact (bytesOfRule_length r).trans_le (by decide)
    · by_cases hrating : ∃ r, d = .policy (.rating r)
      · obtain ⟨r, rfl⟩ := hrating
        exact (bytesOfRating_length r).trans_le (by decide)
      · rw [replyData_bytes_of_free d (not_exists.mp hnotice) (not_exists.mp hrule) (not_exists.mp hrating)]
        exact laidOut_length _ _

theorem replyBody_bytes_length (b : ReplyBody) : b.bytes.length ≤ 30 := by
  cases b with
  | data d => exact Nat.succ_le_succ (replyData_bytes_length d)
  | _ => simp [ReplyBody.bytes]

/-! ### The number codes of the manual (R196, R197) -/

def refusalCodes : List (RefusalReason × Byte) :=
  [(.unknown, 0x01), (.length, 0x02), (.badIndex, 0x03), (.notOpen, 0x04), (.invalid, 0x05), (.powerKind, 0x06),
   (.notAttached, 0x07), (.badBranch, 0x08), (.range, 0x09), (.noRecord, 0x0A), (.empty, 0x0B)]

def imagePartCodes : List (ImagePart × Byte) :=
  [(.params, 0x01), (.rule, 0x02), (.head, 0x03), (.chain, 0x04), (.rating, 0x05)]

def noticeCodes : List (NoticeFlag × Byte × Byte) :=
  [(.silence, 0x01, 0), (.supply, 0x05, 0), (.meter, 0x07, 0), (.link, 0x08, 0)]
    ++ allPorts.flatMap fun p =>
        let n := BitVec.ofNat 8 p.val
        [(.fault p, 0x02, n), (.contract p, 0x03, n), (.partner p, 0x04, n), (.capture p, 0x06, n)]

theorem refusal_code : ∀ x ∈ refusalCodes, BitVec.ofNat 8 x.1.code = x.2 := by decide

theorem imagePart_code : ∀ x ∈ imagePartCodes, BitVec.ofNat 8 x.1.code = x.2 := by decide

theorem notice_code : ∀ x ∈ noticeCodes, BitVec.ofNat 8 x.1.kindPort.1 = x.2.1 ∧ BitVec.ofNat 8 x.1.kindPort.2 = x.2.2 := by
  decide

theorem linkFrame_bytes (f : LinkFrame) : f.bytes
    = (0x7E : Byte) :: f.covered ++ [(crc16 f.covered).extractLsb' 8 8, (crc16 f.covered).extractLsb' 0 8] := by
  rw [LinkFrame.bytes, twoBytes_eq]
  rfl

/-- Settles O46. -/
theorem recordsAndRepliesAreLaidOut : Obligations.RecordsAndRepliesAreLaidOut := by
  refine ⟨fun r h => ⟨ruleOfBytes_bytesOfRule h, bytesOfRule_length r⟩,
    fun r h => ⟨ratingOfBytes_bytesOfRating h, bytesOfRating_length r⟩, fun f => linkFrame_bytes f, fun u => rfl,
    fun p b kind payload => ?relay, fun port branch tag code body => ⟨?length, ?ok, ?applied, ?busy, fun r b hmem => ?refused,
      fun part b k d hmem => ?invalid, ?noNotice, fun flag kind n notice hmem => ?notice, ?rule, ?rating, ?data,
      fun d hbody hnotice hrule hrating => ?free,
      fun command items w parts => ⟨bytesOfNumber_length w _, numberOf_bytesOfNumber w _⟩, ?run⟩⟩
  case relay => simp [UplinkFrame.frame, linkRelayUp]
  case length => exact Nat.succ_le_succ (Nat.succ_le_succ (replyBody_bytes_length body))
  case ok => rintro rfl; rfl
  case applied => rintro rfl; rfl
  case busy => rintro rfl; rfl
  case refused =>
    rintro rfl
    have hcode : BitVec.ofNat 8 r.code = b := refusal_code (r, b) hmem
    rw [← hcode]
    rfl
  case invalid =>
    rintro rfl
    have hcode : BitVec.ofNat 8 part.code = b := imagePart_code (part, b) hmem
    rw [← hcode]
    rfl
  case noNotice => rintro rfl; rfl
  case notice =>
    rintro rfl
    obtain ⟨hkind, hport⟩ := notice_code (flag, kind, n) hmem
    have hbytes := noticeBytes_some { flag := flag, notice := notice }
    simp only at hkind hport hbytes
    rw [hkind, hport] at hbytes
    simp only [UplinkFrame.frame, ReplyBody.bytes, ReplyData.bytes, hbytes]
    rfl
  case rule => rintro r rfl; rfl
  case rating => rintro r rfl; rfl
  case data =>
    rintro d rfl
    exact ⟨d.bytes, replyData_bytes_length d, rfl⟩
  case free =>
    subst hbody
    show UplinkFrame.frame _ = _
    simp only [UplinkFrame.frame, ReplyBody.bytes, replyData_bytes_of_free d hnotice hrule hrating]
    rfl
  case run =>
    intro command k items l hk
    simp [ReplyField.bytes, hk]

end Sys2Proof.Machine
end

section
/-! PROOFS. The commands that write PENDING (R80 to R82). -/

namespace Sys2Proof.Machine

open Sys2Proof

section
variable {s t : State} {f : LinkFrame} {rest : List LinkFrame} {c : Instr} {code : Byte} {args : List Byte}
  {carry : LinkFrame → State → State × ReplyBody}

/-- A write to PENDING: the command of this code and of this many argument bytes, refused while PENDING is closed. -/
def isWrite (c : Instr) (code : Byte) (n : Nat) (carry : LinkFrame → State → State × ReplyBody) : Prop :=
  ∀ s, exec c s = running (takeCommand (wantsCode code.toNat) (checkLength (n + 2) (writePending carry))) s

theorem exec_write (hwrite : isWrite c code args.length carry) (h : s.asked f rest code args) : exec c s
    = .next (placeUplink (replyTo f (writePending carry f (s.taken rest)).2) (writePending carry f (s.taken rest)).1) :=
  (hwrite s).trans (running_takeCommand_of_asked h _)

theorem write_of_closed {n : Nat} (hwrite : isWrite c code n carry) (hlength : args.length = n) (h : s.asked f rest code args)
    (hclosed : s.policy.pendingOpen = false) : s.answersWith c f rest (.refused .notOpen) := by
  have hcarry : writePending carry f (s.taken rest) = (s.taken rest, .refused .notOpen) := by
    simp [writePending, refuse, hclosed]
  subst hlength
  exact answersWith_of_taken ((exec_write hwrite h).trans (by rw [hcarry]))

theorem write_of_refused (hwrite : isWrite c code args.length carry) (h : s.asked f rest code args)
    (hopen : s.policy.pendingOpen = true) {r : RefusalReason} (hcarry : carry f (s.taken rest) = refuse r (s.taken rest)) :
    s.answersWith c f rest (.refused r) := by
  have hrefused : writePending carry f (s.taken rest) = (s.taken rest, .refused r) := by
    simp [writePending, hopen, hcarry, refuse]
  exact answersWith_of_taken ((exec_write hwrite h).trans (by rw [hrefused]))

/-- A write that is carried out changes the PENDING bank alone. -/
theorem write_of_carried (hwrite : isWrite c code args.length carry) (h : s.asked f rest code args)
    (hopen : s.policy.pendingOpen = true) {g : PolicyImage → PolicyImage}
    (hcarry : carry f (s.taken rest) = ((s.taken rest).modPending g, .ok)) :
    ∃ t, exec c s = .next t ∧ s.replies t f rest .ok
      ∧ t.policy = { s.policy with pendingBank := g s.policy.pendingBank } ∧ ChangesOnly [.receive, .uplink, .policy] s t := by
  have hcarried : writePending carry f (s.taken rest) = ((s.taken rest).modPending g, .ok) := by
    simp [writePending, hopen, hcarry]
  have hchanges := modPolicy_changes (s.taken rest) fun q => { q with pendingBank := g q.pendingBank }
  exact ⟨_, (exec_write hwrite h).trans (by rw [hcarried]; rfl), replies_placeUplink hchanges (by simp) (by simp) f .ok, rfl,
    placeUplink_taken_changes hchanges _⟩

/-! ### The four commands -/

theorem writeRule_isWrite : isWrite .writeRule 0x11 13 fun f s =>
    if h : f.arg 0 < 48 then
      (s.modPending fun i => { i with rules := i.rules.set (f.arg 0) (ruleOfBytes (f.payload.drop 3)) h }, .ok)
    else refuse .badIndex s := fun _ => rfl

theorem writeHeads_isWrite : isWrite .writeHeads 0x12 3 fun f s =>
    (s.modPending fun i =>
      { i with supplierHead := bitsOf (f.arg 0) 0 6, dockHead := bitsOf (f.arg 1) 0 6,
               legacyHead := bitsOf (f.arg 2) 0 6 }, .ok) := fun _ => rfl

theorem writeRating_isWrite : isWrite .writeRating 0x13 12 fun f s =>
    if h : f.arg 0 < 12 then
      (s.modPending fun i => { i with ratings := i.ratings.set (f.arg 0) (ratingOfBytes (f.payload.drop 3)) h }, .ok)
    else refuse .badIndex s := fun _ => rfl

theorem writeParams_isWrite : isWrite .writeParams 0x14 5 fun f s =>
    if h : f.arg 0 < 15 then
      (s.modPending fun i =>
        { i with params := i.params.set (f.arg 0) (f.argNumber 1 4 * paramStep (f.arg 0)) h }, .ok)
    else refuse .badIndex s := fun _ => rfl

/-- What follows the index byte of a command. -/
theorem State.asked.record {index : Byte} {l : List Byte} (h : s.asked f rest code (index :: l)) : f.payload.drop 3 = l := by
  obtain ⟨-, tag, -, hpayload⟩ := h
  simp [hpayload]

theorem bits_of_zeroExtend (a : BitVec 6) : bitsOf (a.zeroExtend 8 : BitVec 8).toNat 0 6 = a.toNat := by
  have hlt := a.isLt
  show bitsOf (a.setWidth 8).toNat 0 6 = a.toNat
  rw [BitVec.toNat_setWidth, Nat.mod_eq_of_lt (by omega), bitsOf_zero hlt]

end

/-- Settles O45. -/
theorem writesPutTheirRecordInPending : Obligations.WritesPutTheirRecordInPending := by
  intro s f rest
  refine ⟨fun hclosed a => ⟨fun ⟨h, hlength⟩ => ?_, fun ⟨h, hlength⟩ => ?_, fun ⟨h, hlength⟩ => ?_, fun ⟨h, hlength⟩ => ?_⟩,
    fun hopen index => ⟨fun r hr h => ?rule, fun a b c h => ?heads, fun r hr h => ?rating, fun v h => ?params⟩⟩
  · exact write_of_closed writeRule_isWrite hlength h hclosed
  · exact write_of_closed writeHeads_isWrite hlength h hclosed
  · exact write_of_closed writeRating_isWrite hlength h hclosed
  · exact write_of_closed writeParams_isWrite hlength h hclosed
  case rule =>
    obtain ⟨n, hn⟩ : ∃ n, n = index.toNat := ⟨_, rfl⟩
    have harg : f.arg 0 = n := (h.arg 0).trans hn.symm
    rw [← hn]
    subst harg
    have hrule : ruleOfBytes (f.payload.drop 3) = r := by rw [h.record, ruleOfBytes_bytesOfRule hr]
    refine ⟨fun hlt => ?_, fun hhigh => ?_⟩
    · refine write_of_carried writeRule_isWrite h hopen (g := fun i => { i with rules := i.rules.set (f.arg 0) r hlt }) ?_
      rw [dif_pos hlt, hrule]
    · exact write_of_refused writeRule_isWrite h hopen (dif_neg (by omega))
  case heads =>
    refine write_of_carried writeHeads_isWrite h hopen
      (g := fun i => { i with supplierHead := a.toNat, dockHead := b.toNat, legacyHead := c.toNat }) ?_
    have h0 : bitsOf (f.arg 0) 0 6 = a.toNat := (congrArg (bitsOf · 0 6) (h.arg 0)).trans (bits_of_zeroExtend a)
    have h1 : bitsOf (f.arg 1) 0 6 = b.toNat := (congrArg (bitsOf · 0 6) (h.arg 1)).trans (bits_of_zeroExtend b)
    have h2 : bitsOf (f.arg 2) 0 6 = c.toNat := (congrArg (bitsOf · 0 6) (h.arg 2)).trans (bits_of_zeroExtend c)
    rw [h0, h1, h2]
  case rating =>
    obtain ⟨n, hn⟩ : ∃ n, n = index.toNat := ⟨_, rfl⟩
    have harg : f.arg 0 = n := (h.arg 0).trans hn.symm
    rw [← hn]
    subst harg
    have hrating : ratingOfBytes (f.payload.drop 3) = r := by rw [h.record, ratingOfBytes_bytesOfRating hr]
    refine ⟨fun hlt => ?_, fun hhigh => ?_⟩
    · refine write_of_carried writeRating_isWrite h hopen (g := fun i => { i with ratings := i.ratings.set (f.arg 0) r hlt }) ?_
      rw [dif_pos hlt, hrating]
    · exact write_of_refused writeRating_isWrite h hopen (dif_neg (by omega))
  case params =>
    obtain ⟨n, hn⟩ : ∃ n, n = index.toNat := ⟨_, rfl⟩
    have harg : f.arg 0 = n := (h.arg 0).trans hn.symm
    rw [← hn]
    subst harg
    have hvalue : f.argNumber 1 4 = v.toNat := by
      have hbytes : numberAt (index :: fourBytes v.toNat) 1 4 = numberOf (fourBytes v.toNat) :=
        numberAt_of_append (before := [index]) (after := []) rfl (fourBytes v.toNat) rfl
      rw [h.argNumber, hbytes, numberOf_fourBytes, Nat.mod_eq_of_lt v.isLt]
    refine ⟨fun hlt => ?_, fun hhigh => ?_⟩
    · refine write_of_carried writeParams_isWrite h hopen
        (g := fun i => { i with params := i.params.set (f.arg 0) (v.toNat * paramStep (f.arg 0)) hlt }) ?_
      rw [dif_pos hlt, hvalue]
    · exact write_of_refused writeParams_isWrite h hopen (dif_neg (by omega))

end Sys2Proof.Machine
end

section
/-! PROOFS. MEASURE, SET FRAME CLASS, RELEASE CAPTURE and TAKE NOTICE (R70, R176, R179, R181). -/

namespace Sys2Proof.Machine

open Sys2Proof

section
variable {s t : State} {f : LinkFrame} {rest : List LinkFrame} {c : Instr} {code : Byte} {args : List Byte}
  {carry : LinkFrame → State → State × ReplyBody} {body : ReplyBody} {l : List Part}

/-- The row of the command of this code and of this many argument bytes. -/
def isCarried (c : Instr) (code : Byte) (n : Nat) (carry : LinkFrame → State → State × ReplyBody) : Prop :=
  ∀ s, exec c s = running (takeCommand (wantsCode code.toNat) (checkLength (n + 2) carry)) s

/-- A command that is carried out leaves its one REPLY beside what carrying it out changes. -/
theorem isCarried.replies (hrow : isCarried c code args.length carry) (h : s.asked f rest code args)
    (hcarry : carry f (s.taken rest) = (t, body)) (hchanges : ChangesOnly l (s.taken rest) t) (hreceive : .receive ∉ l)
    (huplink : .uplink ∉ l) : exec c s = .next (placeUplink (replyTo f body) t)
      ∧ s.replies (placeUplink (replyTo f body) t) f rest body
      ∧ ChangesOnly (.receive :: .uplink :: l) s (placeUplink (replyTo f body) t) :=
  ⟨((hrow s).trans (running_takeCommand_of_asked h _)).trans (by rw [hcarry]),
    replies_placeUplink hchanges hreceive huplink f body, placeUplink_taken_changes hchanges _⟩

/-- A command that changes nothing only answers. -/
theorem isCarried.answersWith (hrow : isCarried c code args.length carry) (h : s.asked f rest code args)
    (hcarry : carry f (s.taken rest) = (s.taken rest, body)) : s.answersWith c f rest body :=
  answersWith_of_taken (((hrow s).trans (running_takeCommand_of_asked h _)).trans (by rw [hcarry]))

/-! ### MEASURE (R70) -/

theorem measure_isCarried : isCarried .measure 0x09 1 fun f s =>
    match channelOfCode (f.arg 0) with
    | some c => (measureChannel c s, .ok)
    | none => refuse .badIndex s := fun _ => rfl

theorem channelOfCode_port (p : Port) : channelOfCode p.val = some (.id p) := by
  fin_cases p <;> rfl

theorem channelOfCode_none {n : Nat} (h : 5 < n) : channelOfCode n = none := by
  obtain ⟨m, rfl⟩ : ∃ m, n = m + 6 := ⟨n - 6, by omega⟩
  rfl

section
variable {p : Port}

theorem startMeasure_of_joined (h : (s.meter.port.get p).phase ≠ .idle) :
    startMeasure p true s = s.modPortMeasure p fun r => { r with measureFlag := true } := by
  unfold startMeasure
  split
  · next hidle => exact absurd hidle h
  all_goals rfl

theorem measure_of_idle (h : (s.meter.port.get p).phase = .idle) :
    ChangesOnly (.converter :: everyPort .measure) s (startMeasure p true s)
      ∧ ∃ phase, (phase = .queued ∨ phase = .converting)
        ∧ (startMeasure p true s).meter.port.get p = { (s.meter.port.get p).started true with phase := phase } := by
  rw [startMeasure_of_idle h]
  refine ⟨?_, ?_⟩
  · obtain ⟨hlo, hhi, hcount⟩ := (s.meter.started p true).take_references
    exact meter_port_changes (hlo.trans (Meter.add_refLo _ _)) (hhi.trans (Meter.add_refHi _ _))
      (hcount.trans (Meter.add_refreshCount _ _))
  · have hstarted : (s.meter.started p true).port.get p = (s.meter.port.get p).started true := by simp [Meter.started]
    by_cases hhead : (s.meter.started p true).inFlight = none ∧ (s.meter.started p true).queue.head? = some (.id p)
    · obtain ⟨hfree, hhead⟩ := hhead
      obtain ⟨tail, hqueue⟩ := List.head?_eq_some_iff.mp hhead
      obtain ⟨-, -, htaken, -⟩ := Meter.take_of_head hfree hqueue
      exact ⟨.converting, .inr rfl, (htaken p rfl).trans (by rw [hstarted])⟩
    · refine ⟨.queued, .inl rfl, ?_⟩
      have hsame : (s.meter.started p true).take.port.get p = (s.meter.started p true).port.get p := by
        by_cases hfree : (s.meter.started p true).inFlight = none
        · exact Meter.take_port_other fun he => hhead ⟨hfree, he⟩
        · unfold Meter.take
          split
          · next hnone _ => exact absurd hnone hfree
          · rfl
      exact hsame.trans (hstarted.trans rfl)

end

/-- A channel that is queued or converting stays so as the converter looks. -/
theorem Meter.placed_of_take {m : Meter} {c : Channel} (h : c ∈ m.queue ∨ m.inFlightChannel = some c) :
    c ∈ m.take.queue ∨ m.take.inFlightChannel = some c := by
  cases hflight : m.inFlight with
  | some v =>
    have hsame : m.take = m := by
      unfold Meter.take
      split
      · next hnone _ => exact absurd (hflight.symm.trans hnone) nofun
      · rfl
    rw [hsame]
    exact h
  | none =>
    have hqueued : c ∈ m.queue := h.resolve_right (by simp [Meter.inFlightChannel, hflight])
    obtain ⟨d, tail, hqueue⟩ := List.exists_cons_of_ne_nil (List.ne_nil_of_mem hqueued)
    obtain ⟨hrest, hconverting, -, -⟩ := Meter.take_of_head hflight hqueue
    rw [hqueue, List.mem_cons] at hqueued
    rcases hqueued with rfl | htail
    · exact .inr (by simp [Meter.inFlightChannel, hconverting])
    · exact .inl (hrest ▸ htail)

theorem Meter.placed_of_add (m : Meter) (c : Channel) : c ∈ (m.add c).queue ∨ (m.add c).inFlightChannel = some c := by
  unfold Meter.add
  split
  · next h => simpa using h
  · exact .inl (mem_insertChannel c m.queue)

/-- The meter with a reference's measure flag set. -/
def Meter.flagged (m : Meter) (hi : Bool) : Meter :=
  m.setReference hi { m.reference hi with measureFlag := true }

theorem measureChannel_reference (hi : Bool) (s : State) : measureChannel (referenceChannel hi) s
    = { s with meter := ((s.meter.flagged hi).add (referenceChannel hi)).take } := by
  cases hi <;> rfl

theorem measureReference_changes (hi : Bool) (s : State) :
    ChangesOnly ([.converter, .references] ++ everyPort .measure) s (measureChannel (referenceChannel hi) s) := by
  rw [measureChannel_reference]
  have hcount : ((s.meter.flagged hi).add (referenceChannel hi)).take.refreshCount = s.meter.refreshCount := by
    rw [(Meter.take_references _).2.2, Meter.add_refreshCount]
    cases hi <;> rfl
  intro part hpart
  cases part <;> simp_all [Part.same]

theorem measure_port {p : Port} {k : Byte} (hk : k.toNat = p.val) (h : s.asked f rest 0x09 [k]) :
    ∃ t, exec .measure s = .next t ∧ s.replies t f rest .ok
      ∧ (t.meter.port.get p).measureFlag = true
      ∧ ((s.meter.port.get p).phase = .idle →
          (t.meter.port.get p).attempts = 0 ∧ (t.meter.port.get p).previous = none
            ∧ ((t.meter.port.get p).phase = .queued ∨ (t.meter.port.get p).phase = .converting))
      ∧ ((s.meter.port.get p).phase ≠ .idle →
          t.meter.port.get p = { s.meter.port.get p with measureFlag := true }
            ∧ t.meter.queue = s.meter.queue ∧ t.meter.inFlight = s.meter.inFlight)
      ∧ ChangesOnly ([.receive, .uplink, .converter] ++ everyPort .measure) s t := by
  have hcode : channelOfCode (f.arg 0) = some (.id p) := by
    rw [h.arg 0, show byteAt [k] 0 = p.val from hk, channelOfCode_port]
  have hcarry : (match channelOfCode (f.arg 0) with
      | some c => (measureChannel c (s.taken rest), ReplyBody.ok)
      | none => refuse .badIndex (s.taken rest)) = (startMeasure p true (s.taken rest), .ok) := by
    rw [hcode]
    rfl
  by_cases hphase : (s.meter.port.get p).phase = .idle
  · obtain ⟨hchanges, phase, hwhich, hrecord⟩ := measure_of_idle (s := s.taken rest) hphase
    obtain ⟨hexec, hreplies, hframe⟩ := measure_isCarried.replies h hcarry hchanges (by simp [everyPort]) (by simp [everyPort])
    refine ⟨_, hexec, hreplies, congrArg PortMeasure.measureFlag hrecord, fun _ => ?_, fun hbusy => absurd hphase hbusy, hframe⟩
    refine ⟨congrArg PortMeasure.attempts hrecord, congrArg PortMeasure.previous hrecord, ?_⟩
    have hafter : ((startMeasure p true (s.taken rest)).meter.port.get p).phase = phase := congrArg PortMeasure.phase hrecord
    exact hwhich.imp hafter.trans hafter.trans
  · have hjoined := startMeasure_of_joined (s := s.taken rest) hphase
    have hchanges : ChangesOnly (.converter :: everyPort .measure) (s.taken rest) (startMeasure p true (s.taken rest)) := by
      rw [hjoined]
      exact (modPortMeasure_changes _ _ _).mono (by simp)
    have hrecord : (startMeasure p true (s.taken rest)).meter.port.get p = { s.meter.port.get p with measureFlag := true } := by
      rw [hjoined, modPortMeasure_measure]
      rfl
    have hconverter : (startMeasure p true (s.taken rest)).meter.queue = s.meter.queue
        ∧ (startMeasure p true (s.taken rest)).meter.inFlight = s.meter.inFlight := by
      rw [hjoined]
      exact ⟨rfl, rfl⟩
    obtain ⟨hexec, hreplies, hframe⟩ := measure_isCarried.replies h hcarry hchanges (by simp [everyPort]) (by simp [everyPort])
    exact ⟨_, hexec, hreplies, congrArg PortMeasure.measureFlag hrecord, fun hidle => absurd hidle hphase,
      fun _ => ⟨hrecord, hconverter⟩, hframe⟩

theorem measure_reference {hi : Bool} (h : s.asked f rest 0x09 [if hi then 5 else 4]) :
    let c : Channel := if hi then .refHi else .refLo
    ∃ t, exec .measure s = .next t ∧ s.replies t f rest .ok
      ∧ (if hi then t.meter.refHi else t.meter.refLo)
          = { (if hi then s.meter.refHi else s.meter.refLo) with measureFlag := true }
      ∧ (if hi then t.meter.refLo else t.meter.refHi) = (if hi then s.meter.refLo else s.meter.refHi)
      ∧ (c ∈ t.meter.queue ∨ t.meter.inFlightChannel = some c)
      ∧ ChangesOnly ([.receive, .uplink, .converter, .references] ++ everyPort .measure) s t := by
  have hcode : channelOfCode (f.arg 0) = some (referenceChannel hi) := by
    rw [h.arg 0]
    cases hi <;> rfl
  have hcarry : (match channelOfCode (f.arg 0) with
      | some c => (measureChannel c (s.taken rest), ReplyBody.ok)
      | none => refuse .badIndex (s.taken rest)) = (measureChannel (referenceChannel hi) (s.taken rest), .ok) := by
    rw [hcode]
  obtain ⟨hexec, hreplies, hframe⟩ := measure_isCarried.replies h hcarry (measureReference_changes hi _)
    (by simp [everyPort]) (by simp [everyPort])
  have hmeter : (measureChannel (referenceChannel hi) (s.taken rest)).meter
      = ((s.meter.flagged hi).add (referenceChannel hi)).take := by rw [measureChannel_reference]; rfl
  have hplaced := Meter.placed_of_take (Meter.placed_of_add (s.meter.flagged hi) (referenceChannel hi))
  obtain ⟨hlo, hhi, -⟩ := ((s.meter.flagged hi).add (referenceChannel hi)).take_references
  rw [Meter.add_refLo, ← hmeter] at hlo
  rw [Meter.add_refHi, ← hmeter] at hhi
  rw [← hmeter] at hplaced
  refine ⟨_, hexec, hreplies, ?_, ?_, ?_, hframe⟩
  · cases hi
    · exact hlo
    · exact hhi
  · cases hi
    · exact hhi
    · exact hlo
  · cases hi <;> exact hplaced

theorem measure_unnamed {k : Byte} (hk : 5 < k.toNat) (h : s.asked f rest 0x09 [k]) :
    s.answersWith .measure f rest (.refused .badIndex) := by
  have hnone : channelOfCode (f.arg 0) = none := by
    rw [h.arg 0]
    exact channelOfCode_none hk
  refine measure_isCarried.answersWith h ?_
  rw [hnone]
  rfl

/-! ### SET FRAME CLASS (R25, R176) -/

theorem setFrameClass_isCarried : isCarried .setFrameClass 0x22 2 fun f s =>
    if f.arg 0 < 0x10 ∨ 0x2F < f.arg 0 then refuse .badIndex s
    else
      match frameClassOfCode (f.arg 1) with
      | some c => (setFrameClass (f.arg 0) c s, .ok)
      | none => refuse .range s := fun _ => rfl

theorem frameClassOfCode_none {n : Nat} (h : 2 < n) : frameClassOfCode n = none := by
  obtain ⟨m, rfl⟩ : ∃ m, n = m + 3 := ⟨n - 3, by omega⟩
  rfl

theorem frameClassOfCode_byte {code : Byte} (h : code.toNat ≤ 2) :
    frameClassOfCode code.toNat = some (if code = 0 then .forward else if code = 1 then .discard else .capture) := by
  have hcases : code = 0 ∨ code = 1 ∨ code = 2 := by bv_omega
  rcases hcases with rfl | rfl | rfl <;> rfl

@[simp] theorem placeUplink_frameClass (f : UplinkFrame) (s : State) :
    (placeUplink f s).link.frameClass = s.link.frameClass := placeUplink_changes f s .frameClass (by simp)

theorem setFrameClass_class (n : Fin 32) (k : FrameClass) (s : State) (m : Fin 32) :
    (setFrameClass (0x10 + n.val) k s).link.frameClass[m] = if m = n then k else s.link.frameClass[m] := by
  simp only [setFrameClass, State.modLink, Nat.add_sub_cancel_left, Fin.getElem_fin, Vector.getElem_setIfInBounds]
  by_cases hm : n.val = m.val
  · rw [if_pos hm, if_pos (Fin.ext hm.symm)]
  · rw [if_neg hm, if_neg fun he => hm (congrArg Fin.val he.symm)]

theorem setFrameClass_spec (kind code : Byte) (h : s.asked f rest 0x22 [kind, code]) :
    (kind.toNat < 0x10 ∨ 0x2F < kind.toNat → s.answersWith .setFrameClass f rest (.refused .badIndex))
    ∧ (0x10 ≤ kind.toNat → kind.toNat ≤ 0x2F → 2 < code.toNat →
        s.answersWith .setFrameClass f rest (.refused .range))
    ∧ (∀ n : Fin 32, kind.toNat = 0x10 + n.val → code.toNat ≤ 2 →
        ∃ t, exec .setFrameClass s = .next t ∧ s.replies t f rest .ok
          ∧ t.link.frameClass[n]
              = (if code = 0 then .forward else if code = 1 then .discard else .capture)
          ∧ (∀ m : Fin 32, m ≠ n → t.link.frameClass[m] = s.link.frameClass[m])
          ∧ ChangesOnly [.receive, .uplink, .frameClass] s t) := by
  have hkind : f.arg 0 = kind.toNat := h.arg 0
  have hclass : f.arg 1 = code.toNat := h.arg 1
  refine ⟨fun hout => ?_, fun hlow hhigh hwide => ?_, fun n hn hnarrow => ?_⟩
  · exact setFrameClass_isCarried.answersWith h (if_pos (by rwa [hkind]))
  · refine setFrameClass_isCarried.answersWith h ((if_neg (by omega)).trans ?_)
    rw [hclass, frameClassOfCode_none hwide]
    rfl
  · obtain ⟨k, hk⟩ : ∃ k : FrameClass, k = if code = 0 then .forward else if code = 1 then .discard else .capture := ⟨_, rfl⟩
    have hcarry : frameClassOfCode (f.arg 1) = some k := by rw [hclass, frameClassOfCode_byte hnarrow, hk]
    rw [← hk]
    obtain ⟨hexec, hreplies, hframe⟩ := setFrameClass_isCarried.replies h (body := .ok)
      (t := setFrameClass (0x10 + n.val) k (s.taken rest)) ((if_neg (by omega)).trans (by rw [hcarry, hkind, hn]))
      (setFrameClass_changes _ k _) (by simp) (by simp)
    refine ⟨_, hexec, hreplies, ?_, fun m hm => ?_, hframe⟩
    · rw [placeUplink_frameClass]
      exact (setFrameClass_class n k (s.taken rest) n).trans (if_pos rfl)
    · rw [placeUplink_frameClass]
      exact (setFrameClass_class n k (s.taken rest) m).trans (if_neg hm)

/-! ### RELEASE CAPTURE (R179) -/

theorem releaseCapture_isCarried : isCarried .releaseCapture 0x23 0 (checkPort fun p _ s =>
    match (s.framer.get p).capture with
    | some c => (clearNotice (.capture p) (s.modFramer p fun f => { f with capture := none }), .data (.capture c))
    | none => refuse .empty s) := fun _ => rfl

theorem clearNotice_same (g : NoticeFlag) (s : State) : (clearNotice g s).link.notices.get g = none := by
  simp [clearNotice, NoticeSet.get_put]

theorem releaseCapture_spec {p : Port} (hp : f.names p) (h : s.asked f rest 0x23 []) :
    ((s.framer.get p).capture = none → s.answersWith .releaseCapture f rest (.refused .empty))
      ∧ ∀ c, (s.framer.get p).capture = some c →
          ∃ t, exec .releaseCapture s = .next t ∧ s.replies t f rest (.data (.capture c))
            ∧ t.framer.get p = { s.framer.get p with capture := none }
            ∧ t.link.notices.get (.capture p) = none
            ∧ ChangesOnly [.receive, .uplink, .framer p, .notice (.capture p)] s t := by
  refine ⟨fun hnone => ?_, fun k hk => ?_⟩
  · refine releaseCapture_isCarried.answersWith h ((checkPort_of_names hp _ _).trans ?_)
    rw [taken_framer, hnone]
    rfl
  · have hchanges : ChangesOnly [.framer p, .notice (.capture p)] (s.taken rest)
        (clearNotice (.capture p) ((s.taken rest).modFramer p fun f => { f with capture := none })) :=
      ((modFramer_changes _ _ _).mono (by simp)).trans ((clearNotice_changes _ _).mono (by simp))
    obtain ⟨hexec, hreplies, hframe⟩ := releaseCapture_isCarried.replies h (body := .data (.capture k))
      ((checkPort_of_names hp _ _).trans (by rw [taken_framer, hk])) hchanges (by simp) (by simp)
    refine ⟨_, hexec, hreplies, ?_, ?_, hframe⟩
    · exact Four.get_set_same _ _ _
    · rw [placeUplink_notices]
      exact clearNotice_same _ _

/-! ### TAKE NOTICE (R181) -/

theorem highest_of_none (h : ∀ g, s.link.notices.get g = none) : s.link.notices.highest = none := by
  rw [NoticeSet.highest, List.findSome?_eq_none_iff]
  intro g _
  rw [h g]
  rfl

theorem highest_of_first {before after : List NoticeFlag} {g : NoticeFlag} {n : Notice}
    (horder : noticeOrder = before ++ g :: after) (hbefore : ∀ h ∈ before, s.link.notices.get h = none)
    (hset : s.link.notices.get g = some n) : s.link.notices.highest = some { flag := g, notice := n } := by
  have hskip : before.findSome? (fun h => (s.link.notices.get h).map fun v => (⟨h, v⟩ : TakenNotice)) = none := by
    rw [List.findSome?_eq_none_iff]
    intro h hmem
    rw [hbefore h hmem]
    rfl
  rw [NoticeSet.highest, horder, List.findSome?_append, hskip, List.findSome?_cons, hset]
  rfl

theorem takeNotice_isCarried : isCarried .takeNotice 0x24 0 fun _ s =>
    match s.link.notices.highest with
    | some t => (clearNotice t.flag s, .data (.notice (some t)))
    | none => answer (.data (.notice none)) s := fun _ => rfl

theorem takeNotice_spec (h : s.asked f rest 0x24 []) :
    ((∀ g, s.link.notices.get g = none) → s.answersWith .takeNotice f rest (.data (.notice none)))
      ∧ ∀ (before after : List NoticeFlag) (g : NoticeFlag) (n : Notice),
          noticeOrder = before ++ g :: after → (∀ h ∈ before, s.link.notices.get h = none) →
          s.link.notices.get g = some n →
          ∃ t, exec .takeNotice s = .next t
            ∧ s.replies t f rest (.data (.notice (some { flag := g, notice := n })))
            ∧ t.link.notices.get g = none ∧ ChangesOnly [.receive, .uplink, .notice g] s t := by
  refine ⟨fun hnone => ?_, fun before after g n horder hbefore hset => ?_⟩
  · refine takeNotice_isCarried.answersWith h ?_
    rw [highest_of_none (s := s.taken rest) hnone]
    rfl
  · obtain ⟨hexec, hreplies, hframe⟩ := takeNotice_isCarried.replies h
      (body := .data (.notice (some { flag := g, notice := n }))) (t := clearNotice g (s.taken rest))
      (by rw [highest_of_first (s := s.taken rest) horder hbefore hset]) (clearNotice_changes g _) (by simp) (by simp)
    refine ⟨_, hexec, hreplies, ?_, hframe⟩
    rw [placeUplink_notices]
    exact clearNotice_same g _

end

/-- Settles O50. -/
theorem linkCommandsActOnWhatTheyName : Obligations.LinkCommandsActOnWhatTheyName := fun _ _ _ =>
  ⟨fun _ _ hk h => measure_port hk h, fun _ h => measure_reference h, fun _ hk h => measure_unnamed hk h,
    setFrameClass_spec, fun _ hp h => releaseCapture_spec hp h, takeNotice_spec⟩

end Sys2Proof.Machine
end

section
/-! PROOFS. The taking of a frame by its row with exactly one REPLY (R172, R173, R178). -/

namespace Sys2Proof.Machine

open Sys2Proof

section
variable {s t : State} {f : LinkFrame} {rest : List LinkFrame} {c : Instr} {wanted : LinkFrame → Bool}
  {carry : LinkFrame → State → State × ReplyBody} {body : ReplyBody} {r : RefusalReason}

/-! ### The row that takes the head frame -/

theorem LinkRow.exec (hrow : LinkRow c wanted carry) (hhead : s.headFrame f rest) (hwanted : wanted f = true) :
    exec c s = .next (placeUplink (replyTo f (carry f (s.taken rest)).2) (carry f (s.taken rest)).1) := by
  obtain ⟨hrun, -⟩ := id hhead
  rw [hrow.runs, running_free _ hrun, takeCommand_takes hhead hwanted]

/-- A row that turns its frame away only answers. -/
theorem LinkRow.answersWith (hrow : LinkRow c wanted carry) (hhead : s.headFrame f rest) (hwanted : wanted f = true)
    (hcarry : carry f (s.taken rest) = refuse r (s.taken rest)) : s.answersWith c f rest (.refused r) :=
  answersWith_of_taken ((hrow.exec hhead hwanted).trans (by rw [hcarry]; rfl))

/-- A frame of a code of the command table is wanted by that code's row, which tests its length first (R173). -/
theorem LinkRow.of_frame {k : Nat} (hk : k ∈ commandCodes) (hcode : f.code = some k) :
    ∃ wanted inner, LinkRow (rowOfCode k) wanted (checkLength (requiredLength k) inner) ∧ wanted f = true
      ∧ (k ∈ portCommands → ∃ atPort, inner = checkPort atPort) := by
  have htakes : ∀ k ∈ commandCodes, takesFrame (rowOfCode k) = true := by decide
  obtain ⟨wanted, carry, hrow⟩ := linkRow_of_takesFrame (htakes k hk)
  obtain ⟨inner, rfl, hport⟩ := hrow.coded k hk rfl
  have hkind : f.kind = linkCommand := by
    by_contra hkind
    simp [LinkFrame.code, hkind] at hcode
  exact ⟨wanted, inner, hrow, hrow.wants f (.inl hkind) (rowOfFrame_of_code hcode), hport⟩

theorem takesFrame_rowOfFrame (f : LinkFrame) : takesFrame (rowOfFrame f) = true := by
  unfold rowOfFrame
  split
  · rfl
  · split
    · next k _ =>
      have htakes : ∀ k ∈ commandCodes, takesFrame (rowOfCode k) = true := by decide
      by_cases hk : k ∈ commandCodes
      · exact htakes k hk
      · rw [rowOfCode_unknown hk]
        rfl
    · rfl

theorem wrongLength_answersWith {k : Nat} (hhead : s.headFrame f rest) (hk : k ∈ commandCodes) (hcode : f.code = some k)
    (hlength : f.payload.length ≠ requiredLength k) : s.answersWith (rowOfCode k) f rest (.refused .length) := by
  obtain ⟨wanted, inner, hrow, hwanted, -⟩ := LinkRow.of_frame hk hcode
  exact hrow.answersWith hhead hwanted (if_neg hlength)

theorem checkPort_of_unnamed (h : 4 ≤ f.port.toNat) (atPort : Port → LinkFrame → State → State × ReplyBody) (s : State) :
    checkPort atPort f s = refuse .badIndex s := by
  rw [checkPort, portOfByte, dif_neg (by omega)]

theorem unnamedPort_answersWith {k : Nat} (hhead : s.headFrame f rest) (hk : k ∈ commandCodes) (hcode : f.code = some k)
    (hlength : f.payload.length = requiredLength k) (hport : k ∈ portCommands) (hunnamed : 4 ≤ f.port.toNat) :
    s.answersWith (rowOfCode k) f rest (.refused .badIndex) := by
  obtain ⟨wanted, inner, hrow, hwanted, hchecks⟩ := LinkRow.of_frame hk hcode
  obtain ⟨atPort, rfl⟩ := hchecks hport
  exact hrow.answersWith hhead hwanted ((if_pos hlength).trans (checkPort_of_unnamed hunnamed _ _))

/-- A row takes its frame with one REPLY, and changes no state where it turns the frame away. -/
theorem LinkRow.takes (hrow : LinkRow c wanted carry) (hc : takesFrame c = true) (hhead : s.headFrame f rest)
    (hwanted : wanted f = true) (hplain : f.isRestart = false) :
    ∃ t body, Machine.exec c s = .next t ∧ s.replies t f rest body ∧ (body.turnsAway → ChangesOnly [.receive, .uplink] s t) := by
  by_cases hrestart : c = .restart
  · have hrow' : rowOfFrame f = rowOfCode 0x3F := (hrow.row f hwanted).trans hrestart
    have hcode := rowOfFrame_eq_rowOfCode (by decide) hrow'
    have hlength : f.payload.length ≠ requiredLength 0x3F := fun hlength => by
      rw [(isRestart_iff f).mpr ⟨hcode, hlength⟩] at hplain
      exact absurd hplain (by decide)
    obtain ⟨t, hexec, hreplies, hframe⟩ := wrongLength_answersWith hhead (by decide) hcode hlength
    rw [hrestart]
    exact ⟨t, _, hexec, hreplies, fun _ => hframe⟩
  · obtain ⟨hreceive, huplink⟩ := carryParts_link hc hrestart
    obtain ⟨hchanges, haway⟩ := hrow.carried f (s.taken rest)
    refine ⟨_, _, hrow.exec hhead hwanted, replies_placeUplink hchanges hreceive huplink f _, fun hturned => ?_⟩
    rw [haway hturned]
    exact placeUplink_taken_changes (l := []) (.refl _ _) _

/-! ### No other event takes a frame -/

theorem receive_of_link (hc : takesFrame c = true) (hrestart : c ≠ .restart) (h : exec c s = .next t) :
    t.link.receive = s.link.receive
      ∨ ∃ f rest body, s.headFrame f rest ∧ c = rowOfFrame f ∧ s.replies t f rest body
        ∧ (body.turnsAway → ChangesOnly [.receive, .uplink] s t) := by
  obtain ⟨wanted, carry, hrow⟩ := linkRow_of_takesFrame hc
  have hstep := h
  rw [hrow.runs] at hstep
  cases hrun : s.inReset with
  | true =>
    rw [running_held _ hrun] at hstep
    cases hstep
    exact .inl rfl
  | false =>
    rw [running_free _ hrun] at hstep
    cases htakable : s.link.takable with
    | none =>
      simp only [takeCommand, htakable] at hstep
      cases hstep
      exact .inl rfl
    | some f =>
      by_cases hwanted : wanted f = true
      · have hplain : f.isRestart = false := by
          by_contra hr
          exact hrestart ((hrow.row f hwanted).symm.trans (rowOfFrame_of_isRestart (by simpa using hr)))
        obtain ⟨rest, hreceive, -⟩ := (takable_eq_some_iff _ _).mp htakable
        have hhead : s.headFrame f rest :=
          ⟨hrun, hreceive, (takable_room htakable).resolve_left (by rw [hplain]; exact Bool.false_ne_true)⟩
        obtain ⟨u, body, hexec, hreplies, haway⟩ := hrow.takes hc hhead hwanted hplain
        rw [h] at hexec
        cases hexec
        exact .inr ⟨f, rest, body, hhead, (hrow.row f hwanted).symm, hreplies, haway⟩
      · simp only [takeCommand, htakable, hwanted] at hstep
        cases hstep
        exact .inl rfl

theorem receive_not_mem_commandParts (hc : takesFrame c = false) (hgap : c ≠ .byteGapTimeout)
    (hstored : ∀ bytes, c ≠ .downlinkFrameStored bytes) : .receive ∉ commandParts c := by
  have hsupply : Part.receive ∉ supplyParts := by simp [supplyParts]
  have hmeter : Part.receive ∉ meterParts := by simp [meterParts]
  have hseq : Part.receive ∉ sequencerParts := by simp [sequencerParts, hsupply]
  have houtside : Part.receive ∉ outsideParts := by simp [outsideParts, hsupply, hmeter, everyNotice]
  have hevent : Part.receive ∉ eventParts := by simp [eventParts, houtside, hseq]
  have himage : Part.receive ∉ .notice .silence :: imageParts := by simp [imageParts, hsupply]
  have hend : Part.receive ∉ [.reset, .supervisor, .budget, .policy, .uplink] ++ meterParts := by simp [hmeter]
  cases c with
  | byteGapTimeout => exact absurd rfl hgap
  | downlinkFrameStored bytes => exact absurd rfl (hstored bytes)
  | powerOnReset => exact List.not_mem_nil
  | resetEnd => exact hend
  | uholdChange | uplinkFrameEnd => exact List.not_mem_cons_of_ne_of_not_mem nofun List.not_mem_nil
  | silenceTimerExpiry => exact himage
  | unknownCommand | identify | readPort | readBook | readContract | readPartner | readLimit | readSupply | readMeter
  | measure | openPolicy | writeRule | writeHeads | writeRating | writeParams | readPolicy | applyPolicy | setPlatform
  | barPort | setFrameClass | releaseCapture | takeNotice | relayDown | restart => cases hc
  | presenceRise | presenceFall | debounceRiseExpiry | sensingFallExpiry | probeTimerExpiry | coolOffExpiry | badFrame
  | announce | offer | demand | retire | partOnlyKindFrame | talkFrameSent | resendTimerExpiry | referenceConversionEnd
  | portConversionEnd | conversionOpen => exact houtside
  | otherKindFrame => exact List.not_mem_cons_of_ne_of_not_mem nofun houtside
  | _ => exact hevent

theorem receive_of_byteGap (h : exec .byteGapTimeout s = .next t) : t.link.receive = s.link.receive := by
  change execByteGapTimeout s = _ at h
  refine running_preserves (P := fun u => u.link.receive = s.link.receive) h (fun hs => ?_) rfl
  split
  · exact hs
  · exact hs

theorem receive_of_other (hc : takesFrame c = false) (hreset : c ≠ .powerOnReset)
    (hstored : ∀ bytes, c ≠ .downlinkFrameStored bytes) (h : exec c s = .next t) : t.link.receive = s.link.receive := by
  by_cases hgap : c = .byteGapTimeout
  · exact receive_of_byteGap (hgap ▸ h)
  · exact (exec_changes h hreset .receive (receive_not_mem_commandParts hc hgap hstored)).1

end

/-- Settles O42. -/
theorem takenFramesAreAnsweredOnce : Obligations.TakenFramesAreAnsweredOnce := by
  refine ⟨fun s f rest hhead => ⟨fun hkind hplain => ?_, fun hkind hunknown => ?_,
    fun k hk hcode => ⟨wrongLength_answersWith hhead hk hcode, unnamedPort_answersWith hhead hk hcode⟩,
    fun hkind => ⟨fun hlong => ?_, fun hlow hhigh hunnamed => ?_⟩⟩, fun c s t hreset hrestart hstored h => ?_⟩
  · have htakes := takesFrame_rowOfFrame f
    obtain ⟨wanted, carry, hrow⟩ := linkRow_of_takesFrame htakes
    obtain ⟨t, body, hexec, hreplies, -⟩ := hrow.takes htakes hhead (hrow.wants f hkind rfl) hplain
    exact ⟨t, body, hexec, hreplies⟩
  · refine unknownCommand_linkRow.answersWith hhead ?_ rfl
    cases hcode : f.code with
    | none => simp [LinkFrame.isUnknown, hcode, hkind, linkCommand]
    | some k =>
      have hk : k ∉ commandCodes := fun hmem => hunknown k hmem hcode
      simp [LinkFrame.isUnknown, hcode, hkind, linkCommand, hk]
  · exact relayDown_linkRow.answersWith hhead (by simp [LinkFrame.isRelayDown, hkind, linkRelayDown]) (if_pos (.inr hlong))
  · exact relayDown_linkRow.answersWith hhead (by simp [LinkFrame.isRelayDown, hkind, linkRelayDown])
      ((if_neg (by omega)).trans (checkPort_of_unnamed hunnamed _ _))
  · cases hc : takesFrame c with
    | true => exact receive_of_link hc hrestart h
    | false => exact .inl (receive_of_other hc hreset hstored h)

end Sys2Proof.Machine
end

section
/-! PROOFS. What the READ commands and IDENTIFY answer (R70, R83, R175). -/

namespace Sys2Proof.Machine

open Sys2Proof

section
variable {s : State} {f : LinkFrame} {rest : List LinkFrame} {c : Instr} {code : Byte} {args : List Byte}
  {data : LinkFrame → State → Except RefusalReason ReplyData}
  {portData : Port → LinkFrame → State → Except RefusalReason ReplyData}

/-! ### A READ answers its data, or the reason it is refused -/

/-- What a READ whose answer is this one says. -/
def readBody : Except RefusalReason ReplyData → ReplyBody
  | .ok d => .data d
  | .error e => .refused e

theorem readReply_eq (r : Except RefusalReason ReplyData) (s : State) : readReply r s = (s, readBody r) := by
  cases r <;> rfl

theorem isCarried.reads (hrow : isCarried c code args.length fun f s => readReply (data f s) s)
    (h : s.asked f rest code args) {r : Except RefusalReason ReplyData} (hdata : data f (s.taken rest) = r) : s.answersWith c f rest (readBody r) :=
  hrow.answersWith h ((readReply_eq _ _).trans (by rw [hdata]))

theorem isCarried.readsPort
    (hrow : isCarried c code args.length (checkPort fun p f s => readReply (portData p f s) s)) {p : Port} (hp : f.names p) (h : s.asked f rest code args) {r : Except RefusalReason ReplyData}
    (hdata : portData p f (s.taken rest) = r) : s.answersWith c f rest (readBody r) :=
  hrow.answersWith h ((checkPort_of_names hp _ _).trans ((readReply_eq _ _).trans (by rw [hdata])))

theorem readBook_isCarried : isCarried .readBook 0x03 1 (checkPort fun p f s => readReply (s.bookData p (f.arg 0)) s) :=
  fun _ => rfl

theorem readContract_isCarried :
    isCarried .readContract 0x04 1 (checkPort fun p f s => readReply (s.contractData p (f.arg 0)) s) := fun _ => rfl

theorem readPartner_isCarried :
    isCarried .readPartner 0x05 0 (checkPort fun p f s => readReply (s.partnerData p f.branch.toNat) s) := fun _ => rfl

theorem readLimit_isCarried : isCarried .readLimit 0x06 1 fun f s => readReply (s.limitData (f.arg 0)) s := fun _ => rfl

theorem readSupply_isCarried : isCarried .readSupply 0x07 1 fun f s => readReply (s.supplyData (f.arg 0)) s := fun _ => rfl

theorem readMeter_isCarried : isCarried .readMeter 0x08 1 fun f s => readReply (s.meterData (f.arg 0)) s := fun _ => rfl

theorem readPolicy_isCarried : isCarried .readPolicy 0x15 3 fun f s =>
    answer (s.policy.read (f.arg 0) (f.arg 1) (f.arg 2)) s := fun _ => rfl

theorem identify_isCarried : isCarried .identify 0x01 0 fun _ s =>
    answer (.data (.identify Config.partCode Config.revision s.supervisor.straps
      (strapPopulated s.supervisor.straps) s.supervisor.autonomous)) s := fun _ => rfl

theorem readPort_isCarried : isCarried .readPort 0x02 0 (checkPort fun p _ s =>
    (s.modFramer p fun f => { f with latchedUnsound := false }, .data (s.portData p))) := fun _ => rfl

/-! ### The data by selector -/

variable {p : Port}

theorem bookData_point {k : Byte} (hk : k ≠ 0) {q : OfferPoint} (hq : (s.book.get p).points[k.toNat - 1]? = some q) :
    s.bookData p k.toNat = .ok (.bookPoint q) := by
  have hpos : k.toNat ≠ 0 := by bv_omega
  simp only [State.bookData, if_neg hpos, hq]

theorem bookData_out {k : Byte} (hk : k ≠ 0) (hlength : (s.book.get p).points.length < k.toNat) :
    s.bookData p k.toNat = .error .badIndex := by
  have hpos : k.toNat ≠ 0 := by bv_omega
  have hnone : (s.book.get p).points[k.toNat - 1]? = none := List.getElem?_eq_none (by omega)
  simp only [State.bookData, if_neg hpos, hnone]

theorem contractData_out {n : Nat} (h : 2 < n) : s.contractData p n = .error .badIndex := by
  obtain ⟨m, rfl⟩ : ∃ m, n = m + 3 := ⟨n - 3, by omega⟩
  rfl

theorem limitData_out {n : Nat} (h : 3 < n) : s.limitData n = .error .badIndex := by
  obtain ⟨m, rfl⟩ : ∃ m, n = m + 4 := ⟨n - 4, by omega⟩
  rfl

theorem partnerData_of_branch {b : Nat} (hb : b ≤ 6) : s.partnerData p b = if s.hasRecord p b then
    .ok (.partner p b (if b = 0 then s.table.own.get p else none) ((s.grantOf p b).map Grant.field))
  else .error .noRecord := if_neg (by omega)

theorem supplyData_grant {n : Fin 16} {k : Byte} (hk : k.toNat = 0x10 + n.val) {x : GrantView}
    (hx : s.grantsByOrder[n.val]? = some x) :
    s.supplyData k.toNat = .ok (.supplyGrant x) := by
  have hn := n.isLt
  rw [State.supplyData, if_neg (by omega), if_pos (by omega), hk, Nat.add_sub_cancel_left, hx]

theorem supplyData_no_grant {n : Fin 16} {k : Byte} (hk : k.toNat = 0x10 + n.val)
    (hlength : s.grantsByOrder.length ≤ n.val) :
    s.supplyData k.toNat = .error .badIndex := by
  have hn := n.isLt
  rw [State.supplyData, if_neg (by omega), if_pos (by omega), hk, Nat.add_sub_cancel_left,
    List.getElem?_eq_none hlength]

theorem supplyData_wait {n : Fin 8} {k : Byte} (hk : k.toNat = 0x40 + n.val) {x : WaitEntry}
    (hx : s.supply.waitList[n.val]? = some x) :
    s.supplyData k.toNat = .ok (.supplyWait x) := by
  have hn := n.isLt
  rw [State.supplyData, if_neg (by omega), if_neg (by omega), if_pos (by omega), hk, Nat.add_sub_cancel_left, hx]

theorem supplyData_no_wait {n : Fin 8} {k : Byte} (hk : k.toNat = 0x40 + n.val)
    (hlength : s.supply.waitList.length ≤ n.val) :
    s.supplyData k.toNat = .error .badIndex := by
  have hn := n.isLt
  rw [State.supplyData, if_neg (by omega), if_neg (by omega), if_pos (by omega), hk, Nat.add_sub_cancel_left,
    List.getElem?_eq_none hlength]

theorem supplyData_out {n : Nat} (h : (0 < n ∧ n < 0x10) ∨ (0x20 ≤ n ∧ n < 0x40) ∨ 0x48 ≤ n) :
    s.supplyData n = .error .badIndex := by
  rw [State.supplyData, if_neg (by omega), if_neg (by omega), if_neg (by omega)]

/-- Grants in order number are an insertion sort of the grants in force. -/
theorem grantsByOrder_eq (s : State) : s.grantsByOrder = s.grants.insertionSort fun g h => g.grant.order ≤ h.grant.order := by
  have hinsert : ∀ (g : GrantView) (l : List GrantView),
      insertByOrder g l = l.orderedInsert (fun g h => g.grant.order ≤ h.grant.order) g := by
    intro g l
    induction l with
    | nil => rfl
    | cons h l ih => simp only [insertByOrder, List.orderedInsert_cons, ih]
  unfold State.grantsByOrder
  induction s.grants with
  | nil => rfl
  | cons g l ih => rw [List.foldr_cons, ih, hinsert, List.insertionSort_cons]

theorem grantsByOrder_pairwise (s : State) : s.grantsByOrder.Pairwise fun g h => g.grant.order ≤ h.grant.order := by
  rw [grantsByOrder_eq]
  have htotal : Std.Total fun g h : GrantView => g.grant.order ≤ h.grant.order := ⟨fun g h => Nat.le_total _ _⟩
  have htrans : IsTrans GrantView fun g h => g.grant.order ≤ h.grant.order := ⟨fun _ _ _ => Nat.le_trans⟩
  exact List.pairwise_insertionSort _ _

theorem grantsByOrder_perm (s : State) : s.grantsByOrder.Perm s.grants := by
  rw [grantsByOrder_eq]
  exact List.perm_insertionSort _ _

/-! ### READ POLICY (R83) -/

/-- The bank a READ POLICY names. -/
def PolicyStore.bank (q : PolicyStore) (pending : Bool) : PolicyImage := if pending then q.pendingBank else q.active

section
variable {q : PolicyStore} {pending : Bool}

theorem read_of_unnamed {bank item index : Nat} (h : 1 < bank ∨ 4 < item) : q.read bank item index = .refused .badIndex :=
  if_pos h

theorem read_status (pending : Bool) (index : Nat) :
    q.read pending.toNat 4 index = .data (.policy (.storeStatus q.pendingOpen q.origin)) := by
  have hbank := Bool.toNat_le pending
  rw [PolicyStore.read, if_neg (by omega), if_pos rfl]

theorem bank_eq (q : PolicyStore) (pending : Bool) :
    (if pending.toNat = 0 then q.active else q.pendingBank) = q.bank pending := by
  cases pending <;> rfl

theorem read_of_item (hopen : pending = false ∨ q.pendingOpen = true) {item index : Nat} (hitem : item < 4) {d : PolicyItem}
    (hd : (q.bank pending).item item index = some d) : q.read pending.toNat item index = .data (.policy d) := by
  have hbank := Bool.toNat_le pending
  rw [PolicyStore.read, if_neg (by omega), if_neg (by omega), bank_eq, hd]
  refine if_neg fun ⟨hpending, hclosed⟩ => ?_
  simp [Bool.toNat_eq_one.mp hpending, hclosed] at hopen

theorem read_of_none (hopen : pending = false ∨ q.pendingOpen = true) {item index : Nat} (hitem : item < 4)
    (hd : (q.bank pending).item item index = none) : q.read pending.toNat item index = .refused .badIndex := by
  have hbank := Bool.toNat_le pending
  rw [PolicyStore.read, if_neg (by omega), if_neg (by omega), bank_eq, hd]
  refine if_neg fun ⟨hpending, hclosed, _⟩ => ?_
  simp [Bool.toNat_eq_one.mp hpending, hclosed] at hopen

theorem read_of_closed (hclosed : q.pendingOpen = false) {item index : Nat} (hitem : item < 4)
    (hd : (q.pendingBank.item item index).isSome = true) : q.read (Bool.toNat true) item index = .refused .notOpen := by
  obtain ⟨d, hd⟩ := Option.isSome_iff_exists.mp hd
  have hbank : q.bank true = q.pendingBank := rfl
  rw [PolicyStore.read, if_neg (by simp; omega), if_neg (by omega), bank_eq, hbank, hd]
  exact if_pos ⟨rfl, hclosed⟩

end

theorem readPolicy_answers {bank item index : Byte} (h : s.asked f rest 0x15 [bank, item, index]) :
    s.answersWith .readPolicy f rest (s.policy.read bank.toNat item.toNat index.toNat) := by
  refine readPolicy_isCarried.answersWith h ?_
  rw [h.arg 0, h.arg 1, h.arg 2]
  rfl

theorem item_isSome {i : PolicyImage} {item index : Byte} (hitem : item.toNat < 4) (hrule : item = 0 → index.toNat < 48)
    (hrating : item = 2 → index.toNat < 12) (hparam : item = 3 → index.toNat < 15) :
    (i.item item.toNat index.toNat).isSome = true := by
  have hcases : item = 0 ∨ item = 1 ∨ item = 2 ∨ item = 3 := by bv_omega
  rcases hcases with rfl | rfl | rfl | rfl
  · simpa [PolicyImage.item] using hrule rfl
  · rfl
  · simpa [PolicyImage.item] using hrating rfl
  · simpa [PolicyImage.item] using hparam rfl

section
variable {i : PolicyImage} {k : Nat}

theorem item_rule (n : Fin 48) (hk : k = n.val) : i.item 0 k = some (.rule i.rules[n]) := by
  subst hk
  simp [PolicyImage.item]

theorem item_rating (n : Fin 12) (hk : k = n.val) : i.item 2 k = some (.rating i.ratings[n]) := by
  subst hk
  simp [PolicyImage.item]

theorem item_param (n : Fin 15) (hk : k = n.val) : i.item 3 k = some (.param n.val i.params[n]) := by
  subst hk
  simp [PolicyImage.item]

theorem item_no_rule (hk : 47 < k) : i.item 0 k = none := by
  have hout : ¬k < 48 := by omega
  simpa [PolicyImage.item] using hout

theorem item_no_rating (hk : 11 < k) : i.item 2 k = none := by
  have hout : ¬k < 12 := by omega
  simpa [PolicyImage.item] using hout

theorem item_no_param (hk : 14 < k) : i.item 3 k = none := by
  have hout : ¬k < 15 := by omega
  simpa [PolicyImage.item] using hout

end

/-- The replies of READ POLICY that name a bank. -/
theorem readPolicy_of_bank (bank : Bool) :
    let k : Byte := if bank then 1 else 0
    let i := if bank then s.policy.pendingBank else s.policy.active
    let answers := fun (body : ReplyBody) => s.answersWith .readPolicy f rest body
    (∀ index, s.asked f rest 0x15 [k, 4, index] →
        answers (.data (.policy (.storeStatus s.policy.pendingOpen s.policy.origin))))
      ∧ (bank = false ∨ s.policy.pendingOpen = true →
          (∀ (n : Fin 48) (index : Byte), index.toNat = n.val → s.asked f rest 0x15 [k, 0, index] →
            answers (.data (.policy (.rule i.rules[n]))))
          ∧ (∀ index, s.asked f rest 0x15 [k, 1, index] →
              answers (.data (.policy (.heads i.supplierHead i.dockHead i.legacyHead))))
          ∧ (∀ (n : Fin 12) (index : Byte), index.toNat = n.val → s.asked f rest 0x15 [k, 2, index] →
              answers (.data (.policy (.rating i.ratings[n]))))
          ∧ (∀ (n : Fin 15) (index : Byte), index.toNat = n.val → s.asked f rest 0x15 [k, 3, index] →
              answers (.data (.policy (.param n.val i.params[n]))))
          ∧ (∀ index : Byte, 47 < index.toNat → s.asked f rest 0x15 [k, 0, index] → answers (.refused .badIndex))
          ∧ (∀ index : Byte, 11 < index.toNat → s.asked f rest 0x15 [k, 2, index] → answers (.refused .badIndex))
          ∧ (∀ index : Byte, 14 < index.toNat → s.asked f rest 0x15 [k, 3, index] → answers (.refused .badIndex)))
      ∧ (bank = true → s.policy.pendingOpen = false → ∀ n index : Byte, n.toNat < 4 →
          (n = 0 → index.toNat < 48) → (n = 2 → index.toNat < 12) → (n = 3 → index.toNat < 15) →
          s.asked f rest 0x15 [k, n, index] → answers (.refused .notOpen)) := by
  intro k i answers
  have hk : k.toNat = bank.toNat := by cases bank <;> rfl
  have hanswers : ∀ {item index : Byte} {body : ReplyBody}, s.asked f rest 0x15 [k, item, index] →
      s.policy.read bank.toNat item.toNat index.toNat = body → answers body := fun h hbody => by
    have hread := readPolicy_answers h
    rw [hk, hbody] at hread
    exact hread
  refine ⟨fun index h => hanswers h (read_status bank _),
    fun hopen => ⟨fun n index hn h => ?_, fun index h => ?_, fun n index hn h => ?_, fun n index hn h => ?_, fun index hout h => ?_, fun index hout h => ?_, fun index hout h => ?_⟩,
    fun hbank hclosed n index hitem hrule hrating hparam h => ?_⟩
  · exact hanswers h (read_of_item hopen (by decide) (item_rule n hn))
  · exact hanswers h (read_of_item hopen (by decide) rfl)
  · exact hanswers h (read_of_item hopen (by decide) (item_rating n hn))
  · exact hanswers h (read_of_item hopen (by decide) (item_param n hn))
  · exact hanswers h (read_of_none hopen (by decide) (item_no_rule hout))
  · exact hanswers h (read_of_none hopen (by decide) (item_no_rating hout))
  · exact hanswers h (read_of_none hopen (by decide) (item_no_param hout))
  · subst hbank
    exact hanswers h (read_of_closed hclosed hitem (item_isSome hitem hrule hrating hparam))

/-! ### The replies by command -/

theorem identify_answers (h : s.asked f rest 0x01 []) : s.answersWith .identify f rest
    (.data (.identify Config.partCode Config.revision s.supervisor.straps (4 - s.supervisor.straps.toNat % 4)
      s.supervisor.autonomous)) := identify_isCarried.answersWith h rfl

theorem readPort_replies (hp : f.names p) (h : s.asked f rest 0x02 []) : ∃ t, exec .readPort s = .next t
    ∧ s.replies t f rest (.data (s.portData p))
    ∧ t.framer.get p = { s.framer.get p with latchedUnsound := false } ∧ ChangesOnly [.receive, .uplink, .framer p] s t := by
  obtain ⟨hexec, hreplies, hframe⟩ := readPort_isCarried.replies h (checkPort_of_names hp _ _) (modFramer_changes _ p _)
    (by simp) (by simp)
  exact ⟨_, hexec, hreplies, Four.get_set_same _ _ _, hframe⟩

theorem readBook_answers (hp : f.names p) {k : Byte} (h : s.asked f rest 0x03 [k]) {r : Except RefusalReason ReplyData}
    (hdata : s.bookData p k.toNat = r) : s.answersWith .readBook f rest (readBody r) :=
  readBook_isCarried.readsPort hp h ((congrArg (s.bookData p) (h.arg 0)).trans hdata)

theorem readContract_answers (hp : f.names p) {k : Byte} (h : s.asked f rest 0x04 [k])
    {r : Except RefusalReason ReplyData} (hdata : s.contractData p k.toNat = r) :
    s.answersWith .readContract f rest (readBody r) :=
  readContract_isCarried.readsPort hp h ((congrArg (s.contractData p) (h.arg 0)).trans hdata)

theorem readPartner_answers (hp : f.names p) (h : s.asked f rest 0x05 []) {r : Except RefusalReason ReplyData}
    (hdata : s.partnerData p f.branch.toNat = r) : s.answersWith .readPartner f rest (readBody r) :=
  readPartner_isCarried.readsPort hp h hdata

theorem readLimit_answers {k : Byte} (h : s.asked f rest 0x06 [k]) {r : Except RefusalReason ReplyData}
    (hdata : s.limitData k.toNat = r) : s.answersWith .readLimit f rest (readBody r) :=
  readLimit_isCarried.reads h ((congrArg s.limitData (h.arg 0)).trans hdata)

theorem readSupply_answers {k : Byte} (h : s.asked f rest 0x07 [k]) {r : Except RefusalReason ReplyData}
    (hdata : s.supplyData k.toNat = r) : s.answersWith .readSupply f rest (readBody r) :=
  readSupply_isCarried.reads h ((congrArg s.supplyData (h.arg 0)).trans hdata)

theorem readMeter_answers {k : Byte} (h : s.asked f rest 0x08 [k]) {r : Except RefusalReason ReplyData}
    (hdata : s.meterData k.toNat = r) : s.answersWith .readMeter f rest (readBody r) :=
  readMeter_isCarried.reads h ((congrArg s.meterData (h.arg 0)).trans hdata)

theorem meterData_port {k : Byte} (hk : k.toNat = p.val) :
    s.meterData k.toNat = .ok (.meterPort (s.meter.port.get p) s.meter.statusData) := by
  rw [hk, State.meterData, channelOfCode_port]

theorem meterData_out {k : Byte} (hk : 5 < k.toNat) : s.meterData k.toNat = .error .badIndex := by
  rw [State.meterData, channelOfCode_none hk]

/-- The entries of the last plan, as READ LIMIT shows them. -/
theorem limitData_primary {shown : Option PlanEntry × Option BaseEntry}
    (h : (s.lastPlan.bind fun r => r.plan.primaryEntry, s.lastPlan.bind fun r => r.plan.baseEntry) = shown) :
    s.limitData 2 = .ok (.planPrimary shown.1 shown.2) := by
  rw [← h]
  rfl

theorem limitData_secondary {shown : Option PlanEntry} (h : (s.lastPlan.bind fun r => r.plan.secondaryEntry) = shown) :
    s.limitData 3 = .ok (.planSecondary shown) := by
  rw [← h]
  rfl

end

/-- Settles O43. -/
theorem readsAnswerSnapshots : Obligations.ReadsAnswerSnapshots := by
  intro s f rest asks answers
  refine ⟨identify_answers, fun p hp => ⟨readPort_replies hp, fun h => readBook_answers hp h rfl,
      fun k hk h => ⟨fun q hq => readBook_answers hp h (bookData_point hk hq),
        fun hout => readBook_answers hp h (bookData_out hk hout)⟩,
      fun h => readContract_answers hp h rfl, fun h => readContract_answers hp h rfl, fun h => readContract_answers hp h rfl,
      fun k hk h => readContract_answers hp h (contractData_out hk),
      fun h => ⟨fun hout => ?_, fun hb hnone => ?_, fun hb hsome => ?_⟩⟩,
    fun h => readLimit_answers h rfl, fun h => readLimit_answers h rfl,
    fun h => ⟨fun r e sec hr hplan => ?_, fun r b hr hplan => ?_, fun hempty => ?_⟩,
    fun h => ⟨fun r e sec hr hplan => ?_, fun hother => ?_⟩, fun k hk h => readLimit_answers h (limitData_out hk),
    fun h => readSupply_answers h rfl,
    fun n k hk h => ⟨fun g hg => readSupply_answers h (supplyData_grant hk hg),
      fun hout => readSupply_answers h (supplyData_no_grant hk hout)⟩,
    fun n k hk h => ⟨fun w hw => readSupply_answers h (supplyData_wait hk hw),
      fun hout => readSupply_answers h (supplyData_no_wait hk hout)⟩,
    fun k hk h => readSupply_answers h (supplyData_out hk), ⟨grantsByOrder_perm s, grantsByOrder_pairwise s⟩,
    ⟨fun p k hk h => ?_, fun h => readMeter_answers h rfl, fun h => readMeter_answers h rfl,
      fun k hk h => readMeter_answers h (meterData_out hk)⟩,
    fun bank => readPolicy_of_bank bank, fun bank item index hout h => ?_⟩
  · exact readPartner_answers hp h (if_pos hout)
  · exact readPartner_answers hp h ((partnerData_of_branch hb).trans (if_neg (by simp [hnone])))
  · exact readPartner_answers hp h ((partnerData_of_branch hb).trans (if_pos hsome))
  · exact readLimit_answers h (limitData_primary (shown := (some e, none)) (by
      simp [hr, hplan, Plan.primaryEntry, Plan.baseEntry]))
  · exact readLimit_answers h (limitData_primary (shown := (none, some b)) (by
      simp [hr, hplan, Plan.primaryEntry, Plan.baseEntry]))
  · refine readLimit_answers h (limitData_primary (shown := (none, none)) ?_)
    cases hr : s.lastPlan with
    | none => rfl
    | some r => simp [hempty r hr, Plan.primaryEntry, Plan.baseEntry]
  · exact readLimit_answers h (limitData_secondary (shown := sec) (by simp [hr, hplan, Plan.secondaryEntry]))
  · refine readLimit_answers h (limitData_secondary (shown := none) ?_)
    cases hr : s.lastPlan with
    | none => rfl
    | some r =>
      cases hplan : r.plan with
      | draw e sec => exact absurd hplan (hother r e sec hr)
      | base b => simp [hplan, Plan.secondaryEntry]
      | empty => simp [hplan, Plan.secondaryEntry]
  · exact readMeter_answers h (meterData_port hk)
  · have hread := readPolicy_answers h
    rw [read_of_unnamed hout] at hread
    exact hread

end Sys2Proof.Machine
end

section
/-! PROOFS. The reception of a downlink frame, byte after byte (R170, R171, R195). -/

namespace Sys2Proof.Machine

open Sys2Proof

section
variable {s : State} {f : LinkFrame} {w : List Byte} {n : Nat}

/-! ### A partial frame -/

/-- The state with a partial frame of these bytes after its start byte. -/
def State.receiving (s : State) (bytes : List Byte) : State := setReception (some { bytes := bytes, gap := 0 }) s

theorem setReception_none (h : s.link.reception = none) : setReception none s = s := by
  have hlink : { s.link with reception := none } = s.link := by rw [← h]
  exact congrArg (fun l => { s with link := l }) hlink

theorem receiveByte_start (h : s.link.reception = none) : receiveByte s 0x7E = s.receiving [] := by
  rw [receiveByte, h]
  rfl

theorem receiveByte_other (h : s.link.reception = none) {b : Byte} (hb : b ≠ 0x7E) : receiveByte s b = s := by
  rw [receiveByte, h]
  exact if_neg hb

/-- Bytes that come before a start byte change nothing. -/
theorem receive_of_no_start (h : s.link.reception = none) {bytes : List Byte} (hstart : (0x7E : Byte) ∉ bytes) :
    bytes.foldl receiveByte s = s := by
  induction bytes with
  | nil => rfl
  | cons b l ih =>
    rw [List.mem_cons, not_or] at hstart
    obtain ⟨hb, hl⟩ := hstart
    rw [List.foldl_cons, receiveByte_other h (Ne.symm hb), ih hl]

theorem receiveByte_receiving (s : State) (bytes : List Byte) (b : Byte) : receiveByte (s.receiving bytes) b =
    if (bytes ++ [b]).length < 4 then s.receiving (bytes ++ [b])
    else if 32 < byteAt (bytes ++ [b]) 3 then postLink noticeFormat (setReception none s)
    else if (bytes ++ [b]).length < 6 + byteAt (bytes ++ [b]) 3 then s.receiving (bytes ++ [b])
    else endReception (bytes ++ [b]) (setReception none s) := rfl

theorem receiveByte_partial {bytes : List Byte} {b : Byte} (h : (bytes ++ [b]).length < 4
      ∨ byteAt (bytes ++ [b]) 3 ≤ 32 ∧ (bytes ++ [b]).length < 6 + byteAt (bytes ++ [b]) 3) :
    receiveByte (s.receiving bytes) b = s.receiving (bytes ++ [b]) := by
  rw [receiveByte_receiving]
  rcases h with hshort | ⟨hsmall, hpart⟩
  · exact if_pos hshort
  · rw [if_neg (Nat.not_lt.mpr hsmall), if_pos hpart, ite_self]

theorem receiveByte_long {bytes : List Byte} {b : Byte} (hlength : 4 ≤ (bytes ++ [b]).length)
    (hlong : 32 < byteAt (bytes ++ [b]) 3) : receiveByte (s.receiving bytes) b = postLink noticeFormat (setReception none s) := by
  rw [receiveByte_receiving, if_neg (Nat.not_lt.mpr hlength), if_pos hlong]

theorem receiveByte_last {bytes : List Byte} {b : Byte} (hsmall : byteAt (bytes ++ [b]) 3 ≤ 32)
    (hlast : (bytes ++ [b]).length = 6 + byteAt (bytes ++ [b]) 3) :
    receiveByte (s.receiving bytes) b = endReception (bytes ++ [b]) (setReception none s) := by
  rw [receiveByte_receiving, if_neg (by omega), if_neg (by omega), if_neg (by omega)]

/-! ### A whole frame -/

theorem byteAt_take {l : List Byte} {i m : Nat} (h : i < m) : byteAt (l.take m) i = byteAt l i := by
  simp [byteAt, List.getD_eq_getElem?_getD, h]

/-- Every byte before the last of a frame joins the partial frame. -/
theorem receive_take (hsmall : byteAt w 3 ≤ 32) (hlength : w.length = 6 + byteAt w 3) :
    ∀ m < w.length, (w.take m).foldl receiveByte (s.receiving []) = s.receiving (w.take m)
  | 0, _ => rfl
  | m + 1, hm => by
    have htake : w.take (m + 1) = w.take m ++ [w[m]] := (List.take_append_getElem (by omega)).symm
    have hcount : (w.take m ++ [w[m]]).length = m + 1 := by simp; omega
    rw [htake, List.foldl_append, receive_take hsmall hlength m (by omega)]
    refine receiveByte_partial ?_
    rw [hcount]
    by_cases hshort : m + 1 < 4
    · exact .inl hshort
    · rw [← htake, byteAt_take (by omega)]
      exact .inr ⟨hsmall, by omega⟩

/-- A start byte and the bytes of a whole frame are received to its end. -/
theorem receive_frame (hidle : s.link.reception = none) (hsmall : byteAt w 3 ≤ 32) (hlength : w.length = 6 + byteAt w 3) :
    ((0x7E : Byte) :: w).foldl receiveByte s = endReception w s := by
  have hlast : w.take (w.length - 1) ++ [w[w.length - 1]] = w := by
    rw [List.take_append_getElem (by omega), List.take_of_length_le (by omega)]
  have hfold : (w.take (w.length - 1) ++ [w[w.length - 1]]).foldl receiveByte (s.receiving [])
      = endReception w (setReception none s) := by
    rw [List.foldl_append, receive_take hsmall hlength _ (by omega)]
    rw [List.foldl_cons, List.foldl_nil, receiveByte_last (by rwa [hlast]) (by rwa [hlast]), hlast]
  rw [hlast, setReception_none hidle] at hfold
  rw [List.foldl_cons, receiveByte_start hidle, hfold]

/-! ### The tests at its end -/

/-- The four header bytes of a link frame. -/
def LinkFrame.header (f : LinkFrame) : List Byte := [f.kind, f.port, f.branch, BitVec.ofNat 8 f.payload.length]

/-- The bytes of a frame after its start byte. -/
def LinkFrame.bytesWith (f : LinkFrame) (check : BitVec 16) : List Byte :=
  f.header ++ f.payload ++ [check.extractLsb' 8 8, check.extractLsb' 0 8]

theorem LinkFrame.bytesWith_length (f : LinkFrame) (check : BitVec 16) :
    (f.bytesWith check).length = (f.header ++ f.payload).length + 2 := by
  simp [bytesWith, Nat.add_assoc]

theorem endReception_bytes (f : LinkFrame) (check : BitVec 16) (s : State) : endReception (f.bytesWith check) s =
    if crc16 (f.header ++ f.payload) ≠ check then postLink noticeCheck s
    else if f.kind ≠ linkCommand ∧ f.kind ≠ linkRelayDown then postLink noticeKind s
    else if Config.receiveSize ≤ s.link.receive.length then postLink noticeOverrun s
    else validFrameSeen (s.modLink fun l => { l with receive := l.receive ++ [f] }) := by
  have hn : (f.bytesWith check).length - 2 = (f.header ++ f.payload).length := by rw [f.bytesWith_length]; rfl
  have htake : (f.bytesWith check).take (f.header ++ f.payload).length = f.header ++ f.payload := List.take_left
  have hdrop : (f.bytesWith check).drop (f.header ++ f.payload).length = twoBytes check.toNat :=
    List.drop_left.trans (twoBytes_eq check).symm
  have hcheck : numberOf (twoBytes check.toNat) = check.toNat := by
    rw [numberOf_twoBytes, Nat.mod_eq_of_lt check.isLt]
  have hsame : (crc16 (f.header ++ f.payload)).toNat ≠ check.toNat ↔ crc16 (f.header ++ f.payload) ≠ check :=
    not_congr BitVec.toNat_inj
  have hpayload : (f.header ++ f.payload).drop 4 = f.payload := rfl
  simp only [endReception, hn, htake, hdrop, hcheck, hpayload, hsame]
  rfl

theorem exec_bytes (hrun : s.inReset = false) (bytes : List Byte) :
    exec (.downlinkFrameStored bytes) s = .next (bytes.foldl receiveByte s) :=
  exec_of_running (f := fun s => bytes.foldl receiveByte s) rfl hrun

theorem exec_frame (hrun : s.inReset = false) (hidle : s.link.reception = none) (hpayload : f.payload.length ≤ 32)
    (check : BitVec 16) :
    exec (.downlinkFrameStored ((0x7E : Byte) :: f.bytesWith check)) s = .next (endReception (f.bytesWith check) s) := by
  have hcount : byteAt (f.bytesWith check) 3 = f.payload.length :=
    (show _ = (BitVec.ofNat 8 f.payload.length).toNat from rfl).trans
      (by rw [BitVec.toNat_ofNat, Nat.mod_eq_of_lt (by omega)])
  have hlength : (f.bytesWith check).length = 6 + f.payload.length := by
    rw [f.bytesWith_length]
    simp [LinkFrame.header]
    omega
  rw [exec_bytes hrun, receive_frame hidle (by omega) (by omega)]

/-- A frame that is dropped leaves its notice alone. -/
theorem postLink_drops {c : Instr} {code : Byte} (h : exec c s = .next (postLink code s)) : ∃ t, exec c s = .next t
    ∧ t.link.notices.get .link = some (postTo (s.link.notices.get .link) code 0 s.msCount)
    ∧ ChangesOnly [.notice .link] s t := ⟨_, h, post_notice _ _ _ _, postLink_changes _ _⟩

theorem stored_changes (f : LinkFrame) (s : State) : ChangesOnly [.receive, .supervisor] s
    (validFrameSeen (s.modLink fun l => { l with receive := l.receive ++ [f] })) := by
  intro part hpart
  cases part <;> simp_all [Part.same, validFrameSeen, State.modLink, State.modSupervisor]

end

/-- Settles O41. -/
theorem linkFramesAreStoredOrDropped : Obligations.LinkFramesAreStoredOrDropped := by
  intro s f hrun hidle hpayload
  have hexec : ∀ check {t : State}, endReception (f.bytesWith check) s = t →
      exec (.downlinkFrameStored ((0x7E : Byte) :: f.bytesWith check)) s = .next t :=
    fun check _ ht => (exec_frame hrun hidle hpayload check).trans (congrArg _ ht)
  refine ⟨fun hgood hroom => ?stored, fun hgood hfull => ?overrun, fun hbad => ?kind, fun c hc => ?check,
    fun length hlong => ?long, fun bytes hstart => ?ignored⟩
  case stored =>
    have hfits : ¬Config.receiveSize ≤ s.link.receive.length := by simpa [Config.receiveSize] using hroom
    refine ⟨_, hexec _ ((endReception_bytes f _ s).trans
      ((if_neg (not_not_intro rfl)).trans ((if_neg ?_).trans (if_neg hfits)))), rfl, hidle, ?_, rfl, stored_changes f s⟩
    · exact fun ⟨h1, h2⟩ => hgood.elim h1 h2
    · simp [State.drdy, validFrameSeen, State.modLink, State.modSupervisor, hrun, Config.receiveSize]
      omega
  case overrun =>
    refine postLink_drops (hexec _ ((endReception_bytes f _ s).trans
      ((if_neg (not_not_intro rfl)).trans ((if_neg ?_).trans (if_pos hfull)))))
    exact fun ⟨h1, h2⟩ => hgood.elim h1 h2
  case kind =>
    refine postLink_drops (hexec _ ((endReception_bytes f _ s).trans ((if_neg (not_not_intro rfl)).trans (if_pos ?_))))
    exact not_or.mp hbad
  case check => exact postLink_drops (hexec _ ((endReception_bytes f _ s).trans (if_pos (Ne.symm hc))))
  case long =>
    have hfold : [0x7E, f.kind, f.port, f.branch, length].foldl receiveByte s = postLink noticeFormat s := by
      have hheader : [f.kind, f.port, f.branch].foldl receiveByte (s.receiving []) = s.receiving [f.kind, f.port, f.branch] := rfl
      have hlast := receiveByte_long (s := s) (bytes := [f.kind, f.port, f.branch]) (b := length) (by simp) hlong
      rw [setReception_none hidle, ← hheader, ← receiveByte_start hidle] at hlast
      exact hlast
    exact postLink_drops ((exec_bytes hrun _).trans (congrArg _ hfold))
  case ignored => rw [exec_bytes hrun, receive_of_no_start hidle hstart]

end Sys2Proof.Machine
end

section
/-! PROOFS. The validation of APPLY: every item's check, and the order in which items are checked (R84 to R87). -/

namespace Sys2Proof.Machine

open Sys2Proof

/-! ### The first item of an ordered list -/

/-- The first of the items of an ordered list that has a value is the one that no other such item comes before. -/
theorem findSome_iff_of_pairwise {α β : Type} {before : α → α → Prop} (hasymm : ∀ a b, before a b → ¬before b a)
    {l : List α} (hl : l.Pairwise before) (g : α → Option β) (a : α) (b : β) :
    l.findSome? (fun x => (g x).map (Prod.mk x)) = some (a, b)
      ↔ a ∈ l ∧ g a = some b ∧ ∀ x ∈ l, ∀ y, g x = some y → ¬before x a := by
  rw [List.findSome?_eq_some_iff]
  constructor
  · rintro ⟨l₁, x, l₂, rfl, hx, hnone⟩
    obtain ⟨c, hc, heq⟩ := Option.map_eq_some_iff.mp hx
    cases heq
    refine ⟨by simp, hc, fun x hmem y hy hbefore => ?_⟩
    rw [List.pairwise_append, List.pairwise_cons] at hl
    obtain ⟨-, ⟨hafter, -⟩, -⟩ := hl
    rw [List.mem_append, List.mem_cons] at hmem
    rcases hmem with hearly | rfl | hlate
    · simpa [hy] using hnone x hearly
    · exact hasymm _ _ hbefore hbefore
    · exact hasymm _ _ hbefore (hafter x hlate)
  · rintro ⟨hmem, hb, hfirst⟩
    obtain ⟨l₁, l₂, rfl⟩ := List.append_of_mem hmem
    refine ⟨l₁, a, l₂, rfl, by simp [hb], fun x hx => ?_⟩
    rw [List.pairwise_append] at hl
    obtain ⟨-, -, hbefore⟩ := hl
    cases hgx : g x with
    | none => rfl
    | some y => exact absurd (hbefore x hx a (by simp)) (hfirst x (by simp [hx]) y hgx)

/-! ### Tests in order -/

/-- The first failing test of a list, counted from after `n` tests. -/
def failsFrom (n : Nat) (tests : List Prop) (d : Nat) : Prop :=
  ∃ before test after, tests = before ++ test :: after ∧ (∀ x ∈ before, x) ∧ ¬test ∧ d = n + before.length + 1

theorem firstFailing_iff (tests : List Prop) (d : Nat) : firstFailing tests d ↔ failsFrom 0 tests d := by
  simp only [firstFailing, failsFrom, Nat.zero_add]

section
variable {n d : Nat} {t c : Prop} {tests : List Prop} {o : Option Nat}

theorem failsFrom_nil : ¬failsFrom n [] d := by
  rintro ⟨before, test, after, h, -⟩
  simp at h

theorem failsFrom_fail (h : ¬t) : failsFrom n (t :: tests) d ↔ d = n + 1 := by
  constructor
  · rintro ⟨before, test, after, hsplit, hpass, -, rfl⟩
    cases before with
    | nil => rfl
    | cons x l =>
      obtain ⟨rfl, -⟩ := List.cons_eq_cons.mp hsplit
      exact absurd (hpass _ (by simp)) h
  · rintro rfl
    exact ⟨[], t, tests, rfl, nofun, h, rfl⟩

theorem failsFrom_pass (h : t) : failsFrom n (t :: tests) d ↔ failsFrom (n + 1) tests d := by
  constructor
  · rintro ⟨before, test, after, hsplit, hpass, hfail, rfl⟩
    cases before with
    | nil =>
      obtain ⟨rfl, -⟩ := List.cons_eq_cons.mp hsplit
      exact absurd h hfail
    | cons x l =>
      obtain ⟨-, hrest⟩ := List.cons_eq_cons.mp hsplit
      exact ⟨l, test, after, hrest, fun y hy => hpass y (by simp [hy]), hfail, by simp; omega⟩
  · rintro ⟨before, test, after, rfl, hpass, hfail, rfl⟩
    refine ⟨t :: before, test, after, rfl, ?_, hfail, by simp; omega⟩
    intro x hx
    rcases List.mem_cons.mp hx with rfl | hx
    · exact h
    · exact hpass x hx

/-- A test that is checked here and the rest of the tests behind it. -/
theorem detail_iff [Decidable c] (hc : c ↔ ¬t) (hrest : o = some d ↔ failsFrom (n + 1) tests d) :
    (if c then some (n + 1) else o) = some d ↔ failsFrom n (t :: tests) d := by
  by_cases ht : t
  · rw [if_neg fun h => hc.mp h ht, failsFrom_pass ht, hrest]
  · rw [if_pos (hc.mpr ht), failsFrom_fail ht, Option.some_inj, eq_comm]

end

theorem detail_none_iff (n d : Nat) : (none : Option Nat) = some d ↔ failsFrom n [] d :=
  ⟨nofun, fun h => absurd h failsFrom_nil⟩

theorem linkAccepted_iff (n : Nat) : linkAccepted n = true ↔ n < 48 ∨ n = 63 := by
  simp [linkAccepted, Config.linkEnd]

theorem ruleDetail_iff (r : Rule) (d : Nat) : ruleDetail r = some d ↔ firstFailing (ruleTests r) d := by
  rw [firstFailing_iff]
  unfold ruleDetail ruleTests
  refine detail_iff (by omega) (detail_iff (by omega) (detail_iff (by omega) (detail_iff (by omega) (detail_iff (by simp)
    (detail_iff ?_ (detail_iff ?_ (detail_iff ?_ (detail_iff (by omega) (detail_iff ?_ (detail_iff ?_ (detail_none_iff _ d)))))))))))
  · cases r.action <;> simp
  · simp only [Bool.or_eq_true, decide_eq_true_eq]; omega
  · simp only [Bool.or_eq_true, decide_eq_true_eq]; omega
  · simp only [Bool.or_eq_true, decide_eq_true_eq]; omega
  · simp [← linkAccepted_iff]

theorem ratingDetail_iff (r : Rating) (d : Nat) :
    ratingDetail r = some d ↔ r.used = true ∧ firstFailing (ratingTests r) d := by
  rw [firstFailing_iff]
  unfold ratingDetail ratingTests
  cases r.used with
  | false => simp
  | true =>
    refine Iff.trans ?_ (and_iff_right rfl).symm
    refine detail_iff (by omega) (detail_iff (by omega) (detail_iff (by omega) (detail_iff ?_ (detail_none_iff _ d))))
    simp only [Bool.or_eq_true, decide_eq_true_eq]; omega

/-! ### Chains -/

section
variable {i : PolicyImage} {head : Nat}

theorem chainLink_end {m : Nat} (h : 48 ≤ chainLink i head m) : ∀ n, m < n → chainLink i head n = 63
  | 0, hlt => absurd hlt (Nat.not_lt_zero m)
  | n + 1, hlt => by
    have hout : 48 ≤ chainLink i head n := by
      rcases Nat.lt_or_eq_of_le (Nat.le_of_lt_succ hlt) with hless | rfl
      · rw [chainLink_end h n hless]; decide
      · exact h
    rw [chainLink]
    have hnone : i.rules[chainLink i head n]? = none := by simpa using hout
    rw [hnone]

/-- The links before one that names a rule name rules. -/
theorem chainLink_before {m n : Nat} (h : chainLink i head n < 48) (hlt : m < n) : chainLink i head m < 48 := by
  by_contra hout
  rw [chainLink_end (Nat.not_lt.mp hout) n hlt] at h
  exact absurd h (by decide)

/-- At the `n`-th link a chain comes back to a rule for the first time. -/
def comesBack (i : PolicyImage) (head d n : Nat) : Prop :=
  d = chainLink i head n ∧ d < 48 ∧ (∃ m, m < n ∧ chainLink i head m = d)
    ∧ ∀ a b, a < b → b < n → chainLink i head a ≠ chainLink i head b

/-- It does within 48 rules. -/
theorem comesBack_le {d n : Nat} (h : comesBack i head d n) : n ≤ 48 := by
  obtain ⟨rfl, hlt, -, hdistinct⟩ := h
  have hinjective : Function.Injective fun m : Fin n => (⟨chainLink i head m, chainLink_before hlt m.isLt⟩ : Fin 48) := by
    intro a b hab
    have hab : chainLink i head a = chainLink i head b := congrArg Fin.val hab
    rcases Nat.lt_trichotomy a.val b.val with h | h | h
    · exact absurd hab (hdistinct _ _ h b.isLt)
    · exact Fin.ext h
    · exact absurd hab.symm (hdistinct _ _ h a.isLt)
  simpa using Fintype.card_le_of_injective _ hinjective

theorem walkChain_iff (d : Nat) : ∀ (fuel n : Nat) (seen : List Nat),
    (∀ x, x ∈ seen ↔ ∃ m < n, chainLink i head m = x) →
    (∀ a b, a < b → b < n → chainLink i head a ≠ chainLink i head b) →
    (walkChain i fuel (chainLink i head n) seen = some d ↔ ∃ k, n ≤ k ∧ k < n + fuel ∧ comesBack i head d k)
  | 0, n, seen, _, _ => ⟨nofun, fun ⟨k, hlow, hhigh, _⟩ => by omega⟩
  | fuel + 1, n, seen, hseen, hdistinct => by
    unfold walkChain
    cases hrule : i.rules[chainLink i head n]? with
    | none =>
      have hout : 48 ≤ chainLink i head n := by simpa using hrule
      refine ⟨nofun, fun ⟨k, hlow, _, hd, hlt, _⟩ => ?_⟩
      rcases Nat.lt_or_eq_of_le hlow with hless | rfl
      · have hend := chainLink_end hout k hless
        omega
      · omega
    | some r =>
      have hin : chainLink i head n < 48 := by
        obtain ⟨hlt, -⟩ := Vector.getElem?_eq_some_iff.mp hrule
        exact hlt
      have hnext : r.next = chainLink i head (n + 1) := by rw [chainLink, hrule]
      dsimp only
      by_cases hmet : chainLink i head n ∈ seen
      · rw [if_pos (by simpa using hmet), Option.some_inj]
        obtain ⟨m, hm, hback⟩ := (hseen _).mp hmet
        constructor
        · rintro rfl
          exact ⟨n, le_rfl, by omega, rfl, hin, ⟨m, hm, hback⟩, hdistinct⟩
        · rintro ⟨k, hlow, -, hd, -, -, hapart⟩
          rcases Nat.lt_or_eq_of_le hlow with hless | rfl
          · exact absurd hback (hapart m n hm hless)
          · exact hd.symm
      · rw [if_neg (by simpa using hmet), hnext, walkChain_iff d fuel (n + 1) (chainLink i head n :: seen) ?_ ?_]
        · constructor
          · rintro ⟨k, hlow, hhigh, hback⟩
            exact ⟨k, by omega, by omega, hback⟩
          · rintro ⟨k, hlow, hhigh, hback⟩
            rcases Nat.lt_or_eq_of_le hlow with hless | rfl
            · exact ⟨k, hless, by omega, hback⟩
            · obtain ⟨rfl, -, hmet', -⟩ := hback
              exact absurd ((hseen _).mpr hmet') hmet
        · intro x
          rw [List.mem_cons, hseen]
          constructor
          · rintro (rfl | ⟨m, hm, rfl⟩)
            · exact ⟨n, by omega, rfl⟩
            · exact ⟨m, by omega, rfl⟩
          · rintro ⟨m, hm, rfl⟩
            rcases Nat.lt_or_eq_of_le (Nat.le_of_lt_succ hm) with hless | rfl
            · exact .inr ⟨m, hless, rfl⟩
            · exact .inl rfl
        · intro a b hab hb
          rcases Nat.lt_or_eq_of_le (Nat.le_of_lt_succ hb) with hless | rfl
          · exact hdistinct a b hab hless
          · exact fun heq => hmet ((hseen _).mpr ⟨a, hab, heq⟩)

theorem walk_iff (d : Nat) : walkChain i 49 head [] = some d ↔ ∃ n, comesBack i head d n := by
  have hwalk := walkChain_iff (i := i) (head := head) d 49 0 [] (by simp) (by omega)
  refine hwalk.trans ⟨fun ⟨k, _, _, h⟩ => ⟨k, h⟩, fun ⟨k, h⟩ => ⟨k, by omega, ?_, h⟩⟩
  have hle := comesBack_le h
  omega

end

/-! ### The items of an image -/

/-- The detail of the first test an item of an image fails. -/
def itemDetail (i : PolicyImage) : ImagePart × Nat → Option Nat
  | (.params, k) => if h : k < 15 then (paramFault i ⟨k, h⟩).map ImageFault.detail else none
  | (.rule, k) => if h : k < 48 then ruleDetail i.rules[k] else none
  | (.head, k) => if h : k < 3 then (headFault i ⟨k, h⟩).map ImageFault.detail else none
  | (.chain, k) => if h : k < 3 then walkChain i 49 (i.head ⟨k, h⟩) [] else none
  | (.rating, k) => if h : k < 12 then ratingDetail i.ratings[k] else none

/-- The items in the order of their checks. -/
def itemOrder : List (ImagePart × Nat) :=
  (List.finRange 15).map (fun k => (.params, k.val)) ++ (List.finRange 48).map (fun k => (.rule, k.val))
    ++ (List.finRange 3).map (fun k => (.head, k.val)) ++ (List.finRange 3).map (fun k => (.chain, k.val))
    ++ (List.finRange 12).map (fun k => (.rating, k.val))

/-- The fault that the detail of an item makes. -/
def faultOf (x : (ImagePart × Nat) × Nat) : ImageFault := { part := x.1.1, index := x.1.2, detail := x.2 }

section
variable {i : PolicyImage} {d : Nat}

theorem paramFault_item (k : Fin 15) :
    paramFault i k = (itemDetail i (.params, k.val)).map fun d => faultOf ((.params, k.val), d) := by
  rw [itemDetail, dif_pos k.isLt]
  unfold paramFault
  dsimp only
  split_ifs <;> rfl

theorem headFault_item (k : Fin 3) :
    headFault i k = (itemDetail i (.head, k.val)).map fun d => faultOf ((.head, k.val), d) := by
  rw [itemDetail, dif_pos k.isLt]
  unfold headFault
  split <;> rfl

theorem ruleFault_item (k : Fin 48) :
    ruleFault i k = (itemDetail i (.rule, k.val)).map fun d => faultOf ((.rule, k.val), d) := by
  rw [itemDetail, dif_pos k.isLt]
  rfl

theorem chainFault_item (k : Fin 3) :
    chainFault i k = (itemDetail i (.chain, k.val)).map fun d => faultOf ((.chain, k.val), d) := by
  rw [itemDetail, dif_pos k.isLt]
  rfl

theorem ratingFault_item (k : Fin 12) :
    ratingFault i k = (itemDetail i (.rating, k.val)).map fun d => faultOf ((.rating, k.val), d) := by
  rw [itemDetail, dif_pos k.isLt]
  rfl

/-- The items of one part are checked by index. -/
theorem findSome_of_part {n : Nat} {part : ImagePart} {fault : Fin n → Option ImageFault}
    (h : ∀ k, fault k = (itemDetail i (part, k.val)).map fun d => faultOf ((part, k.val), d)) :
    (List.finRange n).findSome? fault
      = (((List.finRange n).map fun k => (part, k.val)).findSome? fun x => (itemDetail i x).map (Prod.mk x)).map faultOf := by
  rw [List.findSome?_map, List.map_findSome?]
  congr 1
  funext k
  rw [h k, Function.comp_apply, Function.comp_apply, Option.map_map]
  rfl

theorem orElse_eq_or {α : Type} (a b : Option α) : (a <|> b) = a.or b := by
  cases a <;> rfl

theorem validate_eq (i : PolicyImage) :
    validate i = (itemOrder.findSome? fun x => (itemDetail i x).map (Prod.mk x)).map faultOf := by
  simp only [validate, itemOrder, List.findSome?_append, Option.map_or, orElse_eq_or, Option.or_assoc,
    findSome_of_part paramFault_item, findSome_of_part ruleFault_item, findSome_of_part headFault_item,
    findSome_of_part chainFault_item, findSome_of_part ratingFault_item]

/-- The items of one part come in the order of their indices. -/
theorem part_pairwise (part : ImagePart) (n : Nat) :
    ((List.finRange n).map fun k => (part, k.val)).Pairwise fun a b => checkedBefore a.1 a.2 b.1 b.2 := by
  rw [List.pairwise_map]
  exact (List.pairwise_lt_finRange n).imp fun h => .inr ⟨rfl, h⟩

/-- The items of a later part come after those of the parts before it. -/
theorem append_pairwise {l : List (ImagePart × Nat)} (hl : l.Pairwise fun a b => checkedBefore a.1 a.2 b.1 b.2)
    {part : ImagePart} (hbelow : ∀ x ∈ l, x.1.code < part.code) (n : Nat) :
    (l ++ (List.finRange n).map fun k => (part, k.val)).Pairwise fun a b => checkedBefore a.1 a.2 b.1 b.2 := by
  refine List.pairwise_append.mpr ⟨hl, part_pairwise part n, fun a ha b hb => ?_⟩
  obtain ⟨k, -, rfl⟩ := List.mem_map.mp hb
  exact .inl (hbelow a ha)

theorem code_of_append {l : List (ImagePart × Nat)} {part : ImagePart} {n c : Nat} (hl : ∀ x ∈ l, x.1.code < c)
    (hpart : part.code < c) : ∀ x ∈ l ++ (List.finRange n).map fun k => (part, k.val), x.1.code < c := by
  intro x hx
  rcases List.mem_append.mp hx with hx | hx
  · exact hl x hx
  · obtain ⟨k, -, rfl⟩ := List.mem_map.mp hx
    exact hpart

theorem code_of_part {part : ImagePart} {n c : Nat} (hpart : part.code < c) :
    ∀ x ∈ (List.finRange n).map fun k => (part, k.val), x.1.code < c :=
  code_of_append (l := []) nofun hpart

theorem itemOrder_pairwise : itemOrder.Pairwise fun a b => checkedBefore a.1 a.2 b.1 b.2 :=
  append_pairwise (append_pairwise (append_pairwise (append_pairwise (part_pairwise _ _)
    (code_of_part (by decide)) _)
    (code_of_append (code_of_part (by decide)) (by decide)) _)
    (code_of_append (code_of_append (code_of_part (by decide)) (by decide)) (by decide)) _)
    (code_of_append (code_of_append (code_of_append (code_of_part (by decide)) (by decide)) (by decide)) (by decide)) _

/-- The number of items of a part. -/
def itemCount : ImagePart → Nat
  | .params => 15
  | .rule => 48
  | .head => 3
  | .chain => 3
  | .rating => 12

theorem mem_itemOrder (part : ImagePart) (k : Nat) : (part, k) ∈ itemOrder ↔ k < itemCount part := by
  cases part <;> simp [itemOrder, itemCount, Fin.exists_iff]

theorem itemDetail_out {part : ImagePart} {k : Nat} (h : ¬k < itemCount part) : itemDetail i (part, k) = none := by
  cases part with
  | params => exact dif_neg h
  | rule => exact dif_neg h
  | head => exact dif_neg h
  | chain => exact dif_neg h
  | rating => exact dif_neg h

theorem mem_itemOrder_of_detail {x : ImagePart × Nat} (h : itemDetail i x = some d) : x ∈ itemOrder := by
  refine (mem_itemOrder x.1 x.2).mpr ?_
  by_contra hout
  rw [itemDetail_out hout] at h
  cases h

/-! ### An item's detail is that of its first failing test -/

theorem itemFails_in {part : ImagePart} {k : Nat} (h : itemFails i part k d) : k < itemCount part := by
  cases part with
  | params =>
    obtain ⟨v, range, hv, -⟩ := h
    exact (Vector.getElem?_eq_some_iff.mp hv).1
  | rule =>
    obtain ⟨r, hr, -⟩ := h
    exact (Vector.getElem?_eq_some_iff.mp hr).1
  | head =>
    obtain ⟨head, hhead, -⟩ := h
    exact (List.getElem?_eq_some_iff.mp hhead).1
  | chain =>
    obtain ⟨head, n, hhead, -⟩ := h
    exact (List.getElem?_eq_some_iff.mp hhead).1
  | rating =>
    obtain ⟨r, hr, -⟩ := h
    exact (Vector.getElem?_eq_some_iff.mp hr).1

theorem heads_get (k : Fin 3) : [i.supplierHead, i.dockHead, i.legacyHead][k.val]? = some (i.head k) := by
  fin_cases k <;> rfl

theorem paramFault_detail (k : Fin 15) : (paramFault i k).map ImageFault.detail
    = if i.params[k] < (paramRange k.val).1 ∨ (paramRange k.val).2 < i.params[k] then some 1
      else if k.val = 5 ∧ i.params[k] < i.params[4] ∨ k.val = 12 ∧ i.params[k] < i.params[11] + 1000 then some 2
      else none := by
  unfold paramFault PolicyImage.windowMin PolicyImage.lowReference
  simp only [Bool.or_eq_true, Bool.and_eq_true, decide_eq_true_eq]
  split
  · rfl
  · by_cases horder : k.val = 5 ∧ i.params[k] < i.params[4]
    · rw [if_pos horder, if_pos (.inl horder)]
      rfl
    · rw [if_neg horder]
      by_cases hreference : k.val = 12 ∧ i.params[k] < i.params[11] + 1000
      · rw [if_pos hreference, if_pos (.inr hreference)]
        rfl
      · rw [if_neg hreference, if_neg (not_or.mpr ⟨horder, hreference⟩)]
        rfl

theorem params_detail_iff (k : Fin 15) : itemDetail i (.params, k.val) = some d ↔ itemFails i .params k.val d := by
  have hrange : acceptedRange[k.val]? = some (paramRange k.val) := by fin_cases k <;> rfl
  have hparam : i.params[k.val]? = some i.params[k] := Vector.getElem?_eq_getElem k.isLt
  rw [itemDetail, dif_pos k.isLt, show (⟨k.val, k.isLt⟩ : Fin 15) = k from rfl, paramFault_detail]
  have hfails : itemFails i .params k.val d ↔
      (i.params[k] < (paramRange k.val).1 ∨ (paramRange k.val).2 < i.params[k]) ∧ d = 1
        ∨ (paramRange k.val).1 ≤ i.params[k] ∧ i.params[k] ≤ (paramRange k.val).2 ∧ d = 2
          ∧ (k.val = 5 ∧ i.params[k] < i.params[4] ∨ k.val = 12 ∧ i.params[k] < i.params[11] + 1000) := by
    simp only [itemFails, hrange, hparam, Option.some_inj, exists_and_left, exists_eq_left']
  rw [hfails]
  by_cases hout : i.params[k] < (paramRange k.val).1 ∨ (paramRange k.val).2 < i.params[k]
  · rw [if_pos hout, Option.some_inj]
    omega
  · rw [if_neg hout]
    split
    · rw [Option.some_inj]
      omega
    · exact ⟨nofun, fun h => by omega⟩

theorem rule_detail_iff (k : Fin 48) : itemDetail i (.rule, k.val) = some d ↔ itemFails i .rule k.val d := by
  have hrule : i.rules[k.val]? = some i.rules[k] := Vector.getElem?_eq_getElem k.isLt
  rw [itemDetail, dif_pos k.isLt]
  simp only [itemFails, hrule, Option.some_inj, exists_eq_left']
  exact ruleDetail_iff _ _

theorem head_detail_iff (k : Fin 3) : itemDetail i (.head, k.val) = some d ↔ itemFails i .head k.val d := by
  rw [itemDetail, dif_pos k.isLt]
  simp only [itemFails, heads_get, Option.some_inj, exists_eq_left']
  unfold headFault
  by_cases hok : i.head k < 48 ∨ i.head k = 63
  · rw [if_pos ((linkAccepted_iff _).mpr hok)]
    exact ⟨nofun, fun ⟨h1, h2, _⟩ => by omega⟩
  · rw [if_neg fun h => hok ((linkAccepted_iff _).mp h)]
    rw [not_or, Nat.not_lt] at hok
    exact ⟨fun h => ⟨hok.1, hok.2, (Option.some_inj.mp h).symm⟩, fun ⟨_, _, h⟩ => congrArg some h.symm⟩

theorem chain_detail_iff (k : Fin 3) : itemDetail i (.chain, k.val) = some d ↔ itemFails i .chain k.val d := by
  rw [itemDetail, dif_pos k.isLt]
  refine (walk_iff d).trans ⟨fun ⟨n, h⟩ => ⟨_, n, heads_get k, h⟩, fun ⟨head, n, hhead, h⟩ => ⟨n, ?_⟩⟩
  rw [heads_get, Option.some_inj] at hhead
  subst hhead
  exact h

theorem rating_detail_iff (k : Fin 12) : itemDetail i (.rating, k.val) = some d ↔ itemFails i .rating k.val d := by
  have hrating : i.ratings[k.val]? = some i.ratings[k] := Vector.getElem?_eq_getElem k.isLt
  rw [itemDetail, dif_pos k.isLt]
  simp only [itemFails, hrating, Option.some_inj, exists_eq_left']
  exact ratingDetail_iff _ _

theorem itemDetail_iff (part : ImagePart) (k : Nat) : itemDetail i (part, k) = some d ↔ itemFails i part k d := by
  by_cases hk : k < itemCount part
  · cases part with
    | params => exact params_detail_iff ⟨k, hk⟩
    | rule => exact rule_detail_iff ⟨k, hk⟩
    | head => exact head_detail_iff ⟨k, hk⟩
    | chain => exact chain_detail_iff ⟨k, hk⟩
    | rating => exact rating_detail_iff ⟨k, hk⟩
  · rw [itemDetail_out hk]
    exact ⟨nofun, fun h => absurd (itemFails_in h) hk⟩

end

theorem checkedBefore_asymm (a b : ImagePart × Nat) (h : checkedBefore a.1 a.2 b.1 b.2) : ¬checkedBefore b.1 b.2 a.1 a.2 := by
  rcases h with h | ⟨h, hlt⟩
  · rintro (h' | ⟨h', -⟩)
    · omega
    · rw [h'] at h
      omega
  · rintro (h' | ⟨-, hlt'⟩)
    · rw [h] at h'
      omega
    · omega

/-- Settles O47. -/
theorem validationFindsTheFirstFault : Obligations.ValidationFindsTheFirstFault := by
  intro i
  refine ⟨?_, fun f => ?_⟩
  · rw [validate_eq, Option.map_eq_none_iff, List.findSome?_eq_none_iff]
    refine ⟨fun h part k d hfails => ?_, fun h x _ => ?_⟩
    · have hdetail := (itemDetail_iff part k).mpr hfails
      simpa [hdetail] using h _ (mem_itemOrder_of_detail hdetail)
    · cases hdetail : itemDetail i x with
      | none => rfl
      | some d => exact absurd ((itemDetail_iff x.1 x.2).mp hdetail) (h _ _ _)
  · have hfirst := findSome_iff_of_pairwise checkedBefore_asymm itemOrder_pairwise (itemDetail i) (f.part, f.index) f.detail
    have hfault : validate i = some f ↔ (itemOrder.findSome? fun x => (itemDetail i x).map (Prod.mk x))
        = some ((f.part, f.index), f.detail) := by
      rw [validate_eq, Option.map_eq_some_iff]
      constructor
      · rintro ⟨x, hx, rfl⟩
        exact hx
      · exact fun h => ⟨_, h, rfl⟩
    rw [hfault, hfirst]
    constructor
    · rintro ⟨-, hdetail, hbefore⟩
      refine ⟨(itemDetail_iff _ _).mp hdetail, fun part k d hfails => ?_⟩
      have hother := (itemDetail_iff part k).mpr hfails
      exact hbefore _ (mem_itemOrder_of_detail hother) d hother
    · rintro ⟨hfails, hbefore⟩
      have hdetail := (itemDetail_iff _ _).mpr hfails
      exact ⟨mem_itemOrder_of_detail hdetail, hdetail, fun x _ d hd => hbefore _ _ d ((itemDetail_iff x.1 x.2).mp hd)⟩

end Sys2Proof.Machine
end

section
/-! PROOFS. The end of a port conversion by its outcome, and OPEN conversions of a reference (R56, R59, R60, R62, R63, R65,
R68). -/

namespace Sys2Proof.Machine

open Sys2Proof

section
variable {s t u : State} {p q : Port} {c : UnratedCode} {resistance : Option Nat} {n : Nat} {m m' m'' : Meter}

/-! ### What the end of one port's measurement leaves of the meter -/

/-- Only a port's own record and its own channel's place in the queue have changed. -/
structure Meter.onlyPort (p : Port) (m m' : Meter) : Prop where
  others : ∀ q ≠ p, m'.port.get q = m.port.get q
  lo : m'.refLo = m.refLo
  hi : m'.refHi = m.refHi
  count : m'.refreshCount = m.refreshCount
  flight : m'.inFlight = m.inFlight
  queue : ∀ c ∈ m.queue, c ∈ m'.queue

theorem Meter.onlyPort.refl (m : Meter) : Meter.onlyPort p m m := ⟨fun _ _ => rfl, rfl, rfl, rfl, rfl, fun _ => id⟩

theorem Meter.onlyPort.trans (h : Meter.onlyPort p m m') (h' : Meter.onlyPort p m' m'') : Meter.onlyPort p m m'' :=
  ⟨fun q hq => (h'.others q hq).trans (h.others q hq), h'.lo.trans h.lo, h'.hi.trans h.hi, h'.count.trans h.count,
    h'.flight.trans h.flight, fun c hc => h'.queue c (h.queue c hc)⟩

theorem Meter.onlyPort_withMeasure (m : Meter) (r : PortMeasure) : Meter.onlyPort p m (m.withMeasure p r) :=
  ⟨fun _ hq => m.withMeasure_other hq r, rfl, rfl, rfl, rfl, fun _ => id⟩

theorem Meter.queue_subset_add (m : Meter) (c : Channel) : ∀ d ∈ m.queue, d ∈ (m.add c).queue := by
  intro d hd
  rcases m.add_queue_perm c with hsame | ⟨hperm, -, -⟩
  · rwa [hsame]
  · exact hperm.mem_iff.mpr (List.mem_cons_of_mem _ hd)

theorem Meter.onlyPort_add (m : Meter) (c : Channel) : Meter.onlyPort p m (m.add c) :=
  ⟨fun q _ => by rw [Meter.add_port], m.add_refLo c, m.add_refHi c, m.add_refreshCount c, m.add_inFlight c,
    m.queue_subset_add c⟩

theorem finishFlag_meter (p : Port) (code : Option UnratedCode) (s : State) : (finishFlag p code s).meter
    = s.meter.withMeasure p { s.meter.port.get p with measureFlag := false } := by
  unfold finishFlag
  dsimp only
  split <;> rfl

theorem endUnrated_onlyPort (p : Port) (c : UnratedCode) (resistance : Option Nat) (s : State) :
    Meter.onlyPort p s.meter (endUnrated p c resistance s).meter := by
  unfold endUnrated
  rw [finishFlag_meter, deliverUnrated_meter]
  exact (Meter.onlyPort_withMeasure s.meter _).trans (Meter.onlyPort_withMeasure _ _)

theorem endRated_onlyPort (p : Port) (entry : Nat) (r : Rating) (resistance : Nat) (s : State) :
    Meter.onlyPort p s.meter (endRated p entry r resistance s).meter := by
  unfold endRated
  rw [finishFlag_meter, deliverRated_meter]
  exact (Meter.onlyPort_withMeasure s.meter _).trans (Meter.onlyPort_withMeasure _ _)

theorem measureAgain_onlyPort (p : Port) (n : Nat) (s : State) : Meter.onlyPort p s.meter (measureAgain p n s).meter :=
  (Meter.onlyPort_withMeasure s.meter _).trans (Meter.onlyPort_add _ _)

theorem rate_onlyPort (p : Port) (n : Nat) (s : State) : Meter.onlyPort p s.meter (rate p n s).meter := by
  unfold rate
  split
  · exact endUnrated_onlyPort _ _ _ _
  · split
    · exact endRated_onlyPort _ _ _ _ _
    · exact endUnrated_onlyPort _ _ _ _

theorem acceptResistance_onlyPort (p : Port) (n : Nat) (s : State) :
    Meter.onlyPort p s.meter (acceptResistance p n s).meter := by
  unfold acceptResistance
  split
  · exact measureAgain_onlyPort _ _ _
  · split
    · exact rate_onlyPort _ _ _
    · split
      · exact measureAgain_onlyPort _ _ _
      · exact endUnrated_onlyPort _ _ _ _

theorem acceptResistance_ends (p : Port) (n : Nat) (s : State) :
    ((acceptResistance p n s).meter.port.get p).phase ≠ .unresolved := by
  have hagain : ((measureAgain p n s).meter.port.get p).phase ≠ .unresolved := by simp [measureAgain_measure]
  have hunrated : ∀ c r, ((endUnrated p c r s).meter.port.get p).phase ≠ .unresolved := fun c r => by
    simp [endUnrated_measure]
  unfold acceptResistance
  split
  · exact hagain
  · split
    · unfold rate
      split
      · exact hunrated _ _
      · split
        · simp [endRated_measure]
        · exact hunrated _ _
    · split
      · exact hagain
      · exact hunrated _ _

/-! ### The pair of references is asked for (R60) -/

theorem queuePair_asks (s : State) : (queuePair s).pairAsked := by
  intro c hc
  have hkept : ∀ {d : Channel} {m : Meter} (e : Channel), d ∈ m.queue ∨ m.inFlightChannel = some d →
      d ∈ (m.add e).queue ∨ (m.add e).inFlightChannel = some d := fun {d m} e h => by
    rcases h with h | h
    · exact .inl (m.queue_subset_add e d h)
    · right
      rw [Meter.inFlightChannel, Meter.add_inFlight]
      exact h
  rcases hc with rfl | rfl
  · exact hkept .refHi (Meter.placed_of_add s.meter .refLo)
  · exact Meter.placed_of_add (s.meter.add .refLo) .refHi

theorem State.pairAsked.of_onlyPort (h : s.pairAsked) (hmeter : Meter.onlyPort p s.meter t.meter) : t.pairAsked := by
  intro c hc
  rcases h c hc with hqueue | hflight
  · exact .inl (hmeter.queue c hqueue)
  · right
    rw [Meter.inFlightChannel, hmeter.flight]
    exact hflight

theorem State.pairAsked.takeChannel (h : s.pairAsked) : (takeChannel s).pairAsked :=
  fun c hc => Meter.placed_of_take (h c hc)

theorem takeChannel_references (s : State) : (takeChannel s).meter.refLo = s.meter.refLo
    ∧ (takeChannel s).meter.refHi = s.meter.refHi ∧ (takeChannel s).meter.refreshCount = s.meter.refreshCount :=
  s.meter.take_references

/-! ### The state in which the outcome of a conversion is handled (R60, R62) -/

/-- The converter is free and the conversion of port `p` is counted. -/
def counted (p : Port) (s : State) : State := countConversion p (s.modMeter fun m => { m with inFlight := none })

/-- The refresh count goes on, or is cleared as the pair is queued. -/
def sixteenthDone (s t : State) : Prop :=
  (s.meter.refreshCount + 1 < 16 → t.meter.refreshCount = s.meter.refreshCount + 1)
    ∧ (16 ≤ s.meter.refreshCount + 1 → t.meter.refreshCount = 0 ∧ t.pairAsked)

theorem counted_sixteenth (p : Port) (s : State) : sixteenthDone s (counted p s) := by
  unfold counted countConversion
  dsimp only
  split
  · next hfull =>
    have hfull : 16 ≤ s.meter.refreshCount + 1 := hfull
    exact ⟨fun h => by omega, fun _ => ⟨rfl, queuePair_asks _⟩⟩
  · next hroom =>
    have hroom : ¬16 ≤ s.meter.refreshCount + 1 := hroom
    exact ⟨fun _ => rfl, fun h => absurd h hroom⟩

theorem sixteenthDone.of_onlyPort (h : sixteenthDone s t) (hmeter : Meter.onlyPort p t.meter u.meter) : sixteenthDone s u :=
  ⟨fun hroom => hmeter.count.trans (h.1 hroom),
    fun hfull => ⟨hmeter.count.trans (h.2 hfull).1, (h.2 hfull).2.of_onlyPort hmeter⟩⟩

theorem sixteenthDone.takeChannel (h : sixteenthDone s t) : sixteenthDone s (takeChannel t) :=
  ⟨fun hroom => (takeChannel_references t).2.2.trans (h.1 hroom),
    fun hfull => ⟨(takeChannel_references t).2.2.trans (h.2 hfull).1, (h.2 hfull).2.takeChannel⟩⟩

theorem counted_measure (p : Port) (s : State) : (counted p s).meter.port.get p
    = { s.meter.port.get p with attempts := (s.meter.port.get p).attempts + 1 } := countConversion_measure _ _

theorem counted_eq_modMeter (p : Port) (s : State) : ∃ f, counted p s = s.modMeter f := by
  refine ⟨fun _ => (counted p s).meter, ?_⟩
  unfold counted countConversion
  dsimp only
  split <;> rfl

theorem counted_references (p : Port) (s : State) :
    (counted p s).meter.refLo = s.meter.refLo ∧ (counted p s).meter.refHi = s.meter.refHi := by
  simp [counted, countConversion_converter]

theorem periodTaken_onlyPort (p : Port) (n : Nat) (s : State) :
    Meter.onlyPort p (counted p s).meter (periodTaken p n s).meter := Meter.onlyPort_withMeasure _ _

/-! ### A result told at the Port Monitor -/

/-- What a result reaches beside the meter stands where only other parts change. -/
theorem unratedDelivered.of_same {v : State} (hstart : ∀ part ∈ .clock :: resultParts p, Part.same part s u)
    (h : unratedDelivered p u t) (hend : ∀ part ∈ resultParts p, Part.same part t v) : unratedDelivered p s v := by
  have hclock : u.msCount = s.msCount := hstart .clock (by simp)
  have hmonitor : u.monitor.get p = s.monitor.get p := hstart (.monitor p) (by simp [resultParts])
  have hbook : u.book.get p = s.book.get p := hstart (.book p) (by simp [resultParts])
  have hdemands : u.sequencer.demands.get p = s.sequencer.demands.get p := hstart (.demands p) (by simp [resultParts])
  have hnotice : u.link.notices.get (.partner p) = s.link.notices.get (.partner p) :=
    hstart (.notice (.partner p)) (by simp [resultParts])
  have hmonitor' : v.monitor.get p = t.monitor.get p := hend (.monitor p) (by simp [resultParts])
  have hbook' : v.book.get p = t.book.get p := hend (.book p) (by simp [resultParts])
  have hdemands' : v.sequencer.demands.get p = t.sequencer.demands.get p := hend (.demands p) (by simp [resultParts])
  have hnotice' : v.link.notices.get (.partner p) = t.link.notices.get (.partner p) :=
    hend (.notice (.partner p)) (by simp [resultParts])
  unfold unratedDelivered at h ⊢
  rw [hmonitor', hbook', hdemands', hnotice', ← hmonitor, ← hbook, ← hdemands, ← hnotice, ← hclock]
  exact h

/-- The record of an unrated measurement and what is told of it, as they stand once the converter has gone on. -/
def unratedEnd (p : Port) (s : State) (c : UnratedCode) (t : State) : Prop :=
  (t.meter.port.get p).result = .unrated ∧ (t.meter.port.get p).code = some c
    ∧ (t.meter.port.get p).resistance = none ∧ (t.meter.port.get p).entry = none
    ∧ (t.meter.port.get p).previous = none ∧ (t.meter.port.get p).heldPeriod = none
    ∧ (t.meter.port.get p).measureFlag = false ∧ unratedDelivered p s t

theorem takeChannel_result (p : Port) (s : State) : ∀ part ∈ resultParts p, Part.same part s (takeChannel s) := by
  intro part hpart
  simp only [resultParts, List.mem_cons, List.not_mem_nil, or_false] at hpart
  rcases hpart with rfl | rfl | rfl | rfl <;> rfl

theorem modMeter_result (p : Port) (f : Meter → Meter) (s : State) :
    ∀ part ∈ .clock :: resultParts p, Part.same part s (s.modMeter f) := by
  intro part hpart
  simp only [resultParts, List.mem_cons, List.not_mem_nil, or_false] at hpart
  rcases hpart with rfl | rfl | rfl | rfl | rfl <;> rfl

theorem endUnrated_unratedEnd {f : Meter → Meter} (hu : u = s.modMeter f) (p : Port) (c : UnratedCode) :
    unratedEnd p s c (takeChannel (endUnrated p c none u)) := by
  obtain ⟨phase, hmeasure⟩ := takeChannel_measure p (endUnrated p c none u)
  unfold unratedEnd
  rw [hmeasure, endUnrated_measure]
  refine ⟨rfl, rfl, rfl, rfl, rfl, rfl, rfl, ?_⟩
  exact unratedDelivered.of_same (hu ▸ modMeter_result p f s) (endUnrated_delivers p c none u) (takeChannel_result p _)

theorem endUnrated_tells {f : Meter → Meter} (hu : u = s.modMeter f)
    (hflag : (u.meter.port.get p).measureFlag = (s.meter.port.get p).measureFlag) (hc : c ≠ .reference) :
    doneTold p s (takeChannel (endUnrated p c none u)) :=
  (endUnrated_doneTold hc none u).of_start hflag (by rw [hu]; rfl) (by rw [hu]; rfl)

/-! ### References that stand too close (R65) -/

/-- The meter with both references FAULTED. -/
def Meter.faulted (m : Meter) : Meter :=
  { m with refLo := { m.refLo with status := .faulted }, refHi := { m.refHi with status := .faulted } }

theorem referenceFault_eq (p : Port) (s : State) : referenceFault p s
    = queuePair ((postMeter noticeReference (.id p) (endUnrated p .reference none s)).modMeter Meter.faulted) := rfl

theorem referenceFault_measure (p : Port) (s : State) :
    (referenceFault p s).meter.port.get p = (endUnrated p .reference none s).meter.port.get p := by
  rw [referenceFault_eq, queuePair_port]
  rfl

theorem referenceFault_others (hq : q ≠ p) (s : State) :
    (referenceFault p s).meter.port.get q = s.meter.port.get q := by
  rw [referenceFault_eq, queuePair_port]
  exact (endUnrated_onlyPort p .reference none s).others q hq

theorem referenceFault_references (p : Port) (s : State) :
    (referenceFault p s).meter.refLo = { s.meter.refLo with status := .faulted }
      ∧ (referenceFault p s).meter.refHi = { s.meter.refHi with status := .faulted }
      ∧ (referenceFault p s).meter.refreshCount = 0 := by
  have hended := endUnrated_onlyPort p .reference none s
  have hlo : (endUnrated p .reference none s).meter.refLo = s.meter.refLo := hended.lo
  have hhi : (endUnrated p .reference none s).meter.refHi = s.meter.refHi := hended.hi
  have hmeter : (postMeter noticeReference (.id p) (endUnrated p .reference none s)).meter
      = (endUnrated p .reference none s).meter := rfl
  rw [referenceFault_eq]
  simp [queuePair, State.modMeter, Meter.faulted, hmeter, hlo, hhi]

theorem referenceFault_port_changes (p : Port) (s : State) : ChangesOnly (portMeterParts p) s (referenceFault p s) :=
  ((endUnrated_port_changes p .reference none s).trans
    ((postMeter_changes _ _ _).mono (by simp [portMeterParts]))).trans
    ((modMeter_port_changes p Meter.faulted _).trans (modMeter_port_changes p _ _))

theorem referenceFault_eq_modMeter (p : Port) (s : State) :
    ∃ f, referenceFault p s = (postMeter noticeReference (.id p) (endUnrated p .reference none s)).modMeter f :=
  ⟨fun m => { (m.faulted.add .refLo).add .refHi with refreshCount := 0 }, rfl⟩

theorem referenceFault_result (p : Port) (s : State) :
    ∀ part ∈ resultParts p, Part.same part (endUnrated p .reference none s) (referenceFault p s) := by
  obtain ⟨f, hf⟩ := referenceFault_eq_modMeter p s
  intro part hpart
  have hother : part ∉ [.notice .meter] := by
    simp only [resultParts, List.mem_cons, List.not_mem_nil, or_false] at hpart
    rcases hpart with rfl | rfl | rfl | rfl <;> simp
  rw [hf]
  exact Part.same_trans (postMeter_changes _ _ _ part hother) (modMeter_result p f _ part (List.mem_cons_of_mem _ hpart))

theorem endUnrated_reference_notice (p : Port) (s : State) :
    (endUnrated p .reference none s).link.notices.get .meter = s.link.notices.get .meter := by
  have hflag : ∀ t : State, (finishFlag p (some .reference) t).link = t.link := fun t => by
    unfold finishFlag
    dsimp only
    rw [if_neg (by simp)]
    rfl
  unfold endUnrated
  rw [hflag]
  exact deliverUnrated_changes p (s.modPortMeasure p _) (.notice .meter) (by simp [resultParts])

theorem endUnrated_msCount (p : Port) (c : UnratedCode) (resistance : Option Nat) (s : State) :
    (endUnrated p c resistance s).msCount = s.msCount :=
  endUnrated_port_changes p c resistance s .clock (by simp [portMeterParts])

theorem referenceFault_notice (p : Port) (s : State) : (referenceFault p s).link.notices.get .meter
    = some (postTo (s.link.notices.get .meter) noticeReference (snapshotOf p.val 0 0 0) s.msCount) := by
  have hposted := postMeter_notice_same noticeReference (.id p) (endUnrated p .reference none s)
  rw [endUnrated_reference_notice, endUnrated_msCount] at hposted
  exact hposted

theorem referenceFault_unratedEnd {f : Meter → Meter} (hu : u = s.modMeter f) (p : Port) :
    unratedEnd p s .reference (takeChannel (referenceFault p u)) := by
  obtain ⟨phase, hmeasure⟩ := takeChannel_measure p (referenceFault p u)
  unfold unratedEnd
  rw [hmeasure, referenceFault_measure, endUnrated_measure]
  refine ⟨rfl, rfl, rfl, rfl, rfl, rfl, rfl, ?_⟩
  have hfault := unratedDelivered.of_same (fun part hpart => Part.same_refl part u) (endUnrated_delivers p .reference none u)
    (referenceFault_result p u)
  exact unratedDelivered.of_same (hu ▸ modMeter_result p f s) hfault (takeChannel_result p _)

/-! ### The end of a port conversion -/

theorem counted_port_changes (p : Port) (s : State) : ChangesOnly (portMeterParts p) s (counted p s) := by
  obtain ⟨f, hf⟩ := counted_eq_modMeter p s
  rw [hf]
  exact modMeter_port_changes p f s

theorem attempts_of_measure {r : PortMeasure} (ht : ∃ phase, t.meter.port.get p = { r with phase := phase }) :
    (t.meter.port.get p).attempts = r.attempts ∧ (t.meter.port.get p).lastPeriod = r.lastPeriod := by
  obtain ⟨phase, hmeasure⟩ := ht
  rw [hmeasure]
  exact ⟨rfl, rfl⟩

theorem exec_conversionOpen (hrun : s.inReset = false) {c : Channel} (hflight : s.meter.inFlightChannel = some c)
    (hopen : s.meter.openReached = true) : exec .conversionOpen s = .next (endConversion c .openCircuit s) := by
  have hexec : exec .conversionOpen s = execConversionOpen s := rfl
  simp only [hexec, execConversionOpen, running_free _ hrun, hflight, hopen, if_true]

theorem conversionOpen_port (hrun : s.inReset = false) (hflight : s.meter.inFlightChannel = some (.id p))
    (hopen : s.meter.openReached = true) : ∃ t, exec .conversionOpen s = .next t ∧ unratedEnd p s .openCircuit t
      ∧ doneTold p s t ∧ sixteenthDone s t
      ∧ (t.meter.port.get p).attempts = (s.meter.port.get p).attempts + 1
      ∧ (t.meter.port.get p).lastPeriod = (s.meter.port.get p).lastPeriod
      ∧ t.meter.refLo = s.meter.refLo ∧ t.meter.refHi = s.meter.refHi ∧ ChangesOnly (portMeterParts p) s t := by
  obtain ⟨f, hf⟩ := counted_eq_modMeter p s
  have hended := endUnrated_onlyPort p .openCircuit none (counted p s)
  obtain ⟨hlo, hhi, -⟩ := takeChannel_references (endUnrated p .openCircuit none (counted p s))
  obtain ⟨hlo', hhi'⟩ := counted_references p s
  have hrecord := attempts_of_measure (takeChannel_measure p (endUnrated p .openCircuit none (counted p s)))
  rw [endUnrated_measure, counted_measure] at hrecord
  have hexec : exec .conversionOpen s = .next (takeChannel (endUnrated p .openCircuit none (counted p s))) :=
    exec_conversionOpen hrun hflight hopen
  refine ⟨_, hexec, endUnrated_unratedEnd hf p .openCircuit,
    endUnrated_tells hf (by rw [counted_measure]) (by decide),
    ((counted_sixteenth p s).of_onlyPort hended).takeChannel, hrecord.1, hrecord.2, hlo.trans (hended.lo.trans hlo'),
    hhi.trans (hended.hi.trans hhi'), ?_⟩
  exact ((counted_port_changes p s).trans (endUnrated_port_changes p .openCircuit none _)).trans (modMeter_port_changes p _ _)

theorem exec_portConversion (hrun : s.inReset = false) (hflight : s.meter.inFlightChannel = some (.id p)) {period : BitVec 16}
    (hperiod : period.toNat < 65535) : exec (.portConversionEnd period) s
      = .next (portCompleted p (if period.toNat < 640 then .short period.toNat else .valid period.toNat) s) := by
  rw [exec_portConversionEnd hrun hflight hperiod, outcomeAt, if_pos hperiod]

theorem periodTaken_sixteenth (p : Port) (n : Nat) (s : State) : sixteenthDone s (periodTaken p n s) :=
  (counted_sixteenth p s).of_onlyPort (periodTaken_onlyPort p n s)

theorem acceptResistance_attempts (p : Port) (n : Nat) (s : State) :
    ((acceptResistance p n s).meter.port.get p).attempts = (s.meter.port.get p).attempts := by
  have hagain : ((measureAgain p n s).meter.port.get p).attempts = (s.meter.port.get p).attempts := by
    rw [measureAgain_measure]
  have hunrated : ∀ c r, ((endUnrated p c r s).meter.port.get p).attempts = (s.meter.port.get p).attempts := fun c r => by
    rw [endUnrated_measure]
  unfold acceptResistance
  split
  · exact hagain
  · split
    · unfold rate
      split
      · exact hunrated _ _
      · split
        · rw [endRated_measure]
        · exact hunrated _ _
    · split
      · exact hagain
      · exact hunrated _ _

theorem resolve_attempts (p : Port) (n : Nat) (s : State) :
    ((resolve p n s).meter.port.get p).attempts = (s.meter.port.get p).attempts := by
  unfold resolve
  dsimp only
  split
  · rw [referenceFault_measure, endUnrated_measure]
  · exact acceptResistance_attempts p _ s

theorem holdConversion_measure (p : Port) (n : Nat) (s : State) : (holdConversion p n s).meter.port.get p
    = { s.meter.port.get p with heldPeriod := some n, phase := .unresolved } := by
  rw [holdConversion, queuePair_port, modPortMeasure_measure]

theorem portCompleted_attempts (p : Port) (n : Nat) (s : State) :
    ((portCompleted p (if n < 640 then .short n else .valid n) s).meter.port.get p).attempts
      = (s.meter.port.get p).attempts + 1 := by
  have htaken : ((periodTaken p n s).meter.port.get p).attempts = (s.meter.port.get p).attempts + 1 := by
    rw [periodTaken_measure]
  have hgoes : ∀ u : State, ((takeChannel u).meter.port.get p).attempts = (u.meter.port.get p).attempts := fun u =>
    (attempts_of_measure (takeChannel_measure p u)).1
  split
  · rw [portCompleted_short, hgoes, endUnrated_measure]
    exact htaken
  · rw [portCompleted_valid, hgoes]
    split
    · rw [resolve_attempts, htaken]
    · rw [holdConversion_measure]
      exact htaken

theorem resolve_port_changes (p : Port) (n : Nat) (s : State) : ChangesOnly (portMeterParts p) s (resolve p n s) := by
  unfold resolve
  dsimp only
  split
  · exact referenceFault_port_changes p s
  · exact acceptResistance_port_changes p _ s

theorem portCompleted_port_changes (p : Port) (n : Nat) (s : State) :
    ChangesOnly (portMeterParts p) s (portCompleted p (if n < 640 then .short n else .valid n) s) := by
  have htaken := periodTaken_port_changes p n s
  split
  · rw [portCompleted_short]
    exact (htaken.trans (endUnrated_port_changes p _ _ _)).trans (modMeter_port_changes p _ _)
  · rw [portCompleted_valid]
    refine ChangesOnly.trans (htaken.trans ?_) (modMeter_port_changes p _ _)
    split
    · exact resolve_port_changes p n _
    · exact (modMeter_port_changes p _ _).trans (modMeter_port_changes p _ _)

/-- Both references are VALID (R59). -/
theorem referencesValid_iff (m : Meter) : m.referencesValid = true ↔ m.refLo.status = .valid ∧ m.refHi.status = .valid := by
  simp [Meter.referencesValid]

theorem periodTaken_referencesValid (p : Port) (n : Nat) (s : State) :
    (periodTaken p n s).meter.referencesValid = s.meter.referencesValid := by
  obtain ⟨hlo, hhi⟩ := periodTaken_references p n s
  simp [Meter.referencesValid, hlo, hhi]

/-- A valid period between references too close together. -/
theorem portCompleted_close (hvalid : s.meter.refLo.status = .valid ∧ s.meter.refHi.status = .valid)
    (hclose : s.meter.refHi.period.getD 0 < s.meter.refLo.period.getD 0 + 64) :
    portCompleted p (.valid n) s = takeChannel (referenceFault p (periodTaken p n s)) := by
  obtain ⟨hlo, hhi⟩ := periodTaken_references p n s
  have hboth := (periodTaken_referencesValid p n s).trans ((referencesValid_iff _).mpr hvalid)
  rw [portCompleted_valid, if_pos hboth, resolve_of_close (by rwa [hlo, hhi])]

/-- A valid period while a reference is not valid. -/
theorem portCompleted_held (hvalid : ¬(s.meter.refLo.status = .valid ∧ s.meter.refHi.status = .valid)) :
    portCompleted p (.valid n) s = takeChannel (holdConversion p n (periodTaken p n s)) := by
  have hnot : ¬(periodTaken p n s).meter.referencesValid = true := by
    rw [periodTaken_referencesValid, referencesValid_iff]
    exact hvalid
  rw [portCompleted_valid, if_neg hnot]

theorem close_spec (hvalid : s.meter.refLo.status = .valid ∧ s.meter.refHi.status = .valid)
    (hclose : s.meter.refHi.period.getD 0 < s.meter.refLo.period.getD 0 + 64) (ht : t = portCompleted p (.valid n) s) :
    unratedEnd p s .reference t ∧ t.meter.refLo = { s.meter.refLo with status := .faulted }
      ∧ t.meter.refHi = { s.meter.refHi with status := .faulted } ∧ t.meter.refreshCount = 0 ∧ t.pairAsked
      ∧ t.link.notices.get .meter
          = some (postTo (s.link.notices.get .meter) noticeReference (snapshotOf p.val 0 0 0) s.msCount) := by
  obtain ⟨f, hf⟩ := periodTaken_eq_modMeter p n s
  obtain ⟨hlo, hhi⟩ := periodTaken_references p n s
  obtain ⟨hlo', hhi', hcount⟩ := referenceFault_references p (periodTaken p n s)
  obtain ⟨htlo, hthi, htcount⟩ := takeChannel_references (referenceFault p (periodTaken p n s))
  have hnotice := referenceFault_notice p (periodTaken p n s)
  have hsame : (periodTaken p n s).link = s.link ∧ (periodTaken p n s).msCount = s.msCount := by
    rw [hf]
    exact ⟨rfl, rfl⟩
  rw [hsame.1, hsame.2] at hnotice
  rw [ht, portCompleted_close hvalid hclose]
  refine ⟨referenceFault_unratedEnd hf p, ?_, ?_, htcount.trans hcount, ?_, hnotice⟩
  · rw [htlo, hlo', hlo]
  · rw [hthi, hhi', hhi]
  · exact State.pairAsked.takeChannel (queuePair_asks _)

theorem Meter.mem_of_mem_add {m : Meter} {c d : Channel} (h : d ∈ (m.add c).queue) : d = c ∨ d ∈ m.queue := by
  rcases m.add_queue_perm c with hsame | ⟨hperm, -, -⟩
  · exact .inr (hsame ▸ h)
  · exact List.mem_cons.mp (hperm.mem_iff.mp h)

theorem queuePair_port_queue (h : .id p ∈ (queuePair s).meter.queue) : .id p ∈ s.meter.queue := by
  rcases Meter.mem_of_mem_add (m := s.meter.add .refLo) h with hhi | hrest
  · cases hhi
  · exact (Meter.mem_of_mem_add hrest).resolve_left nofun

theorem periodTaken_port_queue (h : .id p ∈ (periodTaken p n s).meter.queue) : .id p ∈ s.meter.queue := by
  unfold periodTaken countConversion at h
  dsimp only at h
  split at h
  · have hqueued := queuePair_port_queue h
    exact hqueued
  · exact h

theorem holdConversion_port_queue (h : .id p ∈ (holdConversion p n s).meter.queue) : .id p ∈ s.meter.queue := by
  unfold holdConversion at h
  have hqueued := queuePair_port_queue h
  exact hqueued

theorem held_spec (hvalid : ¬(s.meter.refLo.status = .valid ∧ s.meter.refHi.status = .valid))
    (hqueue : .id p ∉ s.meter.queue) (ht : t = portCompleted p (.valid n) s) :
    (t.meter.port.get p).heldPeriod = some n ∧ (t.meter.port.get p).phase = .unresolved
      ∧ (t.meter.port.get p).result = (s.meter.port.get p).result ∧ t.meter.refreshCount = 0 ∧ t.pairAsked
      ∧ t.link.notices = s.link.notices := by
  obtain ⟨f, hf⟩ := periodTaken_eq_modMeter p n s
  obtain ⟨-, -, htcount⟩ := takeChannel_references (holdConversion p n (periodTaken p n s))
  have hwaits : .id p ∉ (holdConversion p n (periodTaken p n s)).meter.queue := by
    exact fun hmem => hqueue (periodTaken_port_queue (holdConversion_port_queue hmem))
  have hrecord : (takeChannel (holdConversion p n (periodTaken p n s))).meter.port.get p
      = { (periodTaken p n s).meter.port.get p with heldPeriod := some n, phase := .unresolved } := by
    rw [← holdConversion_measure]
    refine Meter.take_port_other fun hhead => hwaits (List.mem_of_head? hhead)
  rw [ht, portCompleted_held hvalid, hrecord, periodTaken_measure]
  refine ⟨rfl, rfl, rfl, htcount, State.pairAsked.takeChannel (queuePair_asks _), ?_⟩
  show (periodTaken p n s).link.notices = _
  rw [hf]
  rfl

theorem apart_spec (hvalid : s.meter.refLo.status = .valid ∧ s.meter.refHi.status = .valid)
    (hapart : s.meter.refLo.period.getD 0 + 64 ≤ s.meter.refHi.period.getD 0) (ht : t = portCompleted p (.valid n) s) :
    sixteenthDone s t := by
  rw [ht, portCompleted_accepts hvalid.1 hvalid.2 hapart]
  exact ((periodTaken_sixteenth p n s).of_onlyPort (acceptResistance_onlyPort p _ _)).takeChannel

theorem short_spec (ht : t = portCompleted p (.short n) s) : unratedEnd p s .short t ∧ doneTold p s t ∧ sixteenthDone s t := by
  obtain ⟨f, hf⟩ := periodTaken_eq_modMeter p n s
  rw [ht, portCompleted_short]
  exact ⟨endUnrated_unratedEnd hf p .short, endUnrated_tells hf (by rw [periodTaken_measure]) (by decide),
    ((periodTaken_sixteenth p n s).of_onlyPort (endUnrated_onlyPort p _ _ _)).takeChannel⟩

/-- Where the count has come to sixteen the pair is queued, whatever the outcome. -/
theorem sixteenth_asks (hfull : 16 ≤ s.meter.refreshCount + 1)
    (ht : t = portCompleted p (if n < 640 then .short n else .valid n) s) : t.meter.refreshCount = 0 ∧ t.pairAsked := by
  by_cases hshort : n < 640
  · rw [if_pos hshort] at ht
    exact (short_spec ht).2.2.2 hfull
  · rw [if_neg hshort] at ht
    by_cases hvalid : s.meter.refLo.status = .valid ∧ s.meter.refHi.status = .valid
    · by_cases hclose : s.meter.refHi.period.getD 0 < s.meter.refLo.period.getD 0 + 64
      · obtain ⟨-, -, -, hcount, hasked, -⟩ := close_spec hvalid hclose ht
        exact ⟨hcount, hasked⟩
      · exact (apart_spec hvalid (Nat.not_lt.mp hclose) ht).2 hfull
    · rw [ht, portCompleted_held hvalid]
      exact ⟨(takeChannel_references _).2.2, State.pairAsked.takeChannel (queuePair_asks _)⟩

end

end Sys2Proof.Machine
end

section
/-! PROOFS. The end of a reference conversion and the held conversions it settles (R59, R65, R70). -/

namespace Sys2Proof.Machine

open Sys2Proof

section
variable {s t u v : State} {p q : Port} {o : ConversionOutcome} {hi : Bool} {n : Nat}

/-! ### The ports whose conversions are held -/

theorem mem_heldPorts_iff (m : Meter) (p : Port) : p ∈ m.heldPorts ↔ (m.port.get p).phase = .unresolved := by
  simp [Meter.heldPorts, mem_allPorts]

/-- The held ports in some order. -/
def heldOrder (s : State) (l : List Port) : Prop := l.Nodup ∧ ∀ p, p ∈ l ↔ (s.meter.port.get p).phase = .unresolved

theorem heldOrder_arrange (k : Nat) (s : State) : heldOrder s (arrange k s.meter.heldPorts) := by
  have hperm := arrange_perm k s.meter.heldPorts
  exact ⟨hperm.nodup_iff.mpr (List.Nodup.filter _ (by decide)), fun p => hperm.mem_iff.trans (mem_heldPorts_iff _ p)⟩

theorem settleHeld_failed (ho : o.isValid = false) (s : State) : ∃ l, heldOrder s l
    ∧ settleHeld o s = l.foldl (fun u p => endUnrated p .reference none u) (takeFree s).2 := by
  refine ⟨_, heldOrder_arrange (takeFree s).1 s, ?_⟩
  unfold settleHeld
  rw [if_neg (by simp [ho])]
  simp only [ho, Bool.false_eq_true, if_false]
  rfl

theorem settleHeld_resolves (ho : o.isValid = true) (hvalid : s.meter.referencesValid = true) : ∃ l, heldOrder s l
    ∧ settleHeld o s = l.foldl (fun u p => resolveHeld p u) (takeFree s).2 := by
  refine ⟨_, heldOrder_arrange (takeFree s).1 s, ?_⟩
  unfold settleHeld
  rw [if_neg (by simp [hvalid])]
  simp only [ho, if_true]
  rfl

theorem settleHeld_waits (ho : o.isValid = true) (hvalid : s.meter.referencesValid = false) : settleHeld o s = s := by
  unfold settleHeld
  rw [if_pos (by simp [ho, hvalid])]

theorem settleHeld_of_none (hnone : ∀ p, (s.meter.port.get p).phase ≠ .unresolved) :
    (settleHeld o s).meter = s.meter ∧ (settleHeld o s).link = s.link ∧ (settleHeld o s).msCount = s.msCount := by
  unfold settleHeld
  split
  · exact ⟨rfl, rfl, rfl⟩
  · obtain ⟨-, hmem⟩ := heldOrder_arrange (takeFree s).1 s
    have hempty : arrange (takeFree s).1 (takeFree s).2.meter.heldPorts = [] :=
      List.eq_nil_iff_forall_not_mem.mpr fun p hp => hnone p ((hmem p).mp hp)
    simp only [hempty, List.foldl_nil]
    exact ⟨rfl, rfl, rfl⟩

/-! ### Every held measurement ends UNRATED REFERENCE (R59) -/

/-- What the ends of the measurements of some ports have left. -/
structure heldEnded (l : List Port) (s t : State) : Prop where
  ended : ∀ p ∈ l, (t.meter.port.get p).result = .unrated ∧ (t.meter.port.get p).code = some .reference
    ∧ (t.meter.port.get p).heldPeriod = none ∧ unratedDelivered p s t
  kept : ∀ p ∉ l, t.meter.port.get p = s.meter.port.get p ∧ ∀ part ∈ resultParts p, Part.same part s t
  lo : t.meter.refLo = s.meter.refLo
  hi : t.meter.refHi = s.meter.refHi
  notice : t.link.notices.get .meter = s.link.notices.get .meter

theorem result_not_mem_portMeterParts (h : p ≠ q) : ∀ part ∈ .clock :: resultParts p, part ∉ portMeterParts q := by
  intro part hpart
  simp only [resultParts, List.mem_cons, List.not_mem_nil, or_false] at hpart
  rcases hpart with rfl | rfl | rfl | rfl | rfl <;> simp [portMeterParts, h]

theorem heldEnded_foldl {l : List Port} (hl : l.Nodup) (s : State) :
    heldEnded l s (l.foldl (fun u p => endUnrated p .reference none u) s) := by
  induction l generalizing s with
  | nil => exact ⟨nofun, fun p _ => ⟨rfl, fun part _ => part.same_refl s⟩, rfl, rfl, rfl⟩
  | cons q l ih =>
    obtain ⟨hq, hl⟩ := List.nodup_cons.mp hl
    have hrest := ih hl (endUnrated q .reference none s)
    have honly := endUnrated_onlyPort q .reference none s
    have hstep := endUnrated_port_changes q .reference none s
    rw [List.foldl_cons]
    refine ⟨fun p hp => ?_, fun p hp => ?_, hrest.lo.trans honly.lo, hrest.hi.trans honly.hi,
      hrest.notice.trans (endUnrated_reference_notice q s)⟩
    · by_cases hpq : p = q
      · subst hpq
        obtain ⟨hmeasure, hsame⟩ := hrest.kept p hq
        rw [hmeasure, endUnrated_measure]
        exact ⟨rfl, rfl, rfl, unratedDelivered.of_same (fun part _ => part.same_refl s)
          (endUnrated_delivers p .reference none s) hsame⟩
      · have hmem : p ∈ l := (List.mem_cons.mp hp).resolve_left hpq
        obtain ⟨hresult, hcode, hperiod, hdelivered⟩ := hrest.ended p hmem
        exact ⟨hresult, hcode, hperiod, unratedDelivered.of_same
          (fun part hpart => hstep part (result_not_mem_portMeterParts hpq part hpart)) hdelivered fun part _ => part.same_refl _⟩
    · obtain ⟨hpq, hmem⟩ := not_or.mp (mt List.mem_cons.mpr hp)
      obtain ⟨hmeasure, hsame⟩ := hrest.kept p hmem
      exact ⟨hmeasure.trans (honly.others p hpq), fun part hpart => Part.same_trans
        (hstep part (result_not_mem_portMeterParts hpq part (List.mem_cons_of_mem _ hpart))) (hsame part hpart)⟩

/-! ### Every held conversion is resolved (R64, R65) -/

/-- The reference periods stand too close together. -/
def Meter.close (m : Meter) : Prop := m.refHi.period.getD 0 < m.refLo.period.getD 0 + 64

theorem resolveHeld_of_none (h : (s.meter.port.get p).heldPeriod = none) : resolveHeld p s = s := by
  rw [resolveHeld, h]

theorem resolveHeld_of_some (h : (s.meter.port.get p).heldPeriod = some n) : resolveHeld p s = resolve p n s := by
  rw [resolveHeld, h]

/-- What the resolution of some held conversions has left. -/
structure heldResolved (l : List Port) (s t : State) : Prop where
  ended : ∀ p ∈ l, (s.meter.port.get p).heldPeriod.isSome = true → (t.meter.port.get p).phase ≠ .unresolved
  kept : ∀ p ∉ l, t.meter.port.get p = s.meter.port.get p
  faulted : s.meter.close → (∃ p ∈ l, (s.meter.port.get p).heldPeriod.isSome = true) →
    t.meter.refLo = { s.meter.refLo with status := .faulted } ∧ t.meter.refHi = { s.meter.refHi with status := .faulted }
      ∧ t.pairAsked
  unchanged : ¬(s.meter.close ∧ ∃ p ∈ l, (s.meter.port.get p).heldPeriod.isSome = true) →
    t.meter.refLo = s.meter.refLo ∧ t.meter.refHi = s.meter.refHi

theorem heldResolved_one (p : Port) (s : State) : heldResolved [p] s (resolveHeld p s) := by
  cases hheld : (s.meter.port.get p).heldPeriod with
  | none =>
    rw [resolveHeld_of_none hheld]
    refine ⟨fun q hq hsome => ?_, fun _ _ => rfl, fun _ hsome => ?_, fun _ => ⟨rfl, rfl⟩⟩
    · rw [List.mem_singleton.mp hq, hheld] at hsome
      cases hsome
    · obtain ⟨q, hq, hsome⟩ := hsome
      rw [List.mem_singleton.mp hq, hheld] at hsome
      cases hsome
  | some period =>
    have hsome : ∃ q ∈ [p], (s.meter.port.get q).heldPeriod.isSome = true := ⟨p, by simp, by simp [hheld]⟩
    rw [resolveHeld_of_some hheld]
    by_cases hclose : s.meter.close
    · rw [resolve_of_close hclose]
      obtain ⟨hlo, hhi, -⟩ := referenceFault_references p s
      refine ⟨fun q hq _ => ?_, fun q hq => referenceFault_others (by simpa using hq) s,
        fun _ _ => ⟨hlo, hhi, queuePair_asks _⟩, fun h => absurd ⟨hclose, hsome⟩ h⟩
      rw [List.mem_singleton.mp hq, referenceFault_measure, endUnrated_measure]
      simp
    · rw [resolve_of_apart (Nat.not_lt.mp hclose)]
      have honly := acceptResistance_onlyPort p (resolvedResistance period (s.meter.refLo.period.getD 0)
        (s.meter.refHi.period.getD 0) s.policy.active.lowReference s.policy.active.highReference) s
      refine ⟨fun q hq _ => ?_, fun q hq => honly.others q (by simpa using hq), fun h => absurd h hclose,
        fun _ => ⟨honly.lo, honly.hi⟩⟩
      rw [List.mem_singleton.mp hq]
      exact acceptResistance_ends _ _ _

theorem resolveHeld_pairAsked (h : s.pairAsked) (p : Port) : (resolveHeld p s).pairAsked := by
  cases hheld : (s.meter.port.get p).heldPeriod with
  | none =>
    rw [resolveHeld_of_none hheld]
    exact h
  | some period =>
    rw [resolveHeld_of_some hheld]
    by_cases hclose : s.meter.close
    · rw [resolve_of_close hclose]
      exact queuePair_asks _
    · rw [resolve_of_apart (Nat.not_lt.mp hclose)]
      exact h.of_onlyPort (acceptResistance_onlyPort p _ s)

/-- The periods of the references stand as they were. -/
theorem heldResolved.close_iff {l : List Port} (h : heldResolved l s t) : t.meter.close ↔ s.meter.close := by
  by_cases hfault : s.meter.close ∧ ∃ p ∈ l, (s.meter.port.get p).heldPeriod.isSome = true
  · obtain ⟨hlo, hhi, -⟩ := h.faulted hfault.1 hfault.2
    rw [Meter.close, hlo, hhi]
    rfl
  · obtain ⟨hlo, hhi⟩ := h.unchanged hfault
    rw [Meter.close, hlo, hhi]
    rfl

theorem heldResolved_foldl {l : List Port} (hl : l.Nodup) (s : State) :
    heldResolved l s (l.foldl (fun u p => resolveHeld p u) s)
      ∧ (s.pairAsked → (l.foldl (fun u p => resolveHeld p u) s).pairAsked) := by
  induction l generalizing s with
  | nil =>
    exact ⟨⟨nofun, fun _ _ => rfl, fun _ ⟨_, hp, _⟩ => absurd hp (List.not_mem_nil), fun _ => ⟨rfl, rfl⟩⟩, id⟩
  | cons q l ih =>
    obtain ⟨hq, hl⟩ := List.nodup_cons.mp hl
    have hone := heldResolved_one q s
    obtain ⟨hrest, hasked⟩ := ih hl (resolveHeld q s)
    have hothers : ∀ p ∈ l, (resolveHeld q s).meter.port.get p = s.meter.port.get p := fun p hp =>
      hone.kept p (by simpa using fun he : p = q => hq (he ▸ hp))
    rw [List.foldl_cons]
    refine ⟨⟨fun p hp hsome => ?_, fun p hp => ?_, fun hclose hsome => ?_, fun hnot => ?_⟩,
      fun h => hasked (resolveHeld_pairAsked h q)⟩
    · rcases List.mem_cons.mp hp with rfl | hmem
      · rw [hrest.kept p hq]
        exact hone.ended p (by simp) hsome
      · exact hrest.ended p hmem (by rwa [hothers p hmem])
    · obtain ⟨hpq, hmem⟩ := not_or.mp (mt List.mem_cons.mpr hp)
      exact (hrest.kept p hmem).trans (hone.kept p (by simpa using hpq))
    · have hclose' := hone.close_iff.mpr hclose
      by_cases hlater : ∃ p ∈ l, ((resolveHeld q s).meter.port.get p).heldPeriod.isSome = true
      · obtain ⟨hlo, hhi, hpair⟩ := hrest.faulted hclose' hlater
        rw [hlo, hhi]
        by_cases hfirst : ∃ p ∈ [q], (s.meter.port.get p).heldPeriod.isSome = true
        · obtain ⟨hlo', hhi', -⟩ := hone.faulted hclose hfirst
          rw [hlo', hhi']
          exact ⟨rfl, rfl, hpair⟩
        · obtain ⟨hlo', hhi'⟩ := hone.unchanged fun h => hfirst h.2
          rw [hlo', hhi']
          exact ⟨rfl, rfl, hpair⟩
      · obtain ⟨hlo, hhi⟩ := hrest.unchanged fun h => hlater h.2
        have hfirst : ∃ p ∈ [q], (s.meter.port.get p).heldPeriod.isSome = true := by
          obtain ⟨p, hp, hsome⟩ := hsome
          rcases List.mem_cons.mp hp with rfl | hmem
          · exact ⟨p, by simp, hsome⟩
          · exact absurd ⟨p, hmem, by rwa [hothers p hmem]⟩ hlater
        obtain ⟨hlo', hhi', hpair⟩ := hone.faulted hclose hfirst
        exact ⟨hlo.trans hlo', hhi.trans hhi', hasked hpair⟩
    · have hfirst : ¬(s.meter.close ∧ ∃ p ∈ [q], (s.meter.port.get p).heldPeriod.isSome = true) := by
        rintro ⟨hclose, p, hp, hsome⟩
        exact hnot ⟨hclose, p, by simp [List.mem_singleton.mp hp], hsome⟩
      have hlater : ¬((resolveHeld q s).meter.close
          ∧ ∃ p ∈ l, ((resolveHeld q s).meter.port.get p).heldPeriod.isSome = true) := by
        rintro ⟨hclose, p, hp, hsome⟩
        exact hnot ⟨hone.close_iff.mp hclose, p, by simp [hp], by rwa [hothers p hp] at hsome⟩
      obtain ⟨hlo, hhi⟩ := hrest.unchanged hlater
      obtain ⟨hlo', hhi'⟩ := hone.unchanged hfirst
      exact ⟨hlo.trans hlo', hhi.trans hhi'⟩

end

end Sys2Proof.Machine
end

section
/-! PROOFS. The end of a reference conversion: its record, the notices of it, and the held conversions (R59, R65, R70). -/

namespace Sys2Proof.Machine

open Sys2Proof

section
variable {s t u v : State} {p q : Port} {o : ConversionOutcome} {hi : Bool} {n : Nat}

/-! ### The record of the reference -/

/-- The reference that is not named. -/
def Meter.otherReference (m : Meter) (hi : Bool) : RefRecord := if hi then m.refLo else m.refHi

/-- The converter is free and the reference's record is written. -/
def refWritten (hi : Bool) (o : ConversionOutcome) (s : State) : State := s.modMeter fun m =>
  { m.setReference hi ((m.reference hi).updated o) with inFlight := none }

theorem refWritten_references (hi : Bool) (o : ConversionOutcome) (s : State) :
    (refWritten hi o s).meter.reference hi = (s.meter.reference hi).updated o
      ∧ (refWritten hi o s).meter.otherReference hi = s.meter.otherReference hi := by
  cases hi <;> exact ⟨rfl, rfl⟩

theorem refWritten_meter (hi : Bool) (o : ConversionOutcome) (s : State) : (refWritten hi o s).meter.port = s.meter.port
    ∧ (refWritten hi o s).meter.queue = s.meter.queue ∧ (refWritten hi o s).meter.inFlight = none := by
  cases hi <;> exact ⟨rfl, rfl, rfl⟩

theorem references_of_same {m m' : Meter} (hlo : m'.refLo = m.refLo) (hhi : m'.refHi = m.refHi) (hi : Bool) :
    m'.reference hi = m.reference hi ∧ m'.otherReference hi = m.otherReference hi := by
  cases hi
  · exact ⟨hlo, hhi⟩
  · exact ⟨hhi, hlo⟩

theorem references_of_faulted {m m' : Meter} (hlo : m'.refLo = { m.refLo with status := .faulted })
    (hhi : m'.refHi = { m.refHi with status := .faulted }) (hi : Bool) :
    m'.reference hi = { m.reference hi with status := .faulted }
      ∧ m'.otherReference hi = { m.otherReference hi with status := .faulted } := by
  cases hi
  · exact ⟨hlo, hhi⟩
  · exact ⟨hhi, hlo⟩

theorem takeChannel_phase (p : Port) (s : State) :
    ((takeChannel s).meter.port.get p).phase = (s.meter.port.get p).phase
      ∨ ((takeChannel s).meter.port.get p).phase = .converting := by
  show (s.meter.take.port.get p).phase = _ ∨ (s.meter.take.port.get p).phase = _
  unfold Meter.take
  split
  · next c rest _ _ =>
    cases c with
    | id q =>
      by_cases hq : p = q
      · exact .inr (by simp [hq])
      · exact .inl (by simp [hq])
    | refLo => exact .inl rfl
    | refHi => exact .inl rfl
  · exact .inl rfl

/-! ### A conversion that is SHORT or OPEN -/

theorem referenceCompleted_failed (ho : o.isValid = false) (hi : Bool) (s : State) : referenceCompleted hi o s
    = takeChannel (settleHeld o (postMeter noticeReference (referenceChannel hi) (refWritten hi o s))) := by
  unfold referenceCompleted
  dsimp only
  rw [if_pos (by simp [ho])]
  rfl

/-- The end of a reference conversion that gives no valid period. -/
theorem failed_spec (ho : o.isValid = false) (ht : t = referenceCompleted hi o s) :
    t.meter.reference hi = (s.meter.reference hi).updated o ∧ t.meter.otherReference hi = s.meter.otherReference hi
      ∧ t.link.notices.get .meter = some (postTo (s.link.notices.get .meter) noticeReference
          (snapshotOf (referenceChannel hi).code 0 0 0) s.msCount)
      ∧ ∀ p, (s.meter.port.get p).phase = .unresolved →
          (t.meter.port.get p).result = .unrated ∧ (t.meter.port.get p).code = some .reference
            ∧ (t.meter.port.get p).heldPeriod = none ∧ unratedDelivered p s t := by
  rw [referenceCompleted_failed ho] at ht
  obtain ⟨u, hu⟩ : ∃ u, u = postMeter noticeReference (referenceChannel hi) (refWritten hi o s) := ⟨_, rfl⟩
  have hnotice : u.link.notices.get .meter = some (postTo (s.link.notices.get .meter) noticeReference
      (snapshotOf (referenceChannel hi).code 0 0 0) s.msCount) := by
    rw [hu]
    exact postMeter_notice_same _ _ _
  have hmeter : u.meter = (refWritten hi o s).meter := by rw [hu]; rfl
  have hstart : ∀ p, ∀ part ∈ .clock :: resultParts p, Part.same part s (takeFree u).2 := by
    intro p part hpart
    have hother : part ∉ [.notice .meter, .freeCount] := by
      simp only [resultParts, List.mem_cons, List.not_mem_nil, or_false] at hpart
      rcases hpart with rfl | rfl | rfl | rfl | rfl <;> simp
    have hposted : ChangesOnly [.notice .meter, .freeCount] (refWritten hi o s) (takeFree u).2 := by
      rw [hu]
      exact ((postMeter_changes _ _ _).mono (by simp)).trans ((takeFree_changes _).mono (by simp))
    exact Part.same_trans (modMeter_result p _ s part hpart) (hposted part hother)
  rw [← hu] at ht
  obtain ⟨l, ⟨hnodup, hmem⟩, hsettle⟩ := settleHeld_failed ho u
  obtain ⟨w, hw⟩ : ∃ w, w = settleHeld o u := ⟨_, rfl⟩
  have hended : heldEnded l (takeFree u).2 w := by
    rw [hw, hsettle]
    exact heldEnded_foldl hnodup _
  rw [← hw] at ht
  obtain ⟨hlo, hhi, -⟩ := takeChannel_references w
  obtain ⟨hown, hother⟩ := references_of_same (hlo.trans hended.lo) (hhi.trans hended.hi) hi
  obtain ⟨hrecord, hstands⟩ := refWritten_references hi o s
  have hmeter' : (takeFree u).2.meter = (refWritten hi o s).meter := hmeter
  rw [hmeter'] at hown hother
  subst ht
  refine ⟨hown.trans hrecord, hother.trans hstands, hended.notice.trans hnotice, fun p hp => ?_⟩
  have hport : u.meter.port = s.meter.port := by rw [hmeter, (refWritten_meter hi o s).1]
  have hheld : p ∈ l := (hmem p).mpr (by rw [hport]; exact hp)
  obtain ⟨hresult, hcode, hperiod, hdelivered⟩ := hended.ended p hheld
  obtain ⟨phase, hmeasure⟩ := takeChannel_measure p w
  rw [hmeasure]
  exact ⟨hresult, hcode, hperiod, unratedDelivered.of_same (u := (takeFree u).2) (hstart p) hdelivered (takeChannel_result p w)⟩

/-! ### A valid period -/

/-- What comes before and after the held conversions of a valid reference conversion reaches no meter; with none held the
flag of a MEASURE posts DONE. -/
theorem referenceCompleted_valid (ho : o.isValid = true) (hi : Bool) (s : State) : ∃ u v,
    u.meter = (refWritten hi o s).meter ∧ v.meter = (settleHeld o u).meter ∧ referenceCompleted hi o s = takeChannel v
      ∧ ((∀ p, (s.meter.port.get p).phase ≠ .unresolved) →
          ((s.meter.reference hi).measureFlag = true → v.link.notices.get .meter
              = some (postTo (s.link.notices.get .meter) noticeDone (snapshotOf (referenceChannel hi).code 0 0 0) s.msCount))
            ∧ ((s.meter.reference hi).measureFlag = false → v.link.notices = s.link.notices)) := by
  have hnone : ∀ {u : State}, u.meter = (refWritten hi o s).meter → (∀ p, (s.meter.port.get p).phase ≠ .unresolved) →
      (settleHeld o u).link = u.link ∧ (settleHeld o u).msCount = u.msCount := fun {u} hu h => by
    obtain ⟨-, hlink, hclock⟩ := settleHeld_of_none (o := o) (s := u) (by
      rw [hu, (refWritten_meter hi o s).1]
      exact h)
    exact ⟨hlink, hclock⟩
  unfold referenceCompleted
  dsimp only
  rw [if_neg (by simp [ho])]
  cases hflag : (s.meter.reference hi).measureFlag with
  | false =>
    refine ⟨refWritten hi o s, settleHeld o (refWritten hi o s), rfl, rfl, rfl, fun h => ⟨nofun, fun _ => ?_⟩⟩
    rw [(hnone rfl h).1]
    rfl
  | true =>
    simp only [Bool.not_true, Bool.false_eq_true, if_false]
    split
    · refine ⟨postMeter noticeDone (referenceChannel hi) (takeFree (refWritten hi o s)).2, _, rfl, rfl, rfl,
        fun h => ⟨fun _ => ?_, nofun⟩⟩
      have hlink := (hnone (u := postMeter noticeDone (referenceChannel hi) (takeFree (refWritten hi o s)).2) rfl h).1
      exact (congrArg (fun l => l.notices.get .meter) hlink).trans (postMeter_notice_same _ _ _)
    · refine ⟨(takeFree (refWritten hi o s)).2, postMeter noticeDone (referenceChannel hi)
        (settleHeld o (takeFree (refWritten hi o s)).2), rfl, rfl, rfl, fun h => ⟨fun _ => ?_, nofun⟩⟩
      obtain ⟨hlink, hclock⟩ := hnone (u := (takeFree (refWritten hi o s)).2) rfl h
      rw [postMeter_notice_same, hlink, hclock]
      rfl

/-- The references close together fault at the resolution of a held conversion (R65). -/
def faultsAt (hi : Bool) (n : Nat) (s : State) : Prop :=
  (s.meter.otherReference hi).status = .valid ∧ (refWritten hi (.valid n) s).meter.close
    ∧ ∃ p, (s.meter.port.get p).phase = .unresolved ∧ (s.meter.port.get p).heldPeriod.isSome = true

theorem refWritten_valid_iff (hi : Bool) (n : Nat) (s : State) :
    (refWritten hi (.valid n) s).meter.referencesValid = true ↔ (s.meter.otherReference hi).status = .valid := by
  rw [referencesValid_iff]
  cases hi
  · exact ⟨fun h => h.2, fun h => ⟨rfl, h⟩⟩
  · exact ⟨fun h => h.1, fun h => ⟨h, rfl⟩⟩

/-- The end of a reference conversion that gives a valid period. -/
theorem valid_spec (ht : t = referenceCompleted hi (.valid n) s) :
    (faultsAt hi n s → t.meter.reference hi = { status := .faulted, period := some n, measureFlag := false }
        ∧ t.meter.otherReference hi = { s.meter.otherReference hi with status := .faulted } ∧ t.pairAsked)
      ∧ (¬faultsAt hi n s → t.meter.reference hi = { status := .valid, period := some n, measureFlag := false }
        ∧ t.meter.otherReference hi = s.meter.otherReference hi)
      ∧ ((s.meter.otherReference hi).status = .valid → ∀ p, (s.meter.port.get p).phase = .unresolved →
          (s.meter.port.get p).heldPeriod.isSome = true → (t.meter.port.get p).phase ≠ .unresolved)
      ∧ ((∀ p, (s.meter.port.get p).phase ≠ .unresolved) →
          ((s.meter.reference hi).measureFlag = true → t.link.notices.get .meter
              = some (postTo (s.link.notices.get .meter) noticeDone (snapshotOf (referenceChannel hi).code 0 0 0) s.msCount))
            ∧ ((s.meter.reference hi).measureFlag = false → t.link.notices = s.link.notices)) := by
  obtain ⟨u, v, hu, hv, hcompleted, hnotices⟩ := referenceCompleted_valid (o := .valid n) rfl hi s
  rw [hcompleted] at ht
  obtain ⟨hlo, hhi, -⟩ := takeChannel_references v
  obtain ⟨hrecord, hstands⟩ := refWritten_references hi (.valid n) s
  obtain ⟨hport, -, -⟩ := refWritten_meter hi (.valid n) s
  have hnotices' : t.link = v.link := by rw [ht]; rfl
  rw [hnotices']
  rw [hv] at hlo hhi
  by_cases hvalid : (s.meter.otherReference hi).status = .valid
  · have hboth : u.meter.referencesValid = true := by rw [hu]; exact (refWritten_valid_iff hi n s).mpr hvalid
    obtain ⟨l, ⟨hnodup, hmem⟩, hsettle⟩ := settleHeld_resolves (o := .valid n) rfl hboth
    obtain ⟨hresolved, -⟩ := heldResolved_foldl hnodup (takeFree u).2
    rw [← hsettle] at hresolved
    have hmeter : (takeFree u).2.meter = (refWritten hi (.valid n) s).meter := hu
    have hheld : ∀ p, p ∈ l ↔ (s.meter.port.get p).phase = .unresolved := fun p => by rw [hmem p, hu, hport]
    have hfault : faultsAt hi n s ↔ (takeFree u).2.meter.close
        ∧ ∃ p ∈ l, ((takeFree u).2.meter.port.get p).heldPeriod.isSome = true := by
      rw [hmeter, hport]
      simp only [faultsAt, hvalid, true_and, hheld]
    refine ⟨fun h => ?_, fun h => ?_, fun _ p hp hsome => ?_, hnotices⟩
    · obtain ⟨hclose, hsome⟩ := hfault.mp h
      obtain ⟨hlo', hhi', hpair⟩ := hresolved.faulted hclose hsome
      have hpair' : v.pairAsked := fun c hc => by
        rw [hv]
        exact hpair c hc
      rw [hmeter] at hlo' hhi'
      obtain ⟨hown, hother⟩ := references_of_faulted (hlo.trans hlo') (hhi.trans hhi') hi
      rw [hrecord] at hown
      rw [hstands] at hother
      subst ht
      exact ⟨hown, hother, hpair'.takeChannel⟩
    · obtain ⟨hlo', hhi'⟩ := hresolved.unchanged (mt hfault.mpr h)
      rw [hmeter] at hlo' hhi'
      obtain ⟨hown, hother⟩ := references_of_same (hlo.trans hlo') (hhi.trans hhi') hi
      subst ht
      exact ⟨hown.trans hrecord, hother.trans hstands⟩
    · have hsome' : ((takeFree u).2.meter.port.get p).heldPeriod.isSome = true := by
        rw [hmeter, hport]
        exact hsome
      have hends := hresolved.ended p ((hheld p).mpr hp) hsome'
      rw [← hv] at hends
      rw [ht]
      rcases takeChannel_phase p v with hsame | hconverting
      · rwa [hsame]
      · rw [hconverting]
        nofun
  · have hwaits : settleHeld (.valid n) u = u := by
      refine settleHeld_waits rfl (Bool.eq_false_iff.mpr fun hboth => hvalid ?_)
      rw [hu] at hboth
      exact (refWritten_valid_iff hi n s).mp hboth
    rw [hwaits, hu] at hlo hhi
    obtain ⟨hown, hother⟩ := references_of_same hlo hhi hi
    subst ht
    exact ⟨fun h => absurd h.1 hvalid, fun _ => ⟨hown.trans hrecord, hother.trans hstands⟩, fun h => absurd h hvalid, hnotices⟩

/-- With no conversion held, the converter takes the head of the queue as it stood (R58). -/
theorem takes_of_none (hnone : ∀ p, (s.meter.port.get p).phase ≠ .unresolved) (ht : t = referenceCompleted hi o s) :
    (∀ c rest, s.meter.queue = c :: rest → t.meter.inFlightChannel = some c ∧ t.meter.queue = rest)
      ∧ (s.meter.queue = [] → t.meter.inFlight = none ∧ t.meter.queue = []) := by
  have htaken : t.meter = (refWritten hi o s).meter.take := by
    have hsettled : ∀ {u : State}, u.meter = (refWritten hi o s).meter → (settleHeld o u).meter = (refWritten hi o s).meter :=
      fun {u} hu => by
        obtain ⟨hmeter, -⟩ := settleHeld_of_none (o := o) (s := u) (by
          rw [hu, (refWritten_meter hi o s).1]
          exact hnone)
        exact hmeter.trans hu
    cases ho : o.isValid with
    | false =>
      rw [ht, referenceCompleted_failed ho]
      exact congrArg Meter.take (hsettled rfl)
    | true =>
      obtain ⟨u, v, hu, hv, hcompleted, -⟩ := referenceCompleted_valid ho hi s
      rw [ht, hcompleted]
      exact congrArg Meter.take (hv.trans (hsettled hu))
  obtain ⟨-, hqueue, hfree⟩ := refWritten_meter hi o s
  rw [htaken]
  refine ⟨fun c rest hlist => ?_, fun hempty => ?_⟩
  · obtain ⟨hrest, hflight, -, -⟩ := Meter.take_of_head hfree (hqueue.trans hlist)
    exact ⟨by simp [Meter.inFlightChannel, hflight], hrest⟩
  · rw [Meter.take_of_empty (hqueue.trans hempty)]
    exact ⟨hfree, hqueue.trans hempty⟩

theorem exec_referenceConversionEnd (hrun : s.inReset = false) (hflight : s.meter.inFlightChannel = some (referenceChannel hi))
    {period : BitVec 16} (hperiod : period.toNat < 65535) : exec (.referenceConversionEnd period) s
      = .next (referenceCompleted hi (if period.toNat < 640 then .short period.toNat else .valid period.toNat) s) := by
  have hexec : exec (.referenceConversionEnd period) s = execReferenceConversionEnd period s := rfl
  rw [hexec, execReferenceConversionEnd, running_free _ hrun, hflight]
  cases hi <;> simp [referenceChannel, endAtEdge, hperiod, endConversion, outcomeAt]

end

/-- Settles O26. -/
theorem referenceConversionWritesItsRecord : Obligations.ReferenceConversionWritesItsRecord := by
  intro s period hi hrun hperiod hflight short noneHeld old other code tlo thi faults
  have hchannel : s.meter.inFlightChannel = some (referenceChannel hi) := hflight
  have hcode : snapshotOf (referenceChannel hi).code 0 0 0 = code := by
    show _ = snapshotOf (if hi then 5 else 4) 0 0 0
    cases hi <;> rfl
  obtain ⟨t, ht⟩ : ∃ t, t = referenceCompleted hi
      (if period.toNat < 640 then .short period.toNat else .valid period.toNat) s := ⟨_, rfl⟩
  have hchanges : ChangesOnly meterParts s t := by
    rw [ht]
    exact referenceCompleted_changes _ _ _
  refine ⟨t, (exec_referenceConversionEnd hrun hchannel hperiod).trans (congrArg _ ht.symm), ?_⟩
  by_cases hshort : period.toNat < 640
  · rw [if_pos hshort] at ht
    obtain ⟨hown, hother, hnotice, hended⟩ := failed_spec rfl ht
    rw [hcode] at hnotice
    have hnofault : ¬faults := fun h => h.1 hshort
    exact ⟨fun status hs _ _ => by rw [hs hshort]; exact hown, fun h => absurd h hnofault, fun _ => hother, fun _ => hnotice,
      fun _ => hended, fun h => absurd hshort h,
      fun hnone => ⟨fun h => absurd hshort h, fun h => absurd hshort h, takes_of_none hnone ht⟩, hchanges⟩
  · rw [if_neg hshort] at ht
    obtain ⟨hfault, hclear, hsettled, hnotices⟩ := valid_spec ht
    rw [hcode] at hnotices
    have hfaults : faults ↔ faultsAt hi period.toNat s := by
      show ¬short ∧ other.status = .valid ∧ thi < tlo + 64 ∧ _ ↔ _
      cases hi <;> exact ⟨fun h => h.2, fun h => ⟨hshort, h⟩⟩
    refine ⟨fun status _ hs hv => ?_, fun h => ?_, fun h => ?_, fun h => absurd h hshort, fun h => absurd h hshort,
      fun _ => hsettled, fun hnone => ⟨fun _ => (hnotices hnone).1, fun _ => (hnotices hnone).2, takes_of_none hnone ht⟩, hchanges⟩
    · by_cases h : faults
      · rw [hs h]
        exact (hfault (hfaults.mp h)).1
      · rw [hv hshort h]
        exact (hclear (mt hfaults.mpr h)).1
    · exact (hfault (hfaults.mp h)).2
    · exact (hclear (mt hfaults.mpr h)).2

/-- Settles O27. -/
theorem conversionsEndByTheirOutcome : Obligations.ConversionsEndByTheirOutcome := by
  intro s hrun opens
  have hopens : opens ↔ s.meter.openReached = true := (openReached_iff s.meter).symm
  refine ⟨fun p hflight => ⟨fun hopen => conversionOpen_port hrun hflight (hopens.mp hopen), fun period hperiod => ?_⟩,
    fun hnot => ?_, fun hi hflight hopen => ?_⟩
  · have hlongs : 640 ≤ period.toNat → portCompleted p (if period.toNat < 640 then .short period.toNat else .valid period.toNat) s
        = portCompleted p (.valid period.toNat) s := fun hlong => congrArg (portCompleted p · s) (if_neg (Nat.not_lt.mpr hlong))
    refine ⟨_, exec_portConversion hrun hflight hperiod, portCompleted_attempts p _ s, ?_, fun h => sixteenth_asks h rfl,
      fun hshort => short_spec (by rw [if_pos hshort]), fun hlong hvalid hclose => close_spec hvalid hclose (hlongs hlong),
      fun hlong hvalid hapart => apart_spec hvalid hapart (hlongs hlong),
      fun hlong hvalid hqueue => held_spec hvalid hqueue (hlongs hlong), portCompleted_port_changes p _ s⟩
    have hlast := portCompleted_lastPeriod p hperiod s
    rwa [outcomeAt, if_pos hperiod] at hlast
  · have hexec : exec .conversionOpen s = execConversionOpen s := rfl
    rw [hexec, execConversionOpen, running_free _ hrun]
    split
    · rw [if_neg (mt hopens.mpr hnot)]
    · rfl
  · have hchannel : s.meter.inFlightChannel = some (referenceChannel hi) := hflight
    obtain ⟨t, ht⟩ : ∃ t, t = referenceCompleted hi .openCircuit s := ⟨_, rfl⟩
    obtain ⟨hown, hother, hnotice, hended⟩ := failed_spec rfl ht
    have hexec : exec .conversionOpen s = .next t := by
      rw [exec_conversionOpen hrun hchannel (hopens.mp hopen), ht]
      cases hi <;> rfl
    have hcode : (referenceChannel hi).code = if hi then 5 else 4 := by cases hi <;> rfl
    rw [hcode] at hnotice
    refine ⟨t, hexec, hown, hother, hnotice, hended, ?_⟩
    rw [ht]
    exact referenceCompleted_changes _ _ _

end Sys2Proof.Machine
end

section
/-! PROOFS. The points of a port that Selection may draw (R95 to R99), and the best of them (R100, R101). -/

namespace Sys2Proof.Machine

open Sys2Proof

/-! ### The best of a list -/

/-- A comparison that orders the members of a list strictly. -/
structure Ranks {α : Type} (better : α → α → Bool) (l : List α) : Prop where
  asymm : ∀ a b, better a b = true → ¬better b a = true
  trans : ∀ a b c, better a b = true → better b c = true → better a c = true
  total : ∀ a ∈ l, ∀ b ∈ l, a ≠ b → better a b = true ∨ better b a = true

section
variable {α : Type} {better : α → α → Bool} {l : List α}

theorem Ranks.mono {l' : List α} (h : Ranks better l) (hsub : l' ⊆ l) : Ranks better l' :=
  ⟨h.asymm, h.trans, fun a ha b hb => h.total a (hsub ha) b (hsub hb)⟩

theorem pickBest_eq_none_iff : pickBest better l = none ↔ l = [] := by
  cases l with
  | nil => simp [pickBest]
  | cons a l =>
    simp only [pickBest, reduceCtorEq, iff_false]
    split
    · nofun
    · split <;> nofun

/-- The pick is a member that is better than every other. -/
theorem pickBest_spec (h : Ranks better l) {a : α} (ha : pickBest better l = some a) :
    a ∈ l ∧ ∀ b ∈ l, b ≠ a → better a b = true := by
  induction l generalizing a with
  | nil => cases ha
  | cons x l ih =>
    have hrest : Ranks better l := h.mono (List.subset_cons_self _ _)
    unfold pickBest at ha
    split at ha
    · next hnone =>
      cases ha
      rw [pickBest_eq_none_iff] at hnone
      subst hnone
      exact ⟨by simp, fun b hb hne => absurd (by simpa using hb) hne⟩
    · next c hc =>
      obtain ⟨hmem, hbest⟩ := ih hrest hc
      split at ha
      · next hbetter =>
        cases ha
        refine ⟨List.mem_cons_of_mem _ hmem, fun b hb hne => ?_⟩
        rcases List.mem_cons.mp hb with rfl | hb
        · exact hbetter
        · exact hbest b hb hne
      · next hworse =>
        cases ha
        have hfirst : c ≠ x → better x c = true := fun hne =>
          (h.total x (by simp) c (List.mem_cons_of_mem _ hmem) (Ne.symm hne)).resolve_right hworse
        refine ⟨by simp, fun b hb hne => ?_⟩
        have hb : b ∈ l := (List.mem_cons.mp hb).resolve_left hne
        by_cases hbc : b = c
        · exact hbc ▸ hfirst (hbc ▸ hne)
        · have hcb := hbest b hb hbc
          by_cases hcx : c = x
          · exact hcx ▸ hcb
          · exact h.trans _ _ _ (hfirst hcx) hcb

theorem pickBest_iff (h : Ranks better l) (a : α) :
    pickBest better l = some a ↔ a ∈ l ∧ ∀ b ∈ l, b ≠ a → better a b = true := by
  refine ⟨pickBest_spec h, fun ⟨hmem, hbest⟩ => ?_⟩
  cases hpick : pickBest better l with
  | none => exact absurd (pickBest_eq_none_iff.mp hpick) (List.ne_nil_of_mem hmem)
  | some c =>
    obtain ⟨hc, hbest'⟩ := pickBest_spec h hpick
    by_contra hne
    have hne : c ≠ a := fun he => hne (by rw [he])
    exact h.asymm _ _ (hbest c hc hne) (hbest' a hmem (Ne.symm hne))

end

/-! ### A point's rule (R96 to R98) -/

section
variable {i : PolicyImage} {r : Rule} {q : OfferPoint} {k : Nat}

theorem effectiveVoltage_iff (i : PolicyImage) (r : Rule) (q : OfferPoint) (v : Nat) :
    effectiveVoltage i r q = some v ↔ voltagePasses i r q v := by
  unfold effectiveVoltage voltagePasses PolicyImage.windowMin PolicyImage.windowMax
  cases q.form with
  | fixed =>
    simp only [Bool.and_eq_true, decide_eq_true_eq]
    split
    · rw [Option.some_inj]
      constructor
      · rintro rfl
        omega
      · omega
    · exact ⟨nofun, fun h => by omega⟩
  | span =>
    dsimp only
    split
    · rw [Option.some_inj]
      omega
    · exact ⟨nofun, fun h => by omega⟩

theorem matchesPoint_iff (i : PolicyImage) (r : Rule) (q : OfferPoint) : r.matchesPoint i q = true ↔ ruleMatches i r q := by
  have hvoltage : (effectiveVoltage i r q).isSome = true ↔ ∃ v, voltagePasses i r q v := by
    rw [Option.isSome_iff_exists]
    exact exists_congr fun v => effectiveVoltage_iff i r q v
  have hshared : r.shared.passes q.shared = true
      ↔ r.shared = .any ∨ r.shared = .unsharedOnly ∧ q.shared = false ∨ r.shared = .sharedOnly ∧ q.shared = true := by
    cases r.shared <;> simp [SharedCondition.passes]
  simp only [Rule.matchesPoint, ruleMatches, Bool.and_eq_true, decide_eq_true_eq, hvoltage, hshared, and_assoc]

theorem canServe_iff (i : PolicyImage) (r : Rule) (q : OfferPoint) (v : Nat) :
    canServe i r q v = true ↔ serves i r q v := by
  unfold canServe serves PolicyImage.windowMin PolicyImage.windowMax
  cases q.form with
  | fixed => simp
  | span =>
    simp only [Bool.and_eq_true, decide_eq_true_eq, beq_iff_eq]
    omega

theorem walkRules_iff (i : PolicyImage) (q : OfferPoint) (k : Nat) (r : Rule) : ∀ fuel link,
    walkRules i q fuel link = some (k, r) ↔ i.rules[k]? = some r ∧ ∃ n ≤ fuel, WalkAccepts i q link k n
  | 0, link => by
    refine ⟨nofun, fun ⟨_, n, hn, hwalk⟩ => ?_⟩
    cases hwalk <;> omega
  | fuel + 1, link => by
    unfold walkRules
    split
    · next hnone =>
      refine ⟨nofun, fun ⟨_, n, _, hwalk⟩ => ?_⟩
      cases hwalk with
      | here found _ _ => exact absurd (hnone.symm.trans found) nofun
      | onward found _ _ => exact absurd (hnone.symm.trans found) nofun
    · next x hx =>
      by_cases hmatch : x.matchesPoint i q = true
      · rw [if_pos hmatch]
        have hfits := (matchesPoint_iff i x q).mp hmatch
        constructor
        · intro h
          split at h
          · next haccept =>
            cases h
            exact ⟨hx, 1, by omega, .here hx hfits haccept⟩
          all_goals cases h
        · rintro ⟨hk, n, _, hwalk⟩
          cases hwalk with
          | here found _ accepts =>
            rw [hx] at hk
            cases hk
            rw [hx] at found
            cases found
            rw [accepts]
          | onward found passes _ =>
            rw [hx] at found
            cases found
            exact absurd hfits passes
      · rw [if_neg hmatch, walkRules_iff i q k r fuel x.next]
        have hpasses : ¬ruleMatches i x q := fun h => hmatch ((matchesPoint_iff i x q).mpr h)
        refine and_congr_right fun _ => ⟨fun ⟨n, hn, hwalk⟩ => ⟨n + 1, by omega, .onward hx hpasses hwalk⟩,
          fun ⟨n, hn, hwalk⟩ => ?_⟩
        cases hwalk with
        | here found fits _ =>
          rw [hx] at found
          cases found
          exact absurd fits hpasses
        | onward found _ rest =>
          rw [hx] at found
          cases found
          exact ⟨_, by omega, rest⟩

end

/-! ### The eligible points of a port (R95, R99) -/

section
variable {s : State} {p : Port} {e f : Eligible}

theorem candidate_iff (s : State) (p : Port) : s.candidate p = true ↔ s.isCandidate p := by
  unfold State.candidate State.isCandidate
  cases hstate : (s.monitor.get p).state <;> simp [hstate, and_assoc]

theorem eligiblePoint_iff (s : State) (p : Port) (index : Nat) (q : OfferPoint) (e : Eligible) :
    s.eligiblePoint p index q = some e ↔ e.port = p ∧ e.index = index ∧ e.point = q ∧ q.mark = .usable
      ∧ (∃ n, n ≤ 48 ∧ WalkAccepts s.policy.active q (s.policy.active.headOf (s.classView p)) e.ruleIndex n)
      ∧ s.policy.active.rules[e.ruleIndex]? = some e.rule ∧ voltagePasses s.policy.active e.rule q e.effective
      ∧ e.usable = min q.maxCurrent (min e.rule.cap (s.policy.active.connectorLimit p)) ∧ 500 ≤ e.usable := by
  unfold State.eligiblePoint
  dsimp only
  split
  · next hmark => exact ⟨nofun, fun h => absurd h.2.2.2.1 hmark⟩
  · next hmark =>
    have hmark : q.mark = .usable := not_not.mp hmark
    split
    · next hnone =>
      refine ⟨nofun, fun ⟨_, _, _, _, hwalk, hrule, _⟩ => ?_⟩
      have hsome := (walkRules_iff s.policy.active q e.ruleIndex e.rule 48 _).mpr ⟨hrule, hwalk⟩
      exact absurd (hnone.symm.trans hsome) nofun
    · next k r hwalk =>
      obtain ⟨hrule, hsteps⟩ := (walkRules_iff s.policy.active q k r 48 _).mp hwalk
      have hunique : ∀ e : Eligible, (∃ n, n ≤ 48 ∧ WalkAccepts s.policy.active q
            (s.policy.active.headOf (s.classView p)) e.ruleIndex n) → s.policy.active.rules[e.ruleIndex]? = some e.rule →
          e.ruleIndex = k ∧ e.rule = r := fun e hw hr => by
        have hsome := (walkRules_iff s.policy.active q e.ruleIndex e.rule 48 _).mpr ⟨hr, hw⟩
        rw [hwalk, Option.some_inj, Prod.mk.injEq] at hsome
        exact ⟨hsome.1.symm, hsome.2.symm⟩
      split
      · next hnone =>
        refine ⟨nofun, fun ⟨_, _, _, _, hw, hr, hvoltage, _⟩ => ?_⟩
        obtain ⟨-, rfl⟩ := hunique e hw hr
        exact absurd (hnone.symm.trans ((effectiveVoltage_iff _ _ _ _).mpr hvoltage)) nofun
      · next v hv =>
        have hpasses := (effectiveVoltage_iff _ _ _ _).mp hv
        split
        · next hsmall =>
          refine ⟨nofun, fun ⟨_, _, _, _, hw, hr, _, husable, hleast⟩ => ?_⟩
          obtain ⟨-, rfl⟩ := hunique e hw hr
          rw [husable] at hleast
          exact absurd hsmall (Nat.not_lt.mpr hleast)
        · next hlarge =>
          constructor
          · intro h
            cases h
            exact ⟨rfl, rfl, rfl, hmark, hsteps, hrule, hpasses, rfl, Nat.not_lt.mp hlarge⟩
          · rintro ⟨hport, hindex, hpoint, _, hw, hr, hvoltage, husable, _⟩
            obtain ⟨hk, rfl⟩ := hunique e hw hr
            have hsame : e.effective = v :=
              Option.some_inj.mp (((effectiveVoltage_iff _ _ _ _).mpr hvoltage).symm.trans hv)
            obtain ⟨port, index', point, ruleIndex, rule, effective, usable⟩ := e
            dsimp only at *
            subst hport hindex hpoint hk hsame husable
            rfl

theorem mem_zip_range (n : Nat) {α : Type} (l : List α) (j : Nat) (x : α) :
    (j, x) ∈ (List.range n).zip l ↔ j < n ∧ l[j]? = some x := by
  rw [List.mem_iff_getElem?]
  simp only [List.getElem?_zip_eq_some]
  constructor
  · rintro ⟨k, hk, hx⟩
    obtain ⟨hlt, rfl⟩ := List.getElem?_eq_some_iff.mp hk
    rw [List.length_range] at hlt
    rw [List.getElem_range]
    exact ⟨hlt, hx⟩
  · rintro ⟨hlt, hx⟩
    exact ⟨j, List.getElem?_range hlt, hx⟩

/-- The point at an index of a port's book makes the eligible point of that index. -/
theorem isEligible_iff (s : State) (e : Eligible) : s.isEligible e ↔ s.isCandidate e.port ∧ 1 ≤ e.index ∧ e.index ≤ 7
    ∧ ∃ q, (s.book.get e.port).points[e.index - 1]? = some q ∧ s.eligiblePoint e.port e.index q = some e := by
  unfold State.isEligible
  constructor
  · rintro ⟨hcandidate, hlow, hhigh, hpoint, hmark, hwalk, hrule, hvoltage, husable, hleast⟩
    exact ⟨hcandidate, hlow, hhigh, e.point, hpoint, (eligiblePoint_iff _ _ _ _ _).mpr
      ⟨rfl, rfl, rfl, hmark, hwalk, hrule, hvoltage, husable, hleast⟩⟩
  · rintro ⟨hcandidate, hlow, hhigh, q, hpoint, heligible⟩
    obtain ⟨-, -, rfl, hmark, hwalk, hrule, hvoltage, husable, hleast⟩ := (eligiblePoint_iff _ _ _ _ _).mp heligible
    exact ⟨hcandidate, hlow, hhigh, hpoint, hmark, hwalk, hrule, hvoltage, husable, hleast⟩

theorem mem_eligiblePoints (s : State) (p : Port) (e : Eligible) : e ∈ s.eligiblePoints p ↔ e.port = p ∧ s.isEligible e := by
  rw [isEligible_iff]
  unfold State.eligiblePoints
  split
  · next hcandidate =>
    have hcandidate := (candidate_iff s p).mp hcandidate
    simp only [List.mem_filterMap, Prod.exists, mem_zip_range]
    constructor
    · rintro ⟨j, q, ⟨hj, hq⟩, he⟩
      obtain ⟨rfl, hindex, -⟩ := (eligiblePoint_iff _ _ _ _ _).mp he
      rw [← hindex] at he
      exact ⟨rfl, hcandidate, by omega, by omega, q, by rwa [hindex, Nat.add_sub_cancel], he⟩
    · rintro ⟨rfl, -, hlow, hhigh, q, hq, he⟩
      exact ⟨e.index - 1, q, ⟨by omega, hq⟩, by rwa [Nat.sub_add_cancel hlow]⟩
  · next hno =>
    refine ⟨nofun, fun ⟨hport, hcandidate, _⟩ => ?_⟩
    rw [hport] at hcandidate
    exact absurd ((candidate_iff s p).mpr hcandidate) hno

/-- A port and an index name one eligible point. -/
theorem eligible_unique (he : s.isEligible e) (hf : s.isEligible f) (hport : e.port = f.port) (hindex : e.index = f.index) :
    e = f := by
  obtain ⟨-, -, -, q, hq, he⟩ := (isEligible_iff s e).mp he
  obtain ⟨-, -, -, x, hx, hf⟩ := (isEligible_iff s f).mp hf
  rw [hport, hindex] at he hq
  rw [hq] at hx
  cases hx
  exact Option.some_inj.mp (he.symm.trans hf)

/-! ### The best point of a port and the leading port (R100, R101) -/

theorem better_iff (a b : Eligible) : a.better b = true ↔ b.valueAt b.effective < a.valueAt a.effective
    ∨ b.valueAt b.effective = a.valueAt a.effective
      ∧ (a.effective < b.effective ∨ a.effective = b.effective ∧ a.index < b.index) := by
  show Eligible.better a b = true ↔ b.scoreAt b.effective < a.scoreAt a.effective ∨ b.scoreAt b.effective = a.scoreAt a.effective ∧ _
  unfold Eligible.better
  dsimp only
  split
  · simp only [decide_eq_true_eq]
    omega
  · split <;> simp only [decide_eq_true_eq] <;> omega

theorem better_ranks (s : State) (p : Port) : Ranks Eligible.better (s.eligiblePoints p) where
  asymm a b h h' := by
    rw [better_iff] at h h'
    omega
  trans a b c h h' := by
    rw [better_iff] at h h' ⊢
    omega
  total a ha b hb hne := by
    obtain ⟨hpa, hea⟩ := (mem_eligiblePoints s p a).mp ha
    obtain ⟨hpb, heb⟩ := (mem_eligiblePoints s p b).mp hb
    have hindex : a.index ≠ b.index := fun h => hne (eligible_unique hea heb (hpa.trans hpb.symm) h)
    rw [better_iff, better_iff]
    omega

theorem bestPoint_iff (s : State) (p : Port) (e : Eligible) : s.bestPoint p = some e ↔ e.port = p ∧ s.isBest e := by
  rw [State.bestPoint, pickBest_iff (better_ranks s p)]
  simp only [mem_eligiblePoints, better_iff]
  constructor
  · rintro ⟨⟨rfl, he⟩, hbest⟩
    exact ⟨rfl, he, fun f hf hport hne => hbest f ⟨hport, hf⟩ hne⟩
  · rintro ⟨rfl, he, hbest⟩
    exact ⟨⟨rfl, he⟩, fun f ⟨hport, hf⟩ hne => hbest f hf hport hne⟩

/-- A port with an eligible point has a best one. -/
theorem bestPoint_of_eligible (he : s.isEligible e) : ∃ f, s.bestPoint e.port = some f := by
  cases hbest : s.bestPoint e.port with
  | some f => exact ⟨f, rfl⟩
  | none =>
    have hempty := pickBest_eq_none_iff.mp hbest
    have hmem := (mem_eligiblePoints s e.port e).mpr ⟨rfl, he⟩
    rw [hempty] at hmem
    cases hmem

/-- A closed draw switch ranks before an open one. -/
def State.closedRank (s : State) (p : Port) : Nat := if (s.contract.get p).drawClosed then 0 else 1

theorem portFirst_iff (s : State) (p q : Port) (sp sq : Nat) : s.portFirst p q sp sq ↔ sq < sp
    ∨ sq = sp ∧ (s.closedRank p < s.closedRank q ∨ s.closedRank p = s.closedRank q ∧ p.val < q.val) := by
  unfold State.portFirst State.closedRank
  cases (s.contract.get p).drawClosed <;> cases (s.contract.get q).drawClosed <;> simp

theorem portBetter_iff (s : State) (at1 : Eligible → Nat) (a b : Eligible) :
    s.portBetter at1 a b = true ↔ s.portFirst a.port b.port (at1 a) (at1 b) := by
  rw [portFirst_iff]
  unfold State.portBetter State.closedRank
  dsimp only
  split
  · simp only [decide_eq_true_eq]
    omega
  · next heq =>
    have heq : at1 a = at1 b := not_not.mp heq
    cases (s.contract.get a.port).drawClosed <;> cases (s.contract.get b.port).drawClosed <;> simp [heq]

/-- Points of distinct ports are ordered strictly. -/
theorem portBetter_ranks (s : State) (at1 : Eligible → Nat) {l : List Eligible}
    (hports : ∀ a ∈ l, ∀ b ∈ l, a.port = b.port → a = b) : Ranks (s.portBetter at1) l where
  asymm a b h h' := by
    rw [portBetter_iff, portFirst_iff] at h h'
    omega
  trans a b c h h' := by
    rw [portBetter_iff, portFirst_iff] at h h' ⊢
    omega
  total a ha b hb hne := by
    have hport : a.port.val ≠ b.port.val := fun h => hne (hports a ha b hb (Fin.ext h))
    rw [portBetter_iff, portBetter_iff, portFirst_iff, portFirst_iff]
    omega

theorem mem_bestPoints (s : State) (e : Eligible) : e ∈ allPorts.filterMap s.bestPoint ↔ s.isBest e := by
  simp only [List.mem_filterMap, mem_allPorts, true_and, bestPoint_iff]
  exact ⟨fun ⟨_, _, h⟩ => h, fun h => ⟨_, rfl, h⟩⟩

theorem best_unique (he : s.isBest e) (hf : s.isBest f) (hport : e.port = f.port) : e = f :=
  Option.some_inj.mp (((bestPoint_iff s f.port e).mpr ⟨hport, he⟩).symm.trans ((bestPoint_iff s f.port f).mpr ⟨rfl, hf⟩))

theorem leading_iff (s : State) (e : Eligible) : s.leading = some e ↔ s.isLeading e := by
  have hranks : Ranks (s.portBetter fun e => e.scoreAt e.effective) (allPorts.filterMap s.bestPoint) :=
    portBetter_ranks s _ fun a ha b hb => best_unique ((mem_bestPoints s a).mp ha) ((mem_bestPoints s b).mp hb)
  rw [State.leading, pickBest_iff hranks]
  simp only [mem_bestPoints, portBetter_iff]
  refine and_congr_right fun he => ⟨fun h f hf hport => h f hf fun heq => hport (by rw [heq]), fun h f hf hne => ?_⟩
  exact h f hf fun hport => hne (best_unique hf he hport)

theorem leading_none_iff (s : State) : s.leading = none ↔ ¬∃ e, s.isEligible e := by
  rw [State.leading, pickBest_eq_none_iff, List.eq_nil_iff_forall_not_mem]
  simp only [mem_bestPoints]
  constructor
  · rintro h ⟨e, he⟩
    obtain ⟨f, hf⟩ := bestPoint_of_eligible he
    exact h f ((bestPoint_iff s _ f).mp hf).2
  · exact fun h e he => h ⟨e, he.1⟩

end

end Sys2Proof.Machine
end

section
/-! PROOFS. The run of Selection: the primary, the secondary and the base plan (R93, R94, R102 to R110). -/

namespace Sys2Proof.Machine

open Sys2Proof

section
variable {s : State} {p : Port} {e f x y : Eligible} {v q : Nat}

/-! ### The lowest port -/

theorem allPorts_sorted : allPorts.Pairwise (· < ·) := by decide

theorem find_iff_of_sorted {l : List Port} (hl : l.Pairwise (· < ·)) (test : Port → Bool) (p : Port) :
    l.find? test = some p ↔ p ∈ l ∧ test p = true ∧ ∀ q ∈ l, test q = true → p ≤ q := by
  constructor
  · intro h
    obtain ⟨htest, l₁, l₂, rfl, hnone⟩ := List.find?_eq_some_iff_append.mp h
    rw [List.pairwise_append, List.pairwise_cons] at hl
    obtain ⟨-, ⟨hafter, -⟩, -⟩ := hl
    refine ⟨by simp, htest, fun q hq htq => ?_⟩
    rcases List.mem_append.mp hq with hearly | hlate
    · simpa [htq] using hnone q hearly
    · rcases List.mem_cons.mp hlate with rfl | hlate
      · exact le_rfl
      · exact (hafter q hlate).le
  · rintro ⟨hmem, htest, hlowest⟩
    obtain ⟨l₁, l₂, rfl⟩ := List.append_of_mem hmem
    refine List.find?_eq_some_iff_append.mpr ⟨htest, l₁, l₂, rfl, fun q hq => ?_⟩
    rw [List.pairwise_append] at hl
    obtain ⟨-, -, hbefore⟩ := hl
    have hlt := hbefore q hq p (by simp)
    by_contra hq'
    exact absurd (hlowest q (by simp [hq]) (by simpa using hq')) (not_le.mpr hlt)

theorem find_allPorts_iff (test : Port → Bool) (p : Port) :
    allPorts.find? test = some p ↔ test p = true ∧ ∀ q, test q = true → p ≤ q := by
  rw [find_iff_of_sorted allPorts_sorted]
  simp [mem_allPorts]

/-- The best point of the lowest of some ports that has one. -/
theorem findSome_bestPoint_iff (test : Port → Bool) (e : Eligible) :
    (allPorts.filter test).findSome? s.bestPoint = some e
      ↔ s.isBest e ∧ test e.port = true ∧ ∀ f, s.isEligible f → test f.port = true → e.port ≤ f.port := by
  have hsorted : (allPorts.filter test).Pairwise (· < ·) := allPorts_sorted.filter _
  have hsnd : (allPorts.filter test).findSome? s.bestPoint
      = ((allPorts.filter test).findSome? fun p => (s.bestPoint p).map (Prod.mk p)).map Prod.snd := by
    rw [List.map_findSome?]
    congr 1
    funext p
    simp [Function.comp_def]
  rw [hsnd, Option.map_eq_some_iff]
  constructor
  · rintro ⟨⟨p, e'⟩, hfirst, rfl⟩
    obtain ⟨hmem, hpick, hbefore⟩ := (findSome_iff_of_pairwise (fun a b => lt_asymm) hsorted s.bestPoint p _).mp hfirst
    obtain ⟨rfl, hbest⟩ := (bestPoint_iff s p _).mp hpick
    refine ⟨hbest, (List.mem_filter.mp hmem).2, fun f hf htest => ?_⟩
    obtain ⟨g, hg⟩ := bestPoint_of_eligible hf
    exact not_lt.mp (hbefore f.port (List.mem_filter.mpr ⟨mem_allPorts _, htest⟩) g hg)
  · rintro ⟨hbest, htest, hlowest⟩
    refine ⟨(e.port, e), (findSome_iff_of_pairwise (fun a b => lt_asymm) hsorted s.bestPoint e.port e).mpr
      ⟨List.mem_filter.mpr ⟨mem_allPorts _, htest⟩, (bestPoint_iff s _ e).mpr ⟨rfl, hbest⟩, fun p hp g hg => ?_⟩, rfl⟩
    obtain ⟨rfl, hbest'⟩ := (bestPoint_iff s p g).mp hg
    exact not_lt.mpr (hlowest g hbest'.1 (List.mem_filter.mp hp).2)

theorem findSome_bestPoint_none (test : Port → Bool) : (allPorts.filter test).findSome? s.bestPoint = none
    ↔ ∀ f, s.isEligible f → ¬test f.port = true := by
  rw [List.findSome?_eq_none_iff]
  constructor
  · intro h f hf htest
    obtain ⟨g, hg⟩ := bestPoint_of_eligible hf
    exact absurd ((h f.port (List.mem_filter.mpr ⟨mem_allPorts _, htest⟩)).symm.trans hg) nofun
  · intro h p hp
    cases hbest : s.bestPoint p with
    | none => rfl
    | some g =>
      obtain ⟨rfl, hg⟩ := (bestPoint_iff s p g).mp hbest
      exact absurd (List.mem_filter.mp hp).2 (h g hg.1)

/-! ### The current primary (R102, R103) -/

theorem holdsPrimary_iff (c : Contract) : c.holdsPrimary = true ↔ c.role = .primary ∨ c.state = .base := by
  simp [Contract.holdsPrimary]

theorem currentPrimary_iff (s : State) (e : Eligible) : s.currentPrimary = some e ↔ s.isCurrent e := by
  have hheld := findSome_bestPoint_iff (s := s) (fun p => (s.contract.get p).holdsPrimary) e
  have hheld' := findSome_bestPoint_none (s := s) fun p => (s.contract.get p).holdsPrimary
  have hsecond := findSome_bestPoint_iff (s := s) (fun p => (s.contract.get p).role == .secondary) e
  simp only [holdsPrimary_iff, beq_iff_eq] at hheld hheld' hsecond
  unfold State.currentPrimary State.isCurrent
  dsimp only
  rw [orElse_eq_or, Option.or_eq_some_iff, hheld, hheld', hsecond]
  constructor
  · rintro (⟨hbest, hprimary, hlowest⟩ | ⟨hnone, hbest, hsecondary, hlowest⟩)
    · exact ⟨hbest, .inl ⟨hprimary, hlowest⟩⟩
    · exact ⟨hbest, .inr ⟨hsecondary, fun f hf => ⟨hnone f hf, hlowest f hf⟩⟩⟩
  · rintro ⟨hbest, ⟨hprimary, hlowest⟩ | ⟨hsecondary, hothers⟩⟩
    · exact .inl ⟨hbest, hprimary, hlowest⟩
    · exact .inr ⟨fun f hf => (hothers f hf).1, hbest, hsecondary, fun f hf => (hothers f hf).2⟩

theorem currentPrimary_none (h : s.currentPrimary = none) : ¬∃ c, s.isCurrent c := by
  rintro ⟨c, hc⟩
  exact absurd (h.symm.trans ((currentPrimary_iff s c).mpr hc)) nofun

/-- The established point of a port that can still serve the established voltage. -/
def State.stillServes (s : State) (p : Port) (g : Terms) (x : Eligible) : Prop :=
  (s.contract.get p).established = some g ∧ s.isEligible x ∧ x.port = p ∧ x.index = g.point
    ∧ serves s.policy.active x.rule x.point g.voltage

theorem keptPoint_some {c : Chosen} (h : s.keptPoint p = some c) : ∃ g, s.stillServes p g c.point ∧ c.voltage = g.voltage := by
  obtain ⟨g, hg, hc⟩ := Option.bind_eq_some_iff.mp h
  obtain ⟨x, hx, rfl⟩ := Option.map_eq_some_iff.mp hc
  obtain ⟨hport, heligible⟩ := (mem_eligiblePoints s p x).mp (List.mem_of_find?_eq_some hx)
  have htest := List.find?_some hx
  simp only [Bool.and_eq_true, beq_iff_eq, canServe_iff] at htest
  exact ⟨g, ⟨hg, heligible, hport, htest⟩, rfl⟩

theorem keptPoint_none (h : s.keptPoint p = none) : ¬∃ g x, s.stillServes p g x := by
  rintro ⟨g, x, hg, heligible, hport, hindex, hserves⟩
  rw [State.keptPoint, hg, Option.bind_some, Option.map_eq_none_iff, List.find?_eq_none] at h
  refine h x ((mem_eligiblePoints s p x).mpr ⟨hport, heligible⟩) ?_
  simp [hindex, (canServe_iff _ _ _ _).mpr hserves]

/-! ### Requested currents (R104, R105, R108) -/

theorem neededCurrent_least (power : Nat) (hv : 0 < v) : leastCurrent power v (neededCurrent power v) := by
  have hceil : ∀ m, (power * 1000 + v - 1) / v ≤ m ↔ power * 1000 ≤ m * v := fun m => by
    rw [Nat.div_le_iff_le_mul_add_pred hv, Nat.mul_comm v m]
    omega
  unfold neededCurrent
  refine ⟨Nat.mul_mod_left _ _, (hceil _).mp (by omega), fun m hm hpower => ?_⟩
  have hle := (hceil m).mpr hpower
  omega

theorem leastCurrent_unique {power m n : Nat} (hm : leastCurrent power v m) (hn : leastCurrent power v n) : m = n :=
  le_antisymm (hm.2.2 n hn.1 hn.2.1) (hn.2.2 m hm.1 hm.2.1)

theorem leastCurrent_eq {power n : Nat} (hv : 0 < v) (h : leastCurrent power v n) : neededCurrent power v = n :=
  leastCurrent_unique (neededCurrent_least power hv) h

theorem actionFor_iff (c : Contract) (point v q : Nat) (g : Terms) : c.actionFor point v q = .keep g
    ↔ c.established = some g ∧ g.point = point ∧ g.voltage = v ∧ q ≤ g.granted ∧ g.granted ≤ q + 500 := by
  unfold Contract.actionFor
  cases c.established with
  | none => simp
  | some t =>
    simp only [Bool.and_eq_true, decide_eq_true_eq, Option.some_inj]
    split
    · next h =>
      constructor
      · intro heq
        cases heq
        exact ⟨rfl, by omega⟩
      · rintro ⟨rfl, -⟩
        rfl
    · next h =>
      refine ⟨nofun, ?_⟩
      rintro ⟨rfl, hrest⟩
      exact absurd hrest (by omega)

/-- The plan entry of a point draws that point (R94). -/
theorem entryOf_draws (s : State) (role : Role) (e : Eligible) (v q : Nat) :
    s.entryDraws role (s.entryOf role e v q) e v q := by
  refine ⟨rfl, rfl, rfl, rfl, rfl, rfl, rfl, rfl, rfl, rfl, rfl, rfl, rfl, rfl, ?_, fun g => actionFor_iff _ _ _ _ g⟩
  show (if (s.book.get e.port).source = .legacy then _ else _) = _ ↔ _
  split <;> simp [*]

end

end Sys2Proof.Machine
end

section
/-! PROOFS. What the draw plan names (R93 to R110). -/

namespace Sys2Proof.Machine

open Sys2Proof

section
variable {s : State} {p : Port} {e f x y : Eligible} {v q : Nat} {c : Chosen}

/-! ### The primary (R101 to R103) -/

/-- The point and the voltage of the primary. -/
def State.chooses (s : State) (x : Eligible) (v : Nat) : Prop :=
  let i := s.policy.active
  let battery : Prop := s.supervisor.batteryPresent = true
  (v = x.effective ∧ s.isLeading x ∧ ¬∃ c, s.isCurrent c)
    ∨ (battery ∧ v = x.effective ∧ ∃ l c, s.isLeading l ∧ s.isCurrent c
        ∧ ((l.port ≠ c.port ∧ c.valueAt c.effective * (100 + i.params[6]) < l.valueAt l.effective * 100 ∧ x = l)
          ∨ ((l.port = c.port
                ∨ l.valueAt l.effective * 100 ≤ c.valueAt c.effective * (100 + i.params[6])) ∧ x = c)))
    ∨ (¬battery ∧ ∃ c, s.isCurrent c ∧ x.port = c.port
        ∧ ((∃ g, (s.contract.get c.port).established = some g ∧ s.isEligible x ∧ x.index = g.point
              ∧ serves i x.rule x.point g.voltage ∧ v = g.voltage)
          ∨ (¬∃ g y, (s.contract.get c.port).established = some g ∧ s.isEligible y ∧ y.port = c.port
                ∧ y.index = g.point ∧ serves i y.rule y.point g.voltage) ∧ x = c ∧ v = x.effective))

theorem isLeading_eligible (h : s.isLeading e) : s.isEligible e := h.1.1

theorem isCurrent_eligible (h : s.isCurrent e) : s.isEligible e := h.1.1

theorem hysteresis_cases (margin : Nat) (l c : Eligible) :
    (l.port ≠ c.port ∧ c.valueAt c.effective * (100 + margin) < l.valueAt l.effective * 100 ∧ hysteresis margin l c = l)
      ∨ ((l.port = c.port ∨ l.valueAt l.effective * 100 ≤ c.valueAt c.effective * (100 + margin))
        ∧ hysteresis margin l c = c) := by
  unfold hysteresis
  by_cases hport : l.port = c.port
  · rw [if_pos hport]
    exact .inr ⟨.inl hport, rfl⟩
  · rw [if_neg hport]
    by_cases hmore : c.scoreAt c.effective * (100 + margin) < l.scoreAt l.effective * 100
    · rw [if_pos hmore]
      exact .inl ⟨hport, hmore, rfl⟩
    · rw [if_neg hmore]
      exact .inr ⟨.inr (Nat.not_lt.mp hmore), rfl⟩

theorem primary_spec (h : s.primary = some c) : s.isEligible c.point ∧ s.chooses c.point c.voltage := by
  unfold State.primary at h
  cases hlead : s.leading with
  | none =>
    rw [hlead] at h
    cases h
  | some lead =>
    have hleading := (leading_iff s lead).mp hlead
    cases hcurrent : s.currentPrimary with
    | none =>
      rw [hlead, hcurrent] at h
      cases h
      exact ⟨isLeading_eligible hleading, .inl ⟨rfl, hleading, currentPrimary_none hcurrent⟩⟩
    | some cur =>
      have hcur := (currentPrimary_iff s cur).mp hcurrent
      rw [hlead, hcurrent] at h
      dsimp only at h
      by_cases hbattery : s.supervisor.batteryPresent = true
      · rw [if_pos hbattery] at h
        cases h
        have hcases := hysteresis_cases s.policy.active.switchMargin lead cur
        refine ⟨?_, .inr (.inl ⟨hbattery, rfl, lead, cur, hleading, hcur, hcases⟩)⟩
        rcases hcases with ⟨-, -, heq⟩ | ⟨-, heq⟩
        · exact heq.symm ▸ isLeading_eligible hleading
        · exact heq.symm ▸ isCurrent_eligible hcur
      · rw [if_neg hbattery] at h
        cases hkept : s.keptPoint cur.port with
        | some kept =>
          rw [hkept] at h
          cases h
          obtain ⟨g, ⟨hg, heligible, hport, hindex, hserves⟩, hvoltage⟩ := keptPoint_some hkept
          exact ⟨heligible, .inr (.inr ⟨hbattery, cur, hcur, hport, .inl ⟨g, hg, heligible, hindex, hserves, hvoltage⟩⟩)⟩
        | none =>
          rw [hkept] at h
          cases h
          exact ⟨isCurrent_eligible hcur, .inr (.inr ⟨hbattery, cur, hcur, rfl, .inr ⟨keptPoint_none hkept, rfl, rfl⟩⟩)⟩

theorem primary_none_iff (s : State) : s.primary = none ↔ ¬∃ e, s.isEligible e := by
  rw [← leading_none_iff]
  unfold State.primary
  cases s.leading with
  | none => simp
  | some lead =>
    simp only [reduceCtorEq, iff_false]
    split
    · nofun
    · split
      · nofun
      · split <;> nofun

theorem primaryRequest_zero (v u : Nat) : primaryRequest 0 v u = u := rfl

theorem primaryRequest_of_least {demand u n : Nat} (hdemand : demand ≠ 0) (hv : 0 < v) (hn : leastCurrent demand v n) :
    primaryRequest demand v u = max (min u n) 500 := by
  rw [primaryRequest, if_neg hdemand, leastCurrent_eq hv hn]
  rfl

theorem primaryRequest_bounds (demand v : Nat) {u : Nat} (hu : 500 ≤ u) :
    500 ≤ primaryRequest demand v u ∧ primaryRequest demand v u ≤ u := by
  unfold primaryRequest Config.baseCurrent
  split <;> omega

/-! ### The secondary (R106 to R108) -/

/-- A point that can be drawn beside a port at a voltage. -/
def State.drawableBeside (s : State) (p : Port) (v : Nat) (x : Eligible) : Prop :=
  s.isEligible x ∧ x.port ≠ p ∧ serves s.policy.active x.rule x.point v

/-- Of two points of a port, the better one at a voltage. -/
def Eligible.betterAt (v : Nat) (x y : Eligible) : Prop :=
  y.valueAt v < x.valueAt v ∨ y.valueAt v = x.valueAt v ∧ x.index < y.index

/-- The point of the secondary. -/
def State.isBestBeside (s : State) (p : Port) (v : Nat) (x : Eligible) : Prop :=
  s.drawableBeside p v x ∧ ∀ y, s.drawableBeside p v y → y ≠ x →
    if y.port = x.port then x.betterAt v y
    else (∀ z, s.drawableBeside p v z → z.port = y.port → z ≠ y → y.betterAt v z) →
      s.portFirst x.port y.port (x.valueAt v) (y.valueAt v)

/-- The comparison of R107 within a port. -/
def rankAt (v : Nat) (a b : Eligible) : Bool :=
  if a.scoreAt v ≠ b.scoreAt v then b.scoreAt v < a.scoreAt v else a.index < b.index

theorem rankAt_iff (v : Nat) (a b : Eligible) : rankAt v a b = true ↔ a.betterAt v b := by
  show _ ↔ b.scoreAt v < a.scoreAt v ∨ b.scoreAt v = a.scoreAt v ∧ a.index < b.index
  unfold rankAt
  split <;> simp only [decide_eq_true_eq] <;> omega

theorem mem_servingPoints (s : State) (p : Port) (v : Nat) (x : Eligible) :
    x ∈ (s.eligiblePoints p).filter (fun e => canServe s.policy.active e.rule e.point v)
      ↔ x.port = p ∧ s.isEligible x ∧ serves s.policy.active x.rule x.point v := by
  rw [List.mem_filter, mem_eligiblePoints, canServe_iff, and_assoc]

theorem bestAt_iff (s : State) (v : Nat) (p : Port) (x : Eligible) : s.bestAt v p = some x
    ↔ (x.port = p ∧ s.isEligible x ∧ serves s.policy.active x.rule x.point v)
      ∧ ∀ y, y.port = p → s.isEligible y → serves s.policy.active y.rule y.point v → y ≠ x → x.betterAt v y := by
  have hranks : Ranks (rankAt v) ((s.eligiblePoints p).filter fun e => canServe s.policy.active e.rule e.point v) := by
    refine ⟨fun a b h h' => ?_, fun a b c h h' => ?_, fun a ha b hb hne => ?_⟩
    · rw [rankAt_iff, Eligible.betterAt] at h h'
      omega
    · rw [rankAt_iff, Eligible.betterAt] at h h' ⊢
      omega
    · obtain ⟨hpa, hea, -⟩ := (mem_servingPoints s p v a).mp ha
      obtain ⟨hpb, heb, -⟩ := (mem_servingPoints s p v b).mp hb
      have hindex : a.index ≠ b.index := fun h => hne (eligible_unique hea heb (hpa.trans hpb.symm) h)
      rw [rankAt_iff, rankAt_iff, Eligible.betterAt, Eligible.betterAt]
      omega
  have hpick := pickBest_iff hranks x
  simp only [mem_servingPoints, rankAt_iff] at hpick
  refine Iff.trans hpick (and_congr_right fun _ => ⟨fun h y h1 h2 h3 => h y ⟨h1, h2, h3⟩, fun h y ⟨h1, h2, h3⟩ => h y h1 h2 h3⟩)

theorem mem_bestBeside (s : State) (p : Port) (v : Nat) (x : Eligible) :
    x ∈ (allPorts.filter (· ≠ p)).filterMap (s.bestAt v) ↔ x.port ≠ p ∧ s.bestAt v x.port = some x := by
  simp only [List.mem_filterMap, List.mem_filter, mem_allPorts, true_and, decide_eq_true_eq]
  constructor
  · rintro ⟨r, hr, hbest⟩
    obtain ⟨⟨rfl, -⟩, -⟩ := (bestAt_iff s v r x).mp hbest
    exact ⟨hr, hbest⟩
  · exact fun ⟨hr, hbest⟩ => ⟨x.port, hr, hbest⟩

theorem secondaryPoint_ranks (s : State) (p : Port) (v : Nat) :
    Ranks (s.portBetter fun e => e.scoreAt v) ((allPorts.filter (· ≠ p)).filterMap (s.bestAt v)) :=
  portBetter_ranks s _ fun a ha b hb hport => by
    have hbesta := ((mem_bestBeside s p v a).mp ha).2
    rw [hport] at hbesta
    exact Option.some_inj.mp (hbesta.symm.trans ((mem_bestBeside s p v b).mp hb).2)

theorem secondaryPoint_drawable (h : s.secondaryPoint p v = some x) : s.drawableBeside p v x := by
  obtain ⟨hmem, -⟩ := pickBest_spec (secondaryPoint_ranks s p v) h
  obtain ⟨hport, hbest⟩ := (mem_bestBeside s p v x).mp hmem
  obtain ⟨⟨-, heligible, hserves⟩, -⟩ := (bestAt_iff s v _ x).mp hbest
  exact ⟨heligible, hport, hserves⟩

theorem secondaryPoint_of_best (h : s.isBestBeside p v x) : s.secondaryPoint p v = some x := by
  obtain ⟨⟨heligible, hport, hserves⟩, hbest⟩ := h
  refine (pickBest_iff (secondaryPoint_ranks s p v) x).mpr ⟨(mem_bestBeside s p v x).mpr ⟨hport, ?_⟩, fun y hy hne => ?_⟩
  · refine (bestAt_iff s v _ x).mpr ⟨⟨rfl, heligible, hserves⟩, fun y hp hey hsy hne => ?_⟩
    have hbeats := hbest y ⟨hey, hp ▸ hport, hsy⟩ hne
    rwa [if_pos hp] at hbeats
  · obtain ⟨hyport, hybest⟩ := (mem_bestBeside s p v y).mp hy
    obtain ⟨⟨-, hey, hsy⟩, hyfirst⟩ := (bestAt_iff s v _ y).mp hybest
    have hbeats := hbest y ⟨hey, hyport, hsy⟩ hne
    rw [portBetter_iff]
    by_cases hsame : y.port = x.port
    · rw [if_pos hsame] at hbeats
      have hback := hyfirst x hsame.symm heligible hserves (Ne.symm hne)
      unfold Eligible.betterAt at hbeats hback
      omega
    · rw [if_neg hsame] at hbeats
      exact hbeats fun z ⟨hez, _, hsz⟩ hpz hnz => hyfirst z hpz hez hsz hnz

/-- The secondary entry, where one is tried. -/
theorem secondaryEntry_of_shared {e : PlanEntry} (hshared : s.policy.active.params[7] = 1) (hdemand : s.supervisor.demand ≠ 0)
    (hless : e.derated < s.supervisor.demand) : s.secondaryEntry e
      = (s.secondaryPoint e.port e.voltage).bind fun x =>
        if min x.usable (neededCurrent (s.supervisor.demand - e.derated) e.voltage) < 500 then none
        else some (s.entryOf .secondary x e.voltage (min x.usable (neededCurrent (s.supervisor.demand - e.derated) e.voltage))) := by
  unfold State.secondaryEntry PolicyImage.sharedDraw
  dsimp only
  rw [if_pos (by simp [hshared, hdemand, hless])]
  cases s.secondaryPoint e.port e.voltage <;> rfl

theorem secondaryEntry_of_unshared {e : PlanEntry} (h : s.policy.active.params[7] ≠ 1 ∨ s.supervisor.demand = 0
    ∨ s.supervisor.demand ≤ e.derated) : s.secondaryEntry e = none := by
  unfold State.secondaryEntry PolicyImage.sharedDraw
  dsimp only
  rw [if_neg]
  simp only [Bool.and_eq_true, decide_eq_true_eq]
  omega

/-! ### No eligible point (R109, R110) -/

/-- R109: a port from which a base draw may be taken. -/
def State.baseFit (s : State) (p : Port) : Prop :=
  s.attached p = true ∧ (s.monitor.get p).barred = false ∧ (s.monitor.get p).failures ≠ 3
    ∧ s.supply.switchClosed.get p = false ∧ 4500 ≤ (s.rail.get p).mv ∧ (s.rail.get p).mv ≤ 20500

theorem railLive_iff (mv : Nat) : railLive mv = true ↔ 4500 ≤ mv ∧ mv ≤ 20500 := by
  rw [railLive, Bool.and_eq_true, decide_eq_true_eq, decide_eq_true_eq]
  rfl

theorem qualifies_iff (s : State) (p : Port) : s.qualifies p = true ↔ s.baseFit p := by
  simp [State.qualifies, State.baseFit, railLive_iff, and_assoc]

theorem basePort_of_first (h : (((s.contract.get p).state = .base ∧ s.baseFit p)
        ∧ ∀ q, (s.contract.get q).state = .base ∧ s.baseFit q → p ≤ q)
      ∨ ((∀ q, ¬((s.contract.get q).state = .base ∧ s.baseFit q)) ∧ s.baseFit p ∧ ∀ q, s.baseFit q → p ≤ q)) :
    s.basePort = some p := by
  have hbase := find_allPorts_iff (fun p => (s.contract.get p).state == .base && s.qualifies p) p
  have hlowest := find_allPorts_iff s.qualifies p
  simp only [Bool.and_eq_true, beq_iff_eq, qualifies_iff] at hbase hlowest
  rw [State.basePort, orElse_eq_or, Option.or_eq_some_iff]
  rcases h with hin | ⟨hnone, hfit⟩
  · exact .inl (hbase.mpr hin)
  · refine .inr ⟨List.find?_eq_none.mpr fun q _ htest => hnone q ?_, hlowest.mpr hfit⟩
    simpa [qualifies_iff] using htest

theorem basePort_fit (h : s.basePort = some p) : s.baseFit p := by
  rw [State.basePort, orElse_eq_or, Option.or_eq_some_iff] at h
  rcases h with hbase | ⟨-, hlowest⟩
  · have htest := List.find?_some hbase
    simp only [Bool.and_eq_true, qualifies_iff] at htest
    exact htest.2
  · exact (qualifies_iff s p).mp (List.find?_some hlowest)

/-! ### The plan (R93) -/

theorem selectPlan_of_primary (h : s.primary = some c) : selectPlan s
    = .draw (s.entryOf .primary c.point c.voltage (primaryRequest s.supervisor.demand c.voltage c.point.usable))
        (s.secondaryEntry
          (s.entryOf .primary c.point c.voltage (primaryRequest s.supervisor.demand c.voltage c.point.usable))) := by
  rw [selectPlan, h]

theorem selectPlan_empty (h : s.primary = none) (hnone : s.supervisor.batteryPresent = true ∨ s.basePort = none) :
    selectPlan s = .empty := by
  rcases hnone with hbattery | hbase
  · simp [selectPlan, h, hbattery]
  · simp [selectPlan, h, hbase]

theorem selectPlan_base (h : s.primary = none) (hbattery : s.supervisor.batteryPresent = false) (hbase : s.basePort = some p) :
    selectPlan s = .base (s.baseEntry p) := by
  simp [selectPlan, h, hbattery, hbase]

/-- An entry names a port and a point that may be drawn from. -/
def State.entryFit (s : State) (e : PlanEntry) : Prop :=
  (((s.monitor.get e.port).state = .talking ∧ s.supplies e.port = true) ∨ (s.monitor.get e.port).state = .legacy)
    ∧ (s.monitor.get e.port).barred = false ∧ (s.monitor.get e.port).coolOff = none
    ∧ (s.monitor.get e.port).failures ≠ 3
    ∧ (∃ q, (s.book.get e.port).points[e.point - 1]? = some q ∧ 1 ≤ e.point ∧ q.mark = .usable
        ∧ e.usable ≤ q.maxCurrent
        ∧ ∃ r, s.policy.active.rules[e.rule]? = some r ∧ r.action = .accept ∧ r.matchesPoint s.policy.active q = true
            ∧ e.usable ≤ r.cap ∧ e.weight = r.weight ∧ e.derate = r.derate ∧ e.settle = r.settle)
    ∧ e.usable ≤ s.policy.active.connectorLimit e.port ∧ 500 ≤ e.requested ∧ e.requested ≤ e.usable
    ∧ e.generation = (s.book.get e.port).generation

theorem WalkAccepts.rule {i : PolicyImage} {o : OfferPoint} {link k n : Nat} (h : WalkAccepts i o link k n) {r : Rule}
    (hr : i.rules[k]? = some r) : r.action = .accept ∧ ruleMatches i r o := by
  induction h with
  | here found fits accepts =>
    rw [hr] at found
    cases found
    exact ⟨accepts, fits⟩
  | onward _ _ _ ih => exact ih hr

theorem entryOf_fit (he : s.isEligible e) (hlow : 500 ≤ q) (hhigh : q ≤ e.usable) (role : Role) (v : Nat) :
    s.entryFit (s.entryOf role e v q) := by
  obtain ⟨⟨hstate, hbarred, hcool, hfailures, -⟩, hindex, -, hpoint, hmark, ⟨n, -, hwalk⟩, hrule, -, husable, -⟩ := he
  obtain ⟨haccept, hmatch⟩ := hwalk.rule hrule
  have hbounds : e.usable ≤ e.point.maxCurrent ∧ e.usable ≤ e.rule.cap ∧ e.usable ≤ s.policy.active.connectorLimit e.port := by
    rw [husable]
    omega
  obtain ⟨hcurrent, hcap, hconnector⟩ := hbounds
  exact ⟨hstate, hbarred, hcool, hfailures, ⟨e.point, hpoint, hindex, hmark, hcurrent, e.rule, hrule, haccept,
    (matchesPoint_iff _ _ _).mpr hmatch, hcap, rfl, rfl, rfl⟩, hconnector, hlow, hhigh, rfl⟩

theorem secondaryEntry_some {e e' : PlanEntry} (h : s.secondaryEntry e = some e') :
    s.entryFit e' ∧ e'.role = .secondary ∧ e'.port ≠ e.port ∧ e'.voltage = e.voltage
      ∧ s.policy.active.params[7] = 1 ∧ s.supervisor.demand ≠ 0 ∧ e.derated < s.supervisor.demand := by
  by_cases hunshared : s.policy.active.params[7] ≠ 1 ∨ s.supervisor.demand = 0 ∨ s.supervisor.demand ≤ e.derated
  · rw [secondaryEntry_of_unshared hunshared] at h
    cases h
  · obtain ⟨hshared, hdemand, hless⟩ :
        s.policy.active.params[7] = 1 ∧ s.supervisor.demand ≠ 0 ∧ e.derated < s.supervisor.demand := by
      omega
    rw [secondaryEntry_of_shared hshared hdemand hless] at h
    obtain ⟨x, hx, hentry⟩ := Option.bind_eq_some_iff.mp h
    obtain ⟨heligible, hport, -⟩ := secondaryPoint_drawable hx
    split at hentry
    · cases hentry
    · next hleast =>
      cases hentry
      exact ⟨entryOf_fit heligible (Nat.not_lt.mp hleast) (Nat.min_le_left _ _) _ _, rfl, hport, rfl, hshared, hdemand, hless⟩

end

/-- Settles O32. -/
theorem plansNamePortsThatMayBeDrawnFrom : Obligations.PlansNamePortsThatMayBeDrawnFrom := by
  intro s i fit
  cases hprimary : s.primary with
  | some c =>
    obtain ⟨heligible, -⟩ := primary_spec hprimary
    obtain ⟨hlow, hhigh⟩ := primaryRequest_bounds s.supervisor.demand c.voltage (u := c.point.usable) (by
      obtain ⟨-, -, -, -, -, -, -, -, -, hleast⟩ := heligible
      exact hleast)
    rw [selectPlan_of_primary hprimary]
    refine ⟨fun e sec hplan => ?_, nofun⟩
    cases hplan
    exact ⟨entryOf_fit heligible hlow hhigh _ _, rfl, fun e' he' => secondaryEntry_some he'⟩
  | none =>
    cases hbattery : s.supervisor.batteryPresent with
    | true =>
      rw [selectPlan_empty hprimary (.inl hbattery)]
      exact ⟨nofun, nofun⟩
    | false =>
      cases hbase : s.basePort with
      | none =>
        rw [selectPlan_empty hprimary (.inr hbase)]
        exact ⟨nofun, nofun⟩
      | some p =>
        rw [selectPlan_base hprimary hbattery hbase]
        refine ⟨nofun, fun b hb => ?_⟩
        cases hb
        obtain ⟨h1, h2, h3, h4, h5, h6⟩ := basePort_fit hbase
        exact ⟨rfl, h1, h2, h3, h4, h5, h6, rfl⟩

end Sys2Proof.Machine
end

section
/-! PROOFS. Selection takes the best points (R99 to R110). -/

namespace Sys2Proof.Machine

open Sys2Proof

section
variable {s : State} {p : Port} {e x y : Eligible} {v q n : Nat} {c : Chosen}

/-- What the secondary of a plan is, where one is tried beside this entry. -/
theorem secondaryEntry_spec {e : PlanEntry} (hshared : s.policy.active.params[7] = 1) (hdemand : s.supervisor.demand ≠ 0)
    (hless : e.derated < s.supervisor.demand) :
    ((¬∃ y, s.drawableBeside e.port e.voltage y) → s.secondaryEntry e = none)
      ∧ ∀ y n, s.isBestBeside e.port e.voltage y → 0 < e.voltage → leastCurrent (s.supervisor.demand - e.derated) e.voltage n →
          (min y.usable n < 500 → s.secondaryEntry e = none)
            ∧ (500 ≤ min y.usable n → ∃ e', s.secondaryEntry e = some e'
                ∧ s.entryDraws .secondary e' y e.voltage (min y.usable n)) := by
  rw [secondaryEntry_of_shared hshared hdemand hless]
  refine ⟨fun hnone => ?_, fun y n hbest hv hn => ?_⟩
  · cases hpoint : s.secondaryPoint e.port e.voltage with
    | none => rfl
    | some x => exact absurd ⟨x, secondaryPoint_drawable hpoint⟩ hnone
  · rw [secondaryPoint_of_best hbest, Option.bind_some, leastCurrent_eq hv hn]
    exact ⟨fun hsmall => if_pos hsmall, fun hlarge => ⟨_, if_neg (Nat.not_lt.mpr hlarge), entryOf_draws _ _ _ _ _⟩⟩

/-- The voltage of a base entry (R110). -/
theorem baseEntry_voltage (s : State) (p : Port) :
    (∀ w, (s.contract.get p).state = .base → (s.contract.get p).base = some w → (s.baseEntry p).voltage = w)
      ∧ ((s.contract.get p).state ≠ .base → (s.rail.get p).mv ≤ 5500 → (s.baseEntry p).voltage = 5000)
      ∧ ((s.contract.get p).state ≠ .base → 5500 < (s.rail.get p).mv →
          (s.baseEntry p).voltage % 100 = 0 ∧ (s.baseEntry p).voltage ≤ (s.rail.get p).mv
            ∧ (s.rail.get p).mv < (s.baseEntry p).voltage + 100) := by
  have hvoltage : (s.baseEntry p).voltage = if (s.contract.get p).state = .base then
      (s.contract.get p).base.getD Config.baseVoltage else baseVoltageOf (s.rail.get p).mv := rfl
  rw [hvoltage]
  refine ⟨fun w hstate hw => ?_, fun hstate hlow => ?_, fun hstate hhigh => ?_⟩
  · rw [if_pos hstate, hw]
    rfl
  · rw [if_neg hstate, baseVoltageOf, if_pos hlow]
  · rw [if_neg hstate, baseVoltageOf, if_neg (Nat.not_le.mpr hhigh)]
    omega

end

/-- Settles O31. -/
theorem selectionTakesTheBestPoints : Obligations.SelectionTakesTheBestPoints := by
  intro s i demand battery chosen atVoltage best qualifies inBase
  refine ⟨fun hsome => ?_, fun hnone => ?_⟩
  · cases hprimary : s.primary with
    | none => exact absurd hsome ((primary_none_iff s).mp hprimary)
    | some c =>
      obtain ⟨heligible, hchosen⟩ := primary_spec hprimary
      exact ⟨_, _, c.point, c.voltage, _, selectPlan_of_primary hprimary, hchosen, entryOf_draws _ _ _ _ _,
        fun hdemand => (congrArg (primaryRequest · c.voltage c.point.usable) hdemand).trans (primaryRequest_zero _ _),
        fun n hdemand hv hn => primaryRequest_of_least hdemand hv hn, fun h => secondaryEntry_of_unshared h,
        fun hshared hdemand hless => secondaryEntry_spec
          (e := s.entryOf .primary c.point c.voltage (primaryRequest s.supervisor.demand c.voltage c.point.usable))
          hshared hdemand hless⟩
  · have hprimary := (primary_none_iff s).mpr hnone
    refine ⟨fun hempty => selectPlan_empty hprimary (hempty.imp id fun hnofit => ?_), fun p hbattery hfit hfirst => ?_⟩
    · cases hbase : s.basePort with
      | none => rfl
      | some p => exact absurd (basePort_fit hbase) (hnofit p)
    · have hbase : s.basePort = some p := basePort_of_first (hfirst.imp id fun ⟨hin, hlowest⟩ => ⟨hin, hfit, hlowest⟩)
      exact ⟨_, selectPlan_base hprimary (Bool.eq_false_iff.mpr hbattery) hbase, baseEntry_voltage s p⟩

end Sys2Proof.Machine
end
